-- ==== Sys2Proof/Word.lean ====
section
/-! DEFINITION. Words of the machine: bytes, 32-bit and 64-bit words, 64-byte lines and 256-bit vectors (00 R8, R9). -/

namespace Sys2Proof

/-- A byte. -/
abbrev Byte := BitVec 8

/-- A 64-bit doubleword: a register of device register space (00 R11) or a Kamyon G register (02 R57). -/
abbrev Word := BitVec 64

/-- A 64-byte cache or stripe line, byte 0 at bits [7:0] (00 R8, 05 R176). -/
abbrev Line := BitVec 512

/-- A 256-bit Kamyon vector register (02 R58). -/
abbrev Vec := BitVec 256

/-- Sparse data by key: strictly rising keys, no entry equal to what an unlisted key reads as. -/
abbrev Map (α : Type) := List (Nat × α)

end Sys2Proof
end

