-- ==== Sys2Proof/Machine/StCh.lean ====
section
/-! DEFINITION. State of the channel subsystem and the Journal (11) beside the CH registers. -/

namespace Sys2Proof.Machine

/-- One Field Ring request of a CCE (R427, R453): port, node, OP of 12 R499 (1 WRITE, 2 READ, 3 CMD, 4 PREPARE), SOURCE and SEQ, the
command or first point, the argument, the points and words, and where it stands: 0 not yet dispatched, 1 dispatched, 2 prepared,
3 done or committed, 4 refused, 5 unknown. `reason` is that of R440; `prepAt` when its prepare was handed to the port; `words` what a READ
or CMD answered; `last` the latest answer to a commit (0 none, 1 none arrived, 2 refused). -/
structure Seg where
  port : Nat
  node : Nat
  op : Nat
  source : Nat
  seq : Nat
  cmd : Nat
  arg : Nat
  pts : List (Nat × Nat)
  st : Nat
  reason : Nat
  prepAt : Nat
  words : List Nat
  last : Nat
  deriving DecidableEq, Repr

/-- Where a chain lies (R430, R431, R434): in queue d's ring from FIRST, at a tenant physical address, or in a command's payload. -/
inductive Loc where
  | ring (d first : Nat)
  | mem (d tpa : Nat)
  | host (payload : List Nat)
  deriving DecidableEq, Repr

/-- A transaction (R436). `chan` is 1024 until it is known. `ccs` and `lists` are the CCEs and the FWRITE lists read at the chain
check; `cce` the one in progress; `begun` whether
it has started; `run` the first CCE of the run of PWRITE and PTID that a flush read will cover; `off` the bytes moved, `jOff` and `jAt` the
last journaled offset and its time (R465). `epoch` is that of the INTENT entry, 0 when nothing holds it (R458). `fin` is 0 OK, 1 FAILED,
2 CANCELLED; `x18` the completion's last word; `slot` the reserved completion slot (R441). `cancel` is 1 under R466, 2 under R467.
`acked`, `sent`, `tries`, `peer` serve NSEND and NRECV (R456, R457). `notBefore`: the next try of a refused completion write (R830). `arrays`: the
result arrays to write after FINAL (R463). `finJsn`: the JSN of the FINAL entry. -/
structure Txn where
  tid : Nat
  loc : Loc
  queue : Nat
  state : Nat
  chan : Nat
  ccs : List Nat
  lists : List (List (Nat × Nat))
  epoch : Nat
  cce : Nat
  begun : Bool
  run : Nat
  flush : Bool
  off : Nat
  jOff : Nat
  jAt : Nat
  segs : List Seg
  fin : Nat
  reason : Nat
  doneCce : Nat
  done : Nat
  x18 : Nat
  slot : Option Nat
  orphan : Bool
  cancel : Nat
  acked : Nat
  sent : Nat
  tries : Nat
  peer : Nat
  notBefore : Nat
  arrays : List (Nat × List Nat)
  finJsn : Nat
  deriving DecidableEq, Repr

/-- An entry of the transaction ring (R444, R445): JSN, KIND, transaction ID, and the whole state of its transaction. `ok` is false for an
entry whose write the power ended (R447). -/
structure JEnt where
  jsn : Nat
  kind : Nat
  tid : Nat
  txn : Option Txn
  ok : Bool
  deriving DecidableEq, Repr

/-- A superblock copy (R449): its count, the tail it records, and the JSN there. -/
structure Super where
  count : Nat
  tail : Nat
  jsn : Nat
  ok : Bool
  deriving DecidableEq, Repr

/-- A datagram delivered to NET handling (R455): its channel and UDP payload. -/
structure Dgram where
  chan : Nat
  bytes : List Nat
  deriving DecidableEq, Repr

/-- The channel subsystem. The ring's entries from the tail to the head are listed, oldest first; the entries behind the tail belong to
retired transactions, and nothing reads them again. -/
structure ChSt where
  /-- Unretired transactions in order of acceptance, orphans included (R436, R451). -/
  txns : List Txn
  ring : List JEnt
  /-- Ring offset of the oldest listed entry, and the JSN of the next one to write. -/
  tail : Nat
  jsn : Nat
  supA : Super
  supB : Super
  /-- The sequence area (R435, R453): the highest top reserved per instance ID, 512 for the Operator Host, and 1024 + port * 256 + node. -/
  tops : Map Nat
  /-- The next number of each current generation and the top of its block. -/
  next : Map (Nat × Nat)
  /-- Definition blocks of R422, by channel. -/
  defs : Map Nat
  /-- LOOP channels whose target has been destroyed (R459), and sessions' last 64 peer transaction IDs (R457). -/
  dead : List Nat
  sess : Map (List Nat)
  /-- An inbound transfer that fills a buffer, or whose rest is discarded, by channel (R457): peer ID, bytes in order. -/
  inbound : Map (Nat × Nat)
  inbox : List Dgram
  /-- Peer resolutions by channel (19 R812): link-layer address, when resolved, attempts since. -/
  peers : Map (Nat × Nat × Nat)
  deriving DecidableEq, Repr

end Sys2Proof.Machine
end

