-- ==== Sys2Proof/Machine/StCy.lean ====
section
/-! DEFINITION. State of the cipher engine (10) and of the Vault's leases (17) beside their registers. -/

namespace Sys2Proof.Machine

/-- What a key slot holds beside CY_SLOT_k (R386, R400, 17 R728): the two halves' key bytes, FIXED, the invocation counter, its value in the
last acknowledged epoch, whether automatic IVs are closed after a cold takeover, the automatic-IV requests of the last millisecond (at
each instant, how many), and the wrapped bundles of the current and previous key. -/
structure Slot where
  k0 : List Nat
  k1 : List Nat
  fixed : Nat
  ctr : Nat
  acked : Nat
  closed : Bool
  autoWin : List (Nat × Nat)
  bundle : List Nat
  prev : List Nat
  deriving DecidableEq, Repr

/-- A request context (R385): who asked, the descriptor's fields (R395), the half it resolved, the automatic IV's value, the pair, the
position, the XTS tweak of the next block, GCM's pre-counter block and GHASH accumulator, whether the AAD is read, the pass (R399),
arbitrations, whether the next chunk's token is charged, and whether the slot was leased at fetch (R408). -/
structure CyCtx where
  inst : Nat
  gen : Nat
  queue : Nat
  tag : Nat
  op : Nat
  slot : Nat
  half : Nat
  auto : Bool
  n : Nat
  atagLen : Nat
  src : Nat
  len : Nat
  dst : Nat
  w4 : Nat
  w5 : Nat
  w6 : Nat
  w7 : Nat
  pa : Nat
  pb : Nat
  pos : Nat
  tw : Nat
  j0 : Nat
  y : Nat
  begun : Bool
  pass : Nat
  arbs : Nat
  charged : Bool
  lease : Bool
  deriving DecidableEq, Repr

/-- A rotation (R393, R394): its command, slot, the rewrap range if any (base, length, data unit, starting tweak), and units done. -/
structure Rot where
  cmd : Nat
  slot : Nat
  base : Nat
  len : Nat
  du : Nat
  tweak : Nat
  bundle : List Nat
  mirror : Bool
  deriving DecidableEq, Repr

/-- The cipher engine: its slots, contexts and rotation, and whether CY_ELOG holds a failure on a leased slot (R417). -/
structure CySt where
  slots : Map Slot
  ctxs : List CyCtx
  rot : Option Rot
  elogLeased : Bool
  deriving DecidableEq, Repr

/-- A lease of kind 0x01 or 0x02 (17 R708): index, serial, kind, holder (as a command source), pipes, slots, Vault SRAM pages, and its recall:
the deadline while one is pending, when the last one began, and whether its message is posted (R710, R711). -/
structure Lease where
  idx : Nat
  serial : Nat
  kind : Nat
  holder : Nat
  pipes : List Nat
  slots : List Nat
  pages : List Nat
  deadline : Option Nat
  lastRecall : Option Nat
  posted : Bool
  deriving DecidableEq, Repr

end Sys2Proof.Machine
end

