-- ==== Sys2Proof/Machine/StCz.lean ====
section
/-! DEFINITION. State of the compression engine (09) beside its registers. -/

namespace Sys2Proof.Machine

/-- A DEFLATE decoder between symbols (R360): its phase (0 stream or member header, 1 block header, 2 stored bytes, 3 codes, 4
trailer, 5 end), whether the block is the last, stored bytes left, the symbols of each code length (index 0 for length 1), the
match being copied (bytes left, distance), bytes of the member, the member's end so far, and the last 32,768 bytes, newest first. -/
structure Infl where
  ph : Nat
  fin : Bool
  stored : Nat
  lit : List (List Nat)
  dist : List (List Nat)
  left : Nat
  back : Nat
  size : Nat
  ended : Nat
  win : List Nat
  deriving DecidableEq, Repr

/-- A request context (R350): who asked, the descriptor's fields (R362), the pipe, moves between pipes, whether its first chunk's
token is charged, the source position (bytes, or bits for DEFLATE decompression), bytes written, the check value so far, and what
DEFLATE carries between chunks: the decoder, or output bits that do not fill a byte; the chunks run so far and the pipe that ran the last one. -/
structure CzCtx where
  inst : Nat
  gen : Nat
  queue : Nat
  tag : Nat
  op : Nat
  fmt : Nat
  level : Nat
  multi : Bool
  src : Nat
  srcLen : Nat
  dst : Nat
  dstLen : Nat
  pipe : Nat
  moves : Nat
  charged : Bool
  pos : Nat
  out : Nat
  chk : Nat
  infl : Infl
  bits : List Bool
  chunks : Nat
  ran : Nat
  deriving DecidableEq, Repr

/-- The compression engine. -/
structure CzSt where
  /-- Contexts in use; those of one pipe stand in the order in which it serves them. -/
  ctxs : List CzCtx
  /-- Held HIST_FILL descriptors, in queue order (R368). -/
  held : List CzCtx
  /-- Lanes whose oldest staging entry has waited HIST_LINGER (R370). -/
  ready : List Nat
  /-- Lanes whose next entry copied carries GAP = 1 (R371), and segments written per lane since module reset (R369). -/
  gaps : List Nat
  segs : Map Nat
  /-- Per pipe, the part of a chunk that the historian drain has earned of its share, in percent (R350). -/
  credit : Map Nat
  deriving DecidableEq, Repr

end Sys2Proof.Machine
end

