-- ==== Sys2Proof/Machine/Bits.lean ====
section
/-! DEFINITION. Bit fields, sign extension, byte order and small list helpers. -/

namespace Sys2Proof.Machine

/-- Bits `[hi:lo]` of `n` (00 R9). -/
def bits (n hi lo : Nat) : Nat := (n >>> lo) % 2 ^ (hi + 1 - lo)

/-- Bit `i` of `n`. -/
def bit (n i : Nat) : Bool := n.testBit i

/-- `n` with bits `[hi:lo]` replaced by the low bits of `v`. -/
def setBits (n hi lo v : Nat) : Nat :=
  let m := 2 ^ (hi + 1 - lo)
  n % 2 ^ lo + (v % m) * 2 ^ lo + (n >>> (hi + 1)) * 2 ^ (hi + 1)

/-- `n` with bit `i` set to `b`. -/
def setBit (n i : Nat) (b : Bool) : Nat := setBits n i i (cond b 1 0)

/-- 1 for true, 0 for false. -/
def b2n (b : Bool) : Nat := cond b 1 0

/-- The signed value of the low `w` bits of `n` (00 R18: `sext`). -/
def sextInt (w n : Nat) : Int :=
  let m := n % 2 ^ w
  if m < 2 ^ (w - 1) then (m : Int) else (m : Int) - 2 ^ w

/-- The `w`-bit pattern of an exact integer. -/
def wrapInt (w : Nat) (i : Int) : Nat := (i % (2 ^ w : Int)).toNat

/-- Byte `i` of `n`, little-endian (00 R8). -/
def byteOf (n i : Nat) : Nat := (n >>> (8 * i)) % 256

/-- The `n` bytes of `v`, lowest first. -/
def toBytes (v : Nat) : Nat → List Nat
  | 0 => []
  | k + 1 => (v % 256) :: toBytes (v / 256) k

/-- The number whose bytes, lowest first, are `bs`. -/
def ofBytes : List Nat → Nat
  | [] => 0
  | b :: bs => b % 256 + 256 * ofBytes bs

/-- The number whose 32-bit words, lowest first, are `ws`. -/
def ofWords32 : List Nat → Nat
  | [] => 0
  | w :: ws => w % 2 ^ 32 + 2 ^ 32 * ofWords32 ws

/-- `a` saturated at the greatest `w`-bit value. -/
def satN (w a : Nat) : Nat := min a (2 ^ w - 1)

/-- How many bits of `n` below `k` are set. -/
def popCount (n : Nat) : Nat → Nat
  | 0 => 0
  | k + 1 => b2n (n.testBit k) + popCount n k

/-- The lowest index below `k` whose bit is set in `n`. -/
def lowestBit (n k : Nat) : Option Nat := (List.range k).find? (fun i => n.testBit i)

/-- CRC-32C, bit-serial, over one byte: the polynomial 0x1EDC6F41 reflected is 0x82F63B78 (08, 09 and 14 name the code). -/
def crc32cByte (c b : Nat) : Nat :=
  (List.range 8).foldl (fun x _ => if x % 2 = 1 then (x / 2) ^^^ 0x82F63B78 else x / 2) (c ^^^ (b % 256))

/-- CRC-32C of a byte list. -/
def crc32c (bs : List Nat) : Nat := (bs.foldl crc32cByte 0xFFFFFFFF) ^^^ 0xFFFFFFFF

end Sys2Proof.Machine
end

