-- ==== Sys2Proof/Machine/Kamyon.lean ====
section
/-! DEFINITION. Kamyon bundles and syllables (02): fields, opcode maps, long immediates, destinations, bundle legality. -/

namespace Sys2Proof.Machine

/-- Integer operations of CLASS 0x0, 0x2 and 0x7 (R88, R90-R94). -/
inductive Alu where
  | add | sub | and | or | xor | andn | orn | xnor | sll | srl | sra | ror | addw | subw | sllw | srlw
  | sraw | min | max | minu | maxu | sextb | sexth | sextw | zextw | sh1add | sh2add | sh3add | ldi
  | mul | mulh | mulhu | mulhsu | mulw | div | divu | rem | remu | divw | divuw | clz | clzw | perm
  | bfx | bfxu | bfi
  deriving DecidableEq, Repr

/-- The second operand: a register, or an immediate as a 64-bit number (R55). -/
inductive Opnd where
  | reg (n : Nat)
  | imm (v : Nat)
  deriving DecidableEq, Repr

/-- An M.LS address (R79): mode, base register, the offset in bytes modulo 2^64, and the index register of mode 0b01. -/
structure Ea where
  am : Nat
  rb : Nat
  off : Nat
  ix : Nat
  deriving DecidableEq, Repr

/-- Vector operations of CLASS 0x8, 0x9 and 0xA (R119-R122). -/
inductive VOp where
  | adds | subs | muls | macs | mins | maxs | abss | negs | avgs | cvtob | qget | qset | qworst | cmps | sel
  | sqrts | recs | log2s | exp2s
  | addd | subd | andv | orv | xorv | splatw | splatd | extw | extd | insw | perm | redmin | redmax | redsum
  deriving DecidableEq, Repr

/-- A decoded syllable. Loads and stores name their size in bytes. -/
inductive Op where
  | alu (o : Alu) (rd ra : Nat) (b : Opnd)
  | mfsr (rd n : Nat)
  | mtsr (n ra : Nat)
  | mfp (rd : Nat)
  | mtp (ra : Nat)
  | rdcyc (rd : Nat)
  | rdtime (rd : Nat)
  | cmp (mode cond pd ra : Nat) (b : Opnd)
  | ld (size : Nat) (signed : Bool) (rt : Nat) (a : Ea)
  | ldv (rt : Nat) (a : Ea)
  | st (size : Nat) (rt : Nat) (a : Ea)
  | stv (rt : Nat) (a : Ea)
  | pref (a : Ea)
  | fence (k : Nat)
  | amo (o : Nat) (dword : Bool) (rt rb rs : Nat)
  | casp (rt rb rs : Nat)
  | bmov
  | bfil
  | csub (rt rb rs : Nat)
  | br (link : Bool) (disp : Nat)
  | brr (link : Bool) (ra : Nat)
  | ret
  | sysc (imm : Nat)
  | brk (imm : Nat)
  | vec (o : VOp) (vd va vb sel : Nat)
  | cr (o : Nat) (rx crn : Nat)
  | eret
  | wfi
  | tlbi (rx variant : Nat)
  | fcall (service : Nat)
  | fret
  | long
  deriving DecidableEq, Repr

/-- The class field of a syllable (R42). -/
def sylClass (w : Nat) : Nat := bits w 30 27

/-- The predicate field (R43). -/
def sylPred (w : Nat) : Nat := bits w 26 23

/-- The stop bit. -/
def sylStop (w : Nat) : Bool := bit w 31

/-- The functional class of a syllable: 0 A, 1 M, 2 B, 3 X, 4 V, 5 L, 6 S, 7 reserved (R42). -/
def sylUnit (w : Nat) : Nat :=
  let c := sylClass w
  if c < 4 then 0 else if c < 6 then 1 else if c = 6 then 2 else if c = 7 then 3
  else if c < 0xC then 4 else if c = 0xC then 5 else if c = 0xD then 6 else 7

/-- Syllables allowed per bundle by functional class (R42). -/
def unitLimit (u : Nat) : Nat := [2, 2, 1, 1, 2, 2, 1].getD u 8

/-- How many L syllables the parent accepts (R54, R56). -/
def sylAccepts (w : Nat) : Nat :=
  let c := sylClass w
  let op5 := bits w 22 18
  let op4 := bits w 22 19
  let am := bits w 18 17
  if c = 2 then (if [0, 1, 2, 3, 0xC, 0xD, 0xE].contains op5 then 2 else 0)
  else if c = 3 then (if bit w 16 then 2 else 0)
  else if c = 4 then (if op4 ≠ 0xF ∧ am ≠ 1 then 2 else 0)
  else if c = 5 then (if op4 ≤ 7 ∧ am ≠ 1 then 2 else 0)
  else if c = 6 then (if op4 ≤ 1 then 1 else 0)
  else if c = 7 then (if op5 = 0x11 ∨ op5 = 0x12 ∨ op5 = 0x13 then 1 else 0)
  else 0

/-- The immediate of R55 as a 64-bit number: `base` of n bits and the payloads of the L syllables. -/
def longImm (base n : Nat) (ls : List Nat) : Nat :=
  match ls with
  | [] => wrapInt 64 (sextInt n base)
  | [a] => wrapInt 64 (sextInt (n + 27) (a * 2 ^ n + base))
  | a :: b :: _ => wrapInt 64 (sextInt (n + 54) ((b * 2 ^ 27 + a) * 2 ^ n + base))

/-- CLASS 0x0 by OP (R84). -/
def aluTable : List Alu :=
  [.add, .sub, .and, .or, .xor, .andn, .orn, .xnor, .sll, .srl, .sra, .ror, .addw, .subw, .sllw, .srlw,
   .sraw, .min, .max, .minu, .maxu, .sextb, .sexth, .sextw, .zextw, .sh1add, .sh2add, .sh3add]

/-- CLASS 0x2 by OP (R84). -/
def aluImmTable : List Alu :=
  [.add, .and, .or, .xor, .sll, .srl, .sra, .ror, .addw, .sllw, .srlw, .sraw, .ldi, .min, .max]

/-- CLASS 0x7 by OP, the immediate bit-field forms apart (R84). -/
def xTable : List Alu :=
  [.mul, .mulh, .mulhu, .mulhsu, .mulw, .div, .divu, .rem, .remu, .divw, .divuw, .clz, .clzw, .perm, .bfx, .bfxu, .bfi]

/-- CLASS 0x8 by OP. -/
def vTable8 : List VOp :=
  [.adds, .subs, .muls, .macs, .mins, .maxs, .abss, .negs, .avgs, .cvtob, .qget, .qset, .qworst, .cmps, .sel]

/-- CLASS 0x9 by OP. -/
def vTable9 : List VOp := [.sqrts, .recs, .log2s, .exp2s]

/-- CLASS 0xA by OP. -/
def vTableA : List VOp :=
  [.addd, .subd, .andv, .orv, .xorv, .splatw, .splatd, .extw, .extd, .insw, .perm, .redmin, .redmax, .redsum]

/-- The zero-field rules of the V forms (R84, R120-R122). -/
def vFieldsOk (o : VOp) (va vb sel : Nat) : Bool :=
  match o with
  | .abss | .negs | .qget => vb == 0 && sel == 0
  | .cvtob => vb == 0 && decide (sel < 2)
  | .qset => vb == 0 && decide (sel < 4)
  | .cmps => decide (sel < 7) && (sel != 6 || vb == 0)
  | .sqrts | .recs | .log2s | .exp2s => vb == 0 && sel == 0
  | .splatw | .splatd | .redmin | .redmax | .redsum => vb == 0 && sel == 0
  | .extw => vb == 0
  | .extd => vb == 0 && decide (sel < 4)
  | .insw => va == 0
  | _ => sel == 0

/-- The M.LS address of a syllable with access size `sz` (R79). -/
def decEa (w sz : Nat) (ls : List Nat) : Ea :=
  ⟨bits w 18 17, bits w 10 5, (longImm (bits w 4 0) 5 ls * sz) % 2 ^ 64, bits w 4 0⟩

/-- R80: a written-back base may not be G0 nor a destination of the load. -/
def eaOk (a : Ea) (dst : List Nat) : Bool := decide (a.am < 2) || (a.rb != 0 && !dst.contains a.rb)

/-- One syllable with the L payloads that extend it: the operation and whether its fields are legal (R44, R45); `none` where the
encoding is reserved. -/
def decSyl (w : Nat) (ls : List Nat) : Option (Op × Bool) :=
  let c := sylClass w
  let op5 := bits w 22 18
  let op4 := bits w 22 19
  let rd := bits w 17 12
  let ra := bits w 11 6
  let rb := bits w 5 0
  match c with
  | 0 => (aluTable[op5]?).map (fun o =>
      (.alu o rd ra (.reg rb), !(decide (0x15 ≤ op5) && decide (op5 ≤ 0x18)) || rb == 0))
  | 1 => match op5 with
    | 0 => some (.mfsr rd rb, ra == 0 && decide (rb < 5))
    | 1 => some (.mtsr rd ra, rb == 0 && decide (rd < 5))
    | 2 => some (.mfp rd, ra == 0 && rb == 0)
    | 3 => some (.mtp ra, rd == 0 && rb == 0)
    | 4 => some (.rdcyc rd, ra == 0 && rb == 0)
    | 5 => some (.rdtime rd, ra == 0 && rb == 0)
    | _ => none
  | 2 => (aluImmTable[op5]?).map (fun o =>
      let sh := [4, 5, 6, 7, 9, 0xA, 0xB].contains op5
      (.alu o rd ra (.imm (if sh then rb else longImm rb 6 ls)),
       (o != .ldi || ra == 0) && !([9, 0xA, 0xB].contains op5 && bit w 5)))
  | 3 =>
    let cond := bits w 20 17
    if cond < 8 then
      some (.cmp (bits w 22 21) cond (bits w 15 12) ra (if bit w 16 then .imm (longImm rb 6 ls) else .reg rb), true)
    else none
  | 4 =>
    let rt := bits w 16 11
    let ea := fun sz => decEa w sz ls
    let g := fun (sz : Nat) (sg : Bool) => some (Op.ld sz sg rt (ea sz), eaOk (ea sz) [rt])
    match op4 with
    | 0 => g 1 true
    | 1 => g 1 false
    | 2 => g 2 true
    | 3 => g 2 false
    | 4 => g 4 true
    | 5 => g 4 false
    | 6 => g 8 false
    | 7 => some (.ld 16 false rt (ea 16), rt % 2 == 0 && eaOk (ea 16) [rt, rt + 1])
    | 8 => some (.ldv (rt % 32) (ea 32), decide (rt < 32) && eaOk (ea 32) [])
    | 9 => some (.pref (ea 64), rt == 0 && eaOk (ea 64) [])
    | 0xF => some (.fence (bits w 18 17), bits w 16 0 == 0)
    | _ => none
  | 5 =>
    let rt := bits w 16 11
    let ea := fun sz => decEa w sz ls
    let t := bits w 18 13
    let b := bits w 12 7
    let x := bits w 6 1
    let sz := bit w 0
    match op4 with
    | 0 => some (.st 1 rt (ea 1), eaOk (ea 1) [])
    | 1 => some (.st 2 rt (ea 2), eaOk (ea 2) [])
    | 2 => some (.st 4 rt (ea 4), eaOk (ea 4) [])
    | 3 => some (.st 8 rt (ea 8), eaOk (ea 8) [])
    | 4 => some (.st 16 rt (ea 16), rt % 2 == 0 && eaOk (ea 16) [])
    | 5 => some (.stv (rt % 32) (ea 32), decide (rt < 32) && eaOk (ea 32) [])
    | 8 | 9 | 0xA | 0xB | 0xC => some (.amo (op4 - 8) sz t b x, true)
    | 0xD => some (.casp t b x, sz && t % 2 == 0 && x % 2 == 0)
    | 0xE => some (if sz then .bfil else .bmov, t == 0 && b == 0 && x == 0)
    | 0xF => some (.csub t b x, !sz)
    | _ => none
  | 6 => match op4 with
    | 0 => some (.br false (longImm (bits w 18 0) 19 ls), true)
    | 1 => some (.br true (longImm (bits w 18 0) 19 ls), true)
    | 2 => some (.brr false rb, bits w 18 6 == 0)
    | 3 => some (.brr true rb, bits w 18 6 == 0)
    | 4 => some (.ret, bits w 18 0 == 0)
    | 5 => some (.sysc (bits w 15 0), bits w 18 16 == 0)
    | 6 => some (.brk (bits w 15 0), bits w 18 16 == 0)
    | _ => none
  | 7 =>
    if op5 < 0x11 then (xTable[op5]?).map (fun o => (.alu o rd ra (.reg rb), !(op5 == 0xB || op5 == 0xC) || rb == 0))
    else if op5 < 0x14 then
      let o : Alu := if op5 = 0x11 then .bfx else if op5 = 0x12 then .bfxu else .bfi
      let pl := ls.headD 0
      some (.alu o rd ra (.imm (bits pl 5 0 + 256 * bits pl 11 6)), rb == 0 && !ls.isEmpty && decide (pl < 4096))
    else none
  | 8 | 9 | 0xA =>
    let t := if c = 8 then vTable8 else if c = 9 then vTable9 else vTableA
    (t[op5]?).map (fun o =>
      (.vec o (bits w 17 13) (bits w 12 8) (bits w 7 3) (bits w 2 0), vFieldsOk o (bits w 12 8) (bits w 7 3) (bits w 2 0)))
  | 0xC => some (.long, true)
  | 0xD =>
    let crn := bits w 11 0
    match op5 with
    | 0 | 1 | 2 | 3 => some (.cr op5 rd crn, true)
    | 4 => some (.eret, rd == 0 && crn == 0)
    | 5 => some (.wfi, rd == 0 && crn == 0)
    | 6 => some (.tlbi rd (crn % 16), decide (crn < 16))
    | 7 => some (.fcall crn, rd == 0)
    | 0x10 => some (.fret, rd == 0 && crn == 0)
    | _ => none
  | _ => none

/-- The L payloads that extend the syllable at position i (R54). -/
def extOf (ws : List Nat) (i : Nat) : List Nat :=
  (((ws.drop (i + 1)).takeWhile (fun w => sylClass w == 0xC)).take (sylAccepts (ws.getD i 0))).map (fun w => bits w 26 0)

/-- The syllable at position i, decoded. -/
def decAt (ws : List Nat) (i : Nat) : Option (Op × Bool) := decSyl (ws.getD i 0) (extOf ws i)

/-- A register written by a syllable: G, V, P, special, or control. -/
inductive Dst where
  | g (n : Nat)
  | v (n : Nat)
  | p (n : Nat)
  | sr (n : Nat)
  | cr (n : Nat)
  deriving DecidableEq, Repr

/-- The written-back base. -/
def eaDst (a : Ea) : List Dst := if a.am < 2 then [] else [.g a.rb]

/-- The destinations of a syllable before the discards of G0 and P0. -/
def opDstRaw : Op → List Dst
  | .alu _ rd _ _ => [.g rd]
  | .mfsr rd _ => [.g rd]
  | .mtsr n _ => if n < 5 then [.sr n] else []
  | .mfp rd => [.g rd]
  | .mtp _ => (List.range 16).map Dst.p
  | .rdcyc rd => [.g rd]
  | .rdtime rd => [.g rd]
  | .cmp _ _ pd _ _ => [.p pd]
  | .ld sz _ rt a => (if sz = 16 then [.g rt, .g ((rt + 1) % 64)] else [.g rt]) ++ eaDst a
  | .ldv rt a => .v rt :: eaDst a
  | .st _ _ a => eaDst a
  | .stv _ a => eaDst a
  | .pref a => eaDst a
  | .amo _ _ rt _ _ => [.g rt]
  | .casp rt _ _ => [.g rt, .g ((rt + 1) % 64)]
  | .csub rt _ _ => [.g rt]
  | .br link _ => if link then [.sr 0] else []
  | .brr link _ => if link then [.sr 0] else []
  | .vec o vd _ _ _ => match o with
    | .extw => [.g vd]
    | .extd => [.g vd]
    | _ => [.v vd]
  | .cr o rx _ => if o = 0 then [.g rx] else []
  | _ => []

/-- The destinations of a syllable (R48): G0 and P0 are none. -/
def opDst (o : Op) : List Dst := (opDstRaw o).filter (fun d => d != .g 0 && d != .p 0)

/-- The destinations of the syllable at position i, on the encoding alone (R49). -/
def dstAt (ws : List Nat) (i : Nat) : List Dst := match decAt ws i with | some (o, _) => opDst o | none => []

/-- Whether the L syllable at position i is misplaced (R54). -/
def lMisplaced (ws : List Nat) (i : Nat) : Bool :=
  sylClass (ws.getD i 0) == 0xC &&
  (match ((List.range i).reverse).find? (fun j => sylClass (ws.getD j 0) != 0xC) with
   | none => true
   | some j => decide (sylAccepts (ws.getD j 0) < i - j))

/-- Whether the syllable is BMOV or BFIL. -/
def isRepeat (w : Nat) : Bool := sylClass w == 5 && bits w 22 19 == 0xE

/-- Whether the syllable is LDV or STV. -/
def isVecMem (w : Nat) : Bool := (sylClass w == 4 && bits w 22 19 == 8) || (sylClass w == 5 && bits w 22 19 == 5)

/-- Whether position i reports an illegal bundle in some case of R48. -/
def illegalAt (ws : List Nat) (i : Nat) : Bool :=
  let w := ws.getD i 0
  (i == 7 && decide (8 ≤ ws.length) && ws.all (fun x => !sylStop x)) ||
  decide (unitLimit (sylUnit w) ≤ ((ws.take i).filter (fun x => sylUnit x == sylUnit w)).length) ||
  ((List.range i).any (fun j => (dstAt ws j).any (fun d => (dstAt ws i).contains d))) ||
  lMisplaced ws i ||
  (ws.any isRepeat && decide (1 < ws.length) &&
    i == (if isRepeat (ws.getD 0 0) then 1 else 0)) ||
  (sylUnit w == 6 && decide (2 ≤ (ws.filter isVecMem).length))

/-- The slot that an illegal bundle reports: the lowest (R48). -/
def illegalBundle (ws : List Nat) : Option Nat := (List.range ws.length).find? (illegalAt ws)

end Sys2Proof.Machine
end

