-- ==== Sys2Proof/Machine/StKc.lean ====
section
/-! DEFINITION. State of the Kamyon cores: virtual core images, store buffers, waits, the micro-sequencer, sparing (02, 03, 04). -/

namespace Sys2Proof.Machine

/-- The part of an access on one page: device physical address, length, offset within the access, and whether the page is protected. -/
structure Span where
  pa : Nat
  n : Nat
  off : Nat
  pr : Bool
  deriving DecidableEq, Repr

/-- What a syllable does to memory or to a unit, once every check of its bundle has passed (03 R99). -/
inductive Access where
  /-- A load of system memory, and one of the Signal Store. -/
  | load (ps : List Span)
  | sload (pa n : Nat)
  /-- A store of v to system memory for a writer instance (512: device firmware). -/
  | store (ps : List Span) (v inst : Nat)
  /-- A store of a PEND word of the Signal Store. -/
  | pend (pa n v : Nat)
  /-- One BMOV step (R112). -/
  | move (src dst : List Span) (inst : Nat)
  /-- A load and a store in the instance page, a PCIe window or register space. -/
  | dev (pa n : Nat)
  | devStore (pa n v : Nat)
  | amo (p : Span) (o rs rt : Nat)
  | csub (tpa sel : Nat)
  /-- FENCE, FENCE.IO, FENCE.ALL, FENCE.I (R107). -/
  | fence (k : Nat)
  | tlbi (v op : Nat)
  /-- A write of KC_S2ROOT (06 R226). -/
  | s2root (v : Nat)
  deriving DecidableEq, Repr

/-- An access of the current bundle as the issue record holds it (R136, R139): not performed yet; performed, a repeatable load with its value; performed, with
nothing to come back; a non-repeatable one performed, with what it returns; a read of a PCIe window on its way on a link; a CSUB (R115) with the tenant
physical address of its first CCE and its selector; an AMO at the port with its tag and operands (R137). -/
inductive Acc1 where
  | todo (a : Access)
  | got (value : Nat)
  | stored (repeatable : Bool)
  | done (value : Nat)
  | pcie (link bus size : Nat)
  | csub (tpa sel : Nat)
  | amo (tag : Nat) (p : Span) (o rs rt : Nat)
  deriving DecidableEq, Repr

/-- A result of a bundle: a value, or bytes `[off, off + size)` of what access k returns. -/
inductive WVal where
  | val (n : Nat)
  | hole (k off size : Nat) (signed : Bool)
  deriving DecidableEq, Repr

/-- A bundle that waits for responses (R136, R151): its accesses, what the first of them returned so far, its results, the next bundle, whether it
holds a WFI, and the slot and IMM16 of its SYSC. -/
structure Wait where
  accs : List Acc1
  resp : List Nat
  writes : List (Dst × WVal)
  next : Nat
  wfi : Bool
  sysc : Option (Nat × Nat)
  deriving DecidableEq, Repr

/-- The registers of one virtual core (R57-R71), unlisted ones at their start value; the next bundle's address, the WFI wait (R125),
the latest acknowledgement of each doorbell (R430), and the bundle that waits for responses. -/
structure VCore where
  g : Map Word
  v : Map Vec
  /-- P15 to P0; bit 0 is not read. -/
  p : BitVec 16
  /-- LNK, BCNT, BSRC, BDST, BFILL by number (R60). -/
  sr : Map Word
  /-- Control registers by CRN (R65). -/
  cr : Map Word
  pc : Word
  wfi : Bool
  acks : Map Word
  wait : Option Wait
  deriving DecidableEq, Repr

/-- A store-buffer entry (R197): to system memory or the Signal Store, a line, its bytes, mask, drain sequence number, the writer
instance (512: device firmware), and whether its page is protected. -/
structure SbEnt where
  sig : Bool
  line : Nat
  data : Line
  mask : BitVec 64
  seq : Nat
  inst : Nat
  pr : Bool
  deriving DecidableEq, Repr

/-- The micro-sequencer (R162-R164): the address of the microword that acts next, the return register, the loop counter, and whether a sequence runs. -/
structure Useq where
  addr : Nat
  ret : Nat
  loop : Nat
  busy : Bool
  deriving DecidableEq, Repr

/-- One physical core beside KC_PCS_c (R139, R137). -/
structure CoreSt where
  sb : List SbEnt
  /-- The drain sequence number the next entry takes, and the port record's. -/
  seq : Nat
  portSeq : Nat
  /-- The port record's AMO: tag, address, old value (R137); and the tag that the next AMO takes. -/
  amoTag : Nat
  amoAddr : Nat
  amoOld : Nat
  nextTag : Nat
  /-- The dispatch-table entry that runs, the entry that a Control entry has preempted, and the Control entries that have used their
  slice (R551, R552). -/
  cur : Nat
  back : Option Nat
  used : List Nat
  /-- KC_S2ROOT with the instance and generation that it was loaded for (06 R226). -/
  s2 : Nat × Nat × Nat
  /-- The last bundle that was tried stalls, in a recognised wait (R146). -/
  stalled : Bool
  /-- The retries of the last second: the time of each and the limit in force then (R138, R172); and whether some window holds too many. -/
  retries : List (Nat × Nat)
  overLim : Bool
  /-- Device time of the last check-stop, or of the start of the last move (R173). -/
  stopAt : Nat
  /-- The copy of the Patch RAM in the core's patch store, nano patch area and redirect table (R162, R166), and whether it is being rewritten (R167). -/
  ucode : List Byte
  ucodeBad : Bool
  useq : Useq
  deriving DecidableEq, Repr

/-- The cores, the virtual cores (key instance * 64 + virtual core) and the sparing controllers' queues (R153): per tile, requests as
(source core, kind 0 check-stop, 1 planned move, 2 a PARK's planned move). `degr` lists degraded and parked virtual cores, oldest first (R160), `lost` those
whose state is lost (R140, R193). -/
structure KcSt where
  vc : Map VCore
  cores : Map CoreSt
  queues : Map (List (Nat × Nat))
  degr : List Nat
  lost : List Nat
  deriving DecidableEq, Repr

end Sys2Proof.Machine
end

