-- ==== Sys2Proof/Machine/StTn.lean ====
section
/-! DEFINITION. State of the tenant manager (13) beyond its registers. -/

namespace Sys2Proof.Machine

/-- One INSTANCE_MAP mapping (R542): bases and length in 4 KiB pages; `perm` holds R, W, X, IO, PR, SHARE at bits 0 to 5. -/
structure Mapping where
  tpage : Nat
  dpage : Nat
  pages : Nat
  perm : Nat
  deriving DecidableEq, Repr

/-- One SIGNAL_MAP mapping (08 R315): KIND, first Signal ID (or page number), count, tenant physical page. -/
structure SigMap where
  kind : Nat
  first : Nat
  count : Nat
  tpage : Nat
  deriving DecidableEq, Repr

/-- What the tenant manager keeps for one instance beside TN_INST_n and its page's registers. -/
structure InstSt where
  dedicated : Nat
  /-- Tenant physical page of the instance page (R540). -/
  ipage : Nat
  eqBase : Nat
  eqLog2 : Nat
  /-- Device physical address of the stage-2 level-0 table (06 R226). -/
  s2root : Nat
  maps : List Mapping
  sigMaps : List SigMap
  entry : Nat
  arg : Nat
  started : Bool
  degraded : Nat
  /-- Entries discarded while frozen (R568). -/
  frozenDrop : Nat
  /-- A freeze in progress: the end of TIMEOUT_MS and the requests outstanding at its start (R567). -/
  freeze : Option (Nat × Nat)
  mbxIn : List Host.Cell
  mbxOut : List Host.Cell
  outSeq : Nat
  outPosted : Bool
  /-- Declarations by scope (18 R744). -/
  decl : Map Nat
  /-- Fractions of tokens carried forward, in tokens per 1000 us, by engine class (R561). -/
  frac : Map Nat
  /-- Deficits of the weighted round-robin, by engine class (R562). -/
  deficit : Map Nat
  /-- The pages that hold its stage-2 tables, by address (R229). -/
  s2pages : List Nat
  /-- An INSTANCE_START has started it from Created: `entry` and `arg` are that command's (R565). -/
  boots : Bool
  deriving DecidableEq, Repr

/-- An engine's completion that waits for its queue (R830): the queue as class * 16 + d, the entry's bytes as a number, the generation. -/
structure WaitCpl where
  inst : Nat
  queue : Nat
  entry : Nat
  gen : Nat
  /-- The unit that writes it, and for a cipher request that holds its slot, slot * 2 + half + 1 (10 R392). -/
  agent : Nat
  note : Nat
  /-- Device time before which the write is not tried again. -/
  notBefore : Nat
  deriving DecidableEq, Repr

/-- An engine arbiter's round (R562): instances still to be visited in it with their quanta at its start, the one being visited, and the instance served first in
the last round. -/
structure RrSt where
  todo : List (Nat × Nat)
  cur : Option Nat
  first : Nat
  fresh : Bool
  deriving DecidableEq, Repr

/-- The tenant manager. -/
structure TnSt where
  insts : Map InstSt
  /-- The next free page of the region of R26 for stage-2 tables, and pages given back. -/
  s2next : Nat
  s2free : List Nat
  waiting : List WaitCpl
  /-- The arbiters' rounds, by engine class (R562). -/
  rounds : Map RrSt
  deriving DecidableEq, Repr

end Sys2Proof.Machine
end

