-- ==== Sys2Proof/Machine/StTw.lean ====
section
/-! DEFINITION. State of twin operation (16) beside the TW registers, and what the twin link brings. -/

namespace Sys2Proof.Machine

/-- An epoch as it arrives in the staging buffers (16 R676): its number, the device time of its cut, the JSN of the next Journal entry at the
cut, lines with poison bits, images with store-buffer images by virtual core, page states by instance, output slots (slot, its four words as a
number, its signal's record), invocation counters by key slot, and the engine requests in flight. -/
structure Epoch where
  number : Nat
  cutAt : Nat
  jsn : Nat
  lines : List (BitVec 46 × Line × Bool)
  images : List (BitVec 15 × VCore × List SbEnt)
  pages : List (BitVec 9 × List Nat)
  slots : List (BitVec 17 × BitVec 128 × BitVec 512)
  ctrs : List (BitVec 12 × Nat)
  cz : List CzCtx
  cy : List CyCtx
  waits : List WaitCpl
  deriving DecidableEq, Repr

/-- What the active makes the standby write or do at once (16 R667, R679, R680, 17 R728): a Journal entry; a top of the sequence area; a NET session's
peer transaction IDs; a command with its source, opcode, subject, parameter words and payload; a key slot's register and bundles. -/
inductive Mirror where
  | entry (e : JEnt)
  | area (key top : Nat)
  | session (chan : BitVec 10) (ids : List Nat)
  | command (src : BitVec 10) (op : BitVec 16) (inst : BitVec 9) (ps : List (BitVec 32)) (pay : List (BitVec 8))
  | key (slot : BitVec 12) (reg : Word) (bundle prev : List (BitVec 8))
  deriving DecidableEq, Repr

/-- What the pairing steps learn of the partner (16 R663): its strap; the same stepping, firmware, capacity and microcode; that it is Unpaired with
nothing created, defined or commissioned; no Sable and a Healthy store; and that its unique identifier is the lower one. -/
structure PeerFacts where
  strapped : Bool
  same : Bool
  idle : Bool
  able : Bool
  lower : Bool
  deriving DecidableEq, Repr

/-- What happens in a pairing (16 R666, R667): a TWIN_PAIR command that Sheepdog has started; on the module to become standby, the partner's request with
its epoch and whether this module's index is 1; lines that step 4 copies; a ring table of step 5; the end of a step or further progress of step 4
(blocks copied, and in all); a failure. -/
inductive PairEv where
  | command (f : PeerFacts)
  | asked (epochUs : BitVec 14) (index : Bool)
  | lines (ls : List (BitVec 46 × Line × Bool))
  | ring (port : Fin 32) (ver : BitVec 16) (table : List (BitVec 8))
  | progress (pos total : BitVec 28)
  | step
  | failed
  deriving DecidableEq, Repr

/-- Twin operation. -/
structure TwSt where
  /-- Strap TWIN_EN, sampled on the rise of RESET_N (19 R788). -/
  strap : Bool
  /-- The link's working lanes, one bit each (R668). -/
  lanes : Nat
  /-- The claim train runs (R671); a claim is wanted and waits for 20 us without a peer edge (R685 step 2). -/
  train : Bool
  want : Bool
  /-- The Goose carries YIELD (R684); the standby has seen the active's YIELD (R683). -/
  yielding : Bool
  peerYield : Bool
  /-- This module became active by a takeover that its gate has not yet ended, and since its pairing (R685, R688). -/
  taking : Bool
  took : Bool
  /-- SEQ of the last Goose sent, and of the last valid one per path: in band, sideband (R669, R670). -/
  seqOut : Nat
  seqIn : Map Nat
  /-- State and role before the pairing steps (R667); a Suspended state that a link loss caused (R666). -/
  before : Nat × Nat
  byLoss : Bool
  /-- A TWIN_SWITCH waits for the acknowledgement of this epoch (R684). -/
  switch : Option Nat
  /-- The standby has asked once for the epoch again (R676). -/
  asked : Bool
  /-- The active's cuts that are not acknowledged: number, barrier time, invocation counters (R675, 10 R400). -/
  cuts : List (Nat × Nat × List (Nat × Nat))
  /-- Cycles of the ports' last digest comparisons, and their runs of mismatches (R681, R682). -/
  cmp : Map Nat
  streak : Map Nat
  /-- What makes the standby unfit for good: a failed command, or a poisoned line (R682). -/
  unfit : Bool
  /-- The hold area: the last acknowledged epoch (R678). -/
  hold : Option Epoch
  /-- The epoch stretches: writes to protected lines that are not owed wait (R677). -/
  stretch : Bool
  /-- The Journal was last used in a running pair (R689). -/
  jrnPaired : Bool
  /-- Device time of the last rising edge on TW_CLAIM_IN (R694). -/
  edgeAt : Nat
  deriving DecidableEq, Repr

end Sys2Proof.Machine
end

