-- ==== Sys2Proof/Machine/StMem.lean ====
section
/-! DEFINITION. State of the memory array (07), the caches and the directory (05) and the TLBs (06), as plain data. -/

namespace Sys2Proof.Machine

/-- A DIMM as its SPD describes it (R256): its capacity (32, 48, 64, 96, 128 or 256 GiB), x8 devices or x4, ranks less one, a rating of DDR5-6400 or faster,
and whether it is in slot 1. -/
structure Dimm where
  size : Fin 6
  x8 : Bool
  ranks : Fin 4
  fast : Bool
  slot1 : Bool
  deriving DecidableEq, Repr

/-- The population of a channel (R257): DIMMs, and the capacity in GiB, device width and ranks of each. -/
structure Population where
  dimms : Nat
  gib : Nat
  x8 : Bool
  ranks : Nat
  deriving DecidableEq, Repr

/-- The memory array's stored contents and counting windows. The bytes of channel m lie at keys `m * 2^40 + channel address`
(R259); an unlisted byte reads as zero, the contents R281 gives. -/
structure ArraySt where
  /-- The stored bytes of the ten channels, check lines included (R259, R260). -/
  cells : List Host.Cell
  /-- The data lines that hold the poison signature (R261), as keys `channel * 2^34 + stripe`, rising. -/
  sigs : List Nat
  /-- The poison mask byte of each check line (R261), by the same key; an unlisted one is 0. -/
  masks : Map Nat
  /-- Corrected errors per device in the running second (R266): key (channel, rank, device), value (window start, count, limit). -/
  devWin : Map (Nat × Nat × Nat)
  /-- Reconstructions per channel in the running second (R267): value (window start, count, limit). -/
  reconWin : Map (Nat × Nat × Nat)
  /-- The device marked in each rank (R266): key channel * 8 + rank. -/
  marks : Map Nat
  /-- The line, data and poison of the last read returned to the mesh (R263). -/
  lastRead : Nat × Line × Bool
  /-- Whether DIMM power is on per channel: DDR_PWR_EN[9:0] (R799). -/
  pwrEn : Nat
  /-- Whether the outputs of a channel's DIMM power management ICs are on, as a bit mask (R273, R798). -/
  pmic : Nat
  /-- The population taken at boot (R257). -/
  pop : Option Population
  deriving DecidableEq, Repr

/-- The state of a line in an L2 (R180); an invalid line is not listed. -/
inductive CSt where
  | m | e | s | f
  deriving DecidableEq, Repr

/-- A line held in a quad's L2 (R176, R179). -/
structure L2Line where
  st : CSt
  data : Line
  poison : Bool
  deriving DecidableEq, Repr

/-- A line held in a mesh cache slice (R176, R179), with the writer of a dirty one (R183; 512 for none). -/
structure MeshLine where
  data : Line
  dirty : Bool
  poison : Bool
  writer : Nat
  deriving DecidableEq, Repr

/-- The directory state of a line (R180): the quads in S, the quad in E, M or F, whether that is F, and the writer (R183). -/
structure DirEnt where
  sharers : Nat
  owner : Option Nat
  fwd : Bool
  writer : Nat
  deriving DecidableEq, Repr

/-- What a home slice serves for a line: the request messages of R181, the eviction of its sparse directory entry (R188), and its RECALL (R189). -/
inductive ReqKind where
  | readShared | readOwn | upgrade | writerChange | readSnoop | dirEvict | recall
  | writeLine (data : Line) (mask : BitVec 64)
  deriving DecidableEq, Repr

/-- One coherence request: who sent it (a quad, or `none` for an agent without a cache), for which instance (512: none). -/
structure CohReq where
  kind : ReqKind
  line : Nat
  quad : Option Nat
  agent : Nat
  inst : Nat
  deriving DecidableEq, Repr

/-- A request the home is serving (R182, R185): the forward and the invalidations (or RECALL replies) it still waits for, and data already supplied. -/
structure HomeTxn where
  req : CohReq
  fwdTo : Option Nat
  invs : Nat
  data : Line
  poison : Bool
  deriving DecidableEq, Repr

/-- A NACKed request (R185, R186): its delay in mesh cycles, its age stamp, whether its retry is scheduled and whether it is reserved. -/
structure NackEnt where
  req : CohReq
  delay : Nat
  age : Nat
  scheduled : Bool
  reserved : Bool
  deriving DecidableEq, Repr

/-- The caches and the directory. -/
structure CohSt where
  /-- L2 lines: key `quad * 2^46 + line`. -/
  l2 : Map L2Line
  mesh : Map MeshLine
  dir : Map DirEnt
  busy : List HomeTxn
  nacked : List NackEnt
  /-- L1 data caches (R176), by core: the lines held; being written through and within the L2, a line's data is the L2's (R177, R198). -/
  l1d : Map (List Nat)
  /-- L1 instruction caches, by core: the lines held with the data they were filled with (03 R107 FENCE.I). -/
  l1i : Map (List (Nat × Line))
  /-- Data and poison last supplied to an agent without a cache (READ_SNOOP). -/
  snooped : Nat × Line × Bool
  /-- The writers that lost a dirty line in a reclaim that is in progress (R192): key quad, or 16 + slice. -/
  lostW : Map (List Nat)
  /-- Quads fenced after a loss, and slices lost, as bit masks (R192, R194). -/
  deadQuads : Nat
  deadSlices : Nat
  deriving DecidableEq, Repr

/-- A translation held in a TLB (R242-R244): tags, the first input page and output page, the extent in 4 KiB pages, permissions
(R, W, X, U, IO at bits 0 to 4), PR, and D for each sixteenth of the extent (R240, R241). `asid` is `none` for a global or
stage-2 entry; `en` says that stage 1 took part. `tpage` is the tenant physical page of the first page (R247). -/
structure TlbEnt where
  inst : Nat
  gen : Nat
  world : Bool
  en : Bool
  asid : Option Nat
  vpage : Nat
  ppage : Nat
  tpage : Nat
  pages : Nat
  perm : Nat
  pr : Bool
  dirty : Nat
  deriving DecidableEq, Repr

/-- A table entry held in a walk cache (R242): its tags, its device physical address and its value. -/
structure WalkEnt where
  inst : Nat
  gen : Nat
  world : Bool
  addr : Nat
  val : Nat
  deriving DecidableEq, Repr

/-- The translation structures (R242): the ITLB of core c at key c, its DTLB at 128 + c, its second level at 256 + c, the I/O TLBs at keys 64 to 68;
and the walk cache of each core. -/
structure TlbSt where
  ents : Map (List TlbEnt)
  walk : Map (List WalkEnt)
  deriving DecidableEq, Repr

end Sys2Proof.Machine
end

