-- ==== Sys2Proof/Machine/StVt.lean ====
section
/-! DEFINITION. State of the Vault and of the boot (17), the straps and board pins (19), and what a boot meets. -/

namespace Sys2Proof.Machine

/-- The straps as sampled on the rise of RESET_N (19 R788). -/
structure Straps where
  bootSrc : Fin 4
  fltMode : Bool
  twinEn : Bool
  spareMin : Fin 4
  deriving DecidableEq, Repr

/-- What the partner answers during boot (16 R689): nothing; that it is Active, Alone or Unpaired; that it boots from a paired Journal too, with its
next JSN and twin index. -/
inductive PeerBoot where
  | silent
  | working
  | booting (jsn : BitVec 48) (index : Bool)
  deriving DecidableEq, Repr

/-- What the boot configuration gives a PCIe link (19 R820-R822): EN, SRIS, MAX_GEN less one, BASE and LIMIT in units of 1 MiB. -/
structure PxBoot where
  en : Bool
  sris : Bool
  gen : Fin 6
  base : BitVec 25
  limit : BitVec 25
  deriving DecidableEq, Repr

/-- What the boot steps meet (17 R717): both slots of BOOT_SPI as the board has programmed them while RESET_N was low, or as they stand; whether the
Vault's self-test and fuses agree; the boot configuration's spare pool; the DIMMs of each channel, and which channels train; whether HBM trained; the cores that fail their
boot self-test; the partner's answer; the time taken in ms; the boot configuration's staging size, its bifurcation of each root port (0 to 2: 1, 2 or 4 links, 19 R801) and
its links, a link that is not listed being disabled. -/
structure BootEnv where
  spi : Option (List (BitVec 8) × List (BitVec 8))
  vaultOk : Bool
  pool : Option (BitVec 6)
  dimms : List (List Dimm)
  trains : BitVec 10
  hbm : Bool
  cores : BitVec 64
  partner : PeerBoot
  elapsedMs : BitVec 32
  stage : Option (Fin 5)
  bifur : List (Fin 3)
  links : List PxBoot
  deriving DecidableEq, Repr

/-- What the Vault's checks of itself find (17 R703, 04 R167): an integrity failure, an uncorrectable Patch RAM error, a corrected bit (in the
Patch RAM or not). -/
inductive VaultErr where
  | integrity
  | patch
  | corrected (inPatch : Bool)
  deriving DecidableEq, Repr

/-- The Vault and the board pins. -/
structure VtSt where
  /-- BOOT_SPI's slots A and B, as far as they are written (17 R712). -/
  slotA : List (BitVec 8)
  slotB : List (BitVec 8)
  /-- The image that FW_STAGE reads (17 R723). -/
  staged : List (BitVec 8)
  /-- The verified Stage-1 payload in Vault SRAM, once it is loaded (17 R714). -/
  stage1 : List (BitVec 8)
  /-- The verified patch payload in the Patch RAM, which every core's patch store and redirect table copy (04 R162, R166): empty where it is zeroed. -/
  patchRam : List (BitVec 8)
  /-- The debug challenge in force (17 R726). -/
  challenge : Option (List Nat)
  /-- PWR_FAIL_N is low (19 R793). -/
  pwrFail : Bool
  /-- The Normal-world routes of event sources whose resource is leased (01 R37), by source. -/
  routes : Map Word
  deriving DecidableEq, Repr

end Sys2Proof.Machine
end

