-- ==== Sys2Proof/Syntax.lean ====
section
/-! DEFINITION. The commands of the block: one constructor per row of the spec's opcode table, each citing its rule. -/

namespace Sys2Proof

/-- The errors in the line of one slot of a stripe (07 R261, R265): the rank and subchannel it came from, and the bad bytes of the 80 that a burst of it brings. -/
structure ChanFinding where
  slot : Fin 10
  rank : Fin 8
  sub : Bool
  bad : List (Fin 80)
  deriving DecidableEq, Repr

/-- A line of system memory: a device physical address in units of 64 bytes (05 R176). -/
abbrev LineNo := BitVec 46

/-- An error that a cache or the directory detects (05 R189). -/
inductive CacheErr where
  | l2Single (quad : Fin 16)
  | l2Data (quad : Fin 16) (line : Nat) (tag : Bool)
  | meshSingle (line : Nat)
  | meshData (line : Nat)
  | dirEntry (line : Nat)
  deriving DecidableEq, Repr

/-- What else happens at the home slice while it serves a request: a line its mesh cache evicts, an entry its sparse directory evicts
(05 R188), an error it detects (05 R189); the latencies in
ns that the request observed (05 R221); the errors in the stripe when memory supplies the line (07 R265). -/
structure HomeSide where
  latMem : BitVec 16
  latStop : BitVec 16
  evictMesh : Option Nat
  evictDir : Option Nat
  err : Option CacheErr
  finds : List ChanFinding
  deriving DecidableEq, Repr

/-- Who writes or reads a register: the Operator Host, device firmware of the Normal world, the Vault firmware, or a Secure-world agent that acts from or for
a secure instance (01 R28, 15 R620). -/
inductive Agent where
  | host | firmware | secure
  | secureFor (inst : Fin 512)
  deriving DecidableEq, Repr

/-- Whether an agent is of the Secure world (01 R28). -/
def Agent.isSecure (a : Agent) : Bool := match a with | .secure | .secureFor _ => true | _ => false

/-- A write that reaches the memory array: line, data, byte mask, poison bit (07 R263, R280). -/
structure LineWrite where
  line : LineNo
  data : Line
  mask : BitVec 64
  poison : Bool
  deriving DecidableEq, Repr

/-- What makes the array declare a channel Lost from outside its own counts (07 R267): successive retries of one command, failed retraining, a DIMM's fault. -/
inductive LossCause where
  | link (retries : BitVec 8)
  | training
  | dimm
  deriving DecidableEq, Repr

/-- What the Signal Store's ECC detects in a step (08 R336): a corrected single-bit error, or a double-bit error and where. -/
inductive StoreErr where
  | single
  | recordCfg (sid : BitVec 21)
  | recordRun (sid : BitVec 21)
  | mirror (sid : BitVec 21)
  | both (sid : BitVec 21)
  | history (sid : BitVec 21) (k : Fin 256)
  | staging (lane : Fin 64)
  | corridor (sid : BitVec 21)
  | subscriptions (sid : BitVec 21) (block : Fin 35)
  | slot (n : BitVec 17)
  deriving DecidableEq, Repr

/-- What a lane meets while it takes an update (08 R335, R336): failed checks before the one that passes, and an ECC error. -/
structure LaneEnv where
  repeats : Fin 3
  err : Option StoreErr
  deriving DecidableEq, Repr

/-- Why Sheepdog restarts other than by its watchdog (14 R599). -/
inductive RestartCause where
  | lockstep | sram | firmware
  deriving DecidableEq, Repr

/-- How the two pipes of a cipher chunk fare (10 R383, R404, R405): the check passes; it passes when repeated; or a third pipe decides that
the primary, or only itself, was right, or none. -/
inductive CheckEnd where
  | passed | repeated | primaryRight | thirdRight | neither
  deriving DecidableEq, Repr

/-- Where a command that the secure world may send comes from: a command packet that Sheepdog has started, or the Vault firmware on its
own account, naming the subject, the parameter words and the payload (17 R708; DESIGN CHOICE, log 10). -/
inductive Via where
  | packet
  | vault (inst : BitVec 9) (ps : List (BitVec 32)) (payload : List Byte)
  deriving DecidableEq, Repr

/-- What a port's receivers saw of the previous cycle (12 R517): its own sync frame back on side P or on side N, its shadow on side N, whether
each side has input, the loop delay in ns, and whether a sync frame with RING = 0 of another master came (R506). -/
structure RingSeen where
  syncP : Bool
  shadowN : Bool
  syncN : Bool
  inN : Bool
  inP : Bool
  loopNs : BitVec 32
  other : Bool
  deriving DecidableEq, Repr

/-- What a node's maker decides (12 R501, R507, R510, R527): VENDOR and MODEL, the status word, firmware revision, points supported, whether its
own limits refuse the values of the requests, which points it lets be read and their words, and its answer to a node-maker command. -/
structure NodeMaker where
  ident : BitVec 32
  status : BitVec 32
  fwRev : BitVec 16
  points : BitVec 9
  refuse : Bool
  readable : BitVec 256
  values : List (BitVec 32)
  cmdReply : Option (BitVec 32)
  deriving DecidableEq, Repr

/-- What answers a request on a PCIe link (11 R440, 05 R100): data, Unsupported Request, Completer Abort, a poisoned completion, or nothing. -/
inductive FarEnd where
  | ok (data : List Byte)
  | unsupported | aborted | poisoned | timeout
  deriving DecidableEq, Repr

/-- What a channel processor's step meets (11 R446, R448, R473): how many Journal writes fail their read-back, and whether the step's check
failed and it was repeated. -/
structure ProcEnv where
  bad : Fin 4
  again : Bool
  deriving DecidableEq, Repr

/-- What a replay's scan meets (11 R452): an entry, counted from the tail, corrected by the code or beyond its reach; a superblock copy (A true)
that is invalid; a gap in the JSNs with valid entries beyond it. -/
inductive JrnFinding where
  | corrected (k : BitVec 19)
  | beyond (k : BitVec 19)
  | superblock (a : Bool)
  | gap (k : BitVec 19)
  deriving DecidableEq, Repr

/-- What a pass over words with single-error correction finds (04 R140). -/
inductive BitErr where
  | clean | single | double
  deriving DecidableEq, Repr

/-- What a sparing or a planned move meets (04 R140, R153): targets that fail, one after the other, within step 2 (`false`) or during steps 3 to 6 (`true`), whether the source's Checkpoint Array meets a double-bit error, and
how long it takes in ns. -/
structure SpareEnv where
  fails : List Bool
  lost : Bool
  elapsed : BitVec 32
  deriving DecidableEq, Repr

/-- What the collector's own memories meet (15 R631): a single-bit error; a double-bit error in a log slot, or in an open fold entry. -/
inductive ColErr where
  | single
  | slot (k : BitVec 13)
  | window (k : BitVec 9)
  deriving DecidableEq, Repr

/-- What befalls a PCIe link (19 R807): up at a rate and width, in FLIT mode or not, with IDE keys or not; training; down; the errors; the reference clock. -/
inductive PxEvent where
  | up (gen : BitVec 4) (width : BitVec 5) (flit ide : Bool)
  | training | down | correctable
  | uncorrectable (addr : Word)
  | ideFailure | clockLost
  deriving DecidableEq, Repr

/-- Where a register write goes (00 R11, R16): to device register space, with its size in bytes; to BAR2 by the Operator Host (14 R581); to its BAR4, the
MSI-X table, or to the Management Port's configuration: Bus Master Enable, MSI-X Enable and Function Mask (19 R808); to an instance page by one of the instance's virtual cores (01 R33), `bad` counting failed read-backs of a Journal write that a doorbell causes. -/
inductive RegTarget where
  | space (agent : Agent) (addr : Word) (size : BitVec 8) (value : Word)
  | bar2 (off : BitVec 19) (bytes : List Byte)
  | bar4 (off : BitVec 16) (bytes : List Byte)
  | config (busMaster msixEn msixMask : Bool)
  | page (inst : BitVec 9) (vcore : Fin 64) (off : BitVec 16) (dword : Bool) (value : Word) (bad : Fin 4)
  deriving DecidableEq, Repr

/-- What a retry's restore meets in the Checkpoint Array (04 R140): nothing, a double-bit error in a word whose working copy passes its check, or one whose working
copy does not. -/
inductive Restore where
  | clean | kept | lost
  deriving DecidableEq, Repr

/-- A near structure's entry in which a check finds an error (04 R130), by its place there: the ITLB, the DTLB, the second-level TLB, an L1 cache, or a store-buffer entry with a double-bit
error. -/
inductive NearErr where
  | itlb (k : BitVec 6) | dtlb (k : BitVec 7) | tlb2 (k : BitVec 10) | l1i (k : BitVec 10) | l1d (k : BitVec 10) | storeBuffer (k : Fin 32)
  deriving DecidableEq, Repr

/-- What a core meets while it runs one bundle (04 R130-R133, R140): failed attempts (3 check-stop it), errors corrected in place, the core cycles it
takes, retries included, failed read-backs of a Journal write that its doorbell store causes, entries of near structures found in error, what a retry's restore
meets, how many microwords the sequencer runs (R163), and whether a check-stop comes only after the bundle's non-repeatable accesses are issued (R136). -/
structure BundleEnv where
  fails : Fin 4
  corrected : Fin 16
  cycles : BitVec 32
  bad : Fin 4
  near : List NearErr
  restore : Restore
  words : BitVec 12
  late : Bool
  deriving DecidableEq, Repr

/-- What reaches a counter with a write of it (18 R760): nothing, an increment on the same edge, or a wrap on the edge before. -/
inductive CountEdge where
  | alone | increment | wrap
  deriving DecidableEq, Repr

/-- A line at its home slice, and what else happens there while the request is served. -/
structure AtHome where
  line : LineNo
  side : HomeSide
  deriving DecidableEq, Repr

/-- A quad port request of a core that gets no response (04 R146), and whether it is the drain of a store-buffer entry. -/
structure PortRequest where
  core : Fin 64
  store : Bool
  deriving DecidableEq, Repr

/-- A reload of a core's control stores (04 R167): its end, or the detection of the error that asks for it. -/
structure Reload where
  core : Fin 64
  ends : Bool
  deriving DecidableEq, Repr

/-- A lane, and what it meets while it takes an entry of its queue. -/
structure LaneAt where
  lane : Fin 64
  env : LaneEnv
  deriving DecidableEq, Repr

/-- What an inserted channel's training finds (07 R274): its DIMMs by their SPD, and whether they train. -/
structure Training where
  dimms : List Machine.Dimm
  trains : Bool
  deriving DecidableEq, Repr

/-- A command. What the row leaves to the outside world (a unit's number, arriving data, a detected error) is an operand. -/
inductive Instr where
  /-- BUNDLE_EXECUTE (R52). A core fetches one bundle, checks it, executes its syllables and commits it whole or raises an exception. -/
  | bundleExecute (core : Fin 64) (env : BundleEnv)
  /-- INTERRUPT_TAKE (R75). Between bundles, the core takes the lowest-numbered pending and enabled interrupt. -/
  | interruptTake (core : Fin 64)
  /-- NO_COMMIT_TIMEOUT (R146). A core that has made no commit for 100 µs outside a recognised wait check-stops. -/
  | noCommitTimeout (core : Fin 64)
  /-- PORT_REQUEST_TIMEOUT (R146). A quad port request to system memory not completed within 1 ms is a failed check and check-stops the core. -/
  | portRequestTimeout (req : PortRequest)
  /-- CSUB_ACKNOWLEDGEMENT (R115). The tenant manager's acknowledgement returns, is written to G[RT], and the CSUB bundle commits. -/
  | csubAcknowledgement (inst : BitVec 9) (vcore : Fin 64) (bad : Fin 4)
  /-- WFI_WAKE (R125). A KC_IPEND bit whose enable is set ends a WFI wait and the core continues. -/
  | wfiWake (inst : BitVec 9) (vcore : Fin 64)
  /-- SPARING (R148). The sparing controller moves a check-stopped virtual core to a spare through steps 1 to 6 without firmware. -/
  | sparing (tile : Fin 4) (env : SpareEnv)
  /-- QUEUED_SPARING_START (R153). A sparing request waiting in a busy controller's queue starts when the previous sparing ends. -/
  | queuedSparingStart (tile : Fin 4)
  /-- MOVE (R169). A write of KC_PCS_c.MOVE requests a planned move of an active core. -/
  | move (core : Fin 64) (agent : Agent)
  /-- PLANNED_MOVE (R161). An active core stops at a bundle boundary and all its virtual cores move to a spare through the sparing steps. -/
  | plannedMove (tile : Fin 4) (env : SpareEnv)
  /-- EXTENDED_SELF_TEST_END (R156). A quarantined core's extended self-test ends and it becomes Quiet or Retired. -/
  | extendedSelfTestEnd (core : Fin 64) (pass : Bool)
  /-- SPARE_SELF_TEST (R144). A spare leaves Nap to run its periodic self-test pass, ending in Spare or Quarantine. -/
  | spareSelfTest (core : Fin 64) (pass : Bool)
  /-- CHECKPOINT_SCRUB (R140). The quad checkpoint island scrubs Checkpoint Array words and handles their errors. -/
  | checkpointScrub (core : Fin 64) (err : BitErr)
  /-- UCODE_RELOAD (R167), from the detection of the error to the end of the rewrite. A core's patch store copy with a double-bit error is rewritten from the Patch RAM. -/
  | ucodeReload (reload : Reload)
  /-- STORE_BUFFER_DRAIN (R198). The oldest store-buffer entry drains and becomes visible in the quad's L2. -/
  | storeBufferDrain (core : Fin 64)
  /-- READ_SHARED (R182). The home slice serves a load or fetch miss according to the directory state. -/
  | readShared (quad : Fin 16) (reader : Option (BitVec 9)) (line : LineNo) (side : HomeSide)
  /-- READ_OWN (R182). The home slice grants ownership of a line for a store drain or AMO. -/
  | readOwn (quad : Fin 16) (writer : Option (BitVec 9)) (line : LineNo) (side : HomeSide)
  /-- UPGRADE (R182). The home slice upgrades a quad's S or F line to M. -/
  | upgrade (quad : Fin 16) (writer : Option (BitVec 9)) (dest : AtHome)
  /-- WRITER_CHANGE (R183). The home records a new writer for a line in E or M, writing back M data. -/
  | writerChange (quad : Fin 16) (writer : Option (BitVec 9)) (dest : AtHome)
  /-- WRITEBACK (R181). The home takes in an evicted M line with its data. -/
  | writeback (quad : Fin 16) (line : LineNo)
  /-- EVICT_CLEAN (R181). The home takes in the eviction of an E or F line. -/
  | evictClean (quad : Fin 16) (line : LineNo)
  /-- READ_SNOOP (R187). An agent without a cache reads the most recent value of a line without changing cache state. -/
  | readSnoop (agent : BitVec 24) (dest : AtHome)
  /-- WRITE_LINE (R187). An agent without a cache, or a core at F, writes 1 to 64 bytes of a line. -/
  | writeLine (agent : BitVec 24) (dest : AtHome) (data : Line) (mask : BitVec 64) (pr : Bool)
  /-- FWD_SHARED (R182). The holder supplies a line to a requester and becomes S. -/
  | fwdShared (line : LineNo)
  /-- FWD_OWN (R182). The holder supplies a line to a requester and becomes I. -/
  | fwdOwn (line : LineNo)
  /-- SNOOP (R182). The holder supplies a copy of a line and keeps its state. -/
  | snoop (line : LineNo)
  /-- INVALIDATE (R181). A sharer drops a line, returning data if it held it in M. -/
  | invalidate (quad : Fin 16) (line : LineNo)
  /-- RECALL (R189). A quad reports its state of a line and returns it if dirty. -/
  | recall (quad : Fin 16) (line : LineNo) (err : Option CacheErr)
  /-- NACK (R185). A NACKed requester schedules its retry with exponential delay and may enter the reservation table. -/
  | nack (line : LineNo) (quad : Option (Fin 16)) (age : BitVec 8)
  /-- NACK_RETRY (R185). The retry delay after a NACK expires and the request is sent again with its age stamp. -/
  | nackRetry (line : LineNo) (quad : Option (Fin 16))
  /-- QUAD_LOSS (R193). A lost quad is fenced, its lines reclaimed by the directory scan and its virtual cores spared or lost. -/
  | quadLoss (quad : Fin 16) (ckpt : Bool)
  /-- SLICE_LOSS (R194). A lost slice's lines are reclaimed and rehomed at its buddy. -/
  | sliceLoss (slice : Fin 64)
  /-- IO_TRANSLATION (R252). An I/O translation unit translates an I/O agent's request through the instance's stage-2 tables or refuses it. -/
  | ioTranslation (unit : Fin 5) (agent : BitVec 24) (inst : BitVec 9) (gen : BitVec 12) (tpa : Word) (write : Bool)
  /-- PCIE_INBOUND_REQUEST (R254). A root port ties an inbound request to an instance through its stream table and translates or refuses it. -/
  | pcieInboundRequest (link : Fin 16) (rid : BitVec 16) (addr : Word) (ide : Bool) (special : Bool) (data : Option (List Byte)) (len : Fin 4097) (far : FarEnd)
  /-- COMPLETION_TIMEOUT (R100). A PCIe read gets no completion within the root port's timeout and returns all ones. -/
  | completionTimeout (inst : BitVec 9) (vcore : Fin 64)
  /-- PCIE_LINK_CHANGE (R807). A root port link goes down or up or reports an error, with a record and event. -/
  | pcieLinkChange (link : Fin 16) (ev : PxEvent)
  /-- ARRAY_READ (R263). The memory array reads a data line, reconstructing it from the stripe if it is an erasure. -/
  | arrayRead (line : LineNo) (finds : List ChanFinding)
  /-- ARRAY_WRITE (R263). The memory array writes data lines and updates P and Q on the surviving channels. -/
  | arrayWrite (writes : List LineWrite) (finds : List ChanFinding)
  /-- CHANNEL_LOST (R268). A lost memory channel's requests are withdrawn and reissued as reconstructing reads or surviving-line writes. -/
  | channelLost (channel : Fin 10) (cause : LossCause)
  /-- ISOLATE (R272). MA_CH_CTL command that isolates a channel and powers off its DIMMs. -/
  | isolate (channel : Fin 10) (agent : Agent)
  /-- INSERT (R274). MA_CH_CTL command that powers, checks and trains a channel and starts its rebuild. -/
  | insert (channel : Fin 10) (agent : Agent)
  /-- FAIL (R272). MA_CH_CTL command that makes an Up channel Lost with cause FORCED. -/
  | fail (channel : Fin 10) (agent : Agent)
  /-- REBUILD_STRIPE (R274). The rebuild pass rebuilds one stripe's line for the rebuilding channel and advances POS. -/
  | rebuildStripe (finds : List ChanFinding)
  /-- SCRUB_STRIPE (R278). Patrol scrub reads a stripe, applies the error rules and compares P and Q. -/
  | scrubStripe (finds : List ChanFinding)
  /-- DEMAND (R287). A write of MA_SCRUB.DEMAND runs the current scrub pass to its end at the rebuild rate. -/
  | demand
  /-- INPUT_SAMPLE (R303). A lane takes an input sample, converts and judges it and writes the signal record. -/
  | inputSample (lane : Fin 64) (env : LaneEnv)
  /-- SAMPLE_HOLD_TIMEOUT (R295). A sample held for 2 µs in front of a full lane queue is dropped. -/
  | sampleHoldTimeout (lane : Fin 64)
  /-- VOID_UPDATE (R309). A lane takes a void update that sets quality bad and keeps the value. -/
  | voidUpdate (lane : Fin 64) (env : LaneEnv)
  /-- DEFINITION_UPDATE (R312). A lane applies a SIGNAL_DEFINE entry to the record, mirror, history and corridor block. -/
  | definitionUpdate (lane : Fin 64) (env : LaneEnv)
  /-- OUTPUT_UPDATE (R327). A lane takes an output update, clamps it into STAGE and releases it if allowed. -/
  | outputUpdate (lane : Fin 64) (env : LaneEnv)
  /-- CYCLE_MARKER (R331). A lane takes a port's cycle marker; when all 64 have taken it the cycle's digest is folded into SG_RD_p. -/
  | cycleMarker (lane : LaneAt)
  /-- FAN_OUT (R321). A fan-out unit walks an offered update's subscription list and posts events to matching subscribers. -/
  | fanOut (island : Fin 8) (err : Option StoreErr)
  /-- REPROCESS_SIGNAL (R334). A lane reruns the corridor test over one signal's history for HISTORIAN_REPROCESS. -/
  | reprocessSignal
  /-- LANE_RETIREMENT (R335). A failed lane is retired and its queue and signals move to a new home lane. -/
  | laneRetirement (lane : Fin 64)
  /-- SIGNAL_STORE_LOSS (R337). Loss of the Signal Store makes window loads poison and sends bad-quality outputs. -/
  | signalStoreLoss
  /-- COMPRESSION_DESCRIPTOR_FETCH (R363). The compression engine fetches and checks a descriptor into a free context. -/
  | compressionDescriptorFetch (queue : Fin 16) (pipe : Fin 4)
  /-- COMPRESSION_CHUNK (R366). A pipe runs and checks one chunk of a request and writes its output. -/
  | compressionChunk (pipe : Fin 4) (fails : Fin 3)
  /-- COMPRESSION_PIPE_RETIREMENT (R372). A pipe is retired and its contexts move to the remaining pipes. -/
  | compressionPipeRetirement (pipe : Fin 4)
  /-- SEGMENT_WRITE (R370). A held HIST_FILL is filled with a segment from the ready lane with the greatest fill. -/
  | segmentWrite (pipe : Fin 4) (fails : Fin 3)
  /-- HIST_LINGER_EXPIRY (R370). A staging entry's wait reaches HIST_LINGER and its lane becomes ready. -/
  | histLingerExpiry (lane : Fin 64)
  /-- HIST_SINK_DISABLE (R368). Clearing CZ_HIST_CFG.EN fails every held HIST_FILL with DENIED. -/
  | histSinkDisable
  /-- CIPHER_DESCRIPTOR_FETCH (R392). The cipher engine fetches, checks and resolves the slot of a descriptor. -/
  | cipherDescriptorFetch (queue : Fin 16)
  /-- CIPHER_CHUNK (R383). A primary and checker pipe run one chunk and release output only when they agree. -/
  | cipherChunk (primary : Fin 8) (checker : Fin 8) (result : CheckEnd)
  /-- CIPHER_PIPE_RETIREMENT (R406). A cipher pipe is retired and its contexts move to pairs of remaining pipes. -/
  | cipherPipeRetirement (pipe : Fin 8)
  /-- ROTATION_DRAIN_END (R393). The last holder of the non-current half finishes and the new key is written and CUR flips. -/
  | rotationDrainEnd
  /-- REWRAP_UNIT (R394). One data unit of a rewrap range is decrypted under the old key and encrypted under the new. -/
  | rewrapUnit (primary : Fin 8) (checker : Fin 8) (result : CheckEnd)
  /-- KEY_ERASE_COMPLETE (R390). The last request holding an Erasing slot completes and the slot is zeroed. -/
  | keyEraseComplete (slot : BitVec 12)
  /-- DOORBELL_WRITE (R430). A store to a doorbell submits a chain from a channel submission queue. -/
  | doorbellWrite (inst : BitVec 9) (vcore : Fin 64) (d : Fin 16) (value : Word) (bad : Fin 4)
  /-- CHAIN_CHECK (R428). The processor reads and checks a chain and commits INTENT or fails it. -/
  | chainCheck (proc : Fin 16) (host : List (List Byte)) (env : ProcEnv)
  /-- DISPATCH (R448). The processor commits DISPATCH and hands a request to a port, link or Ethernet port. -/
  | dispatch (tid : Word) (env : ProcEnv)
  /-- CCE_OUTCOME (R437). A CCE's outcome arrives and the processor starts the next CCE or decides the final state. -/
  | cceOutcome (tid : Word) (far : FarEnd) (env : ProcEnv)
  /-- DATA_CHUNK (R464). A chunk of a data CCE passes through staging between memory and the far end. -/
  | dataChunk (tid : Word) (host : List Byte) (far : FarEnd) (env : ProcEnv)
  /-- COMMIT_REPEAT (R461). An unanswered commit request is repeated with its SEQ until committed or PREP_HOLD runs out. -/
  | commitRepeat (tid : Word) (env : ProcEnv)
  /-- COMPLETION_WRITE (R441). A FINAL transaction's completion is written to its queue slot and POSTED is committed. -/
  | completionWrite (tid : Word) (env : ProcEnv)
  /-- COMPLETION_RETRY (R830). A refused completion write is tried again every 1 ms until it succeeds. -/
  | completionRetry (inst : BitVec 9) (cls : Fin 3) (d : Fin 16) (bad : Fin 4)
  /-- CARRY (R450). The Journal writer copies the oldest live entry to the head so the tail can advance. -/
  | carry (bad : Fin 4)
  /-- SUPERBLOCK_REWRITE (R449). A superblock copy is rewritten after 4,096 entries of tail movement or each millisecond. -/
  | superblockRewrite
  /-- REPLAY (R470). The Journal is read back after a trigger and each transaction is resumed or ended. -/
  | replay (finds : List JrnFinding)
  /-- CHANNEL_PROCESSOR_RETIREMENT (R473). A channel processor is retired and its channels and transactions move to the next Up processor. -/
  | channelProcessorRetirement (proc : Fin 16)
  /-- LOOP_CHUNK (R459). A LOOP chunk is performed, waits or fails according to the target instance's state. -/
  | loopChunk (tid : Word) (env : ProcEnv)
  /-- DATAGRAM_RECEIVE (R457). An inbound DATA datagram fills a posted NRECV buffer and is acknowledged. -/
  | datagramReceive (env : ProcEnv)
  /-- ACK_RECEIVE (R456). An inbound ACK advances an NSEND's acknowledged offset or completes it. -/
  | ackReceive (env : ProcEnv)
  /-- RTO_EXPIRY (R456). An NSEND retransmits from the acknowledged offset, or fails with TIMEOUT after RETRY times. -/
  | rtoExpiry (tid : Word) (env : ProcEnv)
  /-- CYCLE_START (R493). The master chooses its path and sends the cycle's sync and outbound frames. -/
  | cycleStart (port : Fin 32) (seen : RingSeen)
  /-- SLOT_FRAME_RECEIVE (R511). The port receives a slot frame, measures its edge and hands its words to the lanes or voids it. -/
  | slotFrameReceive (port : Fin 32) (node : Fin 256) (sideN : Bool) (viol : BitVec 16) (edge : BitVec 16) (frame : List Byte)
  /-- SLOT_WINDOW_CLOSE (R511). A node's slot window closes with no used slot, sending void updates and resending unanswered requests. -/
  | slotWindowClose (port : Fin 32) (node : Fin 256)
  /-- PORT_INPUT_LOSS (R492). A port side's input is lost and the head-end goes silent then sends IDLE on that side. -/
  | portInputLoss (port : Fin 32) (sideN : Bool)
  /-- HEAL (R519). After HEAL_MS of restored inputs the master announces HEAL with SWITCH_AT. -/
  | heal (port : Fin 32) (inN : Bool) (inP : Bool)
  /-- LISTENER_SLOT_RECEIVE (R520). A listener accepts the first valid copy of each slot frame for its own Signal Plane. -/
  | listenerSlotReceive (port : Fin 32) (node : Fin 256) (sync : List Byte) (frame : List Byte)
  /-- NODE_SYNC_RECEIVE (R502). A node takes a reference sync frame, reads its MUTE bit, messages and roll call. -/
  | nodeSyncReceive (port : Fin 32) (node : Fin 256) (sync : List Byte) (outbound : List Byte) (roll : List Byte) (maker : NodeMaker)
  /-- NODE_SLOT_SEND (R503). A node inserts its slot frame or probe at OFFSET after the reference sync. -/
  | nodeSlotSend (port : Fin 32) (node : Fin 256) (samples : List (BitVec 32))
  /-- NODE_SYNC_TIMEOUT (R504). A node that misses a sync for T + 5 µs sends no slot for that cycle. -/
  | nodeSyncTimeout (port : Fin 32) (node : Fin 256)
  /-- NODE_INPUT_LOSS (R492). A node loses one side's input, goes silent, then loops the stream. -/
  | nodeInputLoss (port : Fin 32) (node : Fin 256) (sideN : Bool)
  /-- OUTPUT_HOLD_EXPIRY (R507). HOLD_CYCLES cycles without valid OUTPUTS put the node's outputs into the safe action. -/
  | outputHoldExpiry (port : Fin 32) (node : Fin 256)
  /-- PREPARE_HOLD_EXPIRY (R516). A prepared entry's hold ends without COMMIT and its values are discarded. -/
  | prepareHoldExpiry (port : Fin 32) (node : Fin 256) (source : BitVec 16) (seq : BitVec 16)
  /-- DISPATCH_SWITCH (R551). A dispatched core saves the outgoing virtual core and loads the next runnable entry. -/
  | dispatchSwitch (core : Fin 64)
  /-- SLICE_EXPIRY (R551). A running entry's slice is used up and the core moves to the next runnable entry. -/
  | sliceExpiry (core : Fin 64)
  /-- CONTROL_PREEMPT (R552). A runnable Control entry preempts a Supervisory or Batch entry at the next bundle boundary. -/
  | controlPreempt (core : Fin 64)
  /-- TOKEN_REFILL (R561). Each µs, every token bucket gains its share of RATE up to BURST. -/
  | tokenRefill
  /-- FREEZE_COMPLETE (R567). An instance's outstanding requests reach zero and it becomes Frozen. -/
  | freezeComplete (inst : BitVec 9)
  /-- FREEZE_TIMEOUT (R567). TIMEOUT_MS passes without reaching Frozen and the instance resumes with ABORTED. -/
  | freezeTimeout (inst : BitVec 9)
  /-- POST_IN (R558). TN_MBX_CTL.POST_IN posts the inbound mailbox and sets MAILBOX pending. -/
  | postIn (agent : Agent) (inst : BitVec 9) (len : BitVec 13) (msg : List Byte)
  /-- ACK_OUT (R576). TN_MBX_CTL.ACK_OUT acknowledges the selected instance's outbound message. -/
  | ackOut (agent : Agent) (inst : BitVec 9)
  /-- POST (R558). An instance's write of IP_MBX_OUT.POST posts its outbound message and raises event 0x3C3. -/
  | post (inst : BitVec 9) (value : Word)
  /-- QUEUE_ENABLE (R555). Writing IP_Q_CFG.EN enables or disables a queue, zeroing TAIL and HEAD on enable. -/
  | queueEnable (inst : BitVec 9) (cls : Fin 3) (completion : Bool) (d : Fin 16) (value : Word)
  /-- SUBMISSION_TAIL_WRITE (R556). Writing a compression or cipher submission queue's TAIL rings its doorbell. -/
  | submissionTailWrite (inst : BitVec 9) (cipher : Bool) (d : Fin 16) (value : Word)
  /-- CONSUMER_HEAD_WRITE (R556). Writing a completion or event queue's HEAD frees slots, or is ignored with ERROR set. -/
  | consumerHeadWrite (inst : BitVec 9) (cls : Option (Fin 3)) (d : Fin 16) (value : Word)
  /-- HOST_CQ_ENABLE (R485). Writing CH_HOST_CQ_CFG.EN from 0 to 1 zeroes the host ring pointers. -/
  | hostCqEnable (value : Word)
  /-- HOST_CQ_HEAD_WRITE (R485). Writing CH_HOST_CQ_HEAD frees host ring entries, or is ignored and logged beyond TAIL. -/
  | hostCqHeadWrite (agent : Agent) (value : Word)
  /-- MP_HQ_SUBMIT (R586). Writing MP_HQ_SUBMIT submits a host slot to the front end's admission checks. -/
  | mpHqSubmit (slot : Fin 64)
  /-- IP_CMD_SUBMIT (R586). Writing IP_CMD_SUBMIT submits an instance's command slot to admission. -/
  | ipCmdSubmit (inst : BitVec 9) (slot : Fin 4)
  /-- URGENT_ADMISSION (R589). An Urgent packet waiting for a queue entry is admitted as soon as one frees. -/
  | urgentAdmission
  /-- COMMAND_START (R589). Sheepdog starts the next admitted command by class and admission order. -/
  | commandStart
  /-- BULK_PROMOTION (R589). A Bulk command that has waited 100 ms takes its place among Normal commands. -/
  | bulkPromotion
  /-- PROGRESS_REPLY (R594). A long operation writes an IN_PROGRESS reply after PROG_MS when progress has changed. -/
  | progressReply
  /-- SEGMENT_TIMEOUT (R596). 100 ms between packets of a segmented command ends it ABORTED and frees its buffer. -/
  | segmentTimeout
  /-- LOAD_MEASUREMENT (R597). Each ms the front end measures Sheepdog utilisation and moves MP_LOAD.LEVEL. -/
  | loadMeasurement (util : Fin 101)
  /-- SHEEPDOG_RESTART (R599). Sheepdog halts, reloads and rebuilds its state and resumes or aborts commands. -/
  | sheepdogRestart (cause : RestartCause)
  /-- WATCHDOG_EXPIRY (R599). Sheepdog's watchdog is not serviced for WDOG_MS and Sheepdog restarts. -/
  | watchdogExpiry
  /-- NOP (R603). Returns the firmware revision and utilisation. -/
  | nop
  /-- OP_STATUS (R603). Returns the progress of an open command or of rebuild, scrub or replay. -/
  | opStatus
  /-- OP_CANCEL (R603). Requests cancellation of an open command of the same source. -/
  | opCancel
  /-- INSTANCE_CREATE (R540). Creates an instance, places its virtual cores and maps its instance page. -/
  | instanceCreate (via : Via)
  /-- INSTANCE_START (R547). Starts a Created instance at ENTRY or resumes a Frozen one. -/
  | instanceStart (via : Via)
  /-- INSTANCE_RESET (R565). Advances the generation, drains every unit and restarts the instance if asked. -/
  | instanceReset (via : Via)
  /-- INSTANCE_FREEZE (R567). Stops and saves the virtual cores and waits for outstanding work. -/
  | instanceFreeze (via : Via)
  /-- INSTANCE_SAVE (R569). Writes a save image of a Frozen instance. -/
  | instanceSave
  /-- INSTANCE_RESTORE (R570). Writes a save image into a Created instance, leaving it Frozen. -/
  | instanceRestore (image : List Byte)
  /-- INSTANCE_DESTROY (R546). Resets the instance, undefines channels, erases keys, unmaps and frees it. -/
  | instanceDestroy (via : Via)
  /-- INSTANCE_MAP (R542). Enters stage-2 leaves for a system memory range. -/
  | instanceMap (via : Via)
  /-- INSTANCE_UNMAP (R543). Removes a mapping and invalidates its translations. -/
  | instanceUnmap (via : Via)
  /-- INSTANCE_QUERY (R604). Returns TN_INST_n and the instance's mappings. -/
  | instanceQuery (via : Via)
  /-- LATENCY_SET (R747). Sets a tolerable wake latency and wakes cores to states the new limit allows. -/
  | latencySet
  /-- POWER_QUERY (R605). Returns module power, an instance's core power states or a core's state. -/
  | powerQuery
  /-- CHANNEL_DEFINE (R423). Defines a logical channel from a definition block. -/
  | channelDefine
  /-- CHANNEL_UNDEFINE (R425). Closes a channel and undefines it when its transactions have retired. -/
  | channelUndefine
  /-- CHANNEL_QUERY (R606). Returns a channel's definition block and CH_CHAN_n. -/
  | channelQuery
  /-- TXN_QUERY (R436). Returns the lifecycle state of one transaction. -/
  | txnQuery
  /-- TXN_CANCEL (R466). Cancels a transaction according to its state. -/
  | txnCancel
  /-- JOURNAL_REPORT (R471). Copies every orphan FINAL entry into a host buffer. -/
  | journalReport
  /-- JOURNAL_ACK (R471). Writes POSTED for reported orphans up to a transaction ID. -/
  | journalAck (bad : Fin 4)
  /-- CHANNEL_SUBMIT (R434). Submits a host chain and replies ACCEPTED with its transaction ID. -/
  | channelSubmit (bad : Fin 4)
  /-- RING_COMMISSION (R525). Commissions a Field Ring port through discovery, scheduling and switch. -/
  | ringCommission (table : List Byte) (roll : List Byte)
  /-- SIGNAL_DEFINE (R312). Defines, redefines or undefines signals entry by entry. -/
  | signalDefine
  /-- SIGNAL_MAP (R315). Maps record, history or output slot pages into an instance. -/
  | signalMap
  /-- SIGNAL_UNMAP (R315). Removes a Signal Store mapping with S2.TPA invalidation. -/
  | signalUnmap
  /-- SIGNAL_QUERY (R607). Returns one signal's configuration words and its lane. -/
  | signalQuery
  /-- SUBSCRIBE (R319). Adds subscriptions for a range of Signal IDs or a CYCLE subscription. -/
  | subscribe
  /-- UNSUBSCRIBE (R607). Removes subscriptions. -/
  | unsubscribe
  /-- HISTORIAN_REPROCESS (R334). Reruns the corridor test over history for a range of signals. -/
  | historianReprocess
  /-- TABLE_LOAD (R314). Writes a conversion table that no defined signal names. -/
  | tableLoad
  /-- KEY_LOAD (R389). Unwraps a bundle into an Empty key slot for an owner. -/
  | keyLoad (via : Via)
  /-- KEY_ROTATE (R393). Drains, rotates a slot's key and optionally rewraps a range. -/
  | keyRotate (via : Via)
  /-- KEY_ERASE (R390). Sets a slot Erasing and zeroes it when its holders complete. -/
  | keyErase (via : Via)
  /-- LEASE_TAKE_CIPHER (R407). Leases cipher pipe pairs and Empty key slots to the secure world. -/
  | leaseTakeCipher (via : Via)
  /-- LEASE_TAKE_VAULT_SRAM (R708). Leases pages of the Vault's leasable SRAM. -/
  | leaseTakeVaultSram (via : Via)
  /-- LEASE_RELEASE (R410). Releases a lease, zeroing and returning its resources. -/
  | leaseRelease (via : Via)
  /-- FAULT_QUERY (R626). Copies fault log slots or fault journal entries into a buffer. -/
  | faultQuery
  /-- FAULT_CLEAR (R625). Sets CLEARED in non-Sable records of a slot range. -/
  | faultClear
  /-- HEALTH_QUERY (R765). Copies an island, power or time base report into a buffer. -/
  | healthQuery
  /-- SELF_TEST (R644). Runs the test of one out-of-service unit. -/
  | selfTest (progress : Fin 10001) (result : Option Bool)
  /-- UNIT_TEST_END (R635). An out-of-service unit's test ends and it becomes Quiet or Retired. -/
  | unitTestEnd (unit : BitVec 24) (pass : Bool)
  /-- COUNTER_SNAPSHOT (R763). Takes a snapshot of every PM counter and returns its time. -/
  | counterSnapshot
  /-- TWIN_PAIR (R667). ACTION 0 pairs two modules through the pairing steps. -/
  | twinPair (ev : Machine.PairEv)
  /-- TWIN_SUSPEND (R666). ACTION 1 makes both modules Suspended. -/
  | twinSuspend (asked : Bool)
  /-- TWIN_RESUME (R666). ACTION 2 resumes the pair through steps 2 to 6 of pairing. -/
  | twinResume (asked : Bool) (reach : Bool)
  /-- TWIN_UNPAIR (R666). ACTION 3 makes both modules Unpaired and clears the standby. -/
  | twinUnpair (asked : Bool)
  /-- TWIN_SWITCH (R684). Makes the active take one more barrier and then yield. -/
  | twinSwitch (asked : Bool)
  /-- FW_STAGE (R723). Writes and verifies a new image in the target BOOT_SPI slot. -/
  | fwStage (block : Option (List Byte)) (flashOk : Bool)
  /-- FAULT_REPORT (R629). The collector takes a report, classifies it, folds or logs it and performs its reaction. -/
  | faultReport (point : Fin 2048) (bad : Bool) (err : Option ColErr)
  /-- BROKEN (R618). A reporting pair reading equal values for 20 ns becomes Broken. -/
  | broken (point : Fin 2048)
  /-- PATH_TEST (R619). Every 100 ms each reporting point is tested and marked Test-failed if silent. -/
  | pathTest (point : Fin 2048) (good : Bool) (answers : Bool)
  /-- FOLD_WINDOW_EXPIRY (R629). A fold window closes and its record may be journaled again. -/
  | foldWindowExpiry
  /-- QUIET_PERIOD_EXPIRY (R633). A Quiet unit returns to service and one recovery is counted. -/
  | quietPeriodExpiry (unit : BitVec 24)
  /-- RECOVERY_COUNTER_AGE (R634). Returns older than 24 h leave a unit's recovery counter. -/
  | recoveryCounterAge (unit : BitVec 24)
  /-- SELF_CHECK (R640). The collector comparator's mismatch forces FLT low and starts the Sable halt. -/
  | selfCheck
  /-- FLT_PAIR_EDGE (R643). The comparator oscillator toggles the FLT pair waveform every half period. -/
  | fltPairEdge
  /-- GOOSE_SEND (R670). Every 50 µs a paired module sends a Goose on both paths. -/
  | gooseSend
  /-- GOOSE_RECEIVE (R670). A valid Goose frame updates TW_PEER and the path state. -/
  | gooseReceive (inBand : Bool) (frame : List Byte)
  /-- GOOSE_PATH_DOWN (R670). A path carries no valid Goose for 105 µs; both down means the partner is lost. -/
  | goosePathDown (inBand : Bool)
  /-- PEER_CLAIM_EDGE (R672). A rising edge on TW_CLAIM_IN closes the output gate and may be an interlock disagreement. -/
  | peerClaimEdge
  /-- GATE_OPEN (R672). The claim becomes valid with no peer edge for 20 µs and the output gate opens. -/
  | gateOpen
  /-- CLAIM_RETRY (R673). An Unpaired module's claim backoff expires and it tries to claim again. -/
  | claimRetry
  /-- EPOCH_BARRIER (R675). The active pauses Protected virtual cores, takes the cut and sends the close record. -/
  | epochBarrier
  /-- EPOCH_STRETCH (R677). Owed data above the link rate times 20 µs at the set length delays the barrier. -/
  | epochStretch
  /-- EPOCH_ACKNOWLEDGE (R678). The standby acknowledges a whole epoch and applies it. -/
  | epochAcknowledge (ep : Machine.Epoch) (whole : Bool)
  /-- EPOCH_ACK_RECEIVE (R678). The active receives an acknowledgement and releases output slots and held transactions; `resent`
  link frames were retransmitted since the last (R668, R692). -/
  | epochAckReceive (number : BitVec 48) (resent : BitVec 8)
  /-- MIRROR_COMMIT (R679). The standby writes an active Journal entry into its own Journal so it counts as committed. -/
  | mirrorCommit (msg : Machine.Mirror) (bad : Fin 4)
  /-- DIGEST_COMPARE (R681). The standby compares a port's span digest and records a mismatch. -/
  | digestCompare (port : Fin 32) (cycle : Word) (span : BitVec 16) (delta : Word)
  /-- TAKEOVER (R685). The standby becomes active from the last acknowledged epoch without firmware. -/
  | takeover (switched : Bool) (resumeUs : BitVec 16)
  /-- YIELD_REQUEST (R684). The active closes its gate, stops its claim and sends YIELD. -/
  | yieldRequest
  /-- TWIN_LINK_LOSS (R679). The twin link carries nothing for 10 µs; pending mirror commits complete locally and the pair suspends. -/
  | twinLinkLoss
  /-- TWIN_LINK_RETURN (R666). The link carries traffic again and the pair resumes when AUTO_RESUME is set. -/
  | twinLinkReturn (lanes : Fin 5)
  /-- BOOT (R717). After power-on or module reset the module runs the boot steps to READY or failure. -/
  | boot (env : Machine.BootEnv) (finds : List JrnFinding)
  /-- VAULT_INTEGRITY (R703). A Vault self-check fails and a Sable INTEGRITY fault is raised. -/
  | vaultIntegrity (err : Machine.VaultErr)
  /-- GRANULE_CHANGE (R706). The Vault moves a 2 MiB granule between worlds, recalling and zeroing it. -/
  | granuleChange (granule : BitVec 21) (secure : Bool)
  /-- RECALL_DEADLINE (R710). A recall deadline passes with the lease held and a Slate record is logged. -/
  | recallDeadline (lease : Fin 32)
  /-- DBG_AUTH_CHALLENGE (R726). A debugger reads a new debug challenge. -/
  | dbgAuthChallenge
  /-- DBG_AUTH_TOKEN (R726). A debugger writes a token that is accepted or rejected. -/
  | dbgAuthToken (token : List Byte)
  /-- IDLE_GATE (R746). An idle core enters Gate. -/
  | idleGate (core : Fin 64)
  /-- NAP_ENTRY (R746). An idle core enters Nap after NAP_IDLE_US. -/
  | napEntry (core : Fin 64)
  /-- DARK_ENTRY (R746). An idle core enters Dark after DARK_IDLE_MS. -/
  | darkEntry (core : Fin 64)
  /-- CORE_WAKE (R746). A core wakes when an entry becomes runnable. -/
  | coreWake (core : Fin 64)
  /-- TIMER_WAKE (R746). A core starts its wake at KC_TIMECMP minus its wake latency. -/
  | timerWake (core : Fin 64)
  /-- SELF_REFRESH_ENTRY (R748). An idle rank set that meets every condition enters self-refresh. -/
  | selfRefreshEntry (rank : Fin 8)
  /-- POWER_ESTIMATE (R749). Every 100 µs the module estimates power from regulator telemetry. -/
  | powerEstimate (mw : BitVec 32) (temps : List (BitVec 12)) (rails : List (BitVec 32))
  /-- THROTTLE_STEP (R749). Each ms core clocks move one 100 MHz step down or up. -/
  | throttleStep
  /-- AGEING_SAMPLE (R751). Hourly the island controller samples margin and updates the end-of-life prediction. -/
  | ageingSample (margins : List (BitVec 16))
  /-- PARK (R750). IS_ISL_CTL PARK takes an island's unit out of service and powers it off. -/
  | park (island : Fin 167)
  /-- UNPARK (R750). IS_ISL_CTL UNPARK powers an island, tests and returns its unit. -/
  | unpark (island : Fin 167) (pass : Bool)
  /-- HANDSHAKE_ERROR (R742). A crossing parity error, order error or 1 µs unanswered REQ is a detected error. -/
  | handshakeError (island : Fin 167) (unit : Fin 8)
  /-- ISLAND_CLOCK_LOSS (R742). An island loses its clock and each unit it carries reacts to CLOCK_LOST. -/
  | islandClockLoss (island : Fin 167)
  /-- TM_ADJ (R754). A write of TM_ADJ applies a correction by step or slew. -/
  | tmAdj (value : Word) (refclk : Bool)
  /-- TM_SOURCE_WRITE (R756). A write of TM_CFG.SOURCE selects the discipline and enters Locking or Free-running. -/
  | tmSourceWrite (source : BitVec 4) (refclk : Bool)
  /-- PPS_IN_EDGE (R755). A PPS_IN edge is captured and measured by the servo. -/
  | ppsInEdge (falling : Bool) (soon : Bool) (refclk : Bool)
  /-- HOLDOVER (R756). A source is missing for its timeout and the time base enters Holdover. -/
  | holdover (source : Fin 3)
  /-- OSC_FAULT (R753). The oscillator in use fails and the time base switches to the other. -/
  | oscFault
  /-- PPS_OUT (R758). PPS_OUT rises at each whole second of device time. -/
  | ppsOut
  /-- COUNTER_WRITE (R760). A write of a counter's COUNT stores the value, losing a colliding increment. -/
  | counterWrite (agent : Agent) (addr : Word) (value : Word) (edge : CountEdge)
  /-- SNAP (R763). A write of PM_CTL.SNAP takes a snapshot. -/
  | snap
  /-- PMU_SNAP_EDGE (R763). A rising edge on PMU_SNAP with PIN_EN takes a snapshot. -/
  | pmuSnapEdge
  /-- FREEZE (R763). Writing PM_CTL.FREEZE stops or resumes every PM counter on one edge. -/
  | freeze (freeze : Bool)
  /-- BANDWIDTH_WINDOW_END (R762). A bandwidth window ends and its count moves to LAST and MAX. -/
  | bandwidthWindowEnd (monitor : Fin 16)
  /-- POWER_ON (R791). RESET_N rises after VDD_STBY was low for 10 ms, clearing power-on state. -/
  | powerOn (straps : Machine.Straps)
  /-- MODULE_RESET (R794). A low pulse on RESET_N silences outputs and resets the module. -/
  | moduleReset (straps : Machine.Straps)
  /-- WARM_DEVICE_RESET (R795). A Function Level Reset restarts the management plane and channel processors. -/
  | warmDeviceReset
  /-- PWR_FAIL_N (R793). PWR_FAIL_N held low records a supply fault and may yield the active. -/
  | pwrFailN (low : Bool)
  /-- SUPPLY_FAULT (R792). A regulator fault or out-of-tolerance rail opens an Ochre record. -/
  | supplyFault (rail : Fin 11)
  /-- MP_PERST_N (R809). MP_PERST_N, Hot Reset or link loss resets only the Management Port link. -/
  | mpPerstN
  /-- ETHERNET_FRAME_RECEIVE (R811). A received frame is delivered to NET, PTP or ARP handling or discarded. -/
  | ethernetFrameReceive (port : Fin 4) (frame : List Byte) (fcsOk : Bool)
  /-- ARP_REFRESH (R812). Every 60 s each peer resolution is refreshed. -/
  | arpRefresh (channel : BitVec 10)
  /-- ETHERNET_LINK_CHANGE (R814). An Ethernet port's link goes down or up. -/
  | ethernetLinkChange (port : Fin 4) (up : Option (Fin 6 × Bool))
  /-- SWITCH (R813). Writing NT_GCL_CFG.SWITCH arms a change of gate bank. -/
  | switch (port : Fin 4)
  /-- GATE_BANK_CHANGE (R813). At the old list's cycle boundary the gate control list changes bank. -/
  | gateBankChange (port : Fin 4)
  /-- LINK_RANGE_WRITE (R822). A write of PX_LINK_BASE or PX_LINK_LIMIT is stored or rejected and logged. -/
  | linkRangeWrite (agent : Agent) (link : Fin 16) (limit : Bool) (value : Word)
  /-- MP_EVT_DROP_READ (R38). A read of MP_EVT_DROP returns and clears its count. -/
  | mpEvtDropRead (agent : Agent)
  /-- MX_LAT_MAX_READ (R221). A read of MX_LAT_MAX returns and clears the longest latencies. -/
  | mxLatMaxRead (agent : Agent)
  /-- DEPTH_MAX_READ (R346). A read of SG_LANE_STAT returns and clears DEPTH_MAX. -/
  | depthMaxRead (agent : Agent) (lane : Fin 64)
  /-- EDGE_MAX_READ (R538). A read of FR_NODE_n returns and clears EDGE_MAX_NS. -/
  | edgeMaxRead (agent : Agent) (port : Fin 32) (node : Fin 256)
  /-- UTIL_MAX_READ (R613). A read of MP_LOAD returns and clears UTIL_MAX. -/
  | utilMaxRead (agent : Agent)
  /-- MISSED_READ (R782). A read of PM_SNAP_STAT returns and clears MISSED. -/
  | missedRead (agent : Agent)
  /-- BANDWIDTH_MAX_READ (R784). A read of PM_BW_k returns and clears MAX. -/
  | bandwidthMaxRead (agent : Agent) (monitor : Fin 16)
  /-- REGISTER_WRITE (R11). A write to a register with no behaviour of its own applies the access codes of its fields. -/
  | registerWrite (target : RegTarget)
  /-- CHANNEL_TRAINING_END (R274). An inserted memory channel's power-up, SPD check and training end, and it becomes Rebuilding, joins or queues for a rebuild pass, or is Lost with cause POPULATION or TRAINING. -/
  | channelTrainingEnd (channel : Fin 10) (found : Training)
  /-- NON_REPEATABLE_RESPONSE (R136). The response to a core's non-repeatable access (a load from the instance page, a PCIe window or register space, or an AMO) arrives, is written to the issue record, and the waiting bundle commits. -/
  | nonRepeatableResponse (inst : BitVec 9) (vcore : Fin 64) (far : FarEnd)
  /-- POWER_LOSS (R447). The supply rails fall at any moment, the module stops, and a Journal entry write in progress is left as one invalid entry at the head. -/
  | powerLoss (torn : Bool)
  /-- NODE_INPUT_RESTORED (R492). A looped node's lost input has carried valid symbols for 1 ms, and the node reports RESTORED in its slot header, which lets healing start. -/
  | nodeInputRestored (port : Fin 32) (node : Fin 256)
  /-- NODE_POWER_UP (R507). A node powers up, clears its last-cycle record, holds every output in its safe action and sets RESTARTED in its first 16 slots. -/
  | nodePowerUp (port : Fin 32) (node : Fin 256)
  /-- LANE_DOWN (R668). One twin link lane fails training or retraining and is dropped, or trains again and returns, changing TW_STAT.LANES and the epoch budget of R677. -/
  | laneDown (lane : Fin 4) (up : Bool)
  deriving DecidableEq, Repr

end Sys2Proof
end

