-- ==== Sys2Proof/Machine/Aes.lean ====
section
/-! DEFINITION. AES (FIPS 197), XTS (IEEE 1619), GCM (SP 800-38D) and AES Key Wrap (SP 800-38F) over byte lists (10 R382, R387). -/

namespace Sys2Proof.Machine

/-- Multiplication by x in GF(2^8) of AES, x^8 + x^4 + x^3 + x + 1. -/
def aesX (a : Nat) : Nat := if a < 128 then 2 * a else (2 * a) ^^^ 0x11B

/-- Multiplication in GF(2^8) of AES. -/
def aesMulUpTo (a b : Nat) : Nat → Nat
  | 0 => 0
  | n + 1 => aesX (aesMulUpTo a b n) ^^^ (if b.testBit (8 - (n + 1)) then a else 0)

def aesMul (a b : Nat) : Nat := aesMulUpTo a b 8

/-- a^254, the inverse. -/
def aesInv (a : Nat) : Nat :=
  let a2 := aesMul a a
  let a4 := aesMul a2 a2
  let a8 := aesMul a4 a4
  let a16 := aesMul a8 a8
  let a32 := aesMul a16 a16
  let a64 := aesMul a32 a32
  let a128 := aesMul a64 a64
  aesMul a128 (aesMul a64 (aesMul a32 (aesMul a16 (aesMul a8 (aesMul a4 a2)))))

/-- The S-box and its inverse. -/
def rotl8 (a n : Nat) : Nat := (a * 2 ^ n) % 256 + a / 2 ^ (8 - n)
def aesSub (a : Nat) : Nat :=
  let b := aesInv a
  b ^^^ rotl8 b 1 ^^^ rotl8 b 2 ^^^ rotl8 b 3 ^^^ rotl8 b 4 ^^^ 0x63
def aesSbox : List Nat := (List.range 256).map aesSub
def aesInvSbox : List Nat := (List.range 256).map (fun v => aesSbox.findIdx (· == v))

def xorBytes (a b : List Nat) : List Nat := List.zipWith (· ^^^ ·) a b

/-- The key schedule: 4 (Nr + 1) words of 4 bytes, from a key of 16 or 32 bytes. -/
def aesWords (key : List Nat) : List (List Nat) :=
  let nk := key.length / 4
  let w0 := (List.range nk).map (fun i => (key.drop (4 * i)).take 4)
  (List.range (4 * (nk + 7) - nk)).foldl (fun ws j =>
    let i := nk + j
    let t := ws.getD (i - 1) []
    let sub := fun (l : List Nat) => l.map (fun b => aesSbox.getD b 0)
    let t := if i % nk = 0 then
        xorBytes (sub (t.drop 1 ++ t.take 1)) [(List.range (i / nk - 1)).foldl (fun r _ => aesX r) 1, 0, 0, 0]
      else if 6 < nk ∧ i % nk = 4 then sub t else t
    ws ++ [xorBytes (ws.getD (i - nk) []) t]) w0

/-- The round keys, 16 bytes each. -/
def aesKeys (key : List Nat) : List (List Nat) :=
  let ws := aesWords key
  (List.range (ws.length / 4)).map (fun r => ((ws.drop (4 * r)).take 4).flatten)

/-- ShiftRows by `k` columns per row: 1 for encryption, 3 for its inverse. -/
def aesShift (s : List Nat) (k : Nat) : List Nat :=
  (List.range 16).map (fun i => s.getD ((i / 4 + k * (i % 4)) % 4 * 4 + i % 4) 0)

/-- MixColumns with the coefficients of one row. -/
def aesMix (s : List Nat) (m : List Nat) : List Nat :=
  (List.range 16).map (fun i =>
    (List.range 4).foldl (fun a j => a ^^^ aesMul (m.getD ((j + 4 - i % 4) % 4) 0) (s.getD (i / 4 * 4 + j) 0)) 0)

/-- Encrypt and decrypt one block of 16 bytes. -/
def aesEnc (ks : List (List Nat)) (b : List Nat) : List Nat :=
  let n := ks.length - 1
  let s := (List.range (n - 1)).foldl (fun s r =>
    xorBytes (aesMix (aesShift (s.map (fun x => aesSbox.getD x 0)) 1) [2, 3, 1, 1]) (ks.getD (r + 1) [])) (xorBytes b (ks.getD 0 []))
  xorBytes (aesShift (s.map (fun x => aesSbox.getD x 0)) 1) (ks.getD n [])

def aesDec (ks : List (List Nat)) (b : List Nat) : List Nat :=
  let n := ks.length - 1
  let s := (List.range (n - 1)).foldl (fun s r =>
    aesMix (xorBytes ((aesShift s 3).map (fun x => aesInvSbox.getD x 0)) (ks.getD (n - 1 - r) [])) [14, 11, 13, 9]) (xorBytes b (ks.getD n []))
  xorBytes ((aesShift s 3).map (fun x => aesInvSbox.getD x 0)) (ks.getD 0 [])

/-! ### XTS -/

/-- The next block's tweak: multiplication by alpha, little-endian. -/
def xtsNext (t : Nat) : Nat := if t < 2 ^ 127 then 2 * t else ((2 * t) % 2 ^ 128) ^^^ 0x87

/-- One block under a tweak. -/
def xtsBlock (f : List Nat → List Nat) (t : Nat) (b : List Nat) : List Nat :=
  let tb := toBytes t 16
  xorBytes (f (xorBytes b tb)) tb

/-- A piece of a data unit from the block with tweak t, its last bytes with ciphertext stealing when it does not end on a block (R397):
the output and the tweak after it. -/
def xtsPiece (f : List Nat → List Nat) (enc : Bool) (t : Nat) (l : List Nat) : Nat → List Nat × Nat
  | 0 => ([], t)
  | fuel + 1 =>
    if l.length < 16 then ([], t)
    else if 16 < l.length ∧ l.length < 32 then
      let a := l.take 16
      let tail := l.drop 16
      let b := tail.length
      let t1 := if enc then t else xtsNext t
      let t2 := if enc then xtsNext t else t
      let cc := xtsBlock f t1 a
      (xtsBlock f t2 (tail ++ cc.drop b) ++ cc.take b, xtsNext t)
    else
      let r := xtsPiece f enc (xtsNext t) (l.drop 16) fuel
      (xtsBlock f t (l.take 16) ++ r.1, r.2)

/-! ### GCM -/

/-- A big-endian number of a byte list. -/
def beBytes (l : List Nat) : Nat := l.foldl (fun a b => a * 256 + b % 256) 0

/-- Multiplication in GF(2^128) of GCM. -/
def ghashMul (x y : Nat) : Nat :=
  ((List.range 128).foldl (fun (zv : Nat × Nat) i =>
    (if x.testBit (127 - i) then zv.1 ^^^ zv.2 else zv.1, if zv.2 % 2 = 1 then (zv.2 / 2) ^^^ (0xE1 * 2 ^ 120) else zv.2 / 2)) (0, y)).1

/-- GHASH continued over bytes, padded with zeros to whole blocks. -/
def ghash (h y : Nat) (l : List Nat) : Nat :=
  (List.range ((l.length + 15) / 16)).foldl (fun y i =>
    let b := (l.drop (16 * i)).take 16
    ghashMul (y ^^^ beBytes (b ++ List.replicate (16 - b.length) 0)) h) y

/-- The hash key and the pre-counter block (R382). -/
def gcmH (ks : List (List Nat)) : Nat := beBytes (aesEnc ks (List.replicate 16 0))
def gcmJ0 (h : Nat) (iv : List Nat) : Nat :=
  if iv.length = 12 then beBytes iv * 2 ^ 32 + 1 else ghash h (ghash h 0 iv) ((toBytes (8 * iv.length) 16).reverse)

/-- CTR mode from the counter block after `j0` at byte offset `off`, a multiple of 16. -/
def gcmCtr (ks : List (List Nat)) (j0 off : Nat) (l : List Nat) : List Nat :=
  (List.range ((l.length + 15) / 16)).flatMap (fun i =>
    let c := j0 / 2 ^ 32 * 2 ^ 32 + (j0 + 1 + off / 16 + i) % 2 ^ 32
    xorBytes ((l.drop (16 * i)).take 16) (aesEnc ks (toBytes c 16).reverse))

/-- The whole tag of 16 bytes from the GHASH over AAD and ciphertext. -/
def gcmTag (ks : List (List Nat)) (h j0 y aad len : Nat) : List Nat :=
  xorBytes (toBytes (ghash h y ((toBytes (8 * len + 8 * aad * 2 ^ 64) 16).reverse)) 16).reverse (aesEnc ks (toBytes j0 16).reverse)

/-! ### Key unwrap -/

/-- AES Key Wrap's unwrapping (SP 800-38F, KW): the key data, or `none` when the integrity check fails. -/
def kwUnwrap (kek c : List Nat) : Option (List Nat) :=
  let ks := aesKeys kek
  let n := c.length / 8 - 1
  let r0 := (List.range n).map (fun i => (c.drop (8 * (i + 1))).take 8)
  let out := (List.range (6 * n)).foldl (fun (s : List Nat × List (List Nat)) k =>
    let t := 6 * n - k
    let i := (t - 1) % n
    let b := aesDec ks (xorBytes s.1 (toBytes t 8).reverse ++ s.2.getD i [])
    (b.take 8, s.2.set i (b.drop 8))) (c.take 8, r0)
  if c.length % 8 = 0 ∧ 2 ≤ n ∧ out.1 = List.replicate 8 0xA6 then some out.2.flatten else none

end Sys2Proof.Machine
end

