-- ==== Sys2Proof/Machine/Ecdsa.lean ====
section
/-! DEFINITION. SHA-384 (FIPS 180-4) and ECDSA P-384 verification (FIPS 186-5), which 17 R702, R714 and R726 name. -/

namespace Sys2Proof.Machine

/-! ### SHA-384 -/

def shaK0 : List Nat :=
  [0x428A2F98D728AE22, 0x7137449123EF65CD, 0xB5C0FBCFEC4D3B2F, 0xE9B5DBA58189DBBC, 0x3956C25BF348B538,
   0x59F111F1B605D019, 0x923F82A4AF194F9B, 0xAB1C5ED5DA6D8118, 0xD807AA98A3030242, 0x12835B0145706FBE,
   0x243185BE4EE4B28C, 0x550C7DC3D5FFB4E2, 0x72BE5D74F27B896F, 0x80DEB1FE3B1696B1, 0x9BDC06A725C71235,
   0xC19BF174CF692694, 0xE49B69C19EF14AD2, 0xEFBE4786384F25E3, 0x0FC19DC68B8CD5B5, 0x240CA1CC77AC9C65]
def shaK1 : List Nat :=
  [0x2DE92C6F592B0275, 0x4A7484AA6EA6E483, 0x5CB0A9DCBD41FBD4, 0x76F988DA831153B5, 0x983E5152EE66DFAB,
   0xA831C66D2DB43210, 0xB00327C898FB213F, 0xBF597FC7BEEF0EE4, 0xC6E00BF33DA88FC2, 0xD5A79147930AA725,
   0x06CA6351E003826F, 0x142929670A0E6E70, 0x27B70A8546D22FFC, 0x2E1B21385C26C926, 0x4D2C6DFC5AC42AED,
   0x53380D139D95B3DF, 0x650A73548BAF63DE, 0x766A0ABB3C77B2A8, 0x81C2C92E47EDAEE6, 0x92722C851482353B]
def shaK2 : List Nat :=
  [0xA2BFE8A14CF10364, 0xA81A664BBC423001, 0xC24B8B70D0F89791, 0xC76C51A30654BE30, 0xD192E819D6EF5218,
   0xD69906245565A910, 0xF40E35855771202A, 0x106AA07032BBD1B8, 0x19A4C116B8D2D0C8, 0x1E376C085141AB53,
   0x2748774CDF8EEB99, 0x34B0BCB5E19B48A8, 0x391C0CB3C5C95A63, 0x4ED8AA4AE3418ACB, 0x5B9CCA4F7763E373,
   0x682E6FF3D6B2B8A3, 0x748F82EE5DEFB2FC, 0x78A5636F43172F60, 0x84C87814A1F0AB72, 0x8CC702081A6439EC]
def shaK3 : List Nat :=
  [0x90BEFFFA23631E28, 0xA4506CEBDE82BDE9, 0xBEF9A3F7B2C67915, 0xC67178F2E372532B, 0xCA273ECEEA26619C,
   0xD186B8C721C0C207, 0xEADA7DD6CDE0EB1E, 0xF57D4F7FEE6ED178, 0x06F067AA72176FBA, 0x0A637DC5A2C898A6,
   0x113F9804BEF90DAE, 0x1B710B35131C471B, 0x28DB77F523047D84, 0x32CAAB7B40C72493, 0x3C9EBE0A15C9BEBC,
   0x431D67C49C100D4C, 0x4CC5D4BECB3E42B6, 0x597F299CFC657E2A, 0x5FCB6FAB3AD6FAEC, 0x6C44198C4A475817]

/-- The round constants and the initial hash value. -/
def shaK : List Nat := shaK0 ++ shaK1 ++ shaK2 ++ shaK3
def shaH : List Nat :=
  [0xCBBB9D5DC1059ED8, 0x629A292A367CD507, 0x9159015A3070DD17, 0x152FECD8F70E5939,
   0x67332667FFC00B31, 0x8EB44A8768581511, 0xDB0C2E0D64F98FA7, 0x47B5481DBEFA4FA4]

def rotr64 (x n : Nat) : Nat := (x >>> n ||| x <<< (64 - n)) % 2 ^ 64

/-- The next word of a message schedule, from the last sixteen, newest first. -/
def shaNext (w : List Nat) : Nat :=
  let a := w.getD 14 0
  let b := w.getD 1 0
  (w.getD 15 0 + (rotr64 a 1 ^^^ rotr64 a 8 ^^^ a >>> 7) + w.getD 6 0 + (rotr64 b 19 ^^^ rotr64 b 61 ^^^ b >>> 6)) % 2 ^ 64

/-- The working variables of a round. -/
structure ShaVars where
  a : Nat
  b : Nat
  c : Nat
  d : Nat
  e : Nat
  f : Nat
  g : Nat
  h : Nat

def ShaVars.round (v : ShaVars) (k w : Nat) : ShaVars :=
  let t1 := v.h + (rotr64 v.e 14 ^^^ rotr64 v.e 18 ^^^ rotr64 v.e 41) + ((v.e &&& v.f) ^^^ ((2 ^ 64 - 1 - v.e) &&& v.g)) + k + w
  let t2 := (rotr64 v.a 28 ^^^ rotr64 v.a 34 ^^^ rotr64 v.a 39) + ((v.a &&& v.b) ^^^ (v.a &&& v.c) ^^^ (v.b &&& v.c))
  ⟨(t1 + t2) % 2 ^ 64, v.a, v.b, v.c, (v.d + t1) % 2 ^ 64, v.e, v.f, v.g⟩

/-- The rounds, the schedule's last sixteen words newest first. -/
def shaRounds : List Nat → List Nat → ShaVars → ShaVars
  | [], _, v => v
  | k :: ks, w, v => shaRounds ks (shaNext w :: w.take 15) (v.round k (w.getD 15 0))

/-- One block of sixteen words. -/
def shaBlock (h w : List Nat) : List Nat :=
  let g := fun (k : Nat) => h.getD k 0
  let v := shaRounds shaK w.reverse ⟨g 0, g 1, g 2, g 3, g 4, g 5, g 6, g 7⟩
  List.zipWith (fun x y => (x + y) % 2 ^ 64) h [v.a, v.b, v.c, v.d, v.e, v.f, v.g, v.h]

/-- Blocks of 128 bytes; `n` is their number. -/
def shaBlocks : Nat → List Nat → List Nat → List Nat
  | 0, _, h => h
  | n + 1, m, h => shaBlocks n (m.drop 128) (shaBlock h ((List.range 16).map (fun k => beBytes ((m.drop (8 * k)).take 8))))

/-- The SHA-384 digest of bytes, as the 384-bit number whose first byte is the most significant. -/
def sha384 (m : List Nat) : Nat :=
  let p := m ++ [0x80] ++ List.replicate ((111 + 128 - m.length % 128) % 128) 0 ++ (toBytes (8 * m.length) 16).reverse
  ((shaBlocks (p.length / 128) p shaH).take 6).foldl (fun n w => n * 2 ^ 64 + w) 0

/-! ### P-384 -/

def p384 : Nat := 2 ^ 384 - 2 ^ 128 - 2 ^ 96 + 2 ^ 32 - 1
def p384b : Nat := 0xb3312fa7e23ee7e4988e056be3f82d19181d9c6efe8141120314088f5013875ac656398d8a2ed19d2a85c8edd3ec2aef
def p384n : Nat := 0xffffffffffffffffffffffffffffffffffffffffffffffffc7634d81f4372ddf581a0db248b0a77aecec196accc52973
def p384G : Nat × Nat :=
  (0xaa87ca22be8b05378eb1c71ef320ad746e1d3b628ba79b9859f741e082542a385502f25dbf55296c3a545e3872760ab7,
   0x3617de4a96262c6f5d9e98bf9292dc29f8f41dbd289a147ce9da3113b5f0b8c00a60b1ce1d7e819d7a431d7c90ea0e5f)

/-- a to the power e modulo m; `k` bounds the bits of e. -/
def powMod (m : Nat) : Nat → Nat → Nat → Nat
  | 0, _, _ => 1
  | k + 1, a, e => let r := powMod m k (a * a % m) (e / 2); if e % 2 = 1 then a * r % m else r

/-- The inverse modulo a 384-bit prime. -/
def invMod (m a : Nat) : Nat := powMod m 384 (a % m) (m - 2)

/-- The sum of two points; `none` is the point at infinity. -/
def ecAdd (a b : Option (Nat × Nat)) : Option (Nat × Nat) :=
  match a, b with
  | none, q => q
  | q, none => q
  | some (x1, y1), some (x2, y2) =>
    let q := p384
    if x1 = x2 ∧ (y1 + y2) % q = 0 then none
    else
      let l := if x1 = x2 then (3 * x1 * x1 + (q - 3)) * invMod q (2 * y1) % q else (y2 + q - y1) * invMod q (x2 + q - x1) % q
      let x := (l * l + 2 * q - x1 - x2) % q
      some (x, (l * (x1 + q - x) + q - y1) % q)

/-- k times a point; `n` bounds the bits of k. -/
def ecMul : Nat → Nat → Option (Nat × Nat) → Option (Nat × Nat)
  | 0, _, _ => none
  | n + 1, k, a => let r := ecMul n (k / 2) (ecAdd a a); if k % 2 = 1 then ecAdd a r else r

/-- Whether a signature (r, s) by public key (x, y) verifies over a digest. -/
def ecdsaOk (x y r s digest : Nat) : Bool :=
  let q := p384
  let n := p384n
  if x < q ∧ y < q ∧ y * y % q = (x * x * x + (q - 3) * x + p384b) % q ∧ 0 < r ∧ r < n ∧ 0 < s ∧ s < n then
    let w := invMod n s
    match ecAdd (ecMul 384 (digest * w % n) (some p384G)) (ecMul 384 (r * w % n) (some (x, y))) with
    | some (vx, _) => vx % n == r
    | none => false
  else false

end Sys2Proof.Machine
end

