-- ==== Sys2Proof/Machine/StMp.lean ====
section
/-! DEFINITION. State of the command front end and Sheepdog (14) beside the MP registers. -/

namespace Sys2Proof.Machine

/-- A long operation's table entry (R594): its progress format, PROGRESS and TOTAL, those of its last reply and when that was written,
whether OP_CANCEL asked it to stop, and the operation's own position. -/
structure LongOp where
  pfmt : Nat
  pos : Nat
  total : Nat
  repPos : Nat
  repAt : Nat
  cancel : Bool
  items : List Nat
  deriving DecidableEq, Repr

/-- An open command (R584, R589): its source (0 the Operator Host, 1 + i instance i, 600 the Vault firmware), slot, header, payload,
admission order and time, replies so far, and where it stands: 0 waiting in its slot for an entry, 1 admitted, 2 started, 3 a long
operation under way. `entry`: it holds a global queue entry; `slotHeld`: its slot is not free yet. -/
structure Cmd where
  src : Nat
  slot : Nat
  op : Nat
  tag : Nat
  inst : Nat
  gen : Nat
  notify : Bool
  ps : List Nat
  pay : List Nat
  reply : Nat
  seq : Nat
  time : Nat
  promoted : Bool
  count : Nat
  phase : Nat
  entry : Bool
  slotHeld : Bool
  lop : LongOp
  deriving DecidableEq, Repr

/-- A segmented command being assembled (R596): its first packet's command, packets received, and when the last came. -/
structure Asm where
  cmd : Cmd
  packets : Nat
  last : Nat
  deriving DecidableEq, Repr

/-- The front end and Sheepdog. -/
structure MpSt where
  /-- The host slots in BAR2 (R581). -/
  bar2 : List Host.Cell
  /-- Open commands in order of admission. -/
  cmds : List Cmd
  asms : List Asm
  seq : Nat
  /-- BUSY replies: source and time (R598). -/
  busy : List (Nat × Nat)
  /-- Consecutive measurements above SHED, and below LOW (R597). -/
  high : Nat
  low : Nat
  /-- Times of the restarts of the last 24 h (R612). -/
  restarts : List Nat
  /-- The Management Port's configuration (19 R808): Bus Master Enable, MSI-X Enable and Function Mask. -/
  busMaster : Bool
  msixEn : Bool
  msixMask : Bool
  /-- The MSI-X table in BAR4 by vector, 16 bytes as a number, as far as it differs from its reset value; and the vectors whose pending bit is set, rising. -/
  msix : Map Nat
  msixPend : List Nat
  deriving DecidableEq, Repr

end Sys2Proof.Machine
end

