-- ==== Sys2Proof/Machine/Opcodes.lean ====
section
/-! DEFINITION. The opcode tables of the command packets (14 R602-R609). -/

namespace Sys2Proof.Machine

/-- One opcode's line: class (0 Urgent, 1 Normal, 2 Bulk), senders H, I, X, whether it has a subject, accepts a segmented payload, is a long
operation (R594), is a Prefix command, and the parameter bits P0 to P7 that its table names. -/
structure OpInfo where
  cls : Nat
  h : Bool
  i : Bool
  x : Bool
  subj : Bool
  seg : Bool := false
  long : Bool := false
  pre : Bool := false
  masks : List Nat := []

def mAll : Nat := 0xFFFFFFFF

/-- The opcode tables; `none` for a reserved opcode. -/
def opInfo (op : Nat) : Option OpInfo :=
  match op with
  | 0x0000 => some { cls := 1, h := true, i := true, x := true, subj := false }
  | 0x0001 => some { cls := 1, h := true, i := true, x := true, subj := false, masks := [mAll, 0xFF01] }
  | 0x0002 => some { cls := 1, h := true, i := true, x := true, subj := false, masks := [mAll] }
  | 0x0101 => some { cls := 1, h := true, i := false, x := true, subj := true, masks := [0x7F7FFF37, 0x3FFFFFFF, mAll, mAll, 0x1F] }
  | 0x0102 => some { cls := 1, h := true, i := false, x := true, subj := true, masks := [mAll, mAll, mAll, mAll] }
  | 0x0103 => some { cls := 1, h := true, i := true, x := true, subj := true, long := true, masks := [1, mAll, mAll, mAll, mAll] }
  | 0x0104 => some { cls := 1, h := true, i := false, x := true, subj := true, long := true, masks := [0xFFFF] }
  | 0x0105 => some { cls := 2, h := true, i := false, x := false, subj := true, long := true, masks := [0x1F, mAll, mAll, mAll, mAll] }
  | 0x0106 => some { cls := 2, h := true, i := false, x := false, subj := true, long := true, masks := [0x1F, mAll, mAll, mAll, mAll] }
  | 0x0107 => some { cls := 1, h := true, i := false, x := true, subj := true, long := true }
  | 0x0108 => some { cls := 1, h := true, i := false, x := true, subj := true, masks := [mAll, mAll, mAll, mAll, mAll, mAll, 0x3F] }
  | 0x0109 => some { cls := 1, h := true, i := false, x := true, subj := true, masks := [mAll, mAll, mAll, mAll] }
  | 0x010A => some { cls := 1, h := true, i := true, x := true, subj := true, masks := [mAll, mAll, mAll] }
  | 0x0201 => some { cls := 1, h := true, i := true, x := false, subj := true, masks := [0xFF, mAll] }
  | 0x0202 => some { cls := 1, h := true, i := true, x := false, subj := false, masks := [0xFF, 0x3F] }
  | 0x0301 => some { cls := 1, h := true, i := false, x := false, subj := false }
  | 0x0302 => some { cls := 1, h := true, i := false, x := false, subj := false, long := true, masks := [0x3FF] }
  | 0x0303 => some { cls := 1, h := true, i := true, x := false, subj := false, masks := [0x3FF, mAll, mAll] }
  | 0x0304 => some { cls := 1, h := true, i := true, x := false, subj := false, masks := [mAll, mAll] }
  | 0x0305 => some { cls := 1, h := true, i := true, x := false, subj := false, masks := [mAll, mAll] }
  | 0x0306 => some { cls := 2, h := true, i := false, x := false, subj := false, long := true, masks := [mAll, mAll, mAll, mAll] }
  | 0x0307 => some { cls := 1, h := true, i := false, x := false, subj := false, masks := [mAll, mAll] }
  | 0x0308 => some { cls := 1, h := true, i := false, x := false, subj := false, long := true }
  | 0x0310 => some { cls := 2, h := true, i := false, x := false, subj := false, long := true, masks := [0x11F, mAll, mAll, mAll] }
  | 0x0401 => some { cls := 1, h := true, i := false, x := false, subj := false, seg := true, long := true }
  | 0x0402 => some { cls := 1, h := true, i := false, x := false, subj := true, masks := [3, 0x1FFFFF, mAll, mAll, mAll] }
  | 0x0403 => some { cls := 1, h := true, i := false, x := false, subj := true, masks := [3, mAll, mAll] }
  | 0x0404 => some { cls := 1, h := true, i := false, x := false, subj := false, masks := [0x1FFFFF, mAll, mAll] }
  | 0x0410 => some { cls := 1, h := true, i := true, x := false, subj := true, pre := true, masks := [0xF, 0x1FFFFF, mAll] }
  | 0x0411 => some { cls := 1, h := true, i := true, x := false, subj := true, pre := true, masks := [0xF, 0x1FFFFF, mAll] }
  | 0x0420 => some { cls := 2, h := true, i := false, x := false, subj := false, long := true, masks := [0x1FFFFF, mAll] }
  | 0x0430 => some { cls := 1, h := true, i := false, x := false, subj := false, masks := [0xFFF] }
  | 0x0501 => some { cls := 1, h := true, i := false, x := true, subj := true, masks := [0xFFF] }
  | 0x0502 => some { cls := 1, h := true, i := false, x := true, subj := false, long := true, masks := [0x10FFF, mAll, mAll, mAll, mAll, 0x1FFFFFF] }
  | 0x0503 => some { cls := 1, h := true, i := false, x := true, subj := false, masks := [0xFFF] }
  | 0x0510 => some { cls := 0, h := false, i := false, x := true, subj := false, masks := [0xFF, mAll, mAll] }
  | 0x0511 => some { cls := 0, h := false, i := false, x := true, subj := false, masks := [mAll] }
  | 0x0701 => some { cls := 0, h := true, i := false, x := false, subj := false, masks := [0x11FFF, mAll, mAll, mAll] }
  | 0x0702 => some { cls := 0, h := true, i := false, x := false, subj := false, masks := [mAll, mAll] }
  | 0x0710 => some { cls := 1, h := true, i := false, x := false, subj := false, masks := [0xFF, mAll, mAll, mAll] }
  | 0x0711 => some { cls := 2, h := true, i := false, x := false, subj := false, long := true, masks := [0xFF, mAll] }
  | 0x0801 => some { cls := 1, h := true, i := false, x := false, subj := false }
  | 0x0901 => some { cls := 0, h := true, i := false, x := false, subj := false, masks := [3, mAll] }
  | 0x0902 => some { cls := 0, h := true, i := false, x := false, subj := false }
  | 0x0A01 => some { cls := 2, h := true, i := false, x := false, subj := false, long := true, masks := [0xF, mAll, mAll, mAll] }
  | _ => none

/-- The opcodes accepted on a standby (R588). -/
def standbyOps : List Nat :=
  [0x0000, 0x0001, 0x0002, 0x010A, 0x0202, 0x0303, 0x0304, 0x0404, 0x0701, 0x0702, 0x0710, 0x0711, 0x0801, 0x0901, 0x0902, 0x0A01]

/-- The opcodes accepted while the module holds a Sable fault (R586). -/
def sableOps : List Nat := [0x0000, 0x0001, 0x0701, 0x0710]

/-- Whether the opcode has a subject instance (R585; POWER_QUERY has one for KIND 0x01, R605). -/
def hasSubj (op : Nat) (ps : List Nat) : Bool :=
  match opInfo op with
  | some o => o.subj || (op == 0x0202 && ps.getD 0 0 == 1)
  | none => false

/-- Whether the parameters hold only named bits (R602). -/
def paramsNamed (o : OpInfo) (ps : List Nat) : Bool :=
  (List.range 8).all (fun k => ps.getD k 0 &&& (mAll - o.masks.getD k 0) == 0)

/-- A 64-bit parameter Pa:Pb. -/
def Cmd.p64 (c : Cmd) (k : Nat) : Nat := c.ps.getD k 0 + c.ps.getD (k + 1) 0 * 2 ^ 32
def Cmd.p (c : Cmd) (k : Nat) : Nat := c.ps.getD k 0

/-- The status codes (R593). -/
def stOK : Nat := 0
def stACCEPTED : Nat := 1
def stBUSY : Nat := 2
def stLEASED : Nat := 3
def stDENIED : Nat := 4
def stBAD_OPCODE : Nat := 5
def stBAD_PARAM : Nat := 6
def stNO_RESOURCE : Nat := 7
def stABORTED : Nat := 8
def stIN_PROGRESS : Nat := 9
def stCANCELLED : Nat := 0xA
def stSTALE : Nat := 0xB
def stSTANDBY : Nat := 0xC
def stFAULTED : Nat := 0xD

/-- The objects a command names (R590), as (kind, first, last): 0 instances, 1 channels, 2 Signal IDs, 3 tables, 4 key slots, 5 ports,
6 output slot pages, 7 leases. -/
def Cmd.objects (c : Cmd) : List (Nat × Nat × Nat) :=
  let subj := match opInfo c.op with | some o => if o.subj then [(0, c.inst, c.inst)] else [] | none => []
  let rng := fun (k a n : Nat) => if n = 0 then [] else [(k, a, a + n - 1)]
  subj ++
  match c.op with
  | 0x0202 => if c.p 0 = 1 then [(0, c.inst, c.inst)] else []
  | 0x0301 => [(1, ofBytes (c.pay.take 2) % 1024, ofBytes (c.pay.take 2) % 1024)]
  | 0x0302 => rng 1 (c.p 0) 1
  | 0x0303 => rng 1 (c.p 0) 1
  | 0x0310 => rng 5 (c.p 0 % 32) 1
  | 0x0401 => (List.range (c.pay.length / 40)).map (fun k => let i := ofBytes ((c.pay.drop (40 * k)).take 4); (2, i, i))
  | 0x0402 => if c.p 0 = 2 then [] else rng 2 (c.p 1) (c.p 2)
  | 0x0403 => if c.p 0 = 2 then rng 6 (c.p 1) 1 else rng 2 (c.p 1) (c.p 2)
  | 0x0404 => rng 2 (c.p 0) 1
  | 0x0410 => if c.p 0 % 2 = 1 then rng 5 (c.p 1) 1 else rng 2 (c.p 1) (c.p 2)
  | 0x0411 => if c.p 0 % 2 = 1 then rng 5 (c.p 1) 1 else rng 2 (c.p 1) (c.p 2)
  | 0x0420 => rng 2 (c.p 0) (c.p 1)
  | 0x0430 => rng 3 (c.p 0) 1
  | 0x0501 => rng 4 (c.p 0) 1
  | 0x0502 => rng 4 (c.p 0 % 4096) 1
  | 0x0503 => rng 4 (c.p 0) 1
  | 0x0510 => if c.p 0 = 1 then (List.range (c.pay.length / 2)).map (fun k => let i := ofBytes ((c.pay.drop (2 * k)).take 2); (4, i, i)) else []
  | 0x0511 => rng 7 (c.p 0) 1
  | _ => []

/-- Whether a command does not wait for an object because its home chapter states another outcome (R590; 13 R545, 10 R393). -/
def Cmd.waivesObj (c : Cmd) (kind : Nat) : Bool :=
  (kind == 0 && decide (0x0101 ≤ c.op) && decide (c.op ≤ 0x0109)) || (kind == 4 && c.op == 0x0502)

/-- Whether command c must wait for an earlier started command d (R590). -/
def Cmd.blockedBy (c d : Cmd) : Bool :=
  c.objects.any (fun a => !c.waivesObj a.1 && d.objects.any (fun b => a.1 == b.1 && decide (a.2.1 ≤ b.2.2) && decide (b.2.1 ≤ a.2.2)))

end Sys2Proof.Machine
end

