-- ==== Sys2Proof/Config.lean ====
section
/-! DEFINITION. The free values: constants with no body, of which nothing can be proved. -/

namespace Sys2Proof

/-- A value the spec leaves open (00 R6, R14, R16): the n-th such value taken in a run, at width w.
The counter is `State.freeCtr`. DESIGN CHOICE (log 3), safe: a proof holds for every value. -/
opaque Config.freeValue : (w : Nat) → Nat → BitVec w

/-- The DEFLATE compressor's choice of matches and codes (09 R361), which the spec leaves open: the bits of one block of a stream,
from the level, the source so far (newest first, at most 32,768 bytes), the block's source, and whether it is the last. The model takes
it only where it is a valid block of that source (log 3), safe. -/
opaque Config.deflateBlock : (level : Nat) → (window block : List Nat) → (last : Bool) → List Bool

/-- The Vault's fused key-encryption keys (17 R704): secret, different in every module (log 2), safe. -/
opaque Config.kek : Nat → BitVec 256

/-- The other fuses of 17 R704 that no register shows: the image key; the hashes of the signing keys; those of the debug keys (true: Olinel's) and the
highest level each permits (log 2), safe. -/
opaque Config.imageKey : BitVec 256
opaque Config.signHash : Nat → BitVec 384
opaque Config.debugHash : Bool → BitVec 384
opaque Config.debugMax : Bool → BitVec 2

/-- The micro-sequencer's ROM (04 R162, R163), whose words the spec does not print: microwords and nano-words by address, the entry microword of each
microcoded instruction, and what the datapath controls of a nano-word load into the loop counter, if they do (log 61), safe. -/
opaque Config.microRom : Nat → BitVec 20
opaque Config.nanoRom : Nat → BitVec 192
opaque Config.microEntry : Nat → BitVec 14
opaque Config.loopLoad : BitVec 192 → Option Nat

/-- What a patch payload holds (17 R712: the patch store, the nano patch area and the redirect table of 04 R162), whose layout within the payload the spec leaves
to Olinel: the microword and the nano-word at an address, and a redirect entry as valid at bit 25, ROM address at [24:11], patch address at [10:0] (log 61), safe. -/
opaque Config.patchWord : List (BitVec 8) → Nat → BitVec 20
opaque Config.patchNano : List (BitVec 8) → Nat → BitVec 192
opaque Config.redirect : List (BitVec 8) → Nat → BitVec 26

end Sys2Proof
end

