-- ==== Sys2Proof/Machine/Regs.lean ====
section
/-! DEFINITION. The registers of device register space, of the instance pages and of BAR2 (00 R10-R14, 01 R28, R33, 14 R581):
each register's address, its instances, and its fields with access code, reset value and assigned encodings. -/

namespace Sys2Proof.Machine

/-- The access codes of R11; `rwEn0` is "RW while EN = 0". Reserved bits have no entry (R12). -/
inductive Acc where
  | rw | ro | wo | w1c | w1s | rc | rwEn0
  deriving DecidableEq, Repr

/-- A field's reset value (R14): a number, or one that depends on the register's index. -/
inductive Rst where
  | k (n : Nat)
  | idx
  | idxMod (m : Nat)
  | ge (m : Nat)
  | islandKind
  | islandFixed
  | pointUnit
  deriving DecidableEq, Repr

/-- One field `[hi:lo]`; `ok` lists the assigned encodings as ranges, empty for every encoding (R13). -/
structure Fld where
  hi : Nat
  lo : Nat
  acc : Acc
  rst : Rst
  ok : List (Nat × Nat)
  deriving DecidableEq, Repr

/-- One register or register array: the address of instance 0, (stride, count) outermost first, the fields. -/
structure Reg where
  base : Nat
  dims : List (Nat × Nat)
  flds : List Fld
  deriving DecidableEq, Repr

/-- A named field of a register. -/
structure RF where
  reg : Reg
  hi : Nat
  lo : Nat
  deriving DecidableEq, Repr

/-- VT_STAT (R731). -/
def rVT_STAT : Reg := ⟨0x7f1000000000, [], [⟨63, 62, .ro, .k 1, []⟩,
  ⟨61, 61, .ro, .k 1, []⟩,
  ⟨60, 60, .ro, .k 0, []⟩,
  ⟨59, 59, .ro, .k 0, []⟩,
  ⟨47, 32, .ro, .k 0, []⟩,
  ⟨31, 16, .ro, .k 0, []⟩,
  ⟨15, 0, .ro, .k 0, []⟩]⟩

/-- VT_BOOT (R732). -/
def rVT_BOOT : Reg := ⟨0x7f1000000008, [], [⟨63, 60, .ro, .k 0, []⟩,
  ⟨59, 56, .ro, .k 0, []⟩,
  ⟨55, 48, .ro, .k 0, []⟩,
  ⟨47, 47, .ro, .k 0, []⟩,
  ⟨46, 46, .ro, .k 0, []⟩,
  ⟨45, 44, .ro, .k 0, []⟩,
  ⟨31, 0, .ro, .k 0, []⟩]⟩

/-- VT_UID_LO (R733). -/
def rVT_UID_LO : Reg := ⟨0x7f1000000010, [], [⟨63, 0, .ro, .k 0, []⟩]⟩

/-- VT_UID_HI (R733). -/
def rVT_UID_HI : Reg := ⟨0x7f1000000018, [], [⟨63, 0, .ro, .k 0, []⟩]⟩

/-- VT_SVN (R734). -/
def rVT_SVN : Reg := ⟨0x7f1000000020, [], [⟨63, 56, .ro, .k 0, []⟩,
  ⟨55, 48, .ro, .k 0, []⟩,
  ⟨47, 40, .ro, .k 0, []⟩,
  ⟨39, 32, .ro, .k 0, []⟩]⟩

/-- VT_KEYS (R735). DESIGN CHOICE (log 2): the spec leaves the fused KEK_PRESENT and SIGN_PRESENT to the part; here every key-encryption key
and signing key 0 are provisioned, and no other. -/
def rVT_KEYS : Reg := ⟨0x7f1000000028, [], [⟨63, 60, .ro, .k 1, []⟩,
  ⟨59, 56, .ro, .k 0, []⟩,
  ⟨55, 54, .ro, .k 0, []⟩,
  ⟨53, 52, .ro, .k 0, []⟩,
  ⟨51, 51, .ro, .k 0, []⟩,
  ⟨50, 50, .ro, .k 0, []⟩,
  ⟨15, 0, .ro, .k 0xFFFF, []⟩]⟩

/-- VT_STAGE (R736). -/
def rVT_STAGE : Reg := ⟨0x7f1000000030, [], [⟨63, 63, .ro, .k 0, []⟩,
  ⟨62, 62, .ro, .k 0, []⟩,
  ⟨61, 60, .ro, .k 0, []⟩,
  ⟨59, 56, .ro, .k 0, []⟩,
  ⟨47, 47, .ro, .k 0, []⟩,
  ⟨31, 0, .ro, .k 0, []⟩]⟩

/-- VT_DEBUG (R737). -/
def rVT_DEBUG : Reg := ⟨0x7f1000000038, [], [⟨63, 60, .ro, .k 0, []⟩,
  ⟨59, 59, .ro, .k 0, []⟩,
  ⟨58, 56, .ro, .k 0, []⟩,
  ⟨55, 55, .ro, .k 0, []⟩,
  ⟨15, 0, .ro, .k 0, []⟩]⟩

/-- VT_LEASE (R738). -/
def rVT_LEASE : Reg := ⟨0x7f1000000040, [], [⟨63, 63, .ro, .k 0, []⟩,
  ⟨53, 48, .ro, .k 0, []⟩,
  ⟨47, 44, .ro, .k 0, []⟩,
  ⟨39, 29, .ro, .k 0, []⟩,
  ⟨12, 0, .ro, .k 0, []⟩]⟩

/-- VT_SECMEM (R739). -/
def rVT_SECMEM : Reg := ⟨0x7f1000000048, [], [⟨21, 0, .ro, .k 0, []⟩]⟩

/-- MP_STAT (R612). -/
def rMP_STAT : Reg := ⟨0x7f1000100000, [], [⟨63, 60, .ro, .k 0, []⟩,
  ⟨59, 56, .ro, .k 0, []⟩,
  ⟨55, 48, .ro, .k 0, []⟩,
  ⟨45, 40, .ro, .k 0, []⟩,
  ⟨35, 32, .ro, .k 0, []⟩,
  ⟨31, 16, .ro, .k 0, []⟩]⟩

/-- MP_LOAD (R613). -/
def rMP_LOAD : Reg := ⟨0x7f1000100008, [], [⟨63, 62, .ro, .k 0, []⟩,
  ⟨55, 48, .ro, .k 0, []⟩,
  ⟨47, 40, .rc, .k 0, []⟩]⟩

/-- MP_CMD_CFG (R614). -/
def rMP_CMD_CFG : Reg := ⟨0x7f1000100010, [], [⟨63, 48, .rw, .k 500, [(1, 65535)]⟩,
  ⟨47, 40, .rw, .k 85, [(50, 95)]⟩,
  ⟨39, 32, .rw, .k 70, []⟩,
  ⟨31, 24, .rw, .k 20, [(5, 100)]⟩,
  ⟨15, 0, .rw, .k 100, [(10, 10000)]⟩]⟩

/-- MP_QUEUE (R615). -/
def rMP_QUEUE : Reg := ⟨0x7f1000100018, [], [⟨59, 48, .ro, .k 0, []⟩,
  ⟨43, 32, .ro, .k 0, []⟩,
  ⟨27, 16, .ro, .k 0, []⟩,
  ⟨11, 0, .ro, .k 0, []⟩]⟩

/-- MP_CMD_CNT. -/
def rMP_CMD_CNT : Reg := ⟨0x7f1000100040, [], [⟨49, 49, .w1c, .k 0, []⟩,
  ⟨48, 48, .w1c, .k 0, []⟩,
  ⟨47, 0, .rw, .k 0, []⟩]⟩

/-- MP_BUSY_CNT. -/
def rMP_BUSY_CNT : Reg := ⟨0x7f1000100048, [], [⟨49, 49, .w1c, .k 0, []⟩,
  ⟨48, 48, .w1c, .k 0, []⟩,
  ⟨47, 0, .rw, .k 0, []⟩]⟩

/-- MP_DISCARD_CNT. -/
def rMP_DISCARD_CNT : Reg := ⟨0x7f1000100050, [], [⟨49, 49, .w1c, .k 0, []⟩,
  ⟨48, 48, .w1c, .k 0, []⟩,
  ⟨47, 0, .rw, .k 0, []⟩]⟩

/-- MP_ABORT_CNT. -/
def rMP_ABORT_CNT : Reg := ⟨0x7f1000100058, [], [⟨49, 49, .w1c, .k 0, []⟩,
  ⟨48, 48, .w1c, .k 0, []⟩,
  ⟨47, 0, .rw, .k 0, []⟩]⟩

/-- MP_RESTART_CNT. -/
def rMP_RESTART_CNT : Reg := ⟨0x7f1000100060, [], [⟨49, 49, .w1c, .k 0, []⟩,
  ⟨48, 48, .w1c, .k 0, []⟩,
  ⟨47, 0, .rw, .k 0, []⟩]⟩

/-- MP_EVT_DROP (R38). -/
def rMP_EVT_DROP : Reg := ⟨0x7f1000107f00, [], [⟨47, 0, .rc, .k 0, []⟩]⟩

/-- MP_EVT_ROUTE (R35). -/
def rMP_EVT_ROUTE : Reg := ⟨0x7f1000108000, [(8, 1024)], [⟨63, 63, .rw, .k 0, []⟩,
  ⟨58, 48, .rw, .k 0, []⟩,
  ⟨47, 47, .rw, .k 0, []⟩,
  ⟨40, 32, .rw, .k 0, []⟩,
  ⟨0, 0, .ro, .ge 0x3F0, []⟩]⟩

/-- FC_CFG (R656). -/
def rFC_CFG : Reg := ⟨0x7f1000200000, [], [⟨57, 56, .rw, .k 2, []⟩,
  ⟨53, 32, .rw, .k 10000, [(1, 3600000)]⟩,
  ⟨31, 24, .rw, .k 8, [(1, 255)]⟩,
  ⟨15, 0, .rw, .k 100, [(10, 10000)]⟩]⟩

/-- FC_STAT (R657). -/
def rFC_STAT : Reg := ⟨0x7f1000200008, [], [⟨63, 63, .ro, .k 0, []⟩,
  ⟨62, 62, .ro, .k 1, []⟩,
  ⟨61, 61, .ro, .k 0, []⟩,
  ⟨60, 60, .ro, .k 0, []⟩,
  ⟨59, 59, .ro, .k 0, []⟩,
  ⟨56, 48, .ro, .k 0, []⟩,
  ⟨39, 26, .ro, .k 0, []⟩,
  ⟨25, 25, .w1c, .k 0, []⟩,
  ⟨24, 23, .ro, .k 0, []⟩]⟩

/-- FC_UNCLEARED (R658). -/
def rFC_UNCLEARED : Reg := ⟨0x7f1000200010, [], [⟨63, 48, .ro, .k 0, []⟩,
  ⟨47, 32, .ro, .k 0, []⟩,
  ⟨31, 16, .ro, .k 0, []⟩,
  ⟨15, 0, .ro, .k 0, []⟩]⟩

/-- FC_LOG (R659). -/
def rFC_LOG : Reg := ⟨0x7f1000200018, [], [⟨31, 0, .ro, .k 0, []⟩]⟩

/-- FC_FJ (R659). -/
def rFC_FJ : Reg := ⟨0x7f1000200020, [], [⟨63, 48, .ro, .k 0, []⟩,
  ⟨12, 12, .ro, .k 0, []⟩,
  ⟨11, 0, .ro, .k 0, []⟩]⟩

/-- FC_TEST (R660). -/
def rFC_TEST : Reg := ⟨0x7f1000200028, [], [⟨63, 63, .ro, .k 0, []⟩,
  ⟨57, 56, .ro, .k 0, []⟩,
  ⟨55, 48, .ro, .k 0, []⟩,
  ⟨47, 40, .ro, .k 0, []⟩,
  ⟨15, 0, .ro, .k 0, []⟩]⟩

/-- FC_UNIT_SEL (R661). -/
def rFC_UNIT_SEL : Reg := ⟨0x7f1000200040, [], [⟨23, 0, .rw, .k 0, []⟩]⟩

/-- FC_UNIT_STAT (R661). -/
def rFC_UNIT_STAT : Reg := ⟨0x7f1000200048, [], [⟨63, 60, .ro, .k 4, []⟩,
  ⟨57, 56, .ro, .k 0, []⟩,
  ⟨55, 48, .ro, .k 0, []⟩,
  ⟨43, 22, .ro, .k 0, []⟩,
  ⟨15, 0, .ro, .k 0, []⟩]⟩

/-- FC_REPORT_CNT. -/
def rFC_REPORT_CNT : Reg := ⟨0x7f1000200080, [], [⟨49, 49, .w1c, .k 0, []⟩,
  ⟨48, 48, .w1c, .k 0, []⟩,
  ⟨47, 0, .rw, .k 0, []⟩]⟩

/-- FC_RECORD_CNT. -/
def rFC_RECORD_CNT : Reg := ⟨0x7f1000200088, [], [⟨49, 49, .w1c, .k 0, []⟩,
  ⟨48, 48, .w1c, .k 0, []⟩,
  ⟨47, 0, .rw, .k 0, []⟩]⟩

/-- FC_LOST_CNT. -/
def rFC_LOST_CNT : Reg := ⟨0x7f1000200090, [], [⟨49, 49, .w1c, .k 0, []⟩,
  ⟨48, 48, .w1c, .k 0, []⟩,
  ⟨47, 0, .rw, .k 0, []⟩]⟩

/-- FC_PATH_CNT. -/
def rFC_PATH_CNT : Reg := ⟨0x7f1000200098, [], [⟨49, 49, .w1c, .k 0, []⟩,
  ⟨48, 48, .w1c, .k 0, []⟩,
  ⟨47, 0, .rw, .k 0, []⟩]⟩

/-- FC_PT (R662). -/
def rFC_PT : Reg := ⟨0x7f1000204000, [(8, 2048)], [⟨63, 62, .ro, .k 0, []⟩,
  ⟨47, 32, .ro, .k 0, []⟩,
  ⟨23, 0, .ro, .pointUnit, []⟩]⟩

/-- TN_CFG (R574). -/
def rTN_CFG : Reg := ⟨0x7f1000300000, [], [⟨7, 0, .rw, .k 16, [(1, 255)]⟩]⟩

/-- TN_STAT (R574). -/
def rTN_STAT : Reg := ⟨0x7f1000300008, [], [⟨41, 32, .ro, .k 0, []⟩,
  ⟨9, 0, .ro, .k 0, []⟩]⟩

/-- TN_OP (R575). -/
def rTN_OP : Reg := ⟨0x7f1000300010, [], [⟨63, 63, .ro, .k 0, []⟩,
  ⟨62, 61, .ro, .k 0, []⟩,
  ⟨60, 52, .ro, .k 0, []⟩]⟩

/-- TN_OP_POS (R575). -/
def rTN_OP_POS : Reg := ⟨0x7f1000300018, [], [⟨63, 32, .ro, .k 0, []⟩,
  ⟨31, 0, .ro, .k 0, []⟩]⟩

/-- TN_MBX_SEL (R576). -/
def rTN_MBX_SEL : Reg := ⟨0x7f1000300040, [], [⟨8, 0, .rw, .k 0, []⟩]⟩

/-- TN_MBX_CTL (R576). -/
def rTN_MBX_CTL : Reg := ⟨0x7f1000300048, [], [⟨63, 63, .wo, .k 0, []⟩,
  ⟨62, 62, .wo, .k 0, []⟩,
  ⟨61, 61, .w1c, .k 0, []⟩,
  ⟨44, 32, .wo, .k 0, []⟩,
  ⟨31, 16, .ro, .k 0, []⟩,
  ⟨15, 0, .ro, .k 0, []⟩]⟩

/-- TN_MBX_PEND (R576). -/
def rTN_MBX_PEND : Reg := ⟨0x7f1000300080, [(8, 8)], [⟨63, 0, .ro, .k 0, []⟩]⟩

/-- TN_INST (R577). -/
def rTN_INST : Reg := ⟨0x7f1000301000, [(8, 512)], [⟨63, 60, .ro, .k 0, []⟩,
  ⟨59, 59, .ro, .k 0, []⟩,
  ⟨58, 58, .ro, .k 0, []⟩,
  ⟨57, 56, .rw, .k 0, [(0, 2)]⟩,
  ⟨55, 48, .rw, .k 0, [(1, 255)]⟩,
  ⟨47, 41, .ro, .k 0, []⟩,
  ⟨40, 34, .ro, .k 0, []⟩,
  ⟨33, 33, .ro, .k 0, []⟩,
  ⟨31, 25, .ro, .k 0, []⟩,
  ⟨20, 9, .ro, .k 0, []⟩]⟩

/-- TN_STALE. -/
def rTN_STALE : Reg := ⟨0x7f1000302000, [(8, 512)], [⟨49, 49, .w1c, .k 0, []⟩,
  ⟨48, 48, .w1c, .k 0, []⟩,
  ⟨47, 0, .rw, .k 0, []⟩]⟩

/-- TN_EQ_DROP. -/
def rTN_EQ_DROP : Reg := ⟨0x7f1000303000, [(8, 512)], [⟨49, 49, .w1c, .k 0, []⟩,
  ⟨48, 48, .w1c, .k 0, []⟩,
  ⟨47, 0, .rw, .k 0, []⟩]⟩

/-- TN_BUCKET (R578). -/
def rTN_BUCKET : Reg := ⟨0x7f1000310000, [(64, 512), (8, 5)], [⟨63, 40, .rw, .k 0, []⟩,
  ⟨39, 24, .rw, .k 256, [(1, 65535)]⟩,
  ⟨15, 0, .ro, .k 256, []⟩]⟩

/-- TN_DISP (R579). -/
def rTN_DISP : Reg := ⟨0x7f1000320000, [(512, 64), (8, 64)], [⟨63, 63, .ro, .k 0, []⟩,
  ⟨62, 62, .ro, .k 0, []⟩,
  ⟨61, 61, .ro, .k 0, []⟩,
  ⟨60, 60, .ro, .k 0, []⟩,
  ⟨57, 52, .ro, .k 0, []⟩,
  ⟨48, 40, .ro, .k 0, []⟩,
  ⟨39, 32, .ro, .k 0, []⟩]⟩

/-- CH_CFG (R476). -/
def rCH_CFG : Reg := ⟨0x7f1000400000, [], [⟨47, 32, .rw, .k 4096, [(1, 65535)]⟩,
  ⟨23, 16, .rw, .k 80, [(1, 99)]⟩,
  ⟨10, 8, .rw, .k 2, [(0, 4)]⟩,
  ⟨7, 0, .rw, .k 4, [(1, 255)]⟩]⟩

/-- CH_STAT (R477). -/
def rCH_STAT : Reg := ⟨0x7f1000400008, [], [⟨63, 60, .ro, .k 1, []⟩,
  ⟨55, 53, .ro, .k 2, []⟩,
  ⟨26, 16, .ro, .k 0, []⟩,
  ⟨15, 0, .ro, .k 65535, []⟩]⟩

/-- CH_JRNL (R478). -/
def rCH_JRNL : Reg := ⟨0x7f1000400010, [], [⟨50, 32, .ro, .k 0, []⟩,
  ⟨18, 0, .ro, .k 0, []⟩]⟩

/-- CH_JRNL_HEAD (R479). -/
def rCH_JRNL_HEAD : Reg := ⟨0x7f1000400018, [], [⟨18, 0, .ro, .k 0, []⟩]⟩

/-- CH_JRNL_TAIL (R479). -/
def rCH_JRNL_TAIL : Reg := ⟨0x7f1000400020, [], [⟨18, 0, .ro, .k 0, []⟩]⟩

/-- CH_JRNL_JSN (R479). -/
def rCH_JRNL_JSN : Reg := ⟨0x7f1000400028, [], [⟨47, 0, .ro, .k 0, []⟩]⟩

/-- CH_REPLAY (R480). -/
def rCH_REPLAY : Reg := ⟨0x7f1000400030, [], [⟨63, 63, .ro, .k 0, []⟩,
  ⟨62, 60, .ro, .k 0, []⟩,
  ⟨59, 51, .ro, .k 0, []⟩,
  ⟨37, 19, .ro, .k 0, []⟩,
  ⟨18, 0, .ro, .k 0, []⟩]⟩

/-- CH_ELOG (R481). -/
def rCH_ELOG : Reg := ⟨0x7f1000400038, [], [⟨63, 63, .w1c, .k 0, []⟩,
  ⟨62, 60, .ro, .k 0, []⟩,
  ⟨59, 56, .ro, .k 0, []⟩,
  ⟨19, 0, .ro, .k 0, []⟩]⟩

/-- CH_ORPHAN (R482). -/
def rCH_ORPHAN : Reg := ⟨0x7f1000400040, [], [⟨18, 0, .ro, .k 0, []⟩]⟩

/-- CH_ACCEPT_CNT. -/
def rCH_ACCEPT_CNT : Reg := ⟨0x7f1000400080, [], [⟨49, 49, .w1c, .k 0, []⟩,
  ⟨48, 48, .w1c, .k 0, []⟩,
  ⟨47, 0, .rw, .k 0, []⟩]⟩

/-- CH_REFUSE_CNT. -/
def rCH_REFUSE_CNT : Reg := ⟨0x7f1000400088, [], [⟨49, 49, .w1c, .k 0, []⟩,
  ⟨48, 48, .w1c, .k 0, []⟩,
  ⟨47, 0, .rw, .k 0, []⟩]⟩

/-- CH_FAIL_CNT. -/
def rCH_FAIL_CNT : Reg := ⟨0x7f1000400090, [], [⟨49, 49, .w1c, .k 0, []⟩,
  ⟨48, 48, .w1c, .k 0, []⟩,
  ⟨47, 0, .rw, .k 0, []⟩]⟩

/-- CH_CANCEL_CNT. -/
def rCH_CANCEL_CNT : Reg := ⟨0x7f1000400098, [], [⟨49, 49, .w1c, .k 0, []⟩,
  ⟨48, 48, .w1c, .k 0, []⟩,
  ⟨47, 0, .rw, .k 0, []⟩]⟩

/-- CH_JRNL_CORR. -/
def rCH_JRNL_CORR : Reg := ⟨0x7f10004000a0, [], [⟨49, 49, .w1c, .k 0, []⟩,
  ⟨48, 48, .w1c, .k 0, []⟩,
  ⟨47, 0, .rw, .k 0, []⟩]⟩

/-- CH_RESEND_CNT. -/
def rCH_RESEND_CNT : Reg := ⟨0x7f10004000a8, [], [⟨49, 49, .w1c, .k 0, []⟩,
  ⟨48, 48, .w1c, .k 0, []⟩,
  ⟨47, 0, .rw, .k 0, []⟩]⟩

/-- CH_NET_DISC. -/
def rCH_NET_DISC : Reg := ⟨0x7f10004000b0, [], [⟨49, 49, .w1c, .k 0, []⟩,
  ⟨48, 48, .w1c, .k 0, []⟩,
  ⟨47, 0, .rw, .k 0, []⟩]⟩

/-- CH_PROC_STAT (R483). -/
def rCH_PROC_STAT : Reg := ⟨0x7f1000400100, [(8, 16)], [⟨63, 60, .ro, .k 0, []⟩,
  ⟨54, 48, .ro, .k 0, []⟩,
  ⟨42, 32, .ro, .k 0, []⟩,
  ⟨3, 0, .ro, .idx, []⟩]⟩

/-- CH_PROC_TXN. -/
def rCH_PROC_TXN : Reg := ⟨0x7f1000400180, [(8, 16)], [⟨49, 49, .w1c, .k 0, []⟩,
  ⟨48, 48, .w1c, .k 0, []⟩,
  ⟨47, 0, .rw, .k 0, []⟩]⟩

/-- CH_PROC_RETRY. -/
def rCH_PROC_RETRY : Reg := ⟨0x7f1000400200, [(8, 16)], [⟨49, 49, .w1c, .k 0, []⟩,
  ⟨48, 48, .w1c, .k 0, []⟩,
  ⟨47, 0, .rw, .k 0, []⟩]⟩

/-- CH_HOST_CQ_BASE (R484). -/
def rCH_HOST_CQ_BASE : Reg := ⟨0x7f1000400300, [], [⟨63, 6, .rw, .k 0, []⟩]⟩

/-- CH_HOST_CQ_CFG (R484). -/
def rCH_HOST_CQ_CFG : Reg := ⟨0x7f1000400308, [], [⟨63, 63, .rw, .k 0, []⟩,
  ⟨4, 0, .rw, .k 6, [(6, 16)]⟩]⟩

/-- CH_HOST_CQ_TAIL. -/
def rCH_HOST_CQ_TAIL : Reg := ⟨0x7f1000400310, [], [⟨16, 16, .ro, .k 0, []⟩,
  ⟨15, 0, .ro, .k 0, []⟩]⟩

/-- CH_HOST_CQ_HEAD. -/
def rCH_HOST_CQ_HEAD : Reg := ⟨0x7f1000400318, [], [⟨16, 16, .rw, .k 0, []⟩,
  ⟨15, 0, .rw, .k 0, []⟩]⟩

/-- CH_CHAN (R486). -/
def rCH_CHAN : Reg := ⟨0x7f1000408000, [(8, 1024)], [⟨63, 60, .ro, .k 0, []⟩,
  ⟨59, 56, .ro, .k 0, []⟩,
  ⟨55, 55, .ro, .k 0, []⟩,
  ⟨51, 48, .ro, .idxMod 16, []⟩,
  ⟨40, 32, .ro, .k 0, []⟩,
  ⟨18, 0, .ro, .k 0, []⟩]⟩

/-- FR_CFG (R533). -/
def rFR_CFG : Reg := ⟨0x7f1000500000, [(32768, 32)], [⟨55, 48, .rw, .k 8, [(1, 255)]⟩,
  ⟨31, 16, .rw, .k 1000, []⟩,
  ⟨3, 0, .rw, .k 1, [(0, 7)]⟩]⟩

/-- FR_STAT (R534). -/
def rFR_STAT : Reg := ⟨0x7f1000500008, [(32768, 32)], [⟨63, 60, .ro, .k 0, []⟩,
  ⟨59, 56, .ro, .k 0, []⟩,
  ⟨55, 54, .ro, .k 0, []⟩,
  ⟨47, 32, .ro, .k 0, []⟩,
  ⟨31, 16, .ro, .k 0, []⟩,
  ⟨8, 0, .ro, .k 0, []⟩]⟩

/-- FR_CYCLE (R535). -/
def rFR_CYCLE : Reg := ⟨0x7f1000500010, [(32768, 32)], [⟨63, 0, .ro, .k 0, []⟩]⟩

/-- FR_LOOP (R535). -/
def rFR_LOOP : Reg := ⟨0x7f1000500018, [(32768, 32)], [⟨63, 32, .ro, .k 0, []⟩,
  ⟨31, 0, .ro, .k 0, []⟩]⟩

/-- FR_WRAP (R536). -/
def rFR_WRAP : Reg := ⟨0x7f1000500020, [(32768, 32)], [⟨63, 63, .ro, .k 0, []⟩,
  ⟨62, 62, .ro, .k 0, []⟩,
  ⟨47, 40, .ro, .k 0, []⟩,
  ⟨39, 32, .ro, .k 0, []⟩,
  ⟨31, 0, .ro, .k 0, []⟩]⟩

/-- FR_BUDGET (R535). -/
def rFR_BUDGET : Reg := ⟨0x7f1000500028, [(32768, 32)], [⟨63, 32, .ro, .k 0, []⟩,
  ⟨31, 16, .ro, .k 0, []⟩]⟩

/-- FR_COMM (R535). -/
def rFR_COMM : Reg := ⟨0x7f1000500030, [(32768, 32)], [⟨63, 63, .ro, .k 0, []⟩,
  ⟨62, 60, .ro, .k 0, []⟩,
  ⟨59, 56, .ro, .k 0, []⟩,
  ⟨55, 48, .ro, .k 0, []⟩,
  ⟨31, 16, .ro, .k 0, []⟩,
  ⟨15, 0, .ro, .k 0, []⟩]⟩

/-- FR_ELOG (R537). -/
def rFR_ELOG : Reg := ⟨0x7f1000500038, [(32768, 32)], [⟨63, 63, .w1c, .k 0, []⟩,
  ⟨62, 60, .ro, .k 0, []⟩,
  ⟨55, 48, .ro, .k 0, []⟩,
  ⟨47, 32, .ro, .k 0, []⟩,
  ⟨31, 0, .ro, .k 0, []⟩]⟩

/-- FR_SLOT_OK. -/
def rFR_SLOT_OK : Reg := ⟨0x7f1000500040, [(32768, 32)], [⟨49, 49, .w1c, .k 0, []⟩,
  ⟨48, 48, .w1c, .k 0, []⟩,
  ⟨47, 0, .rw, .k 0, []⟩]⟩

/-- FR_SLOT_VOID. -/
def rFR_SLOT_VOID : Reg := ⟨0x7f1000500048, [(32768, 32)], [⟨49, 49, .w1c, .k 0, []⟩,
  ⟨48, 48, .w1c, .k 0, []⟩,
  ⟨47, 0, .rw, .k 0, []⟩]⟩

/-- FR_CRC_ERR. -/
def rFR_CRC_ERR : Reg := ⟨0x7f1000500050, [(32768, 32)], [⟨49, 49, .w1c, .k 0, []⟩,
  ⟨48, 48, .w1c, .k 0, []⟩,
  ⟨47, 0, .rw, .k 0, []⟩]⟩

/-- FR_EDGE_WARN. -/
def rFR_EDGE_WARN : Reg := ⟨0x7f1000500058, [(32768, 32)], [⟨49, 49, .w1c, .k 0, []⟩,
  ⟨48, 48, .w1c, .k 0, []⟩,
  ⟨47, 0, .rw, .k 0, []⟩]⟩

/-- FR_MUTE. -/
def rFR_MUTE : Reg := ⟨0x7f1000500060, [(32768, 32)], [⟨49, 49, .w1c, .k 0, []⟩,
  ⟨48, 48, .w1c, .k 0, []⟩,
  ⟨47, 0, .rw, .k 0, []⟩]⟩

/-- FR_PATH_CNT. -/
def rFR_PATH_CNT : Reg := ⟨0x7f1000500068, [(32768, 32)], [⟨49, 49, .w1c, .k 0, []⟩,
  ⟨48, 48, .w1c, .k 0, []⟩,
  ⟨47, 0, .rw, .k 0, []⟩]⟩

/-- FR_REQ_RETRY. -/
def rFR_REQ_RETRY : Reg := ⟨0x7f1000500070, [(32768, 32)], [⟨49, 49, .w1c, .k 0, []⟩,
  ⟨48, 48, .w1c, .k 0, []⟩,
  ⟨47, 0, .rw, .k 0, []⟩]⟩

/-- FR_REQ_NACK. -/
def rFR_REQ_NACK : Reg := ⟨0x7f1000500078, [(32768, 32)], [⟨49, 49, .w1c, .k 0, []⟩,
  ⟨48, 48, .w1c, .k 0, []⟩,
  ⟨47, 0, .rw, .k 0, []⟩]⟩

/-- FR_REQ_ABSENT. -/
def rFR_REQ_ABSENT : Reg := ⟨0x7f1000500080, [(32768, 32)], [⟨49, 49, .w1c, .k 0, []⟩,
  ⟨48, 48, .w1c, .k 0, []⟩,
  ⟨47, 0, .rw, .k 0, []⟩]⟩

/-- FR_CODE_ERR_N. -/
def rFR_CODE_ERR_N : Reg := ⟨0x7f1000500088, [(32768, 32)], [⟨49, 49, .w1c, .k 0, []⟩,
  ⟨48, 48, .w1c, .k 0, []⟩,
  ⟨47, 0, .rw, .k 0, []⟩]⟩

/-- FR_CODE_ERR_P. -/
def rFR_CODE_ERR_P : Reg := ⟨0x7f1000500090, [(32768, 32)], [⟨49, 49, .w1c, .k 0, []⟩,
  ⟨48, 48, .w1c, .k 0, []⟩,
  ⟨47, 0, .rw, .k 0, []⟩]⟩

/-- FR_NODE (R538). -/
def rFR_NODE : Reg := ⟨0x7f1000501000, [(32768, 32), (8, 256)], [⟨63, 60, .ro, .k 0, []⟩,
  ⟨59, 59, .ro, .k 0, []⟩,
  ⟨58, 58, .ro, .k 0, []⟩,
  ⟨57, 57, .ro, .k 0, []⟩,
  ⟨56, 56, .ro, .k 0, []⟩,
  ⟨55, 48, .ro, .k 0, []⟩,
  ⟨47, 32, .ro, .k 0, []⟩,
  ⟨31, 16, .rc, .k 0, []⟩,
  ⟨8, 0, .ro, .k 0, []⟩]⟩

/-- SG_CFG (R341). -/
def rSG_CFG : Reg := ⟨0x7f1000600000, [], [⟨23, 16, .rw, .k 75, [(1, 100)]⟩,
  ⟨7, 0, .rw, .k 45, [(10, 90)]⟩]⟩

/-- SG_STAT (R342). -/
def rSG_STAT : Reg := ⟨0x7f1000600008, [], [⟨63, 60, .ro, .k 0, []⟩,
  ⟨55, 48, .ro, .k 64, []⟩,
  ⟨47, 40, .ro, .k 0, []⟩,
  ⟨21, 0, .ro, .k 0, []⟩]⟩

/-- SG_ELOG (R343). -/
def rSG_ELOG : Reg := ⟨0x7f1000600010, [], [⟨63, 63, .w1c, .k 0, []⟩,
  ⟨62, 60, .ro, .k 0, []⟩,
  ⟨55, 50, .ro, .k 0, []⟩,
  ⟨20, 0, .ro, .k 0, []⟩]⟩

/-- SG_REPROC (R344). -/
def rSG_REPROC : Reg := ⟨0x7f1000600018, [], [⟨63, 63, .ro, .k 0, []⟩,
  ⟨53, 32, .ro, .k 0, []⟩,
  ⟨21, 0, .ro, .k 0, []⟩]⟩

/-- SG_UNDEF. -/
def rSG_UNDEF : Reg := ⟨0x7f1000600020, [], [⟨49, 49, .w1c, .k 0, []⟩,
  ⟨48, 48, .w1c, .k 0, []⟩,
  ⟨47, 0, .rw, .k 0, []⟩]⟩

/-- SG_DROP. -/
def rSG_DROP : Reg := ⟨0x7f1000600028, [], [⟨49, 49, .w1c, .k 0, []⟩,
  ⟨48, 48, .w1c, .k 0, []⟩,
  ⟨47, 0, .rw, .k 0, []⟩]⟩

/-- SG_FAN_DROP. -/
def rSG_FAN_DROP : Reg := ⟨0x7f1000600030, [], [⟨49, 49, .w1c, .k 0, []⟩,
  ⟨48, 48, .w1c, .k 0, []⟩,
  ⟨47, 0, .rw, .k 0, []⟩]⟩

/-- SG_STAGE_LOST. -/
def rSG_STAGE_LOST : Reg := ⟨0x7f1000600038, [], [⟨49, 49, .w1c, .k 0, []⟩,
  ⟨48, 48, .w1c, .k 0, []⟩,
  ⟨47, 0, .rw, .k 0, []⟩]⟩

/-- SG_STORE_CORR. -/
def rSG_STORE_CORR : Reg := ⟨0x7f1000600040, [], [⟨49, 49, .w1c, .k 0, []⟩,
  ⟨48, 48, .w1c, .k 0, []⟩,
  ⟨47, 0, .rw, .k 0, []⟩]⟩

/-- SG_OUT_STAT (R345). -/
def rSG_OUT_STAT : Reg := ⟨0x7f1000600048, [], [⟨49, 32, .ro, .k 0, []⟩,
  ⟨17, 0, .ro, .k 0, []⟩]⟩

/-- SG_LANE_STAT (R346). -/
def rSG_LANE_STAT : Reg := ⟨0x7f1000600100, [(8, 64)], [⟨63, 60, .ro, .k 0, []⟩,
  ⟨53, 48, .ro, .idx, []⟩,
  ⟨47, 40, .ro, .k 0, []⟩,
  ⟨31, 16, .rc, .k 0, []⟩,
  ⟨10, 0, .ro, .k 0, []⟩]⟩

/-- SG_LANE_UPD. -/
def rSG_LANE_UPD : Reg := ⟨0x7f1000600300, [(8, 64)], [⟨49, 49, .w1c, .k 0, []⟩,
  ⟨48, 48, .w1c, .k 0, []⟩,
  ⟨47, 0, .rw, .k 0, []⟩]⟩

/-- SG_STAGE_HEAD (R347). -/
def rSG_STAGE_HEAD : Reg := ⟨0x7f1000600500, [(8, 64)], [⟨24, 24, .ro, .k 0, []⟩,
  ⟨23, 0, .ro, .k 0, []⟩]⟩

/-- SG_STAGE_TAIL (R347). -/
def rSG_STAGE_TAIL : Reg := ⟨0x7f1000600700, [(8, 64)], [⟨24, 24, .ro, .k 0, []⟩,
  ⟨23, 0, .ro, .k 0, []⟩]⟩

/-- SG_RD (R348). -/
def rSG_RD : Reg := ⟨0x7f1000600900, [(8, 32)], [⟨63, 0, .ro, .k 0, []⟩]⟩

/-- SG_RD_CYC (R348). -/
def rSG_RD_CYC : Reg := ⟨0x7f1000600a00, [(8, 32)], [⟨63, 63, .ro, .k 0, []⟩,
  ⟨31, 0, .ro, .k 0, []⟩]⟩

/-- CZ_CFG (R376). -/
def rCZ_CFG : Reg := ⟨0x7f1000700000, [], [⟨23, 16, .rw, .k 10, [(1, 255)]⟩,
  ⟨7, 0, .rw, .k 10, [(5, 50)]⟩]⟩

/-- CZ_STAT (R377). -/
def rCZ_STAT : Reg := ⟨0x7f1000700008, [], [⟨20, 16, .ro, .k 0, []⟩,
  ⟨3, 0, .ro, .k 15, []⟩]⟩

/-- CZ_HIST_CFG (R378). -/
def rCZ_HIST_CFG : Reg := ⟨0x7f1000700010, [], [⟨63, 63, .rw, .k 0, []⟩,
  ⟨40, 32, .rw, .k 0, []⟩,
  ⟨3, 0, .rw, .k 0, []⟩]⟩

/-- CZ_HIST_STAT (R379). -/
def rCZ_HIST_STAT : Reg := ⟨0x7f1000700018, [], [⟨63, 63, .ro, .k 0, []⟩,
  ⟨15, 0, .ro, .k 0, []⟩]⟩

/-- CZ_ELOG (R380). -/
def rCZ_ELOG : Reg := ⟨0x7f1000700020, [], [⟨63, 63, .w1c, .k 0, []⟩,
  ⟨47, 40, .ro, .k 0, []⟩,
  ⟨39, 31, .ro, .k 0, []⟩,
  ⟨15, 0, .ro, .k 0, []⟩]⟩

/-- CZ_FAIL_CNT. -/
def rCZ_FAIL_CNT : Reg := ⟨0x7f1000700028, [], [⟨49, 49, .w1c, .k 0, []⟩,
  ⟨48, 48, .w1c, .k 0, []⟩,
  ⟨47, 0, .rw, .k 0, []⟩]⟩

/-- CZ_SEG_CNT. -/
def rCZ_SEG_CNT : Reg := ⟨0x7f1000700030, [], [⟨49, 49, .w1c, .k 0, []⟩,
  ⟨48, 48, .w1c, .k 0, []⟩,
  ⟨47, 0, .rw, .k 0, []⟩]⟩

/-- CZ_STAGE_DISC. -/
def rCZ_STAGE_DISC : Reg := ⟨0x7f1000700038, [], [⟨49, 49, .w1c, .k 0, []⟩,
  ⟨48, 48, .w1c, .k 0, []⟩,
  ⟨47, 0, .rw, .k 0, []⟩]⟩

/-- CZ_PIPE_STAT (R381). -/
def rCZ_PIPE_STAT : Reg := ⟨0x7f1000700100, [(8, 4)], [⟨63, 60, .ro, .k 0, []⟩,
  ⟨52, 48, .ro, .k 0, []⟩,
  ⟨40, 32, .ro, .k 0, []⟩]⟩

/-- CZ_PIPE_IN. -/
def rCZ_PIPE_IN : Reg := ⟨0x7f1000700140, [(8, 4)], [⟨49, 49, .w1c, .k 0, []⟩,
  ⟨48, 48, .w1c, .k 0, []⟩,
  ⟨47, 0, .rw, .k 0, []⟩]⟩

/-- CZ_PIPE_OUT. -/
def rCZ_PIPE_OUT : Reg := ⟨0x7f1000700180, [(8, 4)], [⟨49, 49, .w1c, .k 0, []⟩,
  ⟨48, 48, .w1c, .k 0, []⟩,
  ⟨47, 0, .rw, .k 0, []⟩]⟩

/-- CZ_PIPE_RETRY. -/
def rCZ_PIPE_RETRY : Reg := ⟨0x7f10007001c0, [(8, 4)], [⟨49, 49, .w1c, .k 0, []⟩,
  ⟨48, 48, .w1c, .k 0, []⟩,
  ⟨47, 0, .rw, .k 0, []⟩]⟩

/-- CY_STAT (R415). -/
def rCY_STAT : Reg := ⟨0x7f1000800000, [], [⟨60, 48, .ro, .k 0, []⟩,
  ⟨47, 40, .ro, .k 0, []⟩,
  ⟨29, 24, .ro, .k 0, []⟩,
  ⟨7, 0, .ro, .k 255, []⟩]⟩

/-- CY_ROTATE (R416). -/
def rCY_ROTATE : Reg := ⟨0x7f1000800008, [], [⟨63, 63, .ro, .k 0, []⟩,
  ⟨62, 61, .ro, .k 0, []⟩,
  ⟨60, 60, .ro, .k 0, []⟩,
  ⟨59, 48, .ro, .k 0, []⟩,
  ⟨31, 0, .ro, .k 0, []⟩]⟩

/-- CY_ROTATE_POS (R416). -/
def rCY_ROTATE_POS : Reg := ⟨0x7f1000800010, [], [⟨31, 0, .ro, .k 0, []⟩]⟩

/-- CY_ELOG (R417). -/
def rCY_ELOG : Reg := ⟨0x7f1000800018, [], [⟨63, 63, .w1c, .k 0, []⟩,
  ⟨59, 48, .ro, .k 0, []⟩,
  ⟨47, 40, .ro, .k 0, []⟩,
  ⟨39, 31, .ro, .k 0, []⟩,
  ⟨15, 0, .ro, .k 0, []⟩]⟩

/-- CY_FAIL_CNT. -/
def rCY_FAIL_CNT : Reg := ⟨0x7f1000800020, [], [⟨49, 49, .w1c, .k 0, []⟩,
  ⟨48, 48, .w1c, .k 0, []⟩,
  ⟨47, 0, .rw, .k 0, []⟩]⟩

/-- CY_AUTH_FAIL_CNT. -/
def rCY_AUTH_FAIL_CNT : Reg := ⟨0x7f1000800028, [], [⟨49, 49, .w1c, .k 0, []⟩,
  ⟨48, 48, .w1c, .k 0, []⟩,
  ⟨47, 0, .rw, .k 0, []⟩]⟩

/-- CY_PIPE_STAT (R418). -/
def rCY_PIPE_STAT : Reg := ⟨0x7f1000800100, [(8, 8)], [⟨63, 60, .ro, .k 0, []⟩,
  ⟨59, 59, .ro, .k 0, []⟩,
  ⟨52, 48, .ro, .k 0, []⟩,
  ⟨40, 32, .ro, .k 0, []⟩,
  ⟨2, 0, .ro, .k 0, []⟩]⟩

/-- CY_PIPE_BYTES. -/
def rCY_PIPE_BYTES : Reg := ⟨0x7f1000800140, [(8, 8)], [⟨49, 49, .w1c, .k 0, []⟩,
  ⟨48, 48, .w1c, .k 0, []⟩,
  ⟨47, 0, .rw, .k 0, []⟩]⟩

/-- CY_PIPE_RETRY. -/
def rCY_PIPE_RETRY : Reg := ⟨0x7f1000800180, [(8, 8)], [⟨49, 49, .w1c, .k 0, []⟩,
  ⟨48, 48, .w1c, .k 0, []⟩,
  ⟨47, 0, .rw, .k 0, []⟩]⟩

/-- CY_SLOT (R419). -/
def rCY_SLOT : Reg := ⟨0x7f1000808000, [(8, 4096)], [⟨63, 60, .ro, .k 0, []⟩,
  ⟨59, 59, .ro, .k 0, []⟩,
  ⟨58, 58, .ro, .k 0, []⟩,
  ⟨57, 57, .ro, .k 0, []⟩,
  ⟨56, 56, .ro, .k 0, []⟩,
  ⟨55, 52, .ro, .k 0, []⟩,
  ⟨40, 32, .ro, .k 0, []⟩,
  ⟨31, 16, .ro, .k 0, []⟩,
  ⟨15, 0, .ro, .k 0, []⟩]⟩

/-- MA_CAP (R284). -/
def rMA_CAP : Reg := ⟨0x7f1000900000, [], [⟨49, 36, .ro, .k 0, []⟩,
  ⟨33, 0, .ro, .k 0, []⟩]⟩

/-- MA_STAT (R285). -/
def rMA_STAT : Reg := ⟨0x7f1000900008, [], [⟨63, 60, .ro, .k 0, []⟩,
  ⟨41, 32, .ro, .k 0, []⟩,
  ⟨9, 0, .ro, .k 0, []⟩]⟩

/-- MA_CFG (R286). -/
def rMA_CFG : Reg := ⟨0x7f1000900010, [], [⟨55, 48, .rw, .k 10, [(1, 50)]⟩,
  ⟨47, 40, .rw, .k 8, [(1, 255)]⟩,
  ⟨31, 16, .rw, .k 64, []⟩,
  ⟨15, 8, .rw, .k 16, [(1, 255)]⟩,
  ⟨7, 0, .rw, .k 24, [(1, 255)]⟩]⟩

/-- MA_SCRUB (R287). -/
def rMA_SCRUB : Reg := ⟨0x7f1000900018, [], [⟨63, 63, .wo, .k 0, []⟩,
  ⟨62, 62, .ro, .k 0, []⟩,
  ⟨61, 48, .ro, .k 0, []⟩,
  ⟨33, 0, .ro, .k 0, []⟩]⟩

/-- MA_REBUILD (R288). -/
def rMA_REBUILD : Reg := ⟨0x7f1000900020, [], [⟨63, 63, .ro, .k 0, []⟩,
  ⟨59, 50, .ro, .k 0, []⟩,
  ⟨49, 40, .ro, .k 0, []⟩,
  ⟨33, 0, .ro, .k 0, []⟩]⟩

/-- MA_POISON_CNT. -/
def rMA_POISON_CNT : Reg := ⟨0x7f1000900028, [], [⟨49, 49, .w1c, .k 0, []⟩,
  ⟨48, 48, .w1c, .k 0, []⟩,
  ⟨47, 0, .rw, .k 0, []⟩]⟩

/-- MA_ELOG (R289). -/
def rMA_ELOG : Reg := ⟨0x7f1000900030, [], [⟨63, 63, .w1c, .k 0, []⟩,
  ⟨62, 60, .ro, .k 0, []⟩,
  ⟨59, 56, .ro, .k 0, []⟩,
  ⟨51, 6, .ro, .k 0, []⟩]⟩

/-- MA_CH_STAT (R290). -/
def rMA_CH_STAT : Reg := ⟨0x7f1000900100, [(8, 10)], [⟨63, 60, .ro, .k 0, []⟩,
  ⟨59, 56, .ro, .k 0, []⟩,
  ⟨55, 52, .ro, .k 0, []⟩,
  ⟨47, 40, .ro, .k 0, []⟩,
  ⟨39, 32, .ro, .k 0, []⟩,
  ⟨31, 28, .ro, .k 0, []⟩,
  ⟨27, 26, .ro, .k 0, []⟩,
  ⟨25, 24, .ro, .k 0, []⟩]⟩

/-- MA_CH_CTL (R291). -/
def rMA_CH_CTL : Reg := ⟨0x7f1000900180, [(8, 10)], [⟨3, 0, .wo, .k 0, []⟩]⟩

/-- MA_CH_CORR. -/
def rMA_CH_CORR : Reg := ⟨0x7f1000900200, [(8, 10)], [⟨49, 49, .w1c, .k 0, []⟩,
  ⟨48, 48, .w1c, .k 0, []⟩,
  ⟨47, 0, .rw, .k 0, []⟩]⟩

/-- MA_CH_RECON. -/
def rMA_CH_RECON : Reg := ⟨0x7f1000900280, [(8, 10)], [⟨49, 49, .w1c, .k 0, []⟩,
  ⟨48, 48, .w1c, .k 0, []⟩,
  ⟨47, 0, .rw, .k 0, []⟩]⟩

/-- MX_CFG (R219). -/
def rMX_CFG : Reg := ⟨0x7f1000a00000, [], [⟨31, 24, .rw, .k 16, [(1, 255)]⟩,
  ⟨23, 16, .rw, .k 16, [(1, 255)]⟩,
  ⟨7, 0, .rw, .k 50, [(5, 200)]⟩]⟩

/-- MX_RECLAIM (R220). -/
def rMX_RECLAIM : Reg := ⟨0x7f1000a00008, [], [⟨63, 63, .ro, .k 0, []⟩,
  ⟨62, 60, .ro, .k 0, []⟩,
  ⟨55, 50, .ro, .k 0, []⟩,
  ⟨38, 32, .ro, .k 0, []⟩,
  ⟨31, 0, .ro, .k 0, []⟩]⟩

/-- MX_LAT_MAX (R221). -/
def rMX_LAT_MAX : Reg := ⟨0x7f1000a00010, [], [⟨31, 16, .rc, .k 0, []⟩,
  ⟨15, 0, .rc, .k 0, []⟩]⟩

/-- MX_DIR_EVICT. -/
def rMX_DIR_EVICT : Reg := ⟨0x7f1000a00018, [], [⟨49, 49, .w1c, .k 0, []⟩,
  ⟨48, 48, .w1c, .k 0, []⟩,
  ⟨47, 0, .rw, .k 0, []⟩]⟩

/-- MX_NACK. -/
def rMX_NACK : Reg := ⟨0x7f1000a00020, [], [⟨49, 49, .w1c, .k 0, []⟩,
  ⟨48, 48, .w1c, .k 0, []⟩,
  ⟨47, 0, .rw, .k 0, []⟩]⟩

/-- MX_SLICE_STAT (R222). -/
def rMX_SLICE_STAT : Reg := ⟨0x7f1000a00100, [(8, 64)], [⟨13, 8, .ro, .idx, []⟩,
  ⟨3, 0, .ro, .k 0, []⟩]⟩

/-- MX_SLICE_CORR. -/
def rMX_SLICE_CORR : Reg := ⟨0x7f1000a00400, [(8, 64)], [⟨49, 49, .w1c, .k 0, []⟩,
  ⟨48, 48, .w1c, .k 0, []⟩,
  ⟨47, 0, .rw, .k 0, []⟩]⟩

/-- QD_STAT (R216). -/
def rQD_STAT : Reg := ⟨0x7f1000b00000, [(8, 16)], [⟨47, 32, .ro, .k 0, []⟩,
  ⟨8, 8, .ro, .k 1, []⟩,
  ⟨7, 4, .ro, .k 0, []⟩,
  ⟨3, 0, .ro, .k 0, []⟩]⟩

/-- QD_L2_CORR. -/
def rQD_L2_CORR : Reg := ⟨0x7f1000b00100, [(8, 16)], [⟨49, 49, .w1c, .k 0, []⟩,
  ⟨48, 48, .w1c, .k 0, []⟩,
  ⟨47, 0, .rw, .k 0, []⟩]⟩

/-- QD_L2_UNCORR. -/
def rQD_L2_UNCORR : Reg := ⟨0x7f1000b00200, [(8, 16)], [⟨49, 49, .w1c, .k 0, []⟩,
  ⟨48, 48, .w1c, .k 0, []⟩,
  ⟨47, 0, .rw, .k 0, []⟩]⟩

/-- QD_L2_ELOG (R218). -/
def rQD_L2_ELOG : Reg := ⟨0x7f1000b00300, [(8, 16)], [⟨63, 63, .w1c, .k 0, []⟩,
  ⟨62, 60, .ro, .k 0, []⟩,
  ⟨51, 6, .ro, .k 0, []⟩]⟩

/-- KC_PCS (R169). -/
def rKC_PCS : Reg := ⟨0x7f1000c00000, [(8, 64)], [⟨63, 63, .wo, .k 0, []⟩,
  ⟨39, 32, .ro, .k 0, []⟩,
  ⟨31, 23, .ro, .k 0, []⟩,
  ⟨22, 17, .ro, .k 0, []⟩,
  ⟨16, 16, .ro, .k 0, []⟩,
  ⟨11, 8, .ro, .k 0, []⟩,
  ⟨3, 0, .ro, .k 0, []⟩]⟩

/-- KC_RETRY_CNT. -/
def rKC_RETRY_CNT : Reg := ⟨0x7f1000c00200, [(8, 64)], [⟨49, 49, .w1c, .k 0, []⟩,
  ⟨48, 48, .w1c, .k 0, []⟩,
  ⟨47, 0, .rw, .k 0, []⟩]⟩

/-- KC_CORR_CNT. -/
def rKC_CORR_CNT : Reg := ⟨0x7f1000c00400, [(8, 64)], [⟨49, 49, .w1c, .k 0, []⟩,
  ⟨48, 48, .w1c, .k 0, []⟩,
  ⟨47, 0, .rw, .k 0, []⟩]⟩

/-- KC_ST (R171). -/
def rKC_ST : Reg := ⟨0x7f1000c00600, [(8, 64)], [⟨63, 32, .ro, .k 0, []⟩,
  ⟨7, 4, .ro, .k 0, []⟩,
  ⟨0, 0, .ro, .k 0, []⟩]⟩

/-- KC_SPARE_CFG (R172). -/
def rKC_SPARE_CFG : Reg := ⟨0x7f1000c01000, [], [⟨47, 32, .rw, .k 256, []⟩,
  ⟨31, 24, .rw, .k 10, [(1, 255)]⟩,
  ⟨20, 16, .ro, .k 0, []⟩,
  ⟨13, 13, .ro, .k 0, []⟩,
  ⟨12, 8, .ro, .k 4, []⟩,
  ⟨5, 5, .ro, .k 0, []⟩,
  ⟨4, 0, .ro, .k 2, []⟩]⟩

/-- KC_SPARE_STAT (R173). -/
def rKC_SPARE_STAT : Reg := ⟨0x7f1000c01010, [(8, 4)], [⟨63, 63, .ro, .k 0, []⟩,
  ⟨62, 60, .ro, .k 0, []⟩,
  ⟨59, 58, .ro, .k 0, []⟩,
  ⟨55, 50, .ro, .k 0, []⟩,
  ⟨49, 44, .ro, .k 0, []⟩,
  ⟨43, 40, .ro, .k 0, []⟩,
  ⟨31, 0, .ro, .k 0, []⟩]⟩

/-- KC_UCODE_ID (R174). -/
def rKC_UCODE_ID : Reg := ⟨0x7f1000c01040, [], [⟨63, 48, .ro, .k 0, []⟩,
  ⟨47, 32, .ro, .k 0, []⟩,
  ⟨31, 20, .ro, .k 0, []⟩,
  ⟨8, 8, .ro, .k 0, []⟩,
  ⟨6, 0, .ro, .k 0, []⟩]⟩

/-- KC_UCODE_RELOAD (R175). -/
def rKC_UCODE_RELOAD : Reg := ⟨0x7f1000c01048, [], [⟨63, 0, .w1c, .k 0, []⟩]⟩

/-- TW_CFG (R693). -/
def rTW_CFG : Reg := ⟨0x7f1000d00000, [], [⟨63, 63, .rw, .k 1, []⟩,
  ⟨62, 62, .rw, .k 1, []⟩,
  ⟨61, 61, .rw, .k 1, []⟩,
  ⟨55, 48, .rw, .k 3, [(1, 255)]⟩]⟩

/-- TW_STAT (R694). -/
def rTW_STAT : Reg := ⟨0x7f1000d00008, [], [⟨63, 60, .ro, .k 0, []⟩,
  ⟨59, 58, .ro, .k 0, []⟩,
  ⟨57, 57, .ro, .k 0, []⟩,
  ⟨56, 56, .ro, .k 0, []⟩,
  ⟨55, 55, .ro, .k 0, []⟩,
  ⟨54, 54, .ro, .k 0, []⟩,
  ⟨53, 53, .ro, .k 1, []⟩,
  ⟨52, 50, .ro, .k 0, []⟩,
  ⟨49, 49, .ro, .k 0, []⟩,
  ⟨48, 48, .ro, .k 0, []⟩]⟩

/-- TW_EPOCH (R695). -/
def rTW_EPOCH : Reg := ⟨0x7f1000d00010, [], [⟨61, 48, .ro, .k 500, []⟩,
  ⟨47, 0, .ro, .k 0, []⟩]⟩

/-- TW_ACKED (R695). -/
def rTW_ACKED : Reg := ⟨0x7f1000d00018, [], [⟨63, 48, .ro, .k 0, []⟩,
  ⟨47, 0, .ro, .k 0, []⟩]⟩

/-- TW_STREAM (R696). -/
def rTW_STREAM : Reg := ⟨0x7f1000d00020, [], [⟨63, 32, .ro, .k 0, []⟩,
  ⟨31, 0, .ro, .k 0, []⟩]⟩

/-- TW_SYNC (R697). -/
def rTW_SYNC : Reg := ⟨0x7f1000d00028, [], [⟨63, 63, .ro, .k 0, []⟩,
  ⟨62, 60, .ro, .k 0, []⟩,
  ⟨55, 28, .ro, .k 0, []⟩,
  ⟨27, 0, .ro, .k 0, []⟩]⟩

/-- TW_TAKE (R698). -/
def rTW_TAKE : Reg := ⟨0x7f1000d00030, [], [⟨63, 61, .ro, .k 0, []⟩,
  ⟨47, 32, .ro, .k 0, []⟩,
  ⟨31, 16, .ro, .k 0, []⟩,
  ⟨15, 0, .ro, .k 0, []⟩]⟩

/-- TW_DIGEST (R699). -/
def rTW_DIGEST : Reg := ⟨0x7f1000d00038, [], [⟨63, 56, .ro, .k 0, []⟩,
  ⟨31, 0, .ro, .k 0, []⟩]⟩

/-- TW_PEER (R699). -/
def rTW_PEER : Reg := ⟨0x7f1000d00040, [], [⟨63, 62, .ro, .k 0, []⟩,
  ⟨61, 58, .ro, .k 0, []⟩,
  ⟨57, 57, .ro, .k 0, []⟩,
  ⟨56, 56, .ro, .k 0, []⟩,
  ⟨52, 48, .ro, .k 0, []⟩,
  ⟨47, 32, .ro, .k 0, []⟩,
  ⟨31, 0, .ro, .k 0, []⟩]⟩

/-- TW_GOOSE_MISS. -/
def rTW_GOOSE_MISS : Reg := ⟨0x7f1000d00080, [], [⟨49, 49, .w1c, .k 0, []⟩,
  ⟨48, 48, .w1c, .k 0, []⟩,
  ⟨47, 0, .rw, .k 0, []⟩]⟩

/-- TW_STRETCH_CNT. -/
def rTW_STRETCH_CNT : Reg := ⟨0x7f1000d00088, [], [⟨49, 49, .w1c, .k 0, []⟩,
  ⟨48, 48, .w1c, .k 0, []⟩,
  ⟨47, 0, .rw, .k 0, []⟩]⟩

/-- TW_MISMATCH_CNT. -/
def rTW_MISMATCH_CNT : Reg := ⟨0x7f1000d00090, [], [⟨49, 49, .w1c, .k 0, []⟩,
  ⟨48, 48, .w1c, .k 0, []⟩,
  ⟨47, 0, .rw, .k 0, []⟩]⟩

/-- TW_TAKEOVER_CNT. -/
def rTW_TAKEOVER_CNT : Reg := ⟨0x7f1000d00098, [], [⟨49, 49, .w1c, .k 0, []⟩,
  ⟨48, 48, .w1c, .k 0, []⟩,
  ⟨47, 0, .rw, .k 0, []⟩]⟩

/-- TW_LINK_RETRY. -/
def rTW_LINK_RETRY : Reg := ⟨0x7f1000d000a0, [], [⟨49, 49, .w1c, .k 0, []⟩,
  ⟨48, 48, .w1c, .k 0, []⟩,
  ⟨47, 0, .rw, .k 0, []⟩]⟩

/-- IS_CFG (R769). -/
def rIS_CFG : Reg := ⟨0x7f1000e00000, [], [⟨63, 63, .rw, .k 1, []⟩,
  ⟨62, 62, .rw, .k 0, []⟩,
  ⟨47, 32, .rw, .k 520, [(300, 640)]⟩,
  ⟨31, 24, .rw, .k 5, [(1, 255)]⟩,
  ⟨23, 16, .rw, .k 30, [(1, 255)]⟩,
  ⟨15, 8, .rw, .k 10, [(1, 255)]⟩,
  ⟨7, 0, .rw, .k 50, [(1, 255)]⟩]⟩

/-- IS_STAT (R770). -/
def rIS_STAT : Reg := ⟨0x7f1000e00008, [], [⟨63, 60, .ro, .k 0, []⟩,
  ⟨39, 32, .ro, .k 0, []⟩,
  ⟨31, 0, .ro, .k 0, []⟩]⟩

/-- IS_THERM (R771). -/
def rIS_THERM : Reg := ⟨0x7f1000e00010, [], [⟨59, 48, .ro, .k 0, []⟩,
  ⟨47, 36, .ro, .k 0, []⟩,
  ⟨35, 24, .ro, .k 0, []⟩,
  ⟨23, 12, .ro, .k 0, []⟩,
  ⟨11, 0, .ro, .k 0, []⟩]⟩

/-- IS_MEM_SR (R772). -/
def rIS_MEM_SR : Reg := ⟨0x7f1000e00018, [], [⟨15, 8, .ro, .k 0, []⟩,
  ⟨7, 0, .ro, .k 0, []⟩]⟩

/-- IS_HS_ERR_CNT. -/
def rIS_HS_ERR_CNT : Reg := ⟨0x7f1000e00020, [], [⟨49, 49, .w1c, .k 0, []⟩,
  ⟨48, 48, .w1c, .k 0, []⟩,
  ⟨47, 0, .rw, .k 0, []⟩]⟩

/-- IS_THROTTLE_CNT. -/
def rIS_THROTTLE_CNT : Reg := ⟨0x7f1000e00028, [], [⟨49, 49, .w1c, .k 0, []⟩,
  ⟨48, 48, .w1c, .k 0, []⟩,
  ⟨47, 0, .rw, .k 0, []⟩]⟩

/-- IS_ISL_STAT (R773). -/
def rIS_ISL_STAT : Reg := ⟨0x7f1000e01000, [(8, 167)], [⟨63, 60, .ro, .k 0, []⟩,
  ⟨59, 59, .ro, .k 0, []⟩,
  ⟨58, 58, .ro, .k 0, []⟩,
  ⟨57, 57, .ro, .islandFixed, []⟩,
  ⟨56, 56, .ro, .k 0, []⟩,
  ⟨55, 48, .ro, .islandKind, []⟩,
  ⟨47, 32, .ro, .k 0, []⟩]⟩

/-- IS_ISL_CTL (R774). -/
def rIS_ISL_CTL : Reg := ⟨0x7f1000e02000, [(8, 167)], [⟨7, 4, .ro, .k 0, []⟩,
  ⟨1, 0, .wo, .k 0, []⟩]⟩

/-- IS_AGE (R775). -/
def rIS_AGE : Reg := ⟨0x7f1000e03000, [(8, 167)], [⟨63, 48, .ro, .k 0, []⟩,
  ⟨47, 32, .ro, .k 65535, []⟩,
  ⟨31, 30, .ro, .k 0, []⟩,
  ⟨29, 0, .ro, .k 0, []⟩]⟩

/-- PM_CTL (R782). -/
def rPM_CTL : Reg := ⟨0x7f1000f00000, [], [⟨63, 63, .ro, .k 0, []⟩,
  ⟨2, 2, .wo, .k 0, []⟩,
  ⟨1, 1, .rw, .k 1, []⟩,
  ⟨0, 0, .rw, .k 0, []⟩]⟩

/-- PM_SNAP_STAT (R782). -/
def rPM_SNAP_STAT : Reg := ⟨0x7f1000f00008, [], [⟨63, 62, .ro, .k 0, []⟩,
  ⟨47, 32, .rc, .k 0, []⟩,
  ⟨31, 0, .ro, .k 0, []⟩]⟩

/-- PM_SNAP_TIME (R782). -/
def rPM_SNAP_TIME : Reg := ⟨0x7f1000f00010, [], [⟨63, 0, .ro, .k 0, []⟩]⟩

/-- PM_CYCLE (R782). -/
def rPM_CYCLE : Reg := ⟨0x7f1000f00018, [], [⟨63, 0, .rw, .k 0, []⟩]⟩

/-- PM_SEL (R783). -/
def rPM_SEL : Reg := ⟨0x7f1000f00100, [(8, 64)], [⟨63, 63, .rw, .k 0, []⟩,
  ⟨62, 62, .rw, .k 0, []⟩,
  ⟨60, 52, .rw, .k 0, []⟩,
  ⟨39, 32, .rw, .k 0, []⟩,
  ⟨15, 0, .rw, .k 0, []⟩]⟩

/-- PM_CNT. -/
def rPM_CNT : Reg := ⟨0x7f1000f00300, [(8, 64)], [⟨49, 49, .w1c, .k 0, []⟩,
  ⟨48, 48, .w1c, .k 0, []⟩,
  ⟨47, 0, .rw, .k 0, []⟩]⟩

/-- PM_BW_CFG (R784). -/
def rPM_BW_CFG : Reg := ⟨0x7f1000f00500, [(8, 16)], [⟨63, 63, .rw, .k 0, []⟩,
  ⟨62, 62, .rw, .k 0, []⟩,
  ⟨60, 52, .rw, .k 0, []⟩,
  ⟨23, 16, .rw, .k 0, [(1, 3), (16, 23), (32, 39), (48, 49), (64, 73)]⟩,
  ⟨15, 0, .rw, .k 1000, [(1, 65535)]⟩]⟩

/-- PM_BW (R784). -/
def rPM_BW : Reg := ⟨0x7f1000f00580, [(8, 16)], [⟨63, 32, .rc, .k 0, []⟩,
  ⟨31, 0, .ro, .k 0, []⟩]⟩

/-- PM_SHD_CYCLE (R782). -/
def rPM_SHD_CYCLE : Reg := ⟨0x7f1000f01018, [], [⟨63, 0, .ro, .k 0, []⟩]⟩

/-- PM_SHD_CNT. -/
def rPM_SHD_CNT : Reg := ⟨0x7f1000f01300, [(8, 64)], [⟨49, 49, .ro, .k 0, []⟩,
  ⟨48, 48, .ro, .k 0, []⟩,
  ⟨47, 0, .ro, .k 0, []⟩]⟩

/-- PM_SHD_BW (R784). -/
def rPM_SHD_BW : Reg := ⟨0x7f1000f01580, [(8, 16)], [⟨63, 32, .ro, .k 0, []⟩,
  ⟨31, 0, .ro, .k 0, []⟩]⟩

/-- TM_CFG (R777). -/
def rTM_CFG : Reg := ⟨0x7f1001000000, [], [⟨63, 60, .rw, .k 0, [(0, 4)]⟩,
  ⟨59, 59, .rw, .k 0, []⟩,
  ⟨55, 48, .rw, .k 1, [(1, 255)]⟩,
  ⟨47, 32, .rw, .k 500, [(1, 1000)]⟩,
  ⟨31, 16, .rw, .k 100, [(1, 65535)]⟩,
  ⟨15, 8, .rw, .k 10, [(1, 255)]⟩,
  ⟨7, 0, .rw, .k 4, [(1, 255)]⟩]⟩

/-- TM_STAT (R778). -/
def rTM_STAT : Reg := ⟨0x7f1001000008, [], [⟨63, 60, .ro, .k 0, []⟩,
  ⟨59, 59, .ro, .k 0, []⟩,
  ⟨58, 58, .ro, .k 0, []⟩,
  ⟨57, 57, .ro, .k 0, []⟩,
  ⟨56, 56, .ro, .k 0, []⟩,
  ⟨55, 55, .ro, .k 0, []⟩]⟩

/-- TM_TIME (R779). -/
def rTM_TIME : Reg := ⟨0x7f1001000010, [], [⟨63, 0, .ro, .k 0, []⟩]⟩

/-- TM_ADJ (R779). -/
def rTM_ADJ : Reg := ⟨0x7f1001000018, [], [⟨63, 0, .wo, .k 0, []⟩]⟩

/-- TM_RATE (R779). -/
def rTM_RATE : Reg := ⟨0x7f1001000020, [], [⟨31, 0, .rw, .k 0, []⟩]⟩

/-- TM_PPS_IN (R779). -/
def rTM_PPS_IN : Reg := ⟨0x7f1001000028, [], [⟨63, 0, .ro, .k 0, []⟩]⟩

/-- TM_OFFSET (R779). -/
def rTM_OFFSET : Reg := ⟨0x7f1001000030, [], [⟨63, 0, .ro, .k 0, []⟩]⟩

/-- TM_PPS_OUT (R780). -/
def rTM_PPS_OUT : Reg := ⟨0x7f1001000038, [], [⟨63, 63, .rw, .k 0, []⟩,
  ⟨62, 62, .rw, .k 0, []⟩,
  ⟨15, 0, .rw, .k 100, [(1, 65535)]⟩]⟩

/-- TM_STEP_CNT. -/
def rTM_STEP_CNT : Reg := ⟨0x7f1001000040, [], [⟨49, 49, .w1c, .k 0, []⟩,
  ⟨48, 48, .w1c, .k 0, []⟩,
  ⟨47, 0, .rw, .k 0, []⟩]⟩

/-- TM_UTC (R779). -/
def rTM_UTC : Reg := ⟨0x7f1001000048, [], [⟨15, 0, .rw, .k 0, []⟩]⟩

/-- NT_CFG (R825). -/
def rNT_CFG : Reg := ⟨0x7f1001100000, [(16384, 4)], [⟨63, 63, .rw, .k 0, []⟩,
  ⟨62, 60, .rw, .k 0, [(0, 5)]⟩,
  ⟨47, 0, .rw, .k 0, []⟩]⟩

/-- NT_STAT (R825). -/
def rNT_STAT : Reg := ⟨0x7f1001100008, [(16384, 4)], [⟨63, 63, .ro, .k 0, []⟩,
  ⟨62, 60, .ro, .k 0, []⟩,
  ⟨59, 59, .ro, .k 0, []⟩]⟩

/-- NT_GCL_CFG (R826). -/
def rNT_GCL_CFG : Reg := ⟨0x7f1001100010, [(16384, 4)], [⟨63, 63, .rw, .k 0, []⟩,
  ⟨62, 62, .wo, .k 0, []⟩,
  ⟨61, 61, .ro, .k 0, []⟩,
  ⟨60, 60, .ro, .k 0, []⟩,
  ⟨40, 32, .rw, .k 1, [(1, 256)]⟩,
  ⟨31, 0, .rw, .k 1000000, []⟩]⟩

/-- NT_GCL_BASE. -/
def rNT_GCL_BASE : Reg := ⟨0x7f1001100018, [(16384, 4)], [⟨63, 0, .rw, .k 0, []⟩]⟩

/-- NT_TX_CNT. -/
def rNT_TX_CNT : Reg := ⟨0x7f1001100020, [(16384, 4)], [⟨49, 49, .w1c, .k 0, []⟩,
  ⟨48, 48, .w1c, .k 0, []⟩,
  ⟨47, 0, .rw, .k 0, []⟩]⟩

/-- NT_RX_CNT. -/
def rNT_RX_CNT : Reg := ⟨0x7f1001100028, [(16384, 4)], [⟨49, 49, .w1c, .k 0, []⟩,
  ⟨48, 48, .w1c, .k 0, []⟩,
  ⟨47, 0, .rw, .k 0, []⟩]⟩

/-- NT_RX_DISC. -/
def rNT_RX_DISC : Reg := ⟨0x7f1001100030, [(16384, 4)], [⟨49, 49, .w1c, .k 0, []⟩,
  ⟨48, 48, .w1c, .k 0, []⟩,
  ⟨47, 0, .rw, .k 0, []⟩]⟩

/-- NT_FCS_ERR. -/
def rNT_FCS_ERR : Reg := ⟨0x7f1001100038, [(16384, 4)], [⟨49, 49, .w1c, .k 0, []⟩,
  ⟨48, 48, .w1c, .k 0, []⟩,
  ⟨47, 0, .rw, .k 0, []⟩]⟩

/-- NT_CBS (R826). -/
def rNT_CBS : Reg := ⟨0x7f1001100100, [(16384, 4), (8, 8)], [⟨63, 63, .rw, .k 0, []⟩,
  ⟨31, 0, .rw, .k 0, []⟩]⟩

/-- NT_GCL (R826). -/
def rNT_GCL : Reg := ⟨0x7f1001101000, [(16384, 4), (2048, 2), (8, 256)], [⟨39, 32, .rw, .k 255, []⟩,
  ⟨31, 0, .rw, .k 0, []⟩]⟩

/-- PX_LINK_CFG (R820). -/
def rPX_LINK_CFG : Reg := ⟨0x7f1001200000, [(8, 16)], [⟨63, 63, .rw, .k 0, []⟩,
  ⟨62, 62, .rw, .k 0, []⟩,
  ⟨59, 56, .rw, .k 0, [(1, 6)]⟩,
  ⟨55, 52, .rw, .k 0, [(0, 5)]⟩,
  ⟨51, 50, .rw, .k 0, [(0, 2)]⟩]⟩

/-- PX_LINK_STAT (R821). -/
def rPX_LINK_STAT : Reg := ⟨0x7f1001200080, [(8, 16)], [⟨63, 60, .ro, .k 0, []⟩,
  ⟨59, 56, .ro, .k 0, []⟩,
  ⟨55, 51, .ro, .k 0, []⟩,
  ⟨50, 46, .ro, .k 0, []⟩,
  ⟨45, 45, .ro, .k 0, []⟩,
  ⟨44, 44, .ro, .k 0, []⟩]⟩

/-- PX_LINK_BASE (R822). -/
def rPX_LINK_BASE : Reg := ⟨0x7f1001200100, [(8, 16)], [⟨44, 20, .rwEn0, .k 0, []⟩]⟩

/-- PX_LINK_LIMIT (R822). -/
def rPX_LINK_LIMIT : Reg := ⟨0x7f1001200180, [(8, 16)], [⟨44, 20, .rwEn0, .k 0, []⟩]⟩

/-- PX_LINK_ERR. -/
def rPX_LINK_ERR : Reg := ⟨0x7f1001200200, [(8, 16)], [⟨49, 49, .w1c, .k 0, []⟩,
  ⟨48, 48, .w1c, .k 0, []⟩,
  ⟨47, 0, .rw, .k 0, []⟩]⟩

/-- PX_STREAM (R823). -/
def rPX_STREAM : Reg := ⟨0x7f1001201000, [(2048, 4), (8, 256)], [⟨63, 63, .rw, .k 0, []⟩,
  ⟨62, 62, .rw, .k 0, []⟩,
  ⟨61, 61, .ro, .k 0, []⟩,
  ⟨56, 48, .rw, .k 0, []⟩,
  ⟨15, 0, .rw, .k 0, []⟩]⟩

/-- IP_STATUS (R554). -/
def rIP_STATUS : Reg := ⟨0x7f0000000000, [(65536, 512)], [⟨63, 60, .ro, .k 1, []⟩,
  ⟨59, 59, .ro, .k 0, []⟩,
  ⟨58, 58, .ro, .k 0, []⟩,
  ⟨57, 56, .ro, .k 0, []⟩,
  ⟨55, 48, .ro, .k 0, []⟩,
  ⟨47, 41, .ro, .k 0, []⟩,
  ⟨40, 34, .ro, .k 0, []⟩,
  ⟨33, 33, .ro, .k 0, []⟩,
  ⟨20, 9, .ro, .k 0, []⟩,
  ⟨8, 0, .ro, .k 0, []⟩]⟩

/-- IP_PARKED. -/
def rIP_PARKED : Reg := ⟨0x7f0000000008, [(65536, 512)], [⟨63, 0, .ro, .k 0, []⟩]⟩

/-- IP_RESET_INFO (R554). -/
def rIP_RESET_INFO : Reg := ⟨0x7f0000000010, [(65536, 512)], [⟨63, 48, .ro, .k 0, []⟩,
  ⟨3, 0, .ro, .k 0, []⟩]⟩

/-- IP_QCTL (R558). -/
def rIP_QCTL : Reg := ⟨0x7f0000003000, [(65536, 512)], [⟨5, 0, .rw, .k 0, []⟩]⟩

/-- IP_MBX_IN (R558). -/
def rIP_MBX_IN : Reg := ⟨0x7f0000003008, [(65536, 512)], [⟨63, 48, .rw, .k 0, []⟩,
  ⟨44, 32, .ro, .k 0, []⟩,
  ⟨15, 0, .ro, .k 0, []⟩]⟩

/-- IP_MBX_OUT (R558). -/
def rIP_MBX_OUT : Reg := ⟨0x7f0000003010, [(65536, 512)], [⟨63, 48, .ro, .k 0, []⟩,
  ⟨44, 32, .rw, .k 0, []⟩,
  ⟨0, 0, .wo, .k 0, []⟩]⟩

/-- IP_Q_CFG. -/
def rIP_Q_CFG : Reg := ⟨0x7f0000003100, [(65536, 512), (1024, 3), (512, 2), (32, 16)], [⟨63, 63, .rw, .k 0, []⟩,
  ⟨62, 62, .rw, .k 0, []⟩,
  ⟨45, 12, .rwEn0, .k 0, []⟩,
  ⟨4, 0, .rwEn0, .k 4, [(4, 16)]⟩]⟩

/-- IP_EQ_CFG. -/
def rIP_EQ_CFG : Reg := ⟨0x7f0000003d00, [(65536, 512)], [⟨63, 63, .ro, .k 1, []⟩,
  ⟨45, 12, .ro, .k 0, []⟩,
  ⟨4, 0, .ro, .k 6, []⟩]⟩

/-- IP_Q_TAIL. -/
def rIP_Q_TAIL : Reg := ⟨0x7f0000003108, [(65536, 512), (1024, 3), (512, 2), (32, 16)], [⟨16, 16, .rw, .k 0, []⟩,
  ⟨15, 0, .rw, .k 0, []⟩]⟩

/-- IP_EQ_TAIL. -/
def rIP_EQ_TAIL : Reg := ⟨0x7f0000003d08, [(65536, 512)], [⟨16, 16, .ro, .k 0, []⟩,
  ⟨15, 0, .ro, .k 0, []⟩]⟩

/-- IP_Q_HEAD. -/
def rIP_Q_HEAD : Reg := ⟨0x7f0000003110, [(65536, 512), (1024, 3), (512, 2), (32, 16)], [⟨16, 16, .rw, .k 0, []⟩,
  ⟨15, 0, .rw, .k 0, []⟩]⟩

/-- IP_EQ_HEAD. -/
def rIP_EQ_HEAD : Reg := ⟨0x7f0000003d10, [(65536, 512)], [⟨16, 16, .rw, .k 0, []⟩,
  ⟨15, 0, .rw, .k 0, []⟩]⟩

/-- IP_Q_STAT. -/
def rIP_Q_STAT : Reg := ⟨0x7f0000003118, [(65536, 512), (1024, 3), (512, 2), (32, 16)], [⟨55, 48, .ro, .k 0, []⟩,
  ⟨15, 0, .ro, .k 0, []⟩]⟩

/-- IP_EQ_STAT. -/
def rIP_EQ_STAT : Reg := ⟨0x7f0000003d18, [(65536, 512)], [⟨63, 63, .w1c, .k 0, []⟩,
  ⟨55, 48, .ro, .k 0, []⟩,
  ⟨15, 0, .ro, .k 0, []⟩]⟩

/-- IP_CMD_CFG (R582). -/
def rIP_CMD_CFG : Reg := ⟨0x7f0000007000, [(65536, 512)], [⟨63, 63, .rw, .k 0, []⟩,
  ⟨45, 14, .rwEn0, .k 0, []⟩]⟩

/-- IP_CMD_SUBMIT (R582). -/
def rIP_CMD_SUBMIT : Reg := ⟨0x7f0000007008, [(65536, 512)], [⟨1, 0, .wo, .k 0, []⟩]⟩

/-- IP_CMD_STAT (R582). -/
def rIP_CMD_STAT : Reg := ⟨0x7f0000007010, [(65536, 512)], [⟨63, 63, .w1c, .k 0, []⟩,
  ⟨59, 56, .ro, .k 0, []⟩,
  ⟨49, 48, .ro, .k 0, []⟩,
  ⟨3, 0, .ro, .k 15, []⟩]⟩

/-- IP_TEL_STALE. -/
def rIP_TEL_STALE : Reg := ⟨0x7f0000008000, [(65536, 512)], [⟨49, 49, .ro, .k 0, []⟩,
  ⟨48, 48, .ro, .k 0, []⟩,
  ⟨47, 0, .ro, .k 0, []⟩]⟩

/-- IP_TEL_EQ_DROP. -/
def rIP_TEL_EQ_DROP : Reg := ⟨0x7f0000008008, [(65536, 512)], [⟨49, 49, .ro, .k 0, []⟩,
  ⟨48, 48, .ro, .k 0, []⟩,
  ⟨47, 0, .ro, .k 0, []⟩]⟩

/-- IP_TEL_REFUSED. -/
def rIP_TEL_REFUSED : Reg := ⟨0x7f0000008010, [(65536, 512)], [⟨49, 49, .ro, .k 0, []⟩,
  ⟨48, 48, .ro, .k 0, []⟩,
  ⟨47, 0, .ro, .k 0, []⟩]⟩

/-- IP_TEL_BUCKET. -/
def rIP_TEL_BUCKET : Reg := ⟨0x7f0000008040, [(65536, 512), (8, 5)], [⟨63, 40, .ro, .k 0, []⟩,
  ⟨39, 24, .ro, .k 256, []⟩,
  ⟨15, 0, .ro, .k 256, []⟩]⟩

/-- IP_TEL_WAIT. -/
def rIP_TEL_WAIT : Reg := ⟨0x7f0000008080, [(65536, 512), (8, 5)], [⟨49, 49, .ro, .k 0, []⟩,
  ⟨48, 48, .ro, .k 0, []⟩,
  ⟨47, 0, .ro, .k 0, []⟩]⟩

/-- IP_TEL_VCORE. -/
def rIP_TEL_VCORE : Reg := ⟨0x7f00000080c0, [(65536, 512), (8, 64)], [⟨63, 0, .ro, .k 0, []⟩]⟩

/-- MP_HQ_SUBMIT (R581). -/
def rMP_HQ_SUBMIT : Reg := ⟨0x10000000040000, [], [⟨5, 0, .wo, .k 0, []⟩]⟩

/-- MP_HQ_FREE (R581). -/
def rMP_HQ_FREE : Reg := ⟨0x10000000040008, [], [⟨63, 0, .ro, .k 18446744073709551615, []⟩]⟩

/-- MP_HQ_ERR (R581). -/
def rMP_HQ_ERR : Reg := ⟨0x10000000040010, [], [⟨63, 63, .w1c, .k 0, []⟩,
  ⟨61, 56, .ro, .k 0, []⟩,
  ⟨51, 48, .ro, .k 0, []⟩,
  ⟨31, 0, .ro, .k 0, []⟩]⟩

def VT_STAT_LIFECYCLE : RF := ⟨rVT_STAT, 63, 62⟩
def VT_STAT_INTEGRITY : RF := ⟨rVT_STAT, 61, 61⟩
def VT_STAT_TAINTED : RF := ⟨rVT_STAT, 60, 60⟩
def VT_STAT_PATCH_LOCKED : RF := ⟨rVT_STAT, 59, 59⟩
def VT_STAT_ROM_REV : RF := ⟨rVT_STAT, 47, 32⟩
def VT_STAT_FW_REV : RF := ⟨rVT_STAT, 31, 16⟩
def VT_STAT_PATCH_ID : RF := ⟨rVT_STAT, 15, 0⟩
def VT_BOOT_STEP : RF := ⟨rVT_BOOT, 63, 60⟩
def VT_BOOT_STATE : RF := ⟨rVT_BOOT, 59, 56⟩
def VT_BOOT_CODE : RF := ⟨rVT_BOOT, 55, 48⟩
def VT_BOOT_SLOT : RF := ⟨rVT_BOOT, 47, 47⟩
def VT_BOOT_FALLBACK : RF := ⟨rVT_BOOT, 46, 46⟩
def VT_BOOT_BOOT_SRC : RF := ⟨rVT_BOOT, 45, 44⟩
def VT_BOOT_ELAPSED_MS : RF := ⟨rVT_BOOT, 31, 0⟩
def VT_UID_LO_UID : RF := ⟨rVT_UID_LO, 63, 0⟩
def VT_UID_HI_UID : RF := ⟨rVT_UID_HI, 63, 0⟩
def VT_SVN_STAGE1_FUSE : RF := ⟨rVT_SVN, 63, 56⟩
def VT_SVN_PATCH_FUSE : RF := ⟨rVT_SVN, 55, 48⟩
def VT_SVN_STAGE1_RUN : RF := ⟨rVT_SVN, 47, 40⟩
def VT_SVN_PATCH_RUN : RF := ⟨rVT_SVN, 39, 32⟩
def VT_KEYS_SIGN_PRESENT : RF := ⟨rVT_KEYS, 63, 60⟩
def VT_KEYS_SIGN_REVOKED : RF := ⟨rVT_KEYS, 59, 56⟩
def VT_KEYS_KEY_STAGE1 : RF := ⟨rVT_KEYS, 55, 54⟩
def VT_KEYS_KEY_PATCH : RF := ⟨rVT_KEYS, 53, 52⟩
def VT_KEYS_DBG_OLINEL : RF := ⟨rVT_KEYS, 51, 51⟩
def VT_KEYS_DBG_OWNER : RF := ⟨rVT_KEYS, 50, 50⟩
def VT_KEYS_KEK_PRESENT : RF := ⟨rVT_KEYS, 15, 0⟩
def VT_STAGE_BUSY : RF := ⟨rVT_STAGE, 63, 63⟩
def VT_STAGE_PENDING : RF := ⟨rVT_STAGE, 62, 62⟩
def VT_STAGE_IMAGE : RF := ⟨rVT_STAGE, 61, 60⟩
def VT_STAGE_RESULT : RF := ⟨rVT_STAGE, 59, 56⟩
def VT_STAGE_TARGET : RF := ⟨rVT_STAGE, 47, 47⟩
def VT_STAGE_SEQ : RF := ⟨rVT_STAGE, 31, 0⟩
def VT_DEBUG_LEVEL : RF := ⟨rVT_DEBUG, 63, 60⟩
def VT_DEBUG_KEY : RF := ⟨rVT_DEBUG, 59, 59⟩
def VT_DEBUG_FAILS : RF := ⟨rVT_DEBUG, 58, 56⟩
def VT_DEBUG_LOCKED : RF := ⟨rVT_DEBUG, 55, 55⟩
def VT_DEBUG_GRANTS : RF := ⟨rVT_DEBUG, 15, 0⟩
def VT_LEASE_RECALL : RF := ⟨rVT_LEASE, 63, 63⟩
def VT_LEASE_LEASES : RF := ⟨rVT_LEASE, 53, 48⟩
def VT_LEASE_PAIRS : RF := ⟨rVT_LEASE, 47, 44⟩
def VT_LEASE_SRAM_KIB : RF := ⟨rVT_LEASE, 39, 29⟩
def VT_LEASE_SLOTS : RF := ⟨rVT_LEASE, 12, 0⟩
def VT_SECMEM_GRANULES : RF := ⟨rVT_SECMEM, 21, 0⟩
def MP_STAT_STATE : RF := ⟨rMP_STAT, 63, 60⟩
def MP_STAT_CAUSE : RF := ⟨rMP_STAT, 59, 56⟩
def MP_STAT_RESTARTS : RF := ⟨rMP_STAT, 55, 48⟩
def MP_STAT_LONG_OPS : RF := ⟨rMP_STAT, 45, 40⟩
def MP_STAT_ASSEMBLY : RF := ⟨rMP_STAT, 35, 32⟩
def MP_STAT_FW_REV : RF := ⟨rMP_STAT, 31, 16⟩
def MP_LOAD_LEVEL : RF := ⟨rMP_LOAD, 63, 62⟩
def MP_LOAD_UTIL : RF := ⟨rMP_LOAD, 55, 48⟩
def MP_LOAD_UTIL_MAX : RF := ⟨rMP_LOAD, 47, 40⟩
def MP_CMD_CFG_RETRY_BASE_US : RF := ⟨rMP_CMD_CFG, 63, 48⟩
def MP_CMD_CFG_SHED_PCT : RF := ⟨rMP_CMD_CFG, 47, 40⟩
def MP_CMD_CFG_LOW_PCT : RF := ⟨rMP_CMD_CFG, 39, 32⟩
def MP_CMD_CFG_WDOG_MS : RF := ⟨rMP_CMD_CFG, 31, 24⟩
def MP_CMD_CFG_PROG_MS : RF := ⟨rMP_CMD_CFG, 15, 0⟩
def MP_QUEUE_TOTAL : RF := ⟨rMP_QUEUE, 59, 48⟩
def MP_QUEUE_URGENT : RF := ⟨rMP_QUEUE, 43, 32⟩
def MP_QUEUE_NORMAL : RF := ⟨rMP_QUEUE, 27, 16⟩
def MP_QUEUE_BULK : RF := ⟨rMP_QUEUE, 11, 0⟩
def MP_CMD_CNT_LOST_INC : RF := ⟨rMP_CMD_CNT, 49, 49⟩
def MP_CMD_CNT_OVF : RF := ⟨rMP_CMD_CNT, 48, 48⟩
def MP_CMD_CNT_COUNT : RF := ⟨rMP_CMD_CNT, 47, 0⟩
def MP_BUSY_CNT_LOST_INC : RF := ⟨rMP_BUSY_CNT, 49, 49⟩
def MP_BUSY_CNT_OVF : RF := ⟨rMP_BUSY_CNT, 48, 48⟩
def MP_BUSY_CNT_COUNT : RF := ⟨rMP_BUSY_CNT, 47, 0⟩
def MP_DISCARD_CNT_LOST_INC : RF := ⟨rMP_DISCARD_CNT, 49, 49⟩
def MP_DISCARD_CNT_OVF : RF := ⟨rMP_DISCARD_CNT, 48, 48⟩
def MP_DISCARD_CNT_COUNT : RF := ⟨rMP_DISCARD_CNT, 47, 0⟩
def MP_ABORT_CNT_LOST_INC : RF := ⟨rMP_ABORT_CNT, 49, 49⟩
def MP_ABORT_CNT_OVF : RF := ⟨rMP_ABORT_CNT, 48, 48⟩
def MP_ABORT_CNT_COUNT : RF := ⟨rMP_ABORT_CNT, 47, 0⟩
def MP_RESTART_CNT_LOST_INC : RF := ⟨rMP_RESTART_CNT, 49, 49⟩
def MP_RESTART_CNT_OVF : RF := ⟨rMP_RESTART_CNT, 48, 48⟩
def MP_RESTART_CNT_COUNT : RF := ⟨rMP_RESTART_CNT, 47, 0⟩
def MP_EVT_DROP_COUNT : RF := ⟨rMP_EVT_DROP, 47, 0⟩
def MP_EVT_ROUTE_VEC_EN : RF := ⟨rMP_EVT_ROUTE, 63, 63⟩
def MP_EVT_ROUTE_VECTOR : RF := ⟨rMP_EVT_ROUTE, 58, 48⟩
def MP_EVT_ROUTE_EQ_EN : RF := ⟨rMP_EVT_ROUTE, 47, 47⟩
def MP_EVT_ROUTE_INSTANCE : RF := ⟨rMP_EVT_ROUTE, 40, 32⟩
def MP_EVT_ROUTE_SECURE : RF := ⟨rMP_EVT_ROUTE, 0, 0⟩
def FC_CFG_FLT_CLASS : RF := ⟨rFC_CFG, 57, 56⟩
def FC_CFG_QUIET_MS : RF := ⟨rFC_CFG, 53, 32⟩
def FC_CFG_RECOV_LIMIT : RF := ⟨rFC_CFG, 31, 24⟩
def FC_CFG_FOLD_US : RF := ⟨rFC_CFG, 15, 0⟩
def FC_STAT_SABLE : RF := ⟨rFC_STAT, 63, 63⟩
def FC_STAT_FLT_ASSERT : RF := ⟨rFC_STAT, 62, 62⟩
def FC_STAT_FLT_MODE : RF := ⟨rFC_STAT, 61, 61⟩
def FC_STAT_BLIND : RF := ⟨rFC_STAT, 60, 60⟩
def FC_STAT_SUBSYS_FOLD : RF := ⟨rFC_STAT, 59, 59⟩
def FC_STAT_OPEN : RF := ⟨rFC_STAT, 56, 48⟩
def FC_STAT_LOG_USED : RF := ⟨rFC_STAT, 39, 26⟩
def FC_STAT_LOST : RF := ⟨rFC_STAT, 25, 25⟩
def FC_STAT_LOST_CLASS : RF := ⟨rFC_STAT, 24, 23⟩
def FC_UNCLEARED_SABLE : RF := ⟨rFC_UNCLEARED, 63, 48⟩
def FC_UNCLEARED_RUSSET : RF := ⟨rFC_UNCLEARED, 47, 32⟩
def FC_UNCLEARED_OCHRE : RF := ⟨rFC_UNCLEARED, 31, 16⟩
def FC_UNCLEARED_SLATE : RF := ⟨rFC_UNCLEARED, 15, 0⟩
def FC_LOG_NEXT_SEQ : RF := ⟨rFC_LOG, 31, 0⟩
def FC_FJ_POWER_ON : RF := ⟨rFC_FJ, 63, 48⟩
def FC_FJ_WRAP : RF := ⟨rFC_FJ, 12, 12⟩
def FC_FJ_INDEX : RF := ⟨rFC_FJ, 11, 0⟩
def FC_TEST_BUSY : RF := ⟨rFC_TEST, 63, 63⟩
def FC_TEST_RESULT : RF := ⟨rFC_TEST, 57, 56⟩
def FC_TEST_KIND : RF := ⟨rFC_TEST, 55, 48⟩
def FC_TEST_INDEX : RF := ⟨rFC_TEST, 47, 40⟩
def FC_TEST_PROGRESS : RF := ⟨rFC_TEST, 15, 0⟩
def FC_UNIT_SEL_UNIT : RF := ⟨rFC_UNIT_SEL, 23, 0⟩
def FC_UNIT_STAT_STATE : RF := ⟨rFC_UNIT_STAT, 63, 60⟩
def FC_UNIT_STAT_LAST_CLASS : RF := ⟨rFC_UNIT_STAT, 57, 56⟩
def FC_UNIT_STAT_RECOVERIES : RF := ⟨rFC_UNIT_STAT, 55, 48⟩
def FC_UNIT_STAT_QUIET_LEFT_MS : RF := ⟨rFC_UNIT_STAT, 43, 22⟩
def FC_UNIT_STAT_TOTAL : RF := ⟨rFC_UNIT_STAT, 15, 0⟩
def FC_REPORT_CNT_LOST_INC : RF := ⟨rFC_REPORT_CNT, 49, 49⟩
def FC_REPORT_CNT_OVF : RF := ⟨rFC_REPORT_CNT, 48, 48⟩
def FC_REPORT_CNT_COUNT : RF := ⟨rFC_REPORT_CNT, 47, 0⟩
def FC_RECORD_CNT_LOST_INC : RF := ⟨rFC_RECORD_CNT, 49, 49⟩
def FC_RECORD_CNT_OVF : RF := ⟨rFC_RECORD_CNT, 48, 48⟩
def FC_RECORD_CNT_COUNT : RF := ⟨rFC_RECORD_CNT, 47, 0⟩
def FC_LOST_CNT_LOST_INC : RF := ⟨rFC_LOST_CNT, 49, 49⟩
def FC_LOST_CNT_OVF : RF := ⟨rFC_LOST_CNT, 48, 48⟩
def FC_LOST_CNT_COUNT : RF := ⟨rFC_LOST_CNT, 47, 0⟩
def FC_PATH_CNT_LOST_INC : RF := ⟨rFC_PATH_CNT, 49, 49⟩
def FC_PATH_CNT_OVF : RF := ⟨rFC_PATH_CNT, 48, 48⟩
def FC_PATH_CNT_COUNT : RF := ⟨rFC_PATH_CNT, 47, 0⟩
def FC_PT_STATE : RF := ⟨rFC_PT, 63, 62⟩
def FC_PT_BREAKS : RF := ⟨rFC_PT, 47, 32⟩
def FC_PT_UNIT : RF := ⟨rFC_PT, 23, 0⟩
def TN_CFG_SLICE_UNIT : RF := ⟨rTN_CFG, 7, 0⟩
def TN_STAT_CREATED : RF := ⟨rTN_STAT, 41, 32⟩
def TN_STAT_RUNNING : RF := ⟨rTN_STAT, 9, 0⟩
def TN_OP_BUSY : RF := ⟨rTN_OP, 63, 63⟩
def TN_OP_KIND : RF := ⟨rTN_OP, 62, 61⟩
def TN_OP_INSTANCE : RF := ⟨rTN_OP, 60, 52⟩
def TN_OP_POS_TOTAL : RF := ⟨rTN_OP_POS, 63, 32⟩
def TN_OP_POS_POS : RF := ⟨rTN_OP_POS, 31, 0⟩
def TN_MBX_SEL_INSTANCE : RF := ⟨rTN_MBX_SEL, 8, 0⟩
def TN_MBX_CTL_POST_IN : RF := ⟨rTN_MBX_CTL, 63, 63⟩
def TN_MBX_CTL_ACK_OUT : RF := ⟨rTN_MBX_CTL, 62, 62⟩
def TN_MBX_CTL_REFUSED : RF := ⟨rTN_MBX_CTL, 61, 61⟩
def TN_MBX_CTL_LEN : RF := ⟨rTN_MBX_CTL, 44, 32⟩
def TN_MBX_CTL_OUT_SEQ : RF := ⟨rTN_MBX_CTL, 31, 16⟩
def TN_MBX_CTL_OUT_LEN : RF := ⟨rTN_MBX_CTL, 15, 0⟩
def TN_MBX_PEND_PEND : RF := ⟨rTN_MBX_PEND, 63, 0⟩
def TN_INST_STATE : RF := ⟨rTN_INST, 63, 60⟩
def TN_INST_SECURE : RF := ⟨rTN_INST, 59, 59⟩
def TN_INST_PROTECTED : RF := ⟨rTN_INST, 58, 58⟩
def TN_INST_CLASS : RF := ⟨rTN_INST, 57, 56⟩
def TN_INST_WEIGHT : RF := ⟨rTN_INST, 55, 48⟩
def TN_INST_VCORES : RF := ⟨rTN_INST, 47, 41⟩
def TN_INST_PARKED : RF := ⟨rTN_INST, 40, 34⟩
def TN_INST_AUTO_RESTART : RF := ⟨rTN_INST, 33, 33⟩
def TN_INST_DRAIN : RF := ⟨rTN_INST, 31, 25⟩
def TN_INST_GENERATION : RF := ⟨rTN_INST, 20, 9⟩
def TN_STALE_LOST_INC : RF := ⟨rTN_STALE, 49, 49⟩
def TN_STALE_OVF : RF := ⟨rTN_STALE, 48, 48⟩
def TN_STALE_COUNT : RF := ⟨rTN_STALE, 47, 0⟩
def TN_EQ_DROP_LOST_INC : RF := ⟨rTN_EQ_DROP, 49, 49⟩
def TN_EQ_DROP_OVF : RF := ⟨rTN_EQ_DROP, 48, 48⟩
def TN_EQ_DROP_COUNT : RF := ⟨rTN_EQ_DROP, 47, 0⟩
def TN_BUCKET_RATE : RF := ⟨rTN_BUCKET, 63, 40⟩
def TN_BUCKET_BURST : RF := ⟨rTN_BUCKET, 39, 24⟩
def TN_BUCKET_LEVEL : RF := ⟨rTN_BUCKET, 15, 0⟩
def TN_DISP_VALID : RF := ⟨rTN_DISP, 63, 63⟩
def TN_DISP_RUNNABLE : RF := ⟨rTN_DISP, 62, 62⟩
def TN_DISP_CURRENT : RF := ⟨rTN_DISP, 61, 61⟩
def TN_DISP_CONTROL : RF := ⟨rTN_DISP, 60, 60⟩
def TN_DISP_VCORE : RF := ⟨rTN_DISP, 57, 52⟩
def TN_DISP_INSTANCE : RF := ⟨rTN_DISP, 48, 40⟩
def TN_DISP_SLICE : RF := ⟨rTN_DISP, 39, 32⟩
def CH_CFG_INST_MAX : RF := ⟨rCH_CFG, 47, 32⟩
def CH_CFG_FILL_WARN : RF := ⟨rCH_CFG, 23, 16⟩
def CH_CFG_STAGE : RF := ⟨rCH_CFG, 10, 8⟩
def CH_CFG_PROG_MIB : RF := ⟨rCH_CFG, 7, 0⟩
def CH_STAT_JOURNAL : RF := ⟨rCH_STAT, 63, 60⟩
def CH_STAT_STAGE_NOW : RF := ⟨rCH_STAT, 55, 53⟩
def CH_STAT_DEFINED : RF := ⟨rCH_STAT, 26, 16⟩
def CH_STAT_PROC_UP : RF := ⟨rCH_STAT, 15, 0⟩
def CH_JRNL_LIVE : RF := ⟨rCH_JRNL, 50, 32⟩
def CH_JRNL_FREE : RF := ⟨rCH_JRNL, 18, 0⟩
def CH_JRNL_HEAD_INDEX : RF := ⟨rCH_JRNL_HEAD, 18, 0⟩
def CH_JRNL_TAIL_INDEX : RF := ⟨rCH_JRNL_TAIL, 18, 0⟩
def CH_JRNL_JSN_JSN : RF := ⟨rCH_JRNL_JSN, 47, 0⟩
def CH_REPLAY_BUSY : RF := ⟨rCH_REPLAY, 63, 63⟩
def CH_REPLAY_TRIGGER : RF := ⟨rCH_REPLAY, 62, 60⟩
def CH_REPLAY_INSTANCE : RF := ⟨rCH_REPLAY, 59, 51⟩
def CH_REPLAY_TOTAL : RF := ⟨rCH_REPLAY, 37, 19⟩
def CH_REPLAY_POS : RF := ⟨rCH_REPLAY, 18, 0⟩
def CH_ELOG_VALID : RF := ⟨rCH_ELOG, 63, 63⟩
def CH_ELOG_KIND : RF := ⟨rCH_ELOG, 62, 60⟩
def CH_ELOG_PROC : RF := ⟨rCH_ELOG, 59, 56⟩
def CH_ELOG_ENTRY : RF := ⟨rCH_ELOG, 19, 0⟩
def CH_ORPHAN_COUNT : RF := ⟨rCH_ORPHAN, 18, 0⟩
def CH_ACCEPT_CNT_LOST_INC : RF := ⟨rCH_ACCEPT_CNT, 49, 49⟩
def CH_ACCEPT_CNT_OVF : RF := ⟨rCH_ACCEPT_CNT, 48, 48⟩
def CH_ACCEPT_CNT_COUNT : RF := ⟨rCH_ACCEPT_CNT, 47, 0⟩
def CH_REFUSE_CNT_LOST_INC : RF := ⟨rCH_REFUSE_CNT, 49, 49⟩
def CH_REFUSE_CNT_OVF : RF := ⟨rCH_REFUSE_CNT, 48, 48⟩
def CH_REFUSE_CNT_COUNT : RF := ⟨rCH_REFUSE_CNT, 47, 0⟩
def CH_FAIL_CNT_LOST_INC : RF := ⟨rCH_FAIL_CNT, 49, 49⟩
def CH_FAIL_CNT_OVF : RF := ⟨rCH_FAIL_CNT, 48, 48⟩
def CH_FAIL_CNT_COUNT : RF := ⟨rCH_FAIL_CNT, 47, 0⟩
def CH_CANCEL_CNT_LOST_INC : RF := ⟨rCH_CANCEL_CNT, 49, 49⟩
def CH_CANCEL_CNT_OVF : RF := ⟨rCH_CANCEL_CNT, 48, 48⟩
def CH_CANCEL_CNT_COUNT : RF := ⟨rCH_CANCEL_CNT, 47, 0⟩
def CH_JRNL_CORR_LOST_INC : RF := ⟨rCH_JRNL_CORR, 49, 49⟩
def CH_JRNL_CORR_OVF : RF := ⟨rCH_JRNL_CORR, 48, 48⟩
def CH_JRNL_CORR_COUNT : RF := ⟨rCH_JRNL_CORR, 47, 0⟩
def CH_RESEND_CNT_LOST_INC : RF := ⟨rCH_RESEND_CNT, 49, 49⟩
def CH_RESEND_CNT_OVF : RF := ⟨rCH_RESEND_CNT, 48, 48⟩
def CH_RESEND_CNT_COUNT : RF := ⟨rCH_RESEND_CNT, 47, 0⟩
def CH_NET_DISC_LOST_INC : RF := ⟨rCH_NET_DISC, 49, 49⟩
def CH_NET_DISC_OVF : RF := ⟨rCH_NET_DISC, 48, 48⟩
def CH_NET_DISC_COUNT : RF := ⟨rCH_NET_DISC, 47, 0⟩
def CH_PROC_STAT_STATE : RF := ⟨rCH_PROC_STAT, 63, 60⟩
def CH_PROC_STAT_ACTIVE : RF := ⟨rCH_PROC_STAT, 54, 48⟩
def CH_PROC_STAT_CHANNELS : RF := ⟨rCH_PROC_STAT, 42, 32⟩
def CH_PROC_STAT_HOME : RF := ⟨rCH_PROC_STAT, 3, 0⟩
def CH_PROC_TXN_LOST_INC : RF := ⟨rCH_PROC_TXN, 49, 49⟩
def CH_PROC_TXN_OVF : RF := ⟨rCH_PROC_TXN, 48, 48⟩
def CH_PROC_TXN_COUNT : RF := ⟨rCH_PROC_TXN, 47, 0⟩
def CH_PROC_RETRY_LOST_INC : RF := ⟨rCH_PROC_RETRY, 49, 49⟩
def CH_PROC_RETRY_OVF : RF := ⟨rCH_PROC_RETRY, 48, 48⟩
def CH_PROC_RETRY_COUNT : RF := ⟨rCH_PROC_RETRY, 47, 0⟩
def CH_HOST_CQ_BASE_BASE : RF := ⟨rCH_HOST_CQ_BASE, 63, 6⟩
def CH_HOST_CQ_CFG_EN : RF := ⟨rCH_HOST_CQ_CFG, 63, 63⟩
def CH_HOST_CQ_CFG_SIZE : RF := ⟨rCH_HOST_CQ_CFG, 4, 0⟩
def CH_HOST_CQ_TAIL_WRAP : RF := ⟨rCH_HOST_CQ_TAIL, 16, 16⟩
def CH_HOST_CQ_TAIL_INDEX : RF := ⟨rCH_HOST_CQ_TAIL, 15, 0⟩
def CH_HOST_CQ_HEAD_WRAP : RF := ⟨rCH_HOST_CQ_HEAD, 16, 16⟩
def CH_HOST_CQ_HEAD_INDEX : RF := ⟨rCH_HOST_CQ_HEAD, 15, 0⟩
def CH_CHAN_STATE : RF := ⟨rCH_CHAN, 63, 60⟩
def CH_CHAN_KIND : RF := ⟨rCH_CHAN, 59, 56⟩
def CH_CHAN_HOST : RF := ⟨rCH_CHAN, 55, 55⟩
def CH_CHAN_PROC : RF := ⟨rCH_CHAN, 51, 48⟩
def CH_CHAN_OWNER : RF := ⟨rCH_CHAN, 40, 32⟩
def CH_CHAN_OUTSTANDING : RF := ⟨rCH_CHAN, 18, 0⟩
def FR_CFG_ABSENT_CYCLES : RF := ⟨rFR_CFG, 55, 48⟩
def FR_CFG_HEAL_MS : RF := ⟨rFR_CFG, 31, 16⟩
def FR_CFG_RETRIES : RF := ⟨rFR_CFG, 3, 0⟩
def FR_STAT_ROLE : RF := ⟨rFR_STAT, 63, 60⟩
def FR_STAT_PATH : RF := ⟨rFR_STAT, 59, 56⟩
def FR_STAT_CYC : RF := ⟨rFR_STAT, 55, 54⟩
def FR_STAT_SCHED_VER : RF := ⟨rFR_STAT, 47, 32⟩
def FR_STAT_SOURCE : RF := ⟨rFR_STAT, 31, 16⟩
def FR_STAT_NODES_UP : RF := ⟨rFR_STAT, 8, 0⟩
def FR_CYCLE_CYCLE : RF := ⟨rFR_CYCLE, 63, 0⟩
def FR_LOOP_CLOSED_NS : RF := ⟨rFR_LOOP, 63, 32⟩
def FR_LOOP_LOOP_NS : RF := ⟨rFR_LOOP, 31, 0⟩
def FR_WRAP_FIRST_VALID : RF := ⟨rFR_WRAP, 63, 63⟩
def FR_WRAP_SECOND_VALID : RF := ⟨rFR_WRAP, 62, 62⟩
def FR_WRAP_FIRST : RF := ⟨rFR_WRAP, 47, 40⟩
def FR_WRAP_SECOND : RF := ⟨rFR_WRAP, 39, 32⟩
def FR_WRAP_CYCLES : RF := ⟨rFR_WRAP, 31, 0⟩
def FR_BUDGET_USED_NS : RF := ⟨rFR_BUDGET, 63, 32⟩
def FR_BUDGET_OUT_BYTES : RF := ⟨rFR_BUDGET, 31, 16⟩
def FR_COMM_BUSY : RF := ⟨rFR_COMM, 63, 63⟩
def FR_COMM_STEP : RF := ⟨rFR_COMM, 62, 60⟩
def FR_COMM_RESULT : RF := ⟨rFR_COMM, 59, 56⟩
def FR_COMM_NODE : RF := ⟨rFR_COMM, 55, 48⟩
def FR_COMM_TOTAL : RF := ⟨rFR_COMM, 31, 16⟩
def FR_COMM_POS : RF := ⟨rFR_COMM, 15, 0⟩
def FR_ELOG_VALID : RF := ⟨rFR_ELOG, 63, 63⟩
def FR_ELOG_KIND : RF := ⟨rFR_ELOG, 62, 60⟩
def FR_ELOG_NODE : RF := ⟨rFR_ELOG, 55, 48⟩
def FR_ELOG_EDGE_NS : RF := ⟨rFR_ELOG, 47, 32⟩
def FR_ELOG_CYCLE : RF := ⟨rFR_ELOG, 31, 0⟩
def FR_SLOT_OK_LOST_INC : RF := ⟨rFR_SLOT_OK, 49, 49⟩
def FR_SLOT_OK_OVF : RF := ⟨rFR_SLOT_OK, 48, 48⟩
def FR_SLOT_OK_COUNT : RF := ⟨rFR_SLOT_OK, 47, 0⟩
def FR_SLOT_VOID_LOST_INC : RF := ⟨rFR_SLOT_VOID, 49, 49⟩
def FR_SLOT_VOID_OVF : RF := ⟨rFR_SLOT_VOID, 48, 48⟩
def FR_SLOT_VOID_COUNT : RF := ⟨rFR_SLOT_VOID, 47, 0⟩
def FR_CRC_ERR_LOST_INC : RF := ⟨rFR_CRC_ERR, 49, 49⟩
def FR_CRC_ERR_OVF : RF := ⟨rFR_CRC_ERR, 48, 48⟩
def FR_CRC_ERR_COUNT : RF := ⟨rFR_CRC_ERR, 47, 0⟩
def FR_EDGE_WARN_LOST_INC : RF := ⟨rFR_EDGE_WARN, 49, 49⟩
def FR_EDGE_WARN_OVF : RF := ⟨rFR_EDGE_WARN, 48, 48⟩
def FR_EDGE_WARN_COUNT : RF := ⟨rFR_EDGE_WARN, 47, 0⟩
def FR_MUTE_LOST_INC : RF := ⟨rFR_MUTE, 49, 49⟩
def FR_MUTE_OVF : RF := ⟨rFR_MUTE, 48, 48⟩
def FR_MUTE_COUNT : RF := ⟨rFR_MUTE, 47, 0⟩
def FR_PATH_CNT_LOST_INC : RF := ⟨rFR_PATH_CNT, 49, 49⟩
def FR_PATH_CNT_OVF : RF := ⟨rFR_PATH_CNT, 48, 48⟩
def FR_PATH_CNT_COUNT : RF := ⟨rFR_PATH_CNT, 47, 0⟩
def FR_REQ_RETRY_LOST_INC : RF := ⟨rFR_REQ_RETRY, 49, 49⟩
def FR_REQ_RETRY_OVF : RF := ⟨rFR_REQ_RETRY, 48, 48⟩
def FR_REQ_RETRY_COUNT : RF := ⟨rFR_REQ_RETRY, 47, 0⟩
def FR_REQ_NACK_LOST_INC : RF := ⟨rFR_REQ_NACK, 49, 49⟩
def FR_REQ_NACK_OVF : RF := ⟨rFR_REQ_NACK, 48, 48⟩
def FR_REQ_NACK_COUNT : RF := ⟨rFR_REQ_NACK, 47, 0⟩
def FR_REQ_ABSENT_LOST_INC : RF := ⟨rFR_REQ_ABSENT, 49, 49⟩
def FR_REQ_ABSENT_OVF : RF := ⟨rFR_REQ_ABSENT, 48, 48⟩
def FR_REQ_ABSENT_COUNT : RF := ⟨rFR_REQ_ABSENT, 47, 0⟩
def FR_CODE_ERR_N_LOST_INC : RF := ⟨rFR_CODE_ERR_N, 49, 49⟩
def FR_CODE_ERR_N_OVF : RF := ⟨rFR_CODE_ERR_N, 48, 48⟩
def FR_CODE_ERR_N_COUNT : RF := ⟨rFR_CODE_ERR_N, 47, 0⟩
def FR_CODE_ERR_P_LOST_INC : RF := ⟨rFR_CODE_ERR_P, 49, 49⟩
def FR_CODE_ERR_P_OVF : RF := ⟨rFR_CODE_ERR_P, 48, 48⟩
def FR_CODE_ERR_P_COUNT : RF := ⟨rFR_CODE_ERR_P, 47, 0⟩
def FR_NODE_STATE : RF := ⟨rFR_NODE, 63, 60⟩
def FR_NODE_LOOPED : RF := ⟨rFR_NODE, 59, 59⟩
def FR_NODE_RESTARTED : RF := ⟨rFR_NODE, 58, 58⟩
def FR_NODE_MAINT : RF := ⟨rFR_NODE, 57, 57⟩
def FR_NODE_SAFE : RF := ⟨rFR_NODE, 56, 56⟩
def FR_NODE_CLEAN : RF := ⟨rFR_NODE, 55, 48⟩
def FR_NODE_EDGE_NS : RF := ⟨rFR_NODE, 47, 32⟩
def FR_NODE_EDGE_MAX_NS : RF := ⟨rFR_NODE, 31, 16⟩
def FR_NODE_POINTS : RF := ⟨rFR_NODE, 8, 0⟩
def SG_CFG_STAGE_WARN : RF := ⟨rSG_CFG, 23, 16⟩
def SG_CFG_LANE_BUDGET : RF := ⟨rSG_CFG, 7, 0⟩
def SG_STAT_STORE : RF := ⟨rSG_STAT, 63, 60⟩
def SG_STAT_LANES_UP : RF := ⟨rSG_STAT, 55, 48⟩
def SG_STAT_ROLE : RF := ⟨rSG_STAT, 47, 40⟩
def SG_STAT_DEFINED : RF := ⟨rSG_STAT, 21, 0⟩
def SG_ELOG_VALID : RF := ⟨rSG_ELOG, 63, 63⟩
def SG_ELOG_KIND : RF := ⟨rSG_ELOG, 62, 60⟩
def SG_ELOG_LANE : RF := ⟨rSG_ELOG, 55, 50⟩
def SG_ELOG_SID : RF := ⟨rSG_ELOG, 20, 0⟩
def SG_REPROC_BUSY : RF := ⟨rSG_REPROC, 63, 63⟩
def SG_REPROC_TOTAL : RF := ⟨rSG_REPROC, 53, 32⟩
def SG_REPROC_POS : RF := ⟨rSG_REPROC, 21, 0⟩
def SG_UNDEF_LOST_INC : RF := ⟨rSG_UNDEF, 49, 49⟩
def SG_UNDEF_OVF : RF := ⟨rSG_UNDEF, 48, 48⟩
def SG_UNDEF_COUNT : RF := ⟨rSG_UNDEF, 47, 0⟩
def SG_DROP_LOST_INC : RF := ⟨rSG_DROP, 49, 49⟩
def SG_DROP_OVF : RF := ⟨rSG_DROP, 48, 48⟩
def SG_DROP_COUNT : RF := ⟨rSG_DROP, 47, 0⟩
def SG_FAN_DROP_LOST_INC : RF := ⟨rSG_FAN_DROP, 49, 49⟩
def SG_FAN_DROP_OVF : RF := ⟨rSG_FAN_DROP, 48, 48⟩
def SG_FAN_DROP_COUNT : RF := ⟨rSG_FAN_DROP, 47, 0⟩
def SG_STAGE_LOST_LOST_INC : RF := ⟨rSG_STAGE_LOST, 49, 49⟩
def SG_STAGE_LOST_OVF : RF := ⟨rSG_STAGE_LOST, 48, 48⟩
def SG_STAGE_LOST_COUNT : RF := ⟨rSG_STAGE_LOST, 47, 0⟩
def SG_STORE_CORR_LOST_INC : RF := ⟨rSG_STORE_CORR, 49, 49⟩
def SG_STORE_CORR_OVF : RF := ⟨rSG_STORE_CORR, 48, 48⟩
def SG_STORE_CORR_COUNT : RF := ⟨rSG_STORE_CORR, 47, 0⟩
def SG_OUT_STAT_STAGED : RF := ⟨rSG_OUT_STAT, 49, 32⟩
def SG_OUT_STAT_ASSIGNED : RF := ⟨rSG_OUT_STAT, 17, 0⟩
def SG_LANE_STAT_STATE : RF := ⟨rSG_LANE_STAT, 63, 60⟩
def SG_LANE_STAT_HOME : RF := ⟨rSG_LANE_STAT, 53, 48⟩
def SG_LANE_STAT_LOAD : RF := ⟨rSG_LANE_STAT, 47, 40⟩
def SG_LANE_STAT_DEPTH_MAX : RF := ⟨rSG_LANE_STAT, 31, 16⟩
def SG_LANE_STAT_DEPTH : RF := ⟨rSG_LANE_STAT, 10, 0⟩
def SG_LANE_UPD_LOST_INC : RF := ⟨rSG_LANE_UPD, 49, 49⟩
def SG_LANE_UPD_OVF : RF := ⟨rSG_LANE_UPD, 48, 48⟩
def SG_LANE_UPD_COUNT : RF := ⟨rSG_LANE_UPD, 47, 0⟩
def SG_STAGE_HEAD_WRAP : RF := ⟨rSG_STAGE_HEAD, 24, 24⟩
def SG_STAGE_HEAD_INDEX : RF := ⟨rSG_STAGE_HEAD, 23, 0⟩
def SG_STAGE_TAIL_WRAP : RF := ⟨rSG_STAGE_TAIL, 24, 24⟩
def SG_STAGE_TAIL_INDEX : RF := ⟨rSG_STAGE_TAIL, 23, 0⟩
def SG_RD_DIGEST : RF := ⟨rSG_RD, 63, 0⟩
def SG_RD_CYC_VALID : RF := ⟨rSG_RD_CYC, 63, 63⟩
def SG_RD_CYC_CYCLE : RF := ⟨rSG_RD_CYC, 31, 0⟩
def CZ_CFG_HIST_LINGER : RF := ⟨rCZ_CFG, 23, 16⟩
def CZ_CFG_HIST_SHARE : RF := ⟨rCZ_CFG, 7, 0⟩
def CZ_STAT_CTX_USED : RF := ⟨rCZ_STAT, 20, 16⟩
def CZ_STAT_UP : RF := ⟨rCZ_STAT, 3, 0⟩
def CZ_HIST_CFG_EN : RF := ⟨rCZ_HIST_CFG, 63, 63⟩
def CZ_HIST_CFG_INSTANCE : RF := ⟨rCZ_HIST_CFG, 40, 32⟩
def CZ_HIST_CFG_QUEUE : RF := ⟨rCZ_HIST_CFG, 3, 0⟩
def CZ_HIST_STAT_STARVED : RF := ⟨rCZ_HIST_STAT, 63, 63⟩
def CZ_HIST_STAT_WAITING : RF := ⟨rCZ_HIST_STAT, 15, 0⟩
def CZ_ELOG_VALID : RF := ⟨rCZ_ELOG, 63, 63⟩
def CZ_ELOG_REASON : RF := ⟨rCZ_ELOG, 47, 40⟩
def CZ_ELOG_INSTANCE : RF := ⟨rCZ_ELOG, 39, 31⟩
def CZ_ELOG_TAG : RF := ⟨rCZ_ELOG, 15, 0⟩
def CZ_FAIL_CNT_LOST_INC : RF := ⟨rCZ_FAIL_CNT, 49, 49⟩
def CZ_FAIL_CNT_OVF : RF := ⟨rCZ_FAIL_CNT, 48, 48⟩
def CZ_FAIL_CNT_COUNT : RF := ⟨rCZ_FAIL_CNT, 47, 0⟩
def CZ_SEG_CNT_LOST_INC : RF := ⟨rCZ_SEG_CNT, 49, 49⟩
def CZ_SEG_CNT_OVF : RF := ⟨rCZ_SEG_CNT, 48, 48⟩
def CZ_SEG_CNT_COUNT : RF := ⟨rCZ_SEG_CNT, 47, 0⟩
def CZ_STAGE_DISC_LOST_INC : RF := ⟨rCZ_STAGE_DISC, 49, 49⟩
def CZ_STAGE_DISC_OVF : RF := ⟨rCZ_STAGE_DISC, 48, 48⟩
def CZ_STAGE_DISC_COUNT : RF := ⟨rCZ_STAGE_DISC, 47, 0⟩
def CZ_PIPE_STAT_STATE : RF := ⟨rCZ_PIPE_STAT, 63, 60⟩
def CZ_PIPE_STAT_ACTIVE : RF := ⟨rCZ_PIPE_STAT, 52, 48⟩
def CZ_PIPE_STAT_INSTANCE : RF := ⟨rCZ_PIPE_STAT, 40, 32⟩
def CZ_PIPE_IN_LOST_INC : RF := ⟨rCZ_PIPE_IN, 49, 49⟩
def CZ_PIPE_IN_OVF : RF := ⟨rCZ_PIPE_IN, 48, 48⟩
def CZ_PIPE_IN_COUNT : RF := ⟨rCZ_PIPE_IN, 47, 0⟩
def CZ_PIPE_OUT_LOST_INC : RF := ⟨rCZ_PIPE_OUT, 49, 49⟩
def CZ_PIPE_OUT_OVF : RF := ⟨rCZ_PIPE_OUT, 48, 48⟩
def CZ_PIPE_OUT_COUNT : RF := ⟨rCZ_PIPE_OUT, 47, 0⟩
def CZ_PIPE_RETRY_LOST_INC : RF := ⟨rCZ_PIPE_RETRY, 49, 49⟩
def CZ_PIPE_RETRY_OVF : RF := ⟨rCZ_PIPE_RETRY, 48, 48⟩
def CZ_PIPE_RETRY_COUNT : RF := ⟨rCZ_PIPE_RETRY, 47, 0⟩
def CY_STAT_SLOTS_LEASED : RF := ⟨rCY_STAT, 60, 48⟩
def CY_STAT_LEASED : RF := ⟨rCY_STAT, 47, 40⟩
def CY_STAT_CTX_USED : RF := ⟨rCY_STAT, 29, 24⟩
def CY_STAT_UP : RF := ⟨rCY_STAT, 7, 0⟩
def CY_ROTATE_BUSY : RF := ⟨rCY_ROTATE, 63, 63⟩
def CY_ROTATE_PHASE : RF := ⟨rCY_ROTATE, 62, 61⟩
def CY_ROTATE_REWRAP : RF := ⟨rCY_ROTATE, 60, 60⟩
def CY_ROTATE_SLOT : RF := ⟨rCY_ROTATE, 59, 48⟩
def CY_ROTATE_TOTAL : RF := ⟨rCY_ROTATE, 31, 0⟩
def CY_ROTATE_POS_POS : RF := ⟨rCY_ROTATE_POS, 31, 0⟩
def CY_ELOG_VALID : RF := ⟨rCY_ELOG, 63, 63⟩
def CY_ELOG_SLOT : RF := ⟨rCY_ELOG, 59, 48⟩
def CY_ELOG_REASON : RF := ⟨rCY_ELOG, 47, 40⟩
def CY_ELOG_INSTANCE : RF := ⟨rCY_ELOG, 39, 31⟩
def CY_ELOG_TAG : RF := ⟨rCY_ELOG, 15, 0⟩
def CY_FAIL_CNT_LOST_INC : RF := ⟨rCY_FAIL_CNT, 49, 49⟩
def CY_FAIL_CNT_OVF : RF := ⟨rCY_FAIL_CNT, 48, 48⟩
def CY_FAIL_CNT_COUNT : RF := ⟨rCY_FAIL_CNT, 47, 0⟩
def CY_AUTH_FAIL_CNT_LOST_INC : RF := ⟨rCY_AUTH_FAIL_CNT, 49, 49⟩
def CY_AUTH_FAIL_CNT_OVF : RF := ⟨rCY_AUTH_FAIL_CNT, 48, 48⟩
def CY_AUTH_FAIL_CNT_COUNT : RF := ⟨rCY_AUTH_FAIL_CNT, 47, 0⟩
def CY_PIPE_STAT_STATE : RF := ⟨rCY_PIPE_STAT, 63, 60⟩
def CY_PIPE_STAT_LEASED : RF := ⟨rCY_PIPE_STAT, 59, 59⟩
def CY_PIPE_STAT_ACTIVE : RF := ⟨rCY_PIPE_STAT, 52, 48⟩
def CY_PIPE_STAT_INSTANCE : RF := ⟨rCY_PIPE_STAT, 40, 32⟩
def CY_PIPE_STAT_PARTNER : RF := ⟨rCY_PIPE_STAT, 2, 0⟩
def CY_PIPE_BYTES_LOST_INC : RF := ⟨rCY_PIPE_BYTES, 49, 49⟩
def CY_PIPE_BYTES_OVF : RF := ⟨rCY_PIPE_BYTES, 48, 48⟩
def CY_PIPE_BYTES_COUNT : RF := ⟨rCY_PIPE_BYTES, 47, 0⟩
def CY_PIPE_RETRY_LOST_INC : RF := ⟨rCY_PIPE_RETRY, 49, 49⟩
def CY_PIPE_RETRY_OVF : RF := ⟨rCY_PIPE_RETRY, 48, 48⟩
def CY_PIPE_RETRY_COUNT : RF := ⟨rCY_PIPE_RETRY, 47, 0⟩
def CY_SLOT_STATE : RF := ⟨rCY_SLOT, 63, 60⟩
def CY_SLOT_LEASED : RF := ⟨rCY_SLOT, 59, 59⟩
def CY_SLOT_CUR : RF := ⟨rCY_SLOT, 58, 58⟩
def CY_SLOT_PREV_VALID : RF := ⟨rCY_SLOT, 57, 57⟩
def CY_SLOT_AUTO : RF := ⟨rCY_SLOT, 56, 56⟩
def CY_SLOT_ALG : RF := ⟨rCY_SLOT, 55, 52⟩
def CY_SLOT_OWNER : RF := ⟨rCY_SLOT, 40, 32⟩
def CY_SLOT_BUNDLE_ID : RF := ⟨rCY_SLOT, 31, 16⟩
def CY_SLOT_INFLIGHT : RF := ⟨rCY_SLOT, 15, 0⟩
def MA_CAP_USABLE_GIB : RF := ⟨rMA_CAP, 49, 36⟩
def MA_CAP_STRIPES : RF := ⟨rMA_CAP, 33, 0⟩
def MA_STAT_STATE : RF := ⟨rMA_STAT, 63, 60⟩
def MA_STAT_REBUILDING : RF := ⟨rMA_STAT, 41, 32⟩
def MA_STAT_LOST : RF := ⟨rMA_STAT, 9, 0⟩
def MA_CFG_REBUILD_RATE : RF := ⟨rMA_CFG, 55, 48⟩
def MA_CFG_LINK_RETRY : RF := ⟨rMA_CFG, 47, 40⟩
def MA_CFG_CH_FAIL_LIMIT : RF := ⟨rMA_CFG, 31, 16⟩
def MA_CFG_DEV_MARK : RF := ⟨rMA_CFG, 15, 8⟩
def MA_CFG_SCRUB_HOURS : RF := ⟨rMA_CFG, 7, 0⟩
def MA_SCRUB_DEMAND : RF := ⟨rMA_SCRUB, 63, 63⟩
def MA_SCRUB_FAST : RF := ⟨rMA_SCRUB, 62, 62⟩
def MA_SCRUB_PASSES : RF := ⟨rMA_SCRUB, 61, 48⟩
def MA_SCRUB_POS : RF := ⟨rMA_SCRUB, 33, 0⟩
def MA_REBUILD_BUSY : RF := ⟨rMA_REBUILD, 63, 63⟩
def MA_REBUILD_CHANNELS : RF := ⟨rMA_REBUILD, 59, 50⟩
def MA_REBUILD_QUEUED : RF := ⟨rMA_REBUILD, 49, 40⟩
def MA_REBUILD_POS : RF := ⟨rMA_REBUILD, 33, 0⟩
def MA_POISON_CNT_LOST_INC : RF := ⟨rMA_POISON_CNT, 49, 49⟩
def MA_POISON_CNT_OVF : RF := ⟨rMA_POISON_CNT, 48, 48⟩
def MA_POISON_CNT_COUNT : RF := ⟨rMA_POISON_CNT, 47, 0⟩
def MA_ELOG_VALID : RF := ⟨rMA_ELOG, 63, 63⟩
def MA_ELOG_KIND : RF := ⟨rMA_ELOG, 62, 60⟩
def MA_ELOG_CHANNEL : RF := ⟨rMA_ELOG, 59, 56⟩
def MA_ELOG_LINE : RF := ⟨rMA_ELOG, 51, 6⟩
def MA_CH_STAT_STATE : RF := ⟨rMA_CH_STAT, 63, 60⟩
def MA_CH_STAT_CAUSE : RF := ⟨rMA_CH_STAT, 59, 56⟩
def MA_CH_STAT_RECOVERIES : RF := ⟨rMA_CH_STAT, 55, 52⟩
def MA_CH_STAT_MARKED : RF := ⟨rMA_CH_STAT, 47, 40⟩
def MA_CH_STAT_DIMM_SIZE : RF := ⟨rMA_CH_STAT, 39, 32⟩
def MA_CH_STAT_RANKS : RF := ⟨rMA_CH_STAT, 31, 28⟩
def MA_CH_STAT_WIDTH : RF := ⟨rMA_CH_STAT, 27, 26⟩
def MA_CH_STAT_DIMMS : RF := ⟨rMA_CH_STAT, 25, 24⟩
def MA_CH_CTL_CMD : RF := ⟨rMA_CH_CTL, 3, 0⟩
def MA_CH_CORR_LOST_INC : RF := ⟨rMA_CH_CORR, 49, 49⟩
def MA_CH_CORR_OVF : RF := ⟨rMA_CH_CORR, 48, 48⟩
def MA_CH_CORR_COUNT : RF := ⟨rMA_CH_CORR, 47, 0⟩
def MA_CH_RECON_LOST_INC : RF := ⟨rMA_CH_RECON, 49, 49⟩
def MA_CH_RECON_OVF : RF := ⟨rMA_CH_RECON, 48, 48⟩
def MA_CH_RECON_COUNT : RF := ⟨rMA_CH_RECON, 47, 0⟩
def MX_CFG_NACK_BASE : RF := ⟨rMX_CFG, 31, 24⟩
def MX_CFG_NACK_MAX : RF := ⟨rMX_CFG, 23, 16⟩
def MX_CFG_AGE_THRESH : RF := ⟨rMX_CFG, 7, 0⟩
def MX_RECLAIM_BUSY : RF := ⟨rMX_RECLAIM, 63, 63⟩
def MX_RECLAIM_KIND : RF := ⟨rMX_RECLAIM, 62, 60⟩
def MX_RECLAIM_AGENT : RF := ⟨rMX_RECLAIM, 55, 50⟩
def MX_RECLAIM_SLICES_DONE : RF := ⟨rMX_RECLAIM, 38, 32⟩
def MX_RECLAIM_POISONED : RF := ⟨rMX_RECLAIM, 31, 0⟩
def MX_LAT_MAX_MEM_NS : RF := ⟨rMX_LAT_MAX, 31, 16⟩
def MX_LAT_MAX_STOP_NS : RF := ⟨rMX_LAT_MAX, 15, 0⟩
def MX_DIR_EVICT_LOST_INC : RF := ⟨rMX_DIR_EVICT, 49, 49⟩
def MX_DIR_EVICT_OVF : RF := ⟨rMX_DIR_EVICT, 48, 48⟩
def MX_DIR_EVICT_COUNT : RF := ⟨rMX_DIR_EVICT, 47, 0⟩
def MX_NACK_LOST_INC : RF := ⟨rMX_NACK, 49, 49⟩
def MX_NACK_OVF : RF := ⟨rMX_NACK, 48, 48⟩
def MX_NACK_COUNT : RF := ⟨rMX_NACK, 47, 0⟩
def MX_SLICE_STAT_HOME : RF := ⟨rMX_SLICE_STAT, 13, 8⟩
def MX_SLICE_STAT_STATE : RF := ⟨rMX_SLICE_STAT, 3, 0⟩
def MX_SLICE_CORR_LOST_INC : RF := ⟨rMX_SLICE_CORR, 49, 49⟩
def MX_SLICE_CORR_OVF : RF := ⟨rMX_SLICE_CORR, 48, 48⟩
def MX_SLICE_CORR_COUNT : RF := ⟨rMX_SLICE_CORR, 47, 0⟩
def QD_STAT_LOST_DIRTY : RF := ⟨rQD_STAT, 47, 32⟩
def QD_STAT_CKPT_OK : RF := ⟨rQD_STAT, 8, 8⟩
def QD_STAT_STATE : RF := ⟨rQD_STAT, 7, 4⟩
def QD_STAT_CORES_UP : RF := ⟨rQD_STAT, 3, 0⟩
def QD_L2_CORR_LOST_INC : RF := ⟨rQD_L2_CORR, 49, 49⟩
def QD_L2_CORR_OVF : RF := ⟨rQD_L2_CORR, 48, 48⟩
def QD_L2_CORR_COUNT : RF := ⟨rQD_L2_CORR, 47, 0⟩
def QD_L2_UNCORR_LOST_INC : RF := ⟨rQD_L2_UNCORR, 49, 49⟩
def QD_L2_UNCORR_OVF : RF := ⟨rQD_L2_UNCORR, 48, 48⟩
def QD_L2_UNCORR_COUNT : RF := ⟨rQD_L2_UNCORR, 47, 0⟩
def QD_L2_ELOG_VALID : RF := ⟨rQD_L2_ELOG, 63, 63⟩
def QD_L2_ELOG_KIND : RF := ⟨rQD_L2_ELOG, 62, 60⟩
def QD_L2_ELOG_LINE : RF := ⟨rQD_L2_ELOG, 51, 6⟩
def KC_PCS_MOVE : RF := ⟨rKC_PCS, 63, 63⟩
def KC_PCS_DISP_USED : RF := ⟨rKC_PCS, 39, 32⟩
def KC_PCS_INSTANCE : RF := ⟨rKC_PCS, 31, 23⟩
def KC_PCS_VCORE : RF := ⟨rKC_PCS, 22, 17⟩
def KC_PCS_DEDICATED : RF := ⟨rKC_PCS, 16, 16⟩
def KC_PCS_POWER : RF := ⟨rKC_PCS, 11, 8⟩
def KC_PCS_ROLE : RF := ⟨rKC_PCS, 3, 0⟩
def KC_RETRY_CNT_LOST_INC : RF := ⟨rKC_RETRY_CNT, 49, 49⟩
def KC_RETRY_CNT_OVF : RF := ⟨rKC_RETRY_CNT, 48, 48⟩
def KC_RETRY_CNT_COUNT : RF := ⟨rKC_RETRY_CNT, 47, 0⟩
def KC_CORR_CNT_LOST_INC : RF := ⟨rKC_CORR_CNT, 49, 49⟩
def KC_CORR_CNT_OVF : RF := ⟨rKC_CORR_CNT, 48, 48⟩
def KC_CORR_CNT_COUNT : RF := ⟨rKC_CORR_CNT, 47, 0⟩
def KC_ST_PASSES : RF := ⟨rKC_ST, 63, 32⟩
def KC_ST_FAILS : RF := ⟨rKC_ST, 7, 4⟩
def KC_ST_LAST_OK : RF := ⟨rKC_ST, 0, 0⟩
def KC_SPARE_CFG_RETRY_LIMIT : RF := ⟨rKC_SPARE_CFG, 47, 32⟩
def KC_SPARE_CFG_ST_PERIOD : RF := ⟨rKC_SPARE_CFG, 31, 24⟩
def KC_SPARE_CFG_POOL_NOW : RF := ⟨rKC_SPARE_CFG, 20, 16⟩
def KC_SPARE_CFG_DEGRADED : RF := ⟨rKC_SPARE_CFG, 13, 13⟩
def KC_SPARE_CFG_POOL_CFG : RF := ⟨rKC_SPARE_CFG, 12, 8⟩
def KC_SPARE_CFG_SHORT : RF := ⟨rKC_SPARE_CFG, 5, 5⟩
def KC_SPARE_CFG_POOL_MIN : RF := ⟨rKC_SPARE_CFG, 4, 0⟩
def KC_SPARE_STAT_BUSY : RF := ⟨rKC_SPARE_STAT, 63, 63⟩
def KC_SPARE_STAT_STEP : RF := ⟨rKC_SPARE_STAT, 62, 60⟩
def KC_SPARE_STAT_KIND : RF := ⟨rKC_SPARE_STAT, 59, 58⟩
def KC_SPARE_STAT_SRC : RF := ⟨rKC_SPARE_STAT, 55, 50⟩
def KC_SPARE_STAT_DST : RF := ⟨rKC_SPARE_STAT, 49, 44⟩
def KC_SPARE_STAT_QUEUED : RF := ⟨rKC_SPARE_STAT, 43, 40⟩
def KC_SPARE_STAT_ELAPSED : RF := ⟨rKC_SPARE_STAT, 31, 0⟩
def KC_UCODE_ID_PATCH_ID : RF := ⟨rKC_UCODE_ID, 63, 48⟩
def KC_UCODE_ID_ROM_ID : RF := ⟨rKC_UCODE_ID, 47, 32⟩
def KC_UCODE_ID_PATCH_WORDS : RF := ⟨rKC_UCODE_ID, 31, 20⟩
def KC_UCODE_ID_LOCKED : RF := ⟨rKC_UCODE_ID, 8, 8⟩
def KC_UCODE_ID_REDIRECTS : RF := ⟨rKC_UCODE_ID, 6, 0⟩
def KC_UCODE_RELOAD_CORE : RF := ⟨rKC_UCODE_RELOAD, 63, 0⟩
def TW_CFG_COLD_TAKE : RF := ⟨rTW_CFG, 63, 63⟩
def TW_CFG_REJOIN : RF := ⟨rTW_CFG, 62, 62⟩
def TW_CFG_AUTO_RESUME : RF := ⟨rTW_CFG, 61, 61⟩
def TW_CFG_DIGEST_LIMIT : RF := ⟨rTW_CFG, 55, 48⟩
def TW_STAT_STATE : RF := ⟨rTW_STAT, 63, 60⟩
def TW_STAT_ROLE : RF := ⟨rTW_STAT, 59, 58⟩
def TW_STAT_INDEX : RF := ⟨rTW_STAT, 57, 57⟩
def TW_STAT_FIT : RF := ⟨rTW_STAT, 56, 56⟩
def TW_STAT_CLAIM : RF := ⟨rTW_STAT, 55, 55⟩
def TW_STAT_PEER_EDGE : RF := ⟨rTW_STAT, 54, 54⟩
def TW_STAT_GATE : RF := ⟨rTW_STAT, 53, 53⟩
def TW_STAT_LANES : RF := ⟨rTW_STAT, 52, 50⟩
def TW_STAT_GOOSE_LINK : RF := ⟨rTW_STAT, 49, 49⟩
def TW_STAT_GOOSE_SB : RF := ⟨rTW_STAT, 48, 48⟩
def TW_EPOCH_EPOCH_US : RF := ⟨rTW_EPOCH, 61, 48⟩
def TW_EPOCH_NUMBER : RF := ⟨rTW_EPOCH, 47, 0⟩
def TW_ACKED_ACK_US : RF := ⟨rTW_ACKED, 63, 48⟩
def TW_ACKED_EPOCH : RF := ⟨rTW_ACKED, 47, 0⟩
def TW_STREAM_LAST_KIB : RF := ⟨rTW_STREAM, 63, 32⟩
def TW_STREAM_OWED : RF := ⟨rTW_STREAM, 31, 0⟩
def TW_SYNC_BUSY : RF := ⟨rTW_SYNC, 63, 63⟩
def TW_SYNC_PHASE : RF := ⟨rTW_SYNC, 62, 60⟩
def TW_SYNC_TOTAL : RF := ⟨rTW_SYNC, 55, 28⟩
def TW_SYNC_POS : RF := ⟨rTW_SYNC, 27, 0⟩
def TW_TAKE_KIND : RF := ⟨rTW_TAKE, 63, 61⟩
def TW_TAKE_RESUME_US : RF := ⟨rTW_TAKE, 47, 32⟩
def TW_TAKE_DROPPED_TXN : RF := ⟨rTW_TAKE, 31, 16⟩
def TW_TAKE_ROLLBACK_US : RF := ⟨rTW_TAKE, 15, 0⟩
def TW_DIGEST_STREAK : RF := ⟨rTW_DIGEST, 63, 56⟩
def TW_DIGEST_MISMATCH : RF := ⟨rTW_DIGEST, 31, 0⟩
def TW_PEER_ROLE : RF := ⟨rTW_PEER, 63, 62⟩
def TW_PEER_STATE : RF := ⟨rTW_PEER, 61, 58⟩
def TW_PEER_FIT : RF := ⟨rTW_PEER, 57, 57⟩
def TW_PEER_SABLE : RF := ⟨rTW_PEER, 56, 56⟩
def TW_PEER_POOL_NOW : RF := ⟨rTW_PEER, 52, 48⟩
def TW_PEER_OCHRE : RF := ⟨rTW_PEER, 47, 32⟩
def TW_PEER_MISMATCH : RF := ⟨rTW_PEER, 31, 0⟩
def TW_GOOSE_MISS_LOST_INC : RF := ⟨rTW_GOOSE_MISS, 49, 49⟩
def TW_GOOSE_MISS_OVF : RF := ⟨rTW_GOOSE_MISS, 48, 48⟩
def TW_GOOSE_MISS_COUNT : RF := ⟨rTW_GOOSE_MISS, 47, 0⟩
def TW_STRETCH_CNT_LOST_INC : RF := ⟨rTW_STRETCH_CNT, 49, 49⟩
def TW_STRETCH_CNT_OVF : RF := ⟨rTW_STRETCH_CNT, 48, 48⟩
def TW_STRETCH_CNT_COUNT : RF := ⟨rTW_STRETCH_CNT, 47, 0⟩
def TW_MISMATCH_CNT_LOST_INC : RF := ⟨rTW_MISMATCH_CNT, 49, 49⟩
def TW_MISMATCH_CNT_OVF : RF := ⟨rTW_MISMATCH_CNT, 48, 48⟩
def TW_MISMATCH_CNT_COUNT : RF := ⟨rTW_MISMATCH_CNT, 47, 0⟩
def TW_TAKEOVER_CNT_LOST_INC : RF := ⟨rTW_TAKEOVER_CNT, 49, 49⟩
def TW_TAKEOVER_CNT_OVF : RF := ⟨rTW_TAKEOVER_CNT, 48, 48⟩
def TW_TAKEOVER_CNT_COUNT : RF := ⟨rTW_TAKEOVER_CNT, 47, 0⟩
def TW_LINK_RETRY_LOST_INC : RF := ⟨rTW_LINK_RETRY, 49, 49⟩
def TW_LINK_RETRY_OVF : RF := ⟨rTW_LINK_RETRY, 48, 48⟩
def TW_LINK_RETRY_COUNT : RF := ⟨rTW_LINK_RETRY, 47, 0⟩
def IS_CFG_AUTO_MOVE : RF := ⟨rIS_CFG, 63, 63⟩
def IS_CFG_CORE_PWR_EVT : RF := ⟨rIS_CFG, 62, 62⟩
def IS_CFG_PWR_LIMIT_W : RF := ⟨rIS_CFG, 47, 32⟩
def IS_CFG_DARK_IDLE_MS : RF := ⟨rIS_CFG, 31, 24⟩
def IS_CFG_EOL_MOVE_DAYS : RF := ⟨rIS_CFG, 23, 16⟩
def IS_CFG_SR_IDLE : RF := ⟨rIS_CFG, 15, 8⟩
def IS_CFG_NAP_IDLE_US : RF := ⟨rIS_CFG, 7, 0⟩
def IS_STAT_LEVEL : RF := ⟨rIS_STAT, 63, 60⟩
def IS_STAT_STEPS : RF := ⟨rIS_STAT, 39, 32⟩
def IS_STAT_POWER_MW : RF := ⟨rIS_STAT, 31, 0⟩
def IS_THERM_HUB : RF := ⟨rIS_THERM, 59, 48⟩
def IS_THERM_CT3 : RF := ⟨rIS_THERM, 47, 36⟩
def IS_THERM_CT2 : RF := ⟨rIS_THERM, 35, 24⟩
def IS_THERM_CT1 : RF := ⟨rIS_THERM, 23, 12⟩
def IS_THERM_CT0 : RF := ⟨rIS_THERM, 11, 0⟩
def IS_MEM_SR_PERMIT : RF := ⟨rIS_MEM_SR, 15, 8⟩
def IS_MEM_SR_ACTIVE : RF := ⟨rIS_MEM_SR, 7, 0⟩
def IS_HS_ERR_CNT_LOST_INC : RF := ⟨rIS_HS_ERR_CNT, 49, 49⟩
def IS_HS_ERR_CNT_OVF : RF := ⟨rIS_HS_ERR_CNT, 48, 48⟩
def IS_HS_ERR_CNT_COUNT : RF := ⟨rIS_HS_ERR_CNT, 47, 0⟩
def IS_THROTTLE_CNT_LOST_INC : RF := ⟨rIS_THROTTLE_CNT, 49, 49⟩
def IS_THROTTLE_CNT_OVF : RF := ⟨rIS_THROTTLE_CNT, 48, 48⟩
def IS_THROTTLE_CNT_COUNT : RF := ⟨rIS_THROTTLE_CNT, 47, 0⟩
def IS_ISL_STAT_POWER : RF := ⟨rIS_ISL_STAT, 63, 60⟩
def IS_ISL_STAT_LEASED : RF := ⟨rIS_ISL_STAT, 59, 59⟩
def IS_ISL_STAT_PARKED : RF := ⟨rIS_ISL_STAT, 58, 58⟩
def IS_ISL_STAT_FIXED : RF := ⟨rIS_ISL_STAT, 57, 57⟩
def IS_ISL_STAT_THROTTLED : RF := ⟨rIS_ISL_STAT, 56, 56⟩
def IS_ISL_STAT_KIND : RF := ⟨rIS_ISL_STAT, 55, 48⟩
def IS_ISL_STAT_MHZ : RF := ⟨rIS_ISL_STAT, 47, 32⟩
def IS_ISL_CTL_RESULT : RF := ⟨rIS_ISL_CTL, 7, 4⟩
def IS_ISL_CTL_CMD : RF := ⟨rIS_ISL_CTL, 1, 0⟩
def IS_AGE_MARGIN_PS : RF := ⟨rIS_AGE, 63, 48⟩
def IS_AGE_EOL_DAYS : RF := ⟨rIS_AGE, 47, 32⟩
def IS_AGE_STATE : RF := ⟨rIS_AGE, 31, 30⟩
def IS_AGE_HOURS : RF := ⟨rIS_AGE, 29, 0⟩
def PM_CTL_FROZEN : RF := ⟨rPM_CTL, 63, 63⟩
def PM_CTL_SNAP : RF := ⟨rPM_CTL, 2, 2⟩
def PM_CTL_PIN_EN : RF := ⟨rPM_CTL, 1, 1⟩
def PM_CTL_FREEZE : RF := ⟨rPM_CTL, 0, 0⟩
def PM_SNAP_STAT_SRC : RF := ⟨rPM_SNAP_STAT, 63, 62⟩
def PM_SNAP_STAT_MISSED : RF := ⟨rPM_SNAP_STAT, 47, 32⟩
def PM_SNAP_STAT_COUNT : RF := ⟨rPM_SNAP_STAT, 31, 0⟩
def PM_SNAP_TIME_TIME : RF := ⟨rPM_SNAP_TIME, 63, 0⟩
def PM_CYCLE_CYCLE : RF := ⟨rPM_CYCLE, 63, 0⟩
def PM_SEL_EN : RF := ⟨rPM_SEL, 63, 63⟩
def PM_SEL_INST_EN : RF := ⟨rPM_SEL, 62, 62⟩
def PM_SEL_INSTANCE : RF := ⟨rPM_SEL, 60, 52⟩
def PM_SEL_UNIT : RF := ⟨rPM_SEL, 39, 32⟩
def PM_SEL_EVENT : RF := ⟨rPM_SEL, 15, 0⟩
def PM_CNT_LOST_INC : RF := ⟨rPM_CNT, 49, 49⟩
def PM_CNT_OVF : RF := ⟨rPM_CNT, 48, 48⟩
def PM_CNT_COUNT : RF := ⟨rPM_CNT, 47, 0⟩
def PM_BW_CFG_EN : RF := ⟨rPM_BW_CFG, 63, 63⟩
def PM_BW_CFG_INST_EN : RF := ⟨rPM_BW_CFG, 62, 62⟩
def PM_BW_CFG_INSTANCE : RF := ⟨rPM_BW_CFG, 60, 52⟩
def PM_BW_CFG_POINT : RF := ⟨rPM_BW_CFG, 23, 16⟩
def PM_BW_CFG_WINDOW_US : RF := ⟨rPM_BW_CFG, 15, 0⟩
def PM_BW_MAX : RF := ⟨rPM_BW, 63, 32⟩
def PM_BW_LAST : RF := ⟨rPM_BW, 31, 0⟩
def PM_SHD_CYCLE_CYCLE : RF := ⟨rPM_SHD_CYCLE, 63, 0⟩
def PM_SHD_CNT_LOST_INC : RF := ⟨rPM_SHD_CNT, 49, 49⟩
def PM_SHD_CNT_OVF : RF := ⟨rPM_SHD_CNT, 48, 48⟩
def PM_SHD_CNT_COUNT : RF := ⟨rPM_SHD_CNT, 47, 0⟩
def PM_SHD_BW_MAX : RF := ⟨rPM_SHD_BW, 63, 32⟩
def PM_SHD_BW_LAST : RF := ⟨rPM_SHD_BW, 31, 0⟩
def TM_CFG_SOURCE : RF := ⟨rTM_CFG, 63, 60⟩
def TM_CFG_PPS_IN_FALL : RF := ⟨rTM_CFG, 59, 59⟩
def TM_CFG_STEP_MS : RF := ⟨rTM_CFG, 55, 48⟩
def TM_CFG_SLEW_PPM : RF := ⟨rTM_CFG, 47, 32⟩
def TM_CFG_LOCK_NS : RF := ⟨rTM_CFG, 31, 16⟩
def TM_CFG_ALARM_US : RF := ⟨rTM_CFG, 15, 8⟩
def TM_CFG_PTP_TIMEOUT_S : RF := ⟨rTM_CFG, 7, 0⟩
def TM_STAT_STATE : RF := ⟨rTM_STAT, 63, 60⟩
def TM_STAT_PPS_OK : RF := ⟨rTM_STAT, 59, 59⟩
def TM_STAT_REFCLK_OK : RF := ⟨rTM_STAT, 58, 58⟩
def TM_STAT_PTP_OK : RF := ⟨rTM_STAT, 57, 57⟩
def TM_STAT_OSC : RF := ⟨rTM_STAT, 56, 56⟩
def TM_STAT_OSC_FAULT : RF := ⟨rTM_STAT, 55, 55⟩
def TM_TIME_TIME : RF := ⟨rTM_TIME, 63, 0⟩
def TM_ADJ_OFFSET : RF := ⟨rTM_ADJ, 63, 0⟩
def TM_RATE_RATE : RF := ⟨rTM_RATE, 31, 0⟩
def TM_PPS_IN_TIME : RF := ⟨rTM_PPS_IN, 63, 0⟩
def TM_OFFSET_OFFSET : RF := ⟨rTM_OFFSET, 63, 0⟩
def TM_PPS_OUT_EN : RF := ⟨rTM_PPS_OUT, 63, 63⟩
def TM_PPS_OUT_ALWAYS : RF := ⟨rTM_PPS_OUT, 62, 62⟩
def TM_PPS_OUT_WIDTH_US : RF := ⟨rTM_PPS_OUT, 15, 0⟩
def TM_STEP_CNT_LOST_INC : RF := ⟨rTM_STEP_CNT, 49, 49⟩
def TM_STEP_CNT_OVF : RF := ⟨rTM_STEP_CNT, 48, 48⟩
def TM_STEP_CNT_COUNT : RF := ⟨rTM_STEP_CNT, 47, 0⟩
def TM_UTC_TAI_UTC : RF := ⟨rTM_UTC, 15, 0⟩
def NT_CFG_EN : RF := ⟨rNT_CFG, 63, 63⟩
def NT_CFG_MODE : RF := ⟨rNT_CFG, 62, 60⟩
def NT_CFG_MAC : RF := ⟨rNT_CFG, 47, 0⟩
def NT_STAT_LINK : RF := ⟨rNT_STAT, 63, 63⟩
def NT_STAT_MODE : RF := ⟨rNT_STAT, 62, 60⟩
def NT_STAT_FEC : RF := ⟨rNT_STAT, 59, 59⟩
def NT_GCL_CFG_EN : RF := ⟨rNT_GCL_CFG, 63, 63⟩
def NT_GCL_CFG_SWITCH : RF := ⟨rNT_GCL_CFG, 62, 62⟩
def NT_GCL_CFG_ACTIVE : RF := ⟨rNT_GCL_CFG, 61, 61⟩
def NT_GCL_CFG_PENDING : RF := ⟨rNT_GCL_CFG, 60, 60⟩
def NT_GCL_CFG_LEN : RF := ⟨rNT_GCL_CFG, 40, 32⟩
def NT_GCL_CFG_CYCLE_NS : RF := ⟨rNT_GCL_CFG, 31, 0⟩
def NT_GCL_BASE_VALUE : RF := ⟨rNT_GCL_BASE, 63, 0⟩
def NT_TX_CNT_LOST_INC : RF := ⟨rNT_TX_CNT, 49, 49⟩
def NT_TX_CNT_OVF : RF := ⟨rNT_TX_CNT, 48, 48⟩
def NT_TX_CNT_COUNT : RF := ⟨rNT_TX_CNT, 47, 0⟩
def NT_RX_CNT_LOST_INC : RF := ⟨rNT_RX_CNT, 49, 49⟩
def NT_RX_CNT_OVF : RF := ⟨rNT_RX_CNT, 48, 48⟩
def NT_RX_CNT_COUNT : RF := ⟨rNT_RX_CNT, 47, 0⟩
def NT_RX_DISC_LOST_INC : RF := ⟨rNT_RX_DISC, 49, 49⟩
def NT_RX_DISC_OVF : RF := ⟨rNT_RX_DISC, 48, 48⟩
def NT_RX_DISC_COUNT : RF := ⟨rNT_RX_DISC, 47, 0⟩
def NT_FCS_ERR_LOST_INC : RF := ⟨rNT_FCS_ERR, 49, 49⟩
def NT_FCS_ERR_OVF : RF := ⟨rNT_FCS_ERR, 48, 48⟩
def NT_FCS_ERR_COUNT : RF := ⟨rNT_FCS_ERR, 47, 0⟩
def NT_CBS_EN : RF := ⟨rNT_CBS, 63, 63⟩
def NT_CBS_IDLE_KBPS : RF := ⟨rNT_CBS, 31, 0⟩
def NT_GCL_GATES : RF := ⟨rNT_GCL, 39, 32⟩
def NT_GCL_INTERVAL_NS : RF := ⟨rNT_GCL, 31, 0⟩
def PX_LINK_CFG_EN : RF := ⟨rPX_LINK_CFG, 63, 63⟩
def PX_LINK_CFG_SRIS : RF := ⟨rPX_LINK_CFG, 62, 62⟩
def PX_LINK_CFG_MAX_GEN : RF := ⟨rPX_LINK_CFG, 59, 56⟩
def PX_LINK_CFG_CTO : RF := ⟨rPX_LINK_CFG, 55, 52⟩
def PX_LINK_CFG_IDE : RF := ⟨rPX_LINK_CFG, 51, 50⟩
def PX_LINK_STAT_STATE : RF := ⟨rPX_LINK_STAT, 63, 60⟩
def PX_LINK_STAT_GEN : RF := ⟨rPX_LINK_STAT, 59, 56⟩
def PX_LINK_STAT_WIDTH : RF := ⟨rPX_LINK_STAT, 55, 51⟩
def PX_LINK_STAT_MAX_WIDTH : RF := ⟨rPX_LINK_STAT, 50, 46⟩
def PX_LINK_STAT_FLIT : RF := ⟨rPX_LINK_STAT, 45, 45⟩
def PX_LINK_STAT_IDE_ACTIVE : RF := ⟨rPX_LINK_STAT, 44, 44⟩
def PX_LINK_BASE_ADDR : RF := ⟨rPX_LINK_BASE, 44, 20⟩
def PX_LINK_LIMIT_ADDR : RF := ⟨rPX_LINK_LIMIT, 44, 20⟩
def PX_LINK_ERR_LOST_INC : RF := ⟨rPX_LINK_ERR, 49, 49⟩
def PX_LINK_ERR_OVF : RF := ⟨rPX_LINK_ERR, 48, 48⟩
def PX_LINK_ERR_COUNT : RF := ⟨rPX_LINK_ERR, 47, 0⟩
def PX_STREAM_EN : RF := ⟨rPX_STREAM, 63, 63⟩
def PX_STREAM_IDE : RF := ⟨rPX_STREAM, 62, 62⟩
def PX_STREAM_HELD : RF := ⟨rPX_STREAM, 61, 61⟩
def PX_STREAM_INSTANCE : RF := ⟨rPX_STREAM, 56, 48⟩
def PX_STREAM_RID : RF := ⟨rPX_STREAM, 15, 0⟩
def IP_STATUS_STATE : RF := ⟨rIP_STATUS, 63, 60⟩
def IP_STATUS_SECURE : RF := ⟨rIP_STATUS, 59, 59⟩
def IP_STATUS_PROTECTED : RF := ⟨rIP_STATUS, 58, 58⟩
def IP_STATUS_CLASS : RF := ⟨rIP_STATUS, 57, 56⟩
def IP_STATUS_WEIGHT : RF := ⟨rIP_STATUS, 55, 48⟩
def IP_STATUS_VCORES : RF := ⟨rIP_STATUS, 47, 41⟩
def IP_STATUS_PARKED : RF := ⟨rIP_STATUS, 40, 34⟩
def IP_STATUS_DEGRADED : RF := ⟨rIP_STATUS, 33, 33⟩
def IP_STATUS_GENERATION : RF := ⟨rIP_STATUS, 20, 9⟩
def IP_STATUS_ID : RF := ⟨rIP_STATUS, 8, 0⟩
def IP_PARKED_VALUE : RF := ⟨rIP_PARKED, 63, 0⟩
def IP_RESET_INFO_RESETS : RF := ⟨rIP_RESET_INFO, 63, 48⟩
def IP_RESET_INFO_CAUSE : RF := ⟨rIP_RESET_INFO, 3, 0⟩
def IP_QCTL_IRQ_VCORE : RF := ⟨rIP_QCTL, 5, 0⟩
def IP_MBX_IN_ACK : RF := ⟨rIP_MBX_IN, 63, 48⟩
def IP_MBX_IN_LEN : RF := ⟨rIP_MBX_IN, 44, 32⟩
def IP_MBX_IN_SEQ : RF := ⟨rIP_MBX_IN, 15, 0⟩
def IP_MBX_OUT_ACK : RF := ⟨rIP_MBX_OUT, 63, 48⟩
def IP_MBX_OUT_LEN : RF := ⟨rIP_MBX_OUT, 44, 32⟩
def IP_MBX_OUT_POST : RF := ⟨rIP_MBX_OUT, 0, 0⟩
def IP_Q_CFG_EN : RF := ⟨rIP_Q_CFG, 63, 63⟩
def IP_Q_CFG_NOTIFY : RF := ⟨rIP_Q_CFG, 62, 62⟩
def IP_Q_CFG_BASE : RF := ⟨rIP_Q_CFG, 45, 12⟩
def IP_Q_CFG_LOG2 : RF := ⟨rIP_Q_CFG, 4, 0⟩
def IP_EQ_CFG_EN : RF := ⟨rIP_EQ_CFG, 63, 63⟩
def IP_EQ_CFG_BASE : RF := ⟨rIP_EQ_CFG, 45, 12⟩
def IP_EQ_CFG_LOG2 : RF := ⟨rIP_EQ_CFG, 4, 0⟩
def IP_Q_TAIL_WRAP : RF := ⟨rIP_Q_TAIL, 16, 16⟩
def IP_Q_TAIL_INDEX : RF := ⟨rIP_Q_TAIL, 15, 0⟩
def IP_EQ_TAIL_WRAP : RF := ⟨rIP_EQ_TAIL, 16, 16⟩
def IP_EQ_TAIL_INDEX : RF := ⟨rIP_EQ_TAIL, 15, 0⟩
def IP_Q_HEAD_WRAP : RF := ⟨rIP_Q_HEAD, 16, 16⟩
def IP_Q_HEAD_INDEX : RF := ⟨rIP_Q_HEAD, 15, 0⟩
def IP_EQ_HEAD_WRAP : RF := ⟨rIP_EQ_HEAD, 16, 16⟩
def IP_EQ_HEAD_INDEX : RF := ⟨rIP_EQ_HEAD, 15, 0⟩
def IP_Q_STAT_ERROR : RF := ⟨rIP_Q_STAT, 55, 48⟩
def IP_Q_STAT_OUTSTANDING : RF := ⟨rIP_Q_STAT, 15, 0⟩
def IP_EQ_STAT_OVF : RF := ⟨rIP_EQ_STAT, 63, 63⟩
def IP_EQ_STAT_ERROR : RF := ⟨rIP_EQ_STAT, 55, 48⟩
def IP_EQ_STAT_OUTSTANDING : RF := ⟨rIP_EQ_STAT, 15, 0⟩
def IP_CMD_CFG_EN : RF := ⟨rIP_CMD_CFG, 63, 63⟩
def IP_CMD_CFG_BASE : RF := ⟨rIP_CMD_CFG, 45, 14⟩
def IP_CMD_SUBMIT_SLOT : RF := ⟨rIP_CMD_SUBMIT, 1, 0⟩
def IP_CMD_STAT_VALID : RF := ⟨rIP_CMD_STAT, 63, 63⟩
def IP_CMD_STAT_CODE : RF := ⟨rIP_CMD_STAT, 59, 56⟩
def IP_CMD_STAT_ERR_SLOT : RF := ⟨rIP_CMD_STAT, 49, 48⟩
def IP_CMD_STAT_FREE : RF := ⟨rIP_CMD_STAT, 3, 0⟩
def IP_TEL_STALE_LOST_INC : RF := ⟨rIP_TEL_STALE, 49, 49⟩
def IP_TEL_STALE_OVF : RF := ⟨rIP_TEL_STALE, 48, 48⟩
def IP_TEL_STALE_COUNT : RF := ⟨rIP_TEL_STALE, 47, 0⟩
def IP_TEL_EQ_DROP_LOST_INC : RF := ⟨rIP_TEL_EQ_DROP, 49, 49⟩
def IP_TEL_EQ_DROP_OVF : RF := ⟨rIP_TEL_EQ_DROP, 48, 48⟩
def IP_TEL_EQ_DROP_COUNT : RF := ⟨rIP_TEL_EQ_DROP, 47, 0⟩
def IP_TEL_REFUSED_LOST_INC : RF := ⟨rIP_TEL_REFUSED, 49, 49⟩
def IP_TEL_REFUSED_OVF : RF := ⟨rIP_TEL_REFUSED, 48, 48⟩
def IP_TEL_REFUSED_COUNT : RF := ⟨rIP_TEL_REFUSED, 47, 0⟩
def IP_TEL_BUCKET_RATE : RF := ⟨rIP_TEL_BUCKET, 63, 40⟩
def IP_TEL_BUCKET_BURST : RF := ⟨rIP_TEL_BUCKET, 39, 24⟩
def IP_TEL_BUCKET_LEVEL : RF := ⟨rIP_TEL_BUCKET, 15, 0⟩
def IP_TEL_WAIT_LOST_INC : RF := ⟨rIP_TEL_WAIT, 49, 49⟩
def IP_TEL_WAIT_OVF : RF := ⟨rIP_TEL_WAIT, 48, 48⟩
def IP_TEL_WAIT_COUNT : RF := ⟨rIP_TEL_WAIT, 47, 0⟩
def IP_TEL_VCORE_VALUE : RF := ⟨rIP_TEL_VCORE, 63, 0⟩
def MP_HQ_SUBMIT_SLOT : RF := ⟨rMP_HQ_SUBMIT, 5, 0⟩
def MP_HQ_FREE_FREE : RF := ⟨rMP_HQ_FREE, 63, 0⟩
def MP_HQ_ERR_VALID : RF := ⟨rMP_HQ_ERR, 63, 63⟩
def MP_HQ_ERR_SLOT : RF := ⟨rMP_HQ_ERR, 61, 56⟩
def MP_HQ_ERR_CODE : RF := ⟨rMP_HQ_ERR, 51, 48⟩
def MP_HQ_ERR_TAG : RF := ⟨rMP_HQ_ERR, 31, 0⟩

/-- Registers of block VT. -/
def regsVT : List Reg := [rVT_STAT, rVT_BOOT, rVT_UID_LO, rVT_UID_HI, rVT_SVN, rVT_KEYS, rVT_STAGE, rVT_DEBUG, rVT_LEASE, rVT_SECMEM]

/-- Registers of block MP. -/
def regsMP : List Reg := [rMP_STAT, rMP_LOAD, rMP_CMD_CFG, rMP_QUEUE, rMP_CMD_CNT, rMP_BUSY_CNT, rMP_DISCARD_CNT, rMP_ABORT_CNT, rMP_RESTART_CNT, rMP_EVT_DROP, rMP_EVT_ROUTE, rMP_HQ_SUBMIT, rMP_HQ_FREE, rMP_HQ_ERR]

/-- Registers of block FC. -/
def regsFC : List Reg := [rFC_CFG, rFC_STAT, rFC_UNCLEARED, rFC_LOG, rFC_FJ, rFC_TEST, rFC_UNIT_SEL, rFC_UNIT_STAT, rFC_REPORT_CNT, rFC_RECORD_CNT, rFC_LOST_CNT, rFC_PATH_CNT, rFC_PT]

/-- Registers of block TN. -/
def regsTN : List Reg := [rTN_CFG, rTN_STAT, rTN_OP, rTN_OP_POS, rTN_MBX_SEL, rTN_MBX_CTL, rTN_MBX_PEND, rTN_INST, rTN_STALE, rTN_EQ_DROP, rTN_BUCKET, rTN_DISP]

/-- Registers of block CH. -/
def regsCH : List Reg := [rCH_CFG, rCH_STAT, rCH_JRNL, rCH_JRNL_HEAD, rCH_JRNL_TAIL, rCH_JRNL_JSN, rCH_REPLAY, rCH_ELOG, rCH_ORPHAN, rCH_ACCEPT_CNT, rCH_REFUSE_CNT, rCH_FAIL_CNT, rCH_CANCEL_CNT, rCH_JRNL_CORR, rCH_RESEND_CNT, rCH_NET_DISC, rCH_PROC_STAT, rCH_PROC_TXN, rCH_PROC_RETRY, rCH_HOST_CQ_BASE]

/-- Registers of block CH. -/
def regsCH1 : List Reg := [rCH_HOST_CQ_CFG, rCH_HOST_CQ_TAIL, rCH_HOST_CQ_HEAD, rCH_CHAN]

/-- Registers of block FR. -/
def regsFR : List Reg := [rFR_CFG, rFR_STAT, rFR_CYCLE, rFR_LOOP, rFR_WRAP, rFR_BUDGET, rFR_COMM, rFR_ELOG, rFR_SLOT_OK, rFR_SLOT_VOID, rFR_CRC_ERR, rFR_EDGE_WARN, rFR_MUTE, rFR_PATH_CNT, rFR_REQ_RETRY, rFR_REQ_NACK, rFR_REQ_ABSENT, rFR_CODE_ERR_N, rFR_CODE_ERR_P, rFR_NODE]

/-- Registers of block SG. -/
def regsSG : List Reg := [rSG_CFG, rSG_STAT, rSG_ELOG, rSG_REPROC, rSG_UNDEF, rSG_DROP, rSG_FAN_DROP, rSG_STAGE_LOST, rSG_STORE_CORR, rSG_OUT_STAT, rSG_LANE_STAT, rSG_LANE_UPD, rSG_STAGE_HEAD, rSG_STAGE_TAIL, rSG_RD, rSG_RD_CYC]

/-- Registers of block CZ. -/
def regsCZ : List Reg := [rCZ_CFG, rCZ_STAT, rCZ_HIST_CFG, rCZ_HIST_STAT, rCZ_ELOG, rCZ_FAIL_CNT, rCZ_SEG_CNT, rCZ_STAGE_DISC, rCZ_PIPE_STAT, rCZ_PIPE_IN, rCZ_PIPE_OUT, rCZ_PIPE_RETRY]

/-- Registers of block CY. -/
def regsCY : List Reg := [rCY_STAT, rCY_ROTATE, rCY_ROTATE_POS, rCY_ELOG, rCY_FAIL_CNT, rCY_AUTH_FAIL_CNT, rCY_PIPE_STAT, rCY_PIPE_BYTES, rCY_PIPE_RETRY, rCY_SLOT]

/-- Registers of block MA. -/
def regsMA : List Reg := [rMA_CAP, rMA_STAT, rMA_CFG, rMA_SCRUB, rMA_REBUILD, rMA_POISON_CNT, rMA_ELOG, rMA_CH_STAT, rMA_CH_CTL, rMA_CH_CORR, rMA_CH_RECON]

/-- Registers of block MX. -/
def regsMX : List Reg := [rMX_CFG, rMX_RECLAIM, rMX_LAT_MAX, rMX_DIR_EVICT, rMX_NACK, rMX_SLICE_STAT, rMX_SLICE_CORR]

/-- Registers of block QD. -/
def regsQD : List Reg := [rQD_STAT, rQD_L2_CORR, rQD_L2_UNCORR, rQD_L2_ELOG]

/-- Registers of block KC. -/
def regsKC : List Reg := [rKC_PCS, rKC_RETRY_CNT, rKC_CORR_CNT, rKC_ST, rKC_SPARE_CFG, rKC_SPARE_STAT, rKC_UCODE_ID, rKC_UCODE_RELOAD]

/-- Registers of block TW. -/
def regsTW : List Reg := [rTW_CFG, rTW_STAT, rTW_EPOCH, rTW_ACKED, rTW_STREAM, rTW_SYNC, rTW_TAKE, rTW_DIGEST, rTW_PEER, rTW_GOOSE_MISS, rTW_STRETCH_CNT, rTW_MISMATCH_CNT, rTW_TAKEOVER_CNT, rTW_LINK_RETRY]

/-- Registers of block IS. -/
def regsIS : List Reg := [rIS_CFG, rIS_STAT, rIS_THERM, rIS_MEM_SR, rIS_HS_ERR_CNT, rIS_THROTTLE_CNT, rIS_ISL_STAT, rIS_ISL_CTL, rIS_AGE]

/-- Registers of block PM. -/
def regsPM : List Reg := [rPM_CTL, rPM_SNAP_STAT, rPM_SNAP_TIME, rPM_CYCLE, rPM_SEL, rPM_CNT, rPM_BW_CFG, rPM_BW, rPM_SHD_CYCLE, rPM_SHD_CNT, rPM_SHD_BW]

/-- Registers of block TM. -/
def regsTM : List Reg := [rTM_CFG, rTM_STAT, rTM_TIME, rTM_ADJ, rTM_RATE, rTM_PPS_IN, rTM_OFFSET, rTM_PPS_OUT, rTM_STEP_CNT, rTM_UTC]

/-- Registers of block NT. -/
def regsNT : List Reg := [rNT_CFG, rNT_STAT, rNT_GCL_CFG, rNT_GCL_BASE, rNT_TX_CNT, rNT_RX_CNT, rNT_RX_DISC, rNT_FCS_ERR, rNT_CBS, rNT_GCL]

/-- Registers of block PX. -/
def regsPX : List Reg := [rPX_LINK_CFG, rPX_LINK_STAT, rPX_LINK_BASE, rPX_LINK_LIMIT, rPX_LINK_ERR, rPX_STREAM]

/-- Registers of block IP. -/
def regsIP : List Reg := [rIP_STATUS, rIP_PARKED, rIP_RESET_INFO, rIP_QCTL, rIP_MBX_IN, rIP_MBX_OUT, rIP_Q_CFG, rIP_EQ_CFG, rIP_Q_TAIL, rIP_EQ_TAIL, rIP_Q_HEAD, rIP_EQ_HEAD, rIP_Q_STAT, rIP_EQ_STAT, rIP_CMD_CFG, rIP_CMD_SUBMIT, rIP_CMD_STAT, rIP_TEL_STALE, rIP_TEL_EQ_DROP, rIP_TEL_REFUSED]

/-- Registers of block IP. -/
def regsIP1 : List Reg := [rIP_TEL_BUCKET, rIP_TEL_WAIT, rIP_TEL_VCORE]

/-- Every register. -/
def allRegs : List Reg := regsVT ++ regsMP ++ regsFC ++ regsTN ++ regsCH ++ regsCH1 ++ regsFR ++ regsSG ++ regsCZ ++ regsCY ++ regsMA ++ regsMX ++ regsQD ++ regsKC ++ regsTW ++ regsIS ++ regsPM ++ regsTM ++ regsNT ++ regsPX ++ regsIP ++ regsIP1

end Sys2Proof.Machine
end

