-- ==== Sys2Proof/Machine/StOut.lean ====
section
/-! DEFINITION. What the module drives out of its ports, and what waits for delivery inside one command. -/

namespace Sys2Proof.Machine

/-- A report to the fault collector (15 R617): origin and cause (R620, R621), class (00 R17), subject instance and generation,
two details, COUNT, the reaction already decided by the reporting unit (R623), and the detecting unit where it is not the origin
(its reporting point carries the report, R622 POINT). -/
structure Report where
  org : Nat
  cause : Nat
  cls : Nat
  subj : Option (Nat × Nat) := none
  d0 : Nat := 0
  d1 : Nat := 0
  cnt : Nat := 1
  react : Nat := 0
  via : Option Nat := none
  deriving DecidableEq, Repr

/-- Something driven on a port of the module, in the order it was driven. -/
inductive Output where
  /-- An MSI-X message (01 R36): its vector, and the address and data of the vector's table entry. -/
  | msix (vector addr data : Nat)
  /-- A write into host memory through the Management Port (14 R592, 11 R442). -/
  | hostWrite (addr : Nat) (bytes : List Nat)
  /-- A request on a PCIe link: write or read, the bus address and the bytes or the length. -/
  | pcie (link : Nat) (write : Bool) (addr : Nat) (data : List Nat)
  /-- A completion to a PCIe device: status 0 successful, 1 Unsupported Request, 4 Completer Abort; poisoned; data. -/
  | pcieCpl (root : Nat) (status : Nat) (poison : Bool) (data : List Nat)
  /-- A frame of a Field Ring port on side N (true) or P: kind, cycle, contents (12). -/
  | ring (port : Nat) (sideN : Bool) (kind : Nat) (cycle : Nat) (data : List Nat)
  /-- A frame that a Field Ring node inserts: port, node, kind, cycle, contents. -/
  | node (port : Nat) (addr : Nat) (kind : Nat) (cycle : Nat) (data : List Nat)
  /-- A NET datagram (11 R455, 19 R811): the port, the channel whose definition gives addresses, ports, tag and priority, the peer's link-layer
  address, and the UDP payload. -/
  | net (port chan mac : Nat) (data : List Nat)
  /-- Another Ethernet frame (19 R811, R812): 1 ARP or neighbour request, 2 reply, 3 announcement, 4 PTP; the addresses or contents. -/
  | eth (port kind : Nat) (data : List Nat)
  /-- A Goose frame's 32 bytes (16 R669), in band (true) or on the sideband. -/
  | goose (inBand : Bool) (data : List Nat)
  /-- A message on the twin link: kind and contents (16 R675-R681). -/
  | twin (kind : Nat) (data : List Nat)
  /-- Values read by the sender of a read command (00 R11): address and value. -/
  | readData (addr : Nat) (value : Nat)
  /-- PPS_OUT rises: device time and the high time in us (18 R758). -/
  | pps (time width : Nat)
  /-- Debug challenge bytes (17 R726). -/
  | challenge (data : List Nat)
  deriving DecidableEq, Repr

end Sys2Proof.Machine
end

