-- ==== Sys2Proof/Machine/StFc.lean ====
section
/-! DEFINITION. State of the fault collector (15). -/

namespace Sys2Proof.Machine

/-- The lifecycle of one unit (R633, R634, R661): STATE 0 to 3, class of its last record, for its returns to service in the
last 24 h the device times from which they count no more, the device time its quiet period ends, and its returns since power-on. -/
structure UnitSt where
  st : Nat
  lastClass : Nat
  returns : List Nat
  quietEnd : Nat
  total : Nat
  deriving DecidableEq, Repr

/-- A fault record (R622). -/
structure FRec where
  first : Nat
  last : Nat
  seq : Nat
  org : Nat
  cause : Nat
  cls : Nat
  subsys : Bool
  cleared : Bool
  subj : Option (Nat × Nat)
  noPoint : Bool
  folds : Nat
  point : Nat
  react : Nat
  recov : Nat
  d0 : Nat
  d1 : Nat
  powerOn : Nat
  deriving DecidableEq, Repr

/-- An open fold window (R629, R630): its key (an origin, or a kind when `kindWin`), subject, the slot that holds its record,
its end, the FOLDS and CLASS last written to the fault journal, whether it holds one of the 32 entries that only Russet and Sable use, its
record as it stands, and whether that record is one that found no slot (R624). -/
structure FoldWin where
  org : Nat
  subj : Option (Nat × Nat)
  kindWin : Bool
  slot : Option Nat
  endAt : Nat
  fjWritten : Option (Nat × Nat)
  resv : Bool
  rcd : FRec
  unlogged : Bool
  deriving DecidableEq, Repr

/-- The collector. -/
structure FcSt where
  units : Map UnitSt
  /-- The fault log's slots in use (R624). -/
  log : Map FRec
  wins : List FoldWin
  /-- The fault journal's 4,096 entries (R627). -/
  fj : Map FRec
  /-- Reports queued at each reporting point, oldest first (R617). -/
  held : Map (List Report)
  /-- Device time of the last event on a rate-limited source. -/
  rate : Map Nat
  /-- FLT_A and FLT_B (R641-R643), the phase of the pair waveform, and the comparator's latch (R640). -/
  fltA : Bool
  fltB : Bool
  selfCheck : Bool
  deriving DecidableEq, Repr

end Sys2Proof.Machine
end

