-- ==== Sys2Proof/Machine/StFr.lean ====
section
/-! DEFINITION. State of the Field Ring ports and of the ring's nodes (12) beside the FR registers. -/

namespace Sys2Proof.Machine

/-- A present node of a ring table (R523): its address, RB / 4, expected VENDOR and MODEL, and 256 point bytes. -/
structure NodeCfg where
  addr : Nat
  rb4 : Nat
  expect : Nat
  pts : List Nat
  deriving DecidableEq, Repr

/-- A ring table (R522). -/
structure RingTbl where
  cyc : Nat
  source : Nat
  reqBytes : Nat
  hold : Nat
  nodes : List NodeCfg
  deriving DecidableEq, Repr

/-- A request that a port holds (R509): its transaction and segment, OP, SOURCE and SEQ, and the cycle of its last sending. A request that is
not `awaited` is a rollback. -/
structure FrReq where
  tid : Nat
  seg : Nat
  node : Nat
  op : Nat
  source : Nat
  seq : Nat
  cmd : Nat
  arg : Nat
  pts : List (Nat × Nat)
  count : Nat
  awaited : Bool
  sent : Option Nat
  resend : Bool
  tries : Nat
  deriving DecidableEq, Repr

/-- A roll-call record (R527). -/
structure Roll where
  addr : Nat
  headend : Bool
  ident : Nat
  points : Nat
  fwRev : Nat
  held : Nat
  deriving DecidableEq, Repr

/-- A commissioning under way (R525): the command, STRICT, the table, the records of the first roll call, nodes that confirmed, cycles of
step 6 in a row. -/
structure Comm where
  cmd : Nat
  strict : Bool
  tbl : RingTbl
  rolls : List Roll
  confirmed : List Nat
  good : Nat
  deriving DecidableEq, Repr

/-- A port. `used` and `heard` are the nodes whose slot of the cycle was used, and whose frame arrived; `clean` the nodes whose probe of the
cycle was clean; `voids` counts consecutive void slots; `restored` the nodes whose last slot reported RESTORED. -/
structure FrPort where
  tbl : Option RingTbl
  used : List Nat
  heard : List Nat
  clean : List Nat
  closed : List Nat
  voids : Map Nat
  restored : List Nat
  order : List Nat
  reqs : List FrReq
  mgmt : List (List Nat)
  lostN : Bool
  lostP : Bool
  healAt : Option Nat
  switchAt : Option Nat
  discover : Bool
  comm : Option Comm
  deriving DecidableEq, Repr

/-- A node's schedule (R499 SET_SCHEDULE). -/
structure NodeSched where
  ver : Nat
  cyc : Nat
  hold : Nat
  off : Nat
  rb4 : Nat
  source : Nat
  pts : List Nat
  deriving DecidableEq, Repr

/-- A recorded request of a window (R515): its SEQ, RESULT, its reply's words, and its phase: 0 none, 1 PREPARED, 2 COMMITTED, 3 ROLLED_BACK,
4 expired. -/
structure WinEnt where
  seq : Nat
  result : Nat
  words : List Nat
  phase : Nat
  deriving DecidableEq, Repr

/-- A sequence window (R515): H, `none` while it is empty, and the received entries from H - 31 to H. -/
structure Window where
  source : Nat
  h : Option Nat
  ents : List WinEnt
  deriving DecidableEq, Repr

/-- An entry of the prepared store (R516). -/
structure PrepEnt where
  source : Nat
  seq : Nat
  pts : List (Nat × Nat)
  endAt : Nat
  phase : Nat
  deriving DecidableEq, Repr

/-- A node. Windows lie in the order of use, the most recent first. `ref` is the cycle of the last reference sync and its MASTER; `sendDue`
whether the slot of that cycle is still to be sent; `words` the words applied to output points that are not in the safe action;
`missed` the cycles in a row without valid OUTPUTS; `lost` the sides without input: N 1, P 2. -/
structure NodeSt where
  sched : Option NodeSched
  ref : Option (Nat × Nat)
  afterSwitch : Option Nat
  sendDue : Bool
  muted : Bool
  conflict : Bool
  skip : Bool
  wins : List Window
  preps : List PrepEnt
  words : Map Nat
  missed : Nat
  lost : Nat
  looped : Nat
  silentUntil : Nat
  restored : Bool
  maint : Bool
  restarted : Nat
  replies : List (List Nat)
  deriving DecidableEq, Repr

/-- The ports and the nodes (key port * 256 + address). -/
structure FrSt where
  ports : Map FrPort
  nodes : Map NodeSt
  deriving DecidableEq, Repr

end Sys2Proof.Machine
end

