-- ==== Sys2Proof/Machine/StPw.lean ====
section
/-! DEFINITION. State of clocks, power, health, device time and the performance monitors (18) beside their registers. -/

namespace Sys2Proof.Machine

/-- Islands, time base and monitors. -/
structure PwSt where
  /-- Clock reduction of each core under throttling, and of each island under R752, in 100 MHz steps. -/
  steps : Map Nat
  ageSteps : Map Nat
  /-- Consecutive estimates with power 5 % below the limit and junctions below 100 C (R749). -/
  cool : Nat
  /-- The rails' last estimates in mW (R765). -/
  rails : List Nat
  /-- Ageing samples of each island in ps, newest first, at most 720 (R751). -/
  samples : Map (List Nat)
  /-- What remains of a slew, ns, and the part of a ns that rate and slew have gathered, in units of 1/256 of 10^-9 ns (R754, R779). -/
  slew : Int
  frac : Int
  /-- Consecutive measurements within LOCK_NS (R756), and when Locked was last left. -/
  locks : Nat
  lockedEnd : Option Nat
  /-- Bytes of the running window of each bandwidth monitor that runs (R762). -/
  bw : Map Nat
  deriving DecidableEq, Repr

end Sys2Proof.Machine
end

