-- ==== Sys2Proof/Machine/StSg.lean ====
section
/-! DEFINITION. State of the Signal Plane (08) beside its registers. -/

namespace Sys2Proof.Machine

/-- An update in a lane's queue (R293): a sample, a void, a definition (36 configuration bytes as a number), an output update
of a slot (R326), or a cycle marker for a lane (R331). -/
inductive Upd where
  | sample (sid raw time cycle : Nat)
  | void (sid time cycle : Nat)
  | define (sid cfg : Nat)
  | output (slot : Nat)
  | marker (port cycle lane : Nat)
  deriving DecidableEq, Repr

/-- A subscription entry (R320). -/
structure Sub where
  inst : Nat
  gen : Nat
  classes : Nat
  deriving DecidableEq, Repr

/-- An update offered to a fan-out unit (R321): TYPE, Signal ID, classes that it matches, ALM after and changed, and what the event
carries. -/
structure Offer where
  type : Nat
  sid : Nat
  classes : Nat
  alm : Nat
  almChg : Nat
  eng : Nat
  upd : Nat
  time : Nat
  cycle : Nat
  deriving DecidableEq, Repr

/-- The Signal Plane. -/
structure SgSt where
  /-- The bytes of the Signal Store by offset (R299); the subscription area's are those of `subs` and `blocks`. -/
  store : List Host.Cell
  /-- The 16-byte granules of history that read as poisoned, and of staging that are unreadable (R336), by offset / 16. -/
  bad : List Nat
  subs : Map (List Sub)
  /-- The blocks of the subscription area that each signal's list takes, in order of their links (R320). -/
  blocks : Map (List Nat)
  /-- CYCLE subscriptions by port (R319). -/
  cycSubs : Map (List Sub)
  /-- The lanes' queues, and the entries that wait in front of a full queue (R295). -/
  queue : Map (List Upd)
  held : Map (List Upd)
  /-- The fan-out units' queues, by island, and CYCLE events that wait for the updates of their cycle (R323): port, cycle, time. -/
  fan : Map (List Offer)
  cycEv : List (Nat × Nat × Nat)
  /-- Per (port, cycle), key port * 2^32 + cycle: the digest sum so far and the lanes that have taken the marker (R330, R331). -/
  sums : Map (Nat × Nat)
  /-- The last 64 completed cycles of each port with their running digest, newest first (R331). -/
  pairs : Map (List (Nat × Nat))
  /-- Owner of each output slot page (512: its instance is gone and its signals remain), and the Signal ID assigned to each slot (R325). -/
  pages : Map Nat
  slots : Map Nat
  /-- Conversion tables loaded so far (R313), and lanes whose next staging entry carries GAP (R333). -/
  tables : List Nat
  gaps : List Nat
  /-- Signals whose next staged point carries GAP, their corridor block having been lost (09 R371). -/
  regap : List Nat
  /-- Signals still to be reprocessed (R334). -/
  reproc : List Nat
  deriving DecidableEq, Repr

end Sys2Proof.Machine
end

