-- ==== Sys2Proof/Machine/State.lean ====
section
/-! DEFINITION. The state of the module as plain data, its stops, and the state after reset. -/

namespace Sys2Proof.Machine

/-- Faults: the ways a command stops the model. -/
inductive Fault where
  /-- Raised by no meaning: every command of the table has an effect for every operand. Safe. -/
  | illFormed
  deriving DecidableEq, Repr

/-- Refusals. -/
inductive Refusal where
  /-- Raised by no arm: every row has its meaning. Safe. -/
  | notModelled (mnemonic : String)
  deriving DecidableEq, Repr

/-- The module's state. -/
structure State where
  /-- Every register of device register space, the instance pages and BAR2 that differs from its reset value: key the address. -/
  regs : Map Word
  ma : ArraySt
  coh : CohSt
  tlb : TlbSt
  fc : FcSt
  tn : TnSt
  kc : KcSt
  sg : SgSt
  cz : CzSt
  mp : MpSt
  cy : CySt
  ch : ChSt
  fr : FrSt
  tw : TwSt
  vt : VtSt
  pw : PwSt
  /-- The Vault's leases of cipher resources and Vault SRAM (17 R708), and the serial number of the last one. -/
  leases : List Lease
  leaseSerial : Nat
  /-- The secure granules, by number (17 R705), rising. -/
  secGran : List Nat
  /-- Lines of protected pages written since the last barrier, rising (06 R250, 16 R676). -/
  recorded : List Nat
  /-- A takeover request to the twin logic that it has not acted on (16 R684). -/
  yieldReq : Bool
  /-- What that request stands for, beside what needs no more when it is refused: an instance's generation to be reset, or the lost Signal Store. -/
  yieldFor : List (Option (Nat × Nat))
  /-- What has been driven out of the ports, oldest first. -/
  outs : List Output
  /-- Events raised in the running command and not yet delivered by it (R36); empty between commands. -/
  raised : List Nat
  /-- The supplies are on. -/
  powered : Bool
  /-- How many free values have been taken: the MODEL's own field (log 3). -/
  freeCtr : Nat
  /-- The waiting commands, first in, first out: the MODEL's own field. -/
  pending : List Instr
  deriving DecidableEq, Repr

def ArraySt.reset : ArraySt := ⟨[], [], [], [], [], [], (0, 0, false), 0, 0, none⟩
def CohSt.reset : CohSt := ⟨[], [], [], [], [], [], [], (0, 0, false), [], 0, 0⟩
def TlbSt.reset : TlbSt := ⟨[], []⟩
def FcSt.reset : FcSt := ⟨[], [], [], [], [], [], false, false, false⟩
def TnSt.reset : TnSt := ⟨[], 0, [], [], []⟩
def SgSt.reset : SgSt := ⟨[], [], [], [], [], [], [], [], [], [], [], [], [], [], [], [], []⟩
def CzSt.reset : CzSt := ⟨[], [], [], [], [], []⟩
def MpSt.reset : MpSt := ⟨[], [], [], 0, [], 0, 0, [], false, false, false, [], []⟩
def CySt.reset : CySt := ⟨[], [], none, false⟩
def ChSt.reset : ChSt := ⟨[], [], 0, 0, ⟨0, 0, 0, true⟩, ⟨0, 0, 0, true⟩, [], [], [], [], [], [], [], []⟩
def FrSt.reset : FrSt := ⟨[], []⟩
def TwSt.reset : TwSt := ⟨false, 0, false, false, false, false, false, false, 0, [], (0, 0), false, none, false, [], [], [], false, none, false, false, 0⟩
def VtSt.reset : VtSt := ⟨[], [], [], [], [], none, false, []⟩
def PwSt.reset : PwSt := ⟨[], [], 0, [], [], 0, 0, 0, none, []⟩
def KcSt.reset : KcSt := ⟨[], [], [], [], []⟩
def VCore.empty : VCore := ⟨[], [], 1, [], [], 0, false, [], none⟩
def CoreSt.empty : CoreSt := ⟨[], 1, 0, 0, 0, 0, 1, 0, none, [], (512, 0, 0), false, [], false, 0, [], false, ⟨0, 0, 0, false⟩⟩
def InstSt.empty : InstSt := ⟨0, 0, 0, 6, 0, [], [], 0, 0, false, 0, 0, none, [], [], 0, false, [], [], [], [], false⟩

/-- The module right after reset. -/
def State.reset : State :=
  { regs := [], ma := .reset, coh := .reset, tlb := .reset, fc := .reset, tn := .reset, kc := .reset, sg := .reset, cz := .reset, mp := .reset, cy := .reset, ch := .reset, fr := .reset, tw := .reset, vt := .reset, pw := .reset, leases := [], leaseSerial := 0, secGran := [], recorded := [], yieldReq := false, yieldFor := [], outs := [], raised := [],
    powered := true, freeCtr := 0, pending := [] }

end Sys2Proof.Machine
end

