-- ==== Sys2Proof/Machine/Store.lean ====
section
/-! DEFINITION. Sparse maps and byte stores in one canonical form: strictly rising keys, no entry equal to the default. -/

namespace Sys2Proof.Machine

/-- The entry at key `k`, if listed. -/
def Map.find {α : Type} (m : Map α) (k : Nat) : Option α :=
  match m with
  | [] => none
  | (j, a) :: r => if j = k then some a else Map.find r k

/-- The entry at key `k`, or `d` where none is listed. -/
def Map.getD {α : Type} (m : Map α) (k : Nat) (d : α) : α := (Map.find m k).getD d

/-- `m` without key `k`. -/
def Map.del {α : Type} (m : Map α) (k : Nat) : Map α := m.filter (fun e => e.1 != k)

/-- `m` with `a` at key `k`, in rising order. -/
def Map.put {α : Type} (m : Map α) (k : Nat) (a : α) : Map α :=
  match m with
  | [] => [(k, a)]
  | (j, b) :: r => if k < j then (k, a) :: (j, b) :: r else if k = j then (k, a) :: r else (j, b) :: Map.put r k a

/-- `m` with `a` at key `k`; a value equal to the default `d` is not listed. -/
def Map.set {α : Type} [DecidableEq α] (m : Map α) (d : α) (k : Nat) (a : α) : Map α :=
  if a = d then Map.del m k else Map.put m k a

/-- `m` with the entry at `k` changed by `f`, `d` standing for an unlisted one. -/
def Map.modify {α : Type} (m : Map α) (k : Nat) (d : α) (f : α → α) : Map α := Map.put m k (f (Map.getD m k d))

/-- The listed keys. -/
def Map.keys {α : Type} (m : Map α) : List Nat := m.map Prod.fst

/-- The keys rise strictly. -/
def Map.rising {α : Type} : Map α → Bool
  | [] => true
  | (_, _) :: [] => true
  | (j, _) :: (k, b) :: r => decide (j < k) && Map.rising ((k, b) :: r)

/-- A byte store: an unlisted address reads as zero. -/
abbrev Bytes := List Host.Cell

/-- One byte of a store. -/
def Bytes.rd (m : Bytes) (a : Nat) : BitVec 8 := Map.getD m a 0

/-- A store with one byte written; a zero byte is not listed. -/
def Bytes.wr (m : Bytes) (a : Nat) (b : BitVec 8) : Bytes := Map.set m 0 a b

/-- The little-endian number of the `n` bytes at `a` (00 R8). -/
def Bytes.rdN (m : Bytes) (a : Nat) : Nat → Nat
  | 0 => 0
  | n + 1 => (Bytes.rd m a).toNat + 256 * Bytes.rdN m (a + 1) n

/-- A store with the `n` low bytes of `v` written at `a`, lowest first. -/
def Bytes.wrN (m : Bytes) (a : Nat) : Nat → Nat → Bytes
  | 0, _ => m
  | n + 1, v => Bytes.wrN (Bytes.wr m a (BitVec.ofNat 8 v)) (a + 1) n (v / 256)

/-- The canonical form of a byte store: addresses strictly rising, no byte equal to zero listed. -/
def Bytes.wf (m : Bytes) : Bool := Map.rising m && m.all (fun e => e.2 != 0)

end Sys2Proof.Machine
end

