-- ==== Sys2Proof/Machine/Ops.lean ====
section
/-! DEFINITION. Named operations every family uses: registers and their fields, counters, free values, reports, events, outputs. -/

namespace Sys2Proof.Machine

/-- The KIND of clock island i (18 R740). -/
def isleKind (i : Nat) : Nat :=
  if i < 64 then 1 else if i < 80 then 2 else if i < 96 then 3 else if i < 100 then 4 else if i < 101 then 5
  else if i < 111 then 6 else if i < 119 then 7 else if i < 120 then 8 else if i < 124 then 9 else if i < 125 then 0xA
  else if i < 129 then 0xB else if i < 137 then 0xC else if i < 138 then 0xD else if i < 146 then 0xE
  else if i < 150 then 0xF else if i < 154 then 0x10 else if i < 155 then 0x11 else if i < 156 then 0x12
  else if i < 157 then 0x13 else if i < 158 then 0x14 else if i < 159 then 0x15 else if i < 160 then 0x16
  else if i < 161 then 0x17 else if i < 163 then 0x18 else if i < 164 then 0x19 else if i < 165 then 0x1A
  else if i < 166 then 0x1B else 0x1C

/-- Whether island i is always Run (18 R743): 1 or 0. -/
def isleFixed (i : Nat) : Nat :=
  if [1, 6, 7, 9, 0xB, 0xC, 0xE, 0xF, 0x10, 0x12].contains (isleKind i) then 0 else 1

/-- The unit kinds under the lid with their numbers of units, in the order in which the model gives them reporting points
(15 R616: the fused assignment is not listed. DESIGN CHOICE, log 4). -/
def pointKinds : List (Nat × Nat) :=
  [(1, 64), (2, 16), (3, 64), (4, 10), (5, 1), (6, 64), (7, 1), (8, 16), (9, 1), (0xA, 4), (0xB, 8), (0xC, 32), (0xE, 4),
   (0xF, 4), (0x10, 1), (0x11, 1), (0x12, 1), (0x13, 1), (0x14, 1), (0x15, 1), (0x18, 167)]

/-- The unit that point n serves: KIND at [23:16], INDEX at [15:0]; 0 for none. -/
def pointUnitIn : List (Nat × Nat) → Nat → Nat
  | [], _ => 0
  | (kd, c) :: r, n => if n < c then kd * 65536 + n else pointUnitIn r (n - c)

/-- The point that serves a unit. -/
def unitPointIn : List (Nat × Nat) → Nat → Nat → Option Nat
  | [], _, _ => none
  | (kd, c) :: r, org, acc =>
    if org / 65536 = kd ∧ org % 65536 < c then some (acc + org % 65536) else unitPointIn r org (acc + c)

/-- The value of a reset entry at index i. -/
def Rst.eval : Rst → Nat → Nat
  | .k n, _ => n
  | .idx, i => i
  | .idxMod m, i => i % m
  | .ge m, i => if m ≤ i then 1 else 0
  | .islandKind, i => isleKind i
  | .islandFixed, i => isleFixed i
  | .pointUnit, i => pointUnitIn pointKinds i

/-- How many instances a (stride, count) list spans. -/
def dimProd : List (Nat × Nat) → Nat
  | [] => 1
  | (_, n) :: r => n * dimProd r

/-- The offset of flattened index i. -/
def dimOffs : List (Nat × Nat) → Nat → Nat
  | [], _ => 0
  | (st, _) :: r, i => i / dimProd r * st + dimOffs r (i % dimProd r)

/-- The flattened index of an offset, and the byte within the register. -/
def dimIdx : List (Nat × Nat) → Nat → Option (Nat × Nat)
  | [], o => if o < 8 then some (0, o) else none
  | (st, n) :: r, o =>
    if o / st < n then (dimIdx r (o % st)).map (fun p => (o / st * dimProd r + p.1, p.2)) else none

/-- The address of instance i of a register (00 R10). -/
def Reg.addr (r : Reg) (i : Nat) : Nat := r.base + dimOffs r.dims i

/-- The reset value of instance i (00 R14). -/
def Reg.resetVal (r : Reg) (i : Nat) : Nat :=
  r.flds.foldl (fun v f => setBits v f.hi f.lo (f.rst.eval i)) 0

/-- The value register r, instance i, holds. -/
def State.reg (s : State) (r : Reg) (i : Nat) : Nat :=
  match Map.find s.regs (r.addr i) with
  | some v => v.toNat
  | none => r.resetVal i

/-- s with register r, instance i, holding v; the reset value is not listed. -/
def State.wreg (s : State) (r : Reg) (i v : Nat) : State :=
  { s with regs := Map.set s.regs (BitVec.ofNat 64 (r.resetVal i)) (r.addr i) (BitVec.ofNat 64 v) }

/-- A register field's value. -/
def State.rf (s : State) (f : RF) (i : Nat := 0) : Nat := bits (s.reg f.reg i) f.hi f.lo

/-- A one-bit field as a truth value. -/
def State.rb (s : State) (f : RF) (i : Nat := 0) : Bool := s.rf f i != 0

/-- s with a field holding v. -/
def State.sf (s : State) (f : RF) (v : Nat) (i : Nat := 0) : State :=
  s.wreg f.reg i (setBits (s.reg f.reg i) f.hi f.lo v)

/-- s with a one-bit field holding b. -/
def State.sb (s : State) (f : RF) (b : Bool) (i : Nat := 0) : State := s.sf f (b2n b) i

/-- A counter of the R217 layout advanced by n (18 R759): COUNT wraps at 48 bits and sets OVF. -/
def State.bump (s : State) (r : Reg) (i : Nat := 0) (n : Nat := 1) : State :=
  let v := s.reg r i
  let c := bits v 47 0 + n
  s.wreg r i (setBits (setBits v 47 0 c) 48 48 (if c < 2 ^ 48 then bits v 48 48 else 1))

/-- An event of the performance monitors (18 R761): class * 256 + event, unit index, the instance it carries. -/
def State.pmEvent (s : State) (ev unit : Nat) (inst : Option Nat := none) (n : Nat := 1) : State :=
  if s.rb PM_CTL_FROZEN || (match inst with | some i => s.rb TN_INST_SECURE i | none => false) then s
  else (s.regs.filter (fun (e : Nat × Word) => decide (PM_SEL_EN.reg.addr 0 ≤ e.1) && decide (e.1 ≤ PM_SEL_EN.reg.addr 63))).foldl (fun (s : State) e =>
    let k := (e.1 - PM_SEL_EN.reg.addr 0) / 8
    if s.rb PM_SEL_EN k && s.rf PM_SEL_EVENT k == ev && s.rf PM_SEL_UNIT k == unit && (!s.rb PM_SEL_INST_EN k || inst == some (s.rf PM_SEL_INSTANCE k))
    then s.bump rPM_CNT k n else s) s

/-- Bytes that pass a point of the bandwidth monitors (18 R762). -/
def State.bwBytes (s : State) (point n : Nat) (inst : Option Nat := none) : State :=
  if s.rb PM_CTL_FROZEN then s
  else { s with pw := { s.pw with bw := s.pw.bw.map (fun (e : Nat × Nat) =>
    if s.rf PM_BW_CFG_POINT e.1 == point && (!s.rb PM_BW_CFG_INST_EN e.1 || (decide (point < 4) && inst == some (s.rf PM_BW_CFG_INSTANCE e.1)))
    then (e.1, e.2 + n) else e) } }

/-- A field advanced by n, held at its greatest value. -/
def State.incSat (s : State) (f : RF) (i : Nat := 0) (n : Nat := 1) : State :=
  s.sf f (satN (f.hi + 1 - f.lo) (s.rf f i + n)) i

/-- Device time in ns (18 R753), held in TM_TIME. -/
def State.now (s : State) : Nat := s.reg rTM_TIME 0

/-- The current generation of an instance (13 R563, R577). -/
def State.gen (s : State) (i : Nat) : Nat := s.rf TN_INST_GENERATION i

/-- The STATE of an instance (13 R544). -/
def State.ist (s : State) (i : Nat) : Nat := s.rf TN_INST_STATE i

/-- A free value of width w, and the state with the counter advanced. -/
def State.fresh (s : State) (w : Nat) : Nat × State :=
  ((Config.freeValue w s.freeCtr).toNat, { s with freeCtr := s.freeCtr + 1 })

/-- s with an event raised on source n (01 R34). -/
def State.raise (s : State) (n : Nat) : State := { s with raised := s.raised ++ [n] }

/-- An event source's resource is leased, or its lease ends (01 R37): the route register is the secure world's meanwhile. -/
def State.secSource (s : State) (n : Nat) (on : Bool) : State :=
  if s.rb MP_EVT_ROUTE_SECURE n == on then s
  else if on then { s with vt := { s.vt with routes := Map.put s.vt.routes n (BitVec.ofNat 64 (s.reg rMP_EVT_ROUTE n)) } }.wreg rMP_EVT_ROUTE n 1
  else { s with vt := { s.vt with routes := Map.del s.vt.routes n } }.wreg rMP_EVT_ROUTE n (Map.getD s.vt.routes n 0).toNat

/-- The reporting point that carries a report (15 R617, R622): that of the unit that detected it, else of its origin; reports about
units without a point of their own go through the Management Port (Operator Host) or the collector (log 4). -/
def Report.point (r : Report) : Nat :=
  let u := r.via.getD r.org
  match unitPointIn pointKinds u 0 with
  | some p => p
  | none =>
    if u / 65536 = 0x16 then u % 65536
    else (unitPointIn pointKinds (if u / 65536 = 0x19 then 0x100000 else 0x150000) 0).getD 0

/-- A report joins its point's queue; one that finds 16 queued merges into the newest (15 R617). -/
def enqueueReport (l : List Report) (r : Report) : List Report :=
  if l.length < 16 then l ++ [r]
  else match l.getLast? with
    | some n => l.dropLast ++ [{ n with cnt := n.cnt + r.cnt, cls := max n.cls r.cls }]
    | none => [r]

/-- s with a report made (15 R617). -/
def State.report (s : State) (r : Report) : State :=
  { s with fc := { s.fc with held := Map.put s.fc.held r.point (enqueueReport (Map.getD s.fc.held r.point []) r) } }

/-- s with something driven out of a port. -/
def State.emit (s : State) (o : Output) : State := { s with outs := s.outs ++ [o] }

/-- A frame of n bytes leaves Ethernet port e, counted (18 R762; 19 NT_TX_CNT). -/
def State.ethOut (s : State) (e : Nat) (o : Output) (n : Nat) : State := ((s.emit o).bump rNT_TX_CNT e).bwBytes (0x20 + e) n

/-- Slate, Ochre, Russet, Sable (00 R17). -/
def slate : Nat := 0
def ochre : Nat := 1
def russet : Nat := 2
def sable : Nat := 3

/-- An origin: KIND and INDEX (15 R620). -/
def org (kind idx : Nat) : Nat := kind * 65536 + idx

/-- Apply f to the state for each element of a list, in order. -/
def State.each {α : Type} (s : State) (l : List α) (f : State → α → State) : State := l.foldl f s

/-- Apply f when the condition holds. -/
def State.when (s : State) (c : Bool) (f : State → State) : State := cond c (f s) s

/-- Raise a source that is raised at most once per ms (its last time is kept in `fc.rate`). -/
def State.raiseMs (s : State) (n : Nat) : State :=
  match Map.find s.fc.rate n with
  | some t => if s.now < t + 1000000 then s else { s.raise n with fc := { s.fc with rate := Map.put s.fc.rate n s.now } }
  | none => { s.raise n with fc := { s.fc with rate := Map.put s.fc.rate n s.now } }

/-- The lifecycle entry of a unit (15 R633). -/
def State.unit (s : State) (o : Nat) : UnitSt := Map.getD s.fc.units o ⟨0, 0, [], 0, 0⟩

/-- s with the lifecycle entry of a unit changed. -/
def State.setUnit (s : State) (o : Nat) (f : UnitSt → UnitSt) : State :=
  { s with fc := { s.fc with units := Map.put s.fc.units o (f (s.unit o)) } }

/-- The recovery counter: returns to service within the last 24 h (15 R634). -/
def State.recoveries (s : State) (o : Nat) : Nat :=
  ((s.unit o).returns.filter (fun t => s.now < t)).length

/-- A fault takes a unit out of service: to 0x3 when its counter equals RECOV_LIMIT, else to 0x1 (15 R634). -/
def State.outOfService (s : State) (o : Nat) : State × Bool :=
  if s.rf FC_CFG_RECOV_LIMIT ≤ s.recoveries o then
    ((s.setUnit o (fun u => { u with st := 3 })).raise 0x388, true)
  else (s.setUnit o (fun u => { u with st := 1 }), false)

/-- A unit returns to service and one recovery is counted (15 R633, R634). -/
def State.returned (s : State) (o : Nat) : State :=
  (s.setUnit o (fun u => { u with st := 0, returns := u.returns ++ [s.now + 86400000000000], total := satN 16 (u.total + 1) })).raise 0x389

/-- The twin state and role of this module (16 R665, R694). -/
def State.isStandby (s : State) : Bool := s.rf TW_STAT_ROLE == 2
def State.isRunning (s : State) : Bool := s.rf TW_STAT_STATE == 2
def State.isYielded (s : State) : Bool := s.rf TW_STAT_STATE == 5
/-- The active of a running pair. -/
def State.isActiveRunning (s : State) : Bool := s.rf TW_STAT_ROLE == 1 && s.isRunning
/-- FIT falls (16 R682, R690). -/
def State.loseFit (s : State) : State :=
  if s.rb TW_STAT_FIT then ((s.sf TW_STAT_FIT 0).raise 0x343).report { org := org 0x11 0, cause := 0x1107, cls := ochre } else s
/-- A peer edge has arrived on TW_CLAIM_IN within the last 20 us (16 R694). -/
def State.peerRecent (s : State) : Bool := s.rb TW_STAT_PEER_EDGE && decide (s.now < s.tw.edgeAt + 20000)
def State.isSable (s : State) : Bool := s.rb FC_STAT_SABLE

/-- Whether the module may yield: active of a Running pair with a fit standby (16 R684). -/
def State.canYield (s : State) : Bool :=
  s.rf TW_STAT_STATE == 2 && s.rf TW_STAT_ROLE == 1 && s.rb TW_STAT_FIT

/-- Ask the twin logic for a takeover; refused unless the module may yield (16 R684). -/
def State.askTakeover (s : State) : State := s.when s.canYield (fun s => { s with yieldReq := true })

/-- The same for a fault with a solo path of its own (16 R684): the Russet reset of an instance's generation, or the loss of the Signal Store. -/
def State.askTakeoverFor (s : State) (w : Option (Nat × Nat)) : State :=
  s.askTakeover.when s.canYield (fun s => { s with yieldFor := s.yieldFor ++ [w] })

/-- A crossing into a core's island that is in Gate wakes it (18 R741; R767 for the event). -/
def State.crossInto (s : State) (c : Nat) : State :=
  if s.rf KC_PCS_POWER c = 1 then (s.sf KC_PCS_POWER 0 c).when (s.rb IS_CFG_CORE_PWR_EVT) (fun s => s.raise (2 * c + 1)) else s

/-- The origin that names an accessing agent (15 R620): the Secure world's is the Vault, or the secure instance that the agent acts from or for. -/
def agentOrg (a : Agent) : Nat :=
  match a with
  | .host => org 0x19 0
  | .firmware => org 0x1A 0
  | .secure => org 0x14 0
  | .secureFor i => org 0x17 i.val

/-- A command written to a register that the unit ignores and logs (15 R828, COMMAND_IGNORED). -/
def State.cmdIgnored (s : State) (a : Agent) (addr val : Nat) : State :=
  s.report { org := agentOrg a, cause := 0x0006, cls := slate, d0 := addr, d1 := val }

/-- An access to register space that is ignored and logged (15 R828, REG_ACCESS). -/
def State.regAccess (s : State) (o addr size : Nat) (write : Bool) : State :=
  s.report { org := o, cause := 0x0002, cls := slate, d0 := addr, d1 := size + 256 * b2n write }

end Sys2Proof.Machine
end

