-- ==== Sys2Proof/Machine/Array.lean ====
section
/-! DEFINITION. The memory array (07): stripes and the P + Q code, reads and writes with lost channels, errors, channel states. -/

namespace Sys2Proof.Machine

/-- Multiplication by g = 0x02 in GF(2^8) with x^8 + x^4 + x^3 + x^2 + 1 (R260). -/
def gfX (a : Nat) : Nat := if a < 128 then 2 * a else (2 * a) ^^^ 0x11D

/-- Multiplication in GF(2^8) (R260), from bit n of b downward. -/
def gfMulUpTo (a b : Nat) : Nat → Nat
  | 0 => 0
  | n + 1 => (gfX (gfMulUpTo a (b / 2) n)) ^^^ (if b % 2 = 1 then a else 0)

/-- Multiplication in GF(2^8). -/
def gfMul (a b : Nat) : Nat := gfMulUpTo a b 8

/-- g^n. -/
def gfPow : Nat → Nat
  | 0 => 1
  | n + 1 => gfX (gfPow n)

/-- The inverse, a^254 = a^2 a^4 ... a^128. -/
def gfInv (a : Nat) : Nat :=
  let r := (List.range 7).foldl (fun (p : Nat × Nat) _ => let q := gfMul p.1 p.1; (q, gfMul p.2 q)) (a, 1)
  r.2

/-- P over eight data bytes (R260). -/
def codeP (d : Nat → Nat) : Nat := (List.range 8).foldl (fun x i => x ^^^ d i) 0

/-- Q over eight data bytes (R260). -/
def codeQ (d : Nat → Nat) : Nat := (List.range 8).foldl (fun x i => x ^^^ gfMul (gfPow i) (d i)) 0

/-- The data byte of slot i rebuilt from the readable slots of the stripe: data 0 to 7, P 8, Q 9; `none` where the code cannot (R260). -/
def rebuildData (v : Nat → Option Nat) (i : Nat) : Option Nat :=
  match v i with
  | some x => some x
  | none =>
    let z := fun j => (v j).getD 0
    let a := codeP z ^^^ z 8
    let b := codeQ z ^^^ z 9
    match (List.range 10).filter (fun j => j != i && (v j).isNone) with
    | [] => some a
    | [j] =>
      if j = 9 then some a
      else if j = 8 then some (gfMul (gfInv (gfPow i)) b)
      else some (gfMul (gfInv (gfPow i ^^^ gfPow j)) (b ^^^ gfMul (gfPow j) a))
    | _ => none

/-- The byte of any slot, rebuilt where it is an erasure (R260). -/
def rebuildSlot (v : Nat → Option Nat) (i : Nat) : Option Nat :=
  match v i with
  | some x => some x
  | none =>
    if i < 8 then rebuildData v i
    else if (List.range 8).all (fun j => (rebuildData v j).isSome) then
      let d := fun j => (rebuildData v j).getD 0
      some (if i = 8 then codeP d else codeQ d)
    else none

/-- The channel of slot i of stripe k (R259). -/
def slotChan (i k : Nat) : Nat := (i + k) % 10

/-- The key of byte b of stripe k on channel m. -/
def cellKey (m k b : Nat) : Nat := m * 2 ^ 40 + k * 64 + b

/-- Whether channel m serves reads of stripe k: Up, or Rebuilding below POS (R275). -/
def State.chReads (s : State) (m k : Nat) : Bool :=
  s.rf MA_CH_STAT_STATE m == 0 ||
  (s.rf MA_CH_STAT_STATE m == 4 && s.rb MA_REBUILD_BUSY && bit (s.rf MA_REBUILD_CHANNELS) m && decide (k < s.rf MA_REBUILD_POS))

/-- Whether channel m takes writes: Up or Rebuilding (R275). -/
def State.chWrites (s : State) (m : Nat) : Bool := s.rf MA_CH_STAT_STATE m == 0 || s.rf MA_CH_STAT_STATE m == 4

/-- The readable bytes at offset b of stripe k, the slots in `ers` taken as erasures (R260, R265). -/
def State.stripeByte (s : State) (k b : Nat) (ers : List Nat) (i : Nat) : Option Nat :=
  if ers.contains i || !s.chReads (slotChan i k) k then none
  else some (Bytes.rd s.ma.cells (cellKey (slotChan i k) k b)).toNat

/-- A data line of the stripe code: its bytes, or `none` where three erasures leave it unreadable (R270). -/
def State.stripeLine (s : State) (line : Nat) (ers : List Nat) : Option Line :=
  let k := line / 8
  let j := line % 8
  let bs := (List.range 64).map (fun b => rebuildData (s.stripeByte k b ers) j)
  if bs.all Option.isSome then some (BitVec.ofNat 512 (ofBytes (bs.map (fun x => x.getD 0)))) else none

/-- The key of the line of slot i of stripe k among the signatures and the mask bytes. -/
def lineKey (i k : Nat) : Nat := slotChan i k * 2 ^ 34 + k

/-- Whether data slot j of stripe k holds the poison signature, and the mask byte of check slot i (R261). -/
def State.sigOf (s : State) (j k : Nat) : Bool := s.ma.sigs.contains (lineKey j k)
def State.maskOf (s : State) (i k : Nat) : Nat := Map.getD s.ma.masks (lineKey i k) 0

/-- Whether a data line is poisoned (R261): the signature in the line where its channel serves it, else the mask byte of a check line that is served. -/
def State.poisoned (s : State) (line : Nat) : Bool :=
  let k := line / 8
  let j := line % 8
  if s.chReads (slotChan j k) k then s.sigOf j k
  else if s.chReads (slotChan 8 k) k then bit (s.maskOf 8 k) j
  else s.chReads (slotChan 9 k) k && bit (s.maskOf 9 k) j

/-- A line of system memory as the array returns it, with its poison (R263, R270, R280). -/
def State.arrayLine (s : State) (line : Nat) : Line × Bool :=
  match s.stripeLine line [] with
  | some l => (l, s.poisoned line)
  | none => (0, true)

/-- The signature of data slot j, and the mask byte of check slot i, written where the channel takes writes (R261, R275). -/
def State.setSig (s : State) (j k : Nat) (p : Bool) : State :=
  if s.chWrites (slotChan j k) then
    let x := lineKey j k
    let l := s.ma.sigs.filter (fun y => y != x)
    { s with ma := { s.ma with sigs := if p then l.filter (· < x) ++ x :: l.filter (x < ·) else l } }
  else s
def State.setMask (s : State) (i k v : Nat) : State :=
  if s.chWrites (slotChan i k) then
    { s with ma := { s.ma with masks := if v = 0 then Map.del s.ma.masks (lineKey i k) else Map.put s.ma.masks (lineKey i k) v } }
  else s

/-- A data line becomes poisoned, or clean: its signature and its bit in both mask bytes (R280). -/
def State.setPoison (s : State) (line : Nat) (p : Bool) : State :=
  let k := line / 8
  let j := line % 8
  let s := s.setSig j k p
  (s.setMask 8 k (setBit (s.maskOf 8 k) j p)).setMask 9 k (setBit (s.maskOf 9 k) j p)

/-- The mask byte of a stripe's check lines, from what its lines say. -/
def State.maskNow (s : State) (k : Nat) : Nat := (List.range 8).foldl (fun m j => setBit m j (s.poisoned (k * 8 + j))) 0

/-- Write one byte of slot i on its channel, if the channel takes writes. -/
def State.putCell (s : State) (i k b v : Nat) : State :=
  let m := slotChan i k
  if s.chWrites m then { s with ma := { s.ma with cells := Bytes.wr s.ma.cells (cellKey m k b) (BitVec.ofNat 8 v) } } else s

/-- Write byte b of data slot j of stripe k, and P and Q with it, on the channels that take writes (R260, R263, R269).
Where the other data bytes are not all readable, the check bytes that survive change by the difference. -/
def State.putByte (s : State) (k j b v : Nat) : State :=
  let old := fun i => rebuildData (s.stripeByte k b []) i
  let others := (List.range 8).all (fun i => i == j || (old i).isSome)
  let d := fun i => if i = j then v else (old i).getD 0
  let dif := v ^^^ ((old j).getD v)
  let p := if others then some (codeP d) else (s.stripeByte k b [] 8).map (fun x => x ^^^ dif)
  let q := if others then some (codeQ d) else (s.stripeByte k b [] 9).map (fun x => x ^^^ gfMul (gfPow j) dif)
  let s := s.putCell j k b v
  let s := match p with | some x => s.putCell 8 k b x | none => s
  match q with | some x => s.putCell 9 k b x | none => s

/-- MA_ELOG (R289). -/
def State.maElog (s : State) (kind ch line : Nat) : State :=
  (((s.sf MA_ELOG_VALID 1).sf MA_ELOG_KIND kind).sf MA_ELOG_CHANNEL ch).sf MA_ELOG_LINE line

/-- Three or more channels are not Up (R270). -/
def State.exhausted (s : State) : Bool := s.rf MA_STAT_STATE == 3

/-- Write the masked bytes of a line to the array (R263, R270, R280), but in Exhausted for a line on a channel that serves no reads of it (R275, log 62): `poison` writes the poison signature; a full mask clears it. -/
def State.arrayPut (s : State) (line : Nat) (data : Line) (mask : BitVec 64) (poison : Bool) : State :=
  let k := line / 8
  let j := line % 8
  let m := slotChan j k
  if s.exhausted ∧ s.chReads m k = false then s.maElog 3 m line
  else
    let d := data.toNat
    let s := s.each (List.range 64) (fun s b => if mask.toNat.testBit b then s.putByte k j b (byteOf d b) else s)
    if poison then s.setPoison line true
    else if mask = BitVec.allOnes 64 then s.setPoison line false
    else s

/-! ### DIMMs (R256-R258) -/

/-- A DIMM's capacity in GiB. -/
def Dimm.gib (d : Dimm) : Nat := [32, 48, 64, 96, 128, 256].getD d.size.val 0

/-- The population of a channel (R257): one DIMM in slot 0, or two of a kind. -/
def popOf (l : List Dimm) : Option Population :=
  match l with
  | [d] => if d.slot1 then none else some ⟨1, d.gib, d.x8, d.ranks.val + 1⟩
  | [d, e] => if d.slot1 != e.slot1 && d.size == e.size && d.x8 == e.x8 && d.ranks == e.ranks then some ⟨2, d.gib, d.x8, d.ranks.val + 1⟩ else none
  | _ => none

/-- The population that at least eight of the ten channels share (R257). -/
def sharedPop (chs : List (List Dimm)) : Option Population :=
  let ps := (chs.take 10).map popOf
  (ps.filterMap id).find? (fun p => decide (8 ≤ (ps.filter (fun q => q == some p)).length))

/-- What a channel's SPD reports in MA_CH_STAT_m (R290). -/
def State.spdRead (s : State) (m : Nat) (l : List Dimm) : State :=
  (((s.sf MA_CH_STAT_DIMM_SIZE ((l.head?.map (fun d => d.gib / 16)).getD 0) m).sf MA_CH_STAT_RANKS ((l.map (fun d => d.ranks.val + 1)).foldl (· + ·) 0) m).sf
    MA_CH_STAT_WIDTH ((l.head?.map (fun d => b2n d.x8)).getD 0) m).sf MA_CH_STAT_DIMMS (min 2 l.length) m

/-- Lines of usable system memory (R258): line numbers below USABLE_GIB * 2^24. -/
def State.usableLines (s : State) : Nat := s.rf MA_CAP_USABLE_GIB * 2 ^ 24

/-- A request to a rank set in self-refresh (18 R748): the set leaves it. Rank set r of R holds the r-th part of usable memory. -/
def State.srTouch (s : State) (line : Nat) : State :=
  let act := s.rf IS_MEM_SR_ACTIVE
  if act = 0 then s
  else
    let r := line * s.rf MA_CH_STAT_RANKS 0 / s.usableLines
    if bit act r then
      ((s.sf IS_MEM_SR_ACTIVE (setBit act r false)).raiseMs 0x375).each (List.range 10) (fun s m => s.pmEvent 0x0405 m)
    else s

/-- How many channels are not Up. -/
def State.notUp (s : State) : Nat := ((List.range 10).filter (fun m => s.rf MA_CH_STAT_STATE m != 0)).length

/-- MA_STAT follows the channel states (R270, R285); a change of STATE raises 0x0EA (R282). -/
def State.maRefresh (s : State) : State :=
  let n := min 3 s.notUp
  let lost := (List.range 10).foldl (fun v m => if s.rf MA_CH_STAT_STATE m != 0 then v + 2 ^ m else v) 0
  let reb := (List.range 10).foldl (fun v m => if s.rf MA_CH_STAT_STATE m == 4 then v + 2 ^ m else v) 0
  let t := ((s.sf MA_STAT_STATE n).sf MA_STAT_LOST lost).sf MA_STAT_REBUILDING reb
  if s.rf MA_STAT_STATE = n then t else t.raise 0x0EA

/-- A channel enters a state; a change raises 0x0E0 + m (R282). -/
def State.setChan (s : State) (m st : Nat) : State :=
  if s.rf MA_CH_STAT_STATE m = st then s else ((s.sf MA_CH_STAT_STATE st m).raise (0x0E0 + m)).maRefresh

/-- A rebuild pass starts for the channels of a mask (R276, R288). -/
def State.startPass (s : State) (chs : Nat) : State :=
  ((((s.sf MA_REBUILD_BUSY 1).sf MA_REBUILD_CHANNELS chs).sf MA_REBUILD_QUEUED 0).sf MA_REBUILD_POS 0).raise 0x0EA

/-- The queued channels start a pass of their own (R276). -/
def State.nextPass (s : State) : State := if s.rf MA_REBUILD_QUEUED = 0 then s else s.startPass (s.rf MA_REBUILD_QUEUED)

/-- Channel m leaves the rebuild pass or its queue; a pass with no channel left ends, and the queued channels start theirs (R272, R276, R277). -/
def State.leaveRebuild (s : State) (m : Nat) : State :=
  if s.rf MA_CH_STAT_STATE m = 4 then
    let inPass := s.rb MA_REBUILD_BUSY && bit (s.rf MA_REBUILD_CHANNELS) m
    let ch := setBit (s.rf MA_REBUILD_CHANNELS) m false
    let s := s.sf MA_REBUILD_QUEUED (setBit (s.rf MA_REBUILD_QUEUED) m false)
    if inPass then
      let s := s.sf MA_REBUILD_CHANNELS ch
      if ch = 0 then ((s.sf MA_REBUILD_BUSY 0).raise 0x0EA).nextPass else s
    else s
  else s

/-- The loss of channel m (R267-R271): Lost, or Retired at its recovery limit; the third loss is Exhausted and asks for a takeover. -/
def State.loseChan (s : State) (m cause : Nat) : State :=
  let o := org 4 m
  let third := s.rf MA_CH_STAT_STATE m == 0 && s.notUp == 2
  let s := s.leaveRebuild m
  let (s, ret) := s.outOfService o
  let s := (s.sf MA_CH_STAT_CAUSE cause m).setChan m (if ret then 5 else 1)
  let s := s.report { org := o, cause := 0x0404, cls := ochre, d0 := cause, react := if ret then 6 else 5 }
  if third then (s.report { org := org 5 0, cause := 0x0503, cls := ochre }).askTakeover else s

/-- One event in a one-second window kept as (start, count, limit), the limit being the one in force when the window began (R286); the new window. -/
def secWindow (w : Option (Nat × Nat × Nat)) (now lim : Nat) : Nat × Nat × Nat :=
  match w with
  | some (t, c, n) => if now < t + 1000000000 then (t, c + 1, n) else (now, 1, lim)
  | none => (now, 1, lim)

/-- Whether a window's count is above its limit; the limit 0 is none (R286). -/
def overLimit (w : Nat × Nat × Nat) : Bool := w.2.2 != 0 && decide (w.2.2 < w.2.1)

/-- A corrected error is counted for its device: one over the limit is marked, or makes the channel Lost when its rank holds a mark (R266). -/
def State.deviceError (s : State) (m rank dev : Nat) : State :=
  let o := org 4 m
  let key := (m * 8 + rank) * 64 + dev
  let w := secWindow (Map.find s.ma.devWin key) s.now (s.rf MA_CFG_DEV_MARK)
  let s := { s with ma := { s.ma with devWin := Map.put s.ma.devWin key w } }
  if w.2.1 ≤ w.2.2 then s
  else match Map.find s.ma.marks (m * 8 + rank) with
    | none =>
      let s := { s with ma := { s.ma with marks := Map.put s.ma.marks (m * 8 + rank) dev } }
      ((s.sf MA_CH_STAT_MARKED (setBit (s.rf MA_CH_STAT_MARKED m) rank true) m).raise (0x0E0 + m)).report
        { org := o, cause := 0x0403, cls := ochre, d0 := rank, d1 := dev }
    | some d => if d = dev then s else s.loseChan m 5

/-- The bytes that one device gives to a burst of 80 on a subchannel: 8 of an x4 device, 16 of an x8 device. Its devices are numbered by the place of those bytes, those of
the second subchannel from 32 on (PRESUMED, log 23). -/
def State.devBytes (s : State) (m : Nat) : Nat := if s.rf MA_CH_STAT_WIDTH m = 1 then 16 else 8
def State.devOf (s : State) (m : Nat) (f : ChanFinding) (b : Fin 80) : Nat := b2n f.sub * 32 + b.val / s.devBytes m

/-- Whether the channel code of a line corrects its errors (R261, R266): a marked device's bytes are erasures, one check byte each, and any other bad byte takes two; there are 16
check bytes on a data line and 15 on a check line. -/
def State.corrects (s : State) (m : Nat) (f : ChanFinding) : Bool :=
  let mk := Map.find s.ma.marks (m * 8 + f.rank.val)
  let er := match mk with | some d => if d / 32 = b2n f.sub then s.devBytes m else 0 | none => 0
  let out := (f.bad.eraseDups.filter (fun b => mk != some (s.devOf m f b))).length
  decide (2 * out + er ≤ if f.slot.val < 8 then 16 else 15)

/-- A line that its channel code corrects (R265): counted, its devices' errors too. Rewriting it changes no byte. -/
def State.lineCorrected (s : State) (m : Nat) (f : ChanFinding) : State :=
  let s := (s.bump rMA_CH_CORR m).report { org := org 4 m, cause := 0x0401, cls := slate, react := 1 }
  s.each (f.bad.map (s.devOf m f)).eraseDups (fun s d => s.deviceError m f.rank.val d)

/-- A line of channel m needed reconstruction (R265, R267 RATE). -/
def State.reconstructed (s : State) (m line : Nat) : State :=
  let s := ((s.bump rMA_CH_RECON m).pmEvent 0x0403 m).report { org := org 4 m, cause := 0x0402, cls := slate, d0 := line * 64, react := 3 }
  let w := secWindow (Map.find s.ma.reconWin m) s.now (s.rf MA_CFG_CH_FAIL_LIMIT)
  let s := { s with ma := { s.ma with reconWin := Map.put s.ma.reconWin m w } }
  if overLimit w && (s.rf MA_CH_STAT_STATE m == 0 || s.rf MA_CH_STAT_STATE m == 4) then s.loseChan m 4 else s

/-- The array poisons a data line (R265, R279): signature, masks, counter, log, record and event. -/
def State.arrayPoison (s : State) (line : Nat) (cause kind : Nat) : State :=
  let m := slotChan (line % 8) (line / 8)
  (((s.setPoison line true).bump rMA_POISON_CNT).maElog kind m line).raise 0x0EA |>.report
    { org := org 5 0, cause := cause, cls := ochre, d0 := line * 64 }

/-- Whether the line of slot i of stripe k can be read or rebuilt, the slots in `ers` taken as erasures (R260). -/
def State.slotVals (s : State) (k : Nat) (ers : List Nat) (i : Nat) : Option (List Nat) :=
  let vals := (List.range 64).map (fun b => rebuildSlot (s.stripeByte k b ers) i)
  if vals.all Option.isSome then some (vals.map (fun v => v.getD 0)) else none

/-- The slots whose channel code cannot correct their line (R261). -/
def State.findingErasures (s : State) (k : Nat) (fs : List ChanFinding) : List Nat :=
  (fs.filter (fun f => !s.corrects (slotChan f.slot.val k) f)).map (fun f => f.slot.val)

/-- What the channel code finds in one slot's line (R261, R265): a corrected error, or a line rebuilt from the stripe and rewritten. -/
def State.codeFinding (s : State) (k : Nat) (ers : List Nat) (f : ChanFinding) : State :=
  let m := slotChan f.slot.val k
  let i := f.slot.val
  if f.bad.isEmpty then s
  else if !ers.contains i then s.lineCorrected m f
  else
    let line := k * 8 + i
    match s.slotVals k ers i with
    | some vals =>
      let s := s.each (List.range 64) (fun s b => s.putCell i k b (vals.getD b 0))
      let s := if i < 8 then s.maElog 0 m line else s.setMask i k (s.maskNow k)
      s.reconstructed m (if i < 8 then line else k * 8)
    | none => s

/-- The findings on channels that serve reads of stripe k. -/
def State.liveFinds (s : State) (k : Nat) (fs : List ChanFinding) : List ChanFinding :=
  fs.filter (fun f => s.chReads (slotChan f.slot.val k) k)

/-- The error rules applied to every finding of one stripe access; with three erasures, the findings' among them or (`lost`) all of them channels that do not serve,
each data line that cannot be rebuilt is poisoned (R265, R277). -/
def State.codeFindings (s : State) (k : Nat) (fs : List ChanFinding) (lost : Bool) : State :=
  let ers := s.findingErasures k fs
  let dead := if ers.isEmpty && !lost then [] else (List.range 8).filter (fun i => (s.slotVals k ers i).isNone && !s.poisoned (k * 8 + i))
  let s := s.each fs (fun s f => s.codeFinding k ers f)
  s.each dead (fun s i => s.arrayPoison (k * 8 + i) 0x0501 1)

/-! ### Transfers on the channels (R263; 18 R761, R762) -/

/-- Line transfers of the slots of a stripe: reads on the channels that serve them, writes on those that take them. -/
def State.readSlots (s : State) (k : Nat) (is : List Nat) : State :=
  s.each is (fun s i => (s.pmEvent 0x0401 (slotChan i k)).bwBytes (0x40 + slotChan i k) 64)
def State.writeSlots (s : State) (k : Nat) (is : List Nat) : State :=
  s.each (is.filter (fun i => s.chWrites (slotChan i k))) (fun s i => (s.pmEvent 0x0402 (slotChan i k)).bwBytes (0x40 + slotChan i k) 64)

/-- Eight lines of a stripe that are served, as reconstruction reads them. -/
def State.survivors (s : State) (k : Nat) : List Nat := ((List.range 10).filter (fun i => s.chReads (slotChan i k) k)).take 8

/-- A read of a data line: one transfer, or eight where the line is an erasure (R263). -/
def State.readTransfers (s : State) (line : Nat) : State :=
  let k := line / 8
  let m := slotChan (line % 8) k
  if s.chReads m k then s.readSlots k [line % 8] else (s.readSlots k (s.survivors k)).pmEvent 0x0403 m

/-- The lines that a write of data slots `js` reads (R263), `part` being those that it writes in part: their old data with P and Q, or the other data lines, whichever are
fewer; else eight survivors. -/
def State.writeReads (s : State) (k : Nat) (js part : List Nat) : List Nat :=
  let up := fun i => s.chReads (slotChan i k) k
  let old := js ++ [8, 9].filter up
  let rest := (List.range 8).filter (fun i => !js.contains i || part.contains i)
  let all := js.length == 8
  if !all && js.all up && (decide (js.length ≤ 3) || !rest.all up) then old
  else if rest.all up then rest
  else s.survivors k

/-- A write of some data lines of a stripe: its reads, and the writes of them and of P and Q (R263). -/
def State.writeTransfers (s : State) (k : Nat) (js part : List Nat) : State := (s.readSlots k (s.writeReads k js part)).writeSlots k (js ++ [8, 9])

/-! ### Reads and writes of the array (R262, R263, R265) -/

/-- What a read of a line of the array meets: its transfers and the error rules. -/
def State.readMeets (s : State) (line : Nat) (fs : List ChanFinding) : State :=
  let k := line / 8
  (s.readTransfers line).codeFindings k (s.liveFinds k fs) (s.exhausted && !s.chReads (slotChan (line % 8) k) k)

/-- A single line written, with its transfers. -/
def State.memPut (s : State) (line : Nat) (data : Line) (mask : BitVec 64) (poison : Bool) : State :=
  (s.writeTransfers (line / 8) [line % 8] (if mask = BitVec.allOnes 64 then [] else [line % 8])).arrayPut line data mask poison

end Sys2Proof.Machine
end

