-- ==== Sys2Proof/Machine/Coh.lean ====
section
/-! DEFINITION. Caches and the directory (05): the current value of a line, requests at the home slice, forwards, invalidations,
NACKs, errors, and the reclaim of a dead quad or slice. -/

namespace Sys2Proof.Machine

/-- The home slice of a device physical address (R178). -/
def homeOf (pa : Nat) : Nat :=
  bits pa 11 6 ^^^ bits pa 17 12 ^^^ bits pa 23 18 ^^^ bits pa 29 24 ^^^ bits pa 35 30 ^^^ bits pa 41 36 ^^^ bits pa 47 42 ^^^ bits pa 51 48

/-- The slice that homes the lines of slice s now (R194, R195, R222). -/
def State.homeNow (s : State) (line : Nat) : Nat := s.rf MX_SLICE_STAT_HOME (homeOf (line * 64))

/-- The sets of the caches and of the sparse directory (R176): 8,192 of an L2, 4,096 of a slice, 2,048 of its directory, 128 of an L1 data cache and 256 of an L1
instruction cache. Which address bits select the set is PRESUMED (log 65). -/
def l2Set (line : Nat) : Nat := line % 8192
def meshSet (line : Nat) : Nat := line / 64 % 4096
def dirSet (line : Nat) : Nat := line / 64 % 2048
def l1dSet (line : Nat) : Nat := line % 128
def l1iSet (line : Nat) : Nat := line % 256

/-! ### Lines in the caches -/

/-- The key of a quad's L2 line. -/
def l2Key (q line : Nat) : Nat := q * 2 ^ 46 + line

/-- A quad's L2 line. -/
def State.l2 (s : State) (q line : Nat) : Option L2Line := Map.find s.coh.l2 (l2Key q line)

def State.setL2 (s : State) (q line : Nat) (l : L2Line) : State :=
  { s with coh := { s.coh with l2 := Map.put s.coh.l2 (l2Key q line) l } }

/-- The L1 lists of the cores that `p` names lose a line. -/
def State.l1Forget (s : State) (p : Nat → Bool) (line : Nat) : State :=
  { s with coh := { s.coh with l1d := s.coh.l1d.map (fun (e : Nat × List Nat) => if p e.1 then (e.1, e.2.filter (· != line)) else e) } }

/-- The cores of a quad whose L1 caches hold a line. -/
def State.l1Holders (s : State) (q line : Nat) : List Nat :=
  ((s.coh.l1d.filter (fun (e : Nat × List Nat) => e.1 / 4 == q && e.2.contains line)).map Prod.fst) ++
  ((s.coh.l1i.filter (fun (e : Nat × List (Nat × Line)) => e.1 / 4 == q && e.2.any (fun x => x.1 == line))).map Prod.fst)

/-- A line leaves the L1 caches of a quad's four cores (R177), a crossing into the islands of those that hold it (18 R741). -/
def State.l1Invalidate (s : State) (q line : Nat) : State :=
  let s := s.each (s.l1Holders q line) (fun s c => s.crossInto c)
  { s with coh := { s.coh with
      l1d := s.coh.l1d.map (fun (e : Nat × List Nat) => if e.1 / 4 = q then (e.1, e.2.filter (· != line)) else e),
      l1i := s.coh.l1i.map (fun (e : Nat × List (Nat × Line)) => if e.1 / 4 = q then (e.1, e.2.filter (fun x => x.1 != line)) else e) } }

/-- An L2 loses a line, and the L1 caches of its quad with it (R177). -/
def State.dropL2 (s : State) (q line : Nat) : State :=
  let s := s.l1Invalidate q line
  { s with coh := { s.coh with l2 := Map.del s.coh.l2 (l2Key q line) } }

/-- A core's L1 caches. -/
def State.l1dOf (s : State) (c : Nat) : List Nat := Map.getD s.coh.l1d c []
def State.l1iOf (s : State) (c : Nat) : List (Nat × Line) := Map.getD s.coh.l1i c []

/-- The L1 arrays of a core are empty (04 R156). -/
def State.l1Clear (s : State) (c : Nat) : State := { s with coh := { s.coh with l1d := Map.del s.coh.l1d c, l1i := Map.del s.coh.l1i c } }

/-- The L1 instruction cache of a core is empty (03 R107, FENCE.I). -/
def State.l1iClear (s : State) (c : Nat) : State := { s with coh := { s.coh with l1i := Map.del s.coh.l1i c } }

/-- A list with one element more; when the `ways` of its set are taken, a free choice of that set's elements leaves. -/
def State.fillWay {α : Type} (s : State) (l : List α) (x : α) (set : α → Nat) (ways : Nat) : State × List α :=
  let mates := l.zipIdx.filter (fun e => set e.1 == set x)
  if mates.length < ways then (s, x :: l)
  else
    let (v, s) := s.fresh 32
    let out := ((mates.map Prod.snd).getD (v % mates.length) 0)
    (s, x :: (l.take out ++ l.drop (out + 1)))

/-- A load meets the L1 data cache (R176, R177): a line that the quad's L2 holds is filled on a miss. The misses and L2 hits are counted (18 R761). -/
def State.l1Load (s : State) (c line : Nat) (inst : Option Nat) : State :=
  if (s.l1dOf c).contains line then s
  else
    let s := s.pmEvent 0x0106 c inst
    if (s.l2 (c / 4) line).isSome then
      let s := s.pmEvent 0x0201 (c / 4) inst
      let (s, l) := s.fillWay (s.l1dOf c) line l1dSet 8
      { s with coh := { s.coh with l1d := Map.put s.coh.l1d c l } }
    else s

/-- The directory entry; no quad holds an unlisted line. -/
def State.dirOf (s : State) (line : Nat) : DirEnt := Map.getD s.coh.dir line ⟨0, none, false, 512⟩

/-- s with the directory entry; one that names no quad is not listed. -/
def State.setDir (s : State) (line : Nat) (d : DirEnt) : State :=
  { s with coh := { s.coh with
      dir := if d.sharers = 0 ∧ d.owner = none then Map.del s.coh.dir line else Map.put s.coh.dir line d } }

/-- The quads that hold the line, as a mask. -/
def DirEnt.holders (d : DirEnt) : Nat := match d.owner with | some o => setBit d.sharers o true | none => d.sharers

def State.meshOf (s : State) (line : Nat) : Option MeshLine := Map.find s.coh.mesh line

/-- The line at its home: the mesh cache, else memory. -/
def State.homeLine (s : State) (line : Nat) : Line × Bool :=
  match s.meshOf line with
  | some l => (l.data, l.poison)
  | none => s.arrayLine line

/-- The most recent value of a line and its poison bit (R187): the quad in E or M supplies it, else the home. A line in M at a dead quad is lost (R192). -/
def State.lineNow (s : State) (line : Nat) : Line × Bool :=
  let d := s.dirOf line
  match d.owner with
  | some q => if d.fwd then s.homeLine line else
      match s.l2 q line with
      | some l => if bit s.coh.deadQuads q then ((s.homeLine line).1, (s.homeLine line).2 || decide (l.st = .m)) else (l.data, l.poison)
      | none => s.homeLine line
  | none => s.homeLine line

/-- The line of `old` with the masked bytes of `new`. -/
def mergeLine (old new : Line) (mask : BitVec 64) : Line :=
  BitVec.ofNat 512 (ofBytes ((List.range 64).map (fun b =>
    if mask.toNat.testBit b then byteOf new.toNat b else byteOf old.toNat b)))

/-- The poison bit after a masked write (R191): only a full mask clears it. -/
def poisonAfter (p : Bool) (mask : BitVec 64) : Bool := p && mask != BitVec.allOnes 64

/-- The home writes a whole line for a writer: to the mesh cache if the line is there, else to memory (R182). A write for no instance leaves a dirty line its
writer (log 8). -/
def State.homePut (s : State) (line : Nat) (data : Line) (poison : Bool) (w : Nat) : State :=
  match s.meshOf line with
  | some l => { s with coh := { s.coh with mesh := Map.put s.coh.mesh line ⟨data, true, poison, if w = 512 && l.dirty then l.writer else w⟩ } }
  | none => s.memPut line data (BitVec.allOnes 64) poison

/-- Drop the line from every quad and empty its directory entry. -/
def State.dropAll (s : State) (line : Nat) : State :=
  let s := s.each (List.range 16) (fun s q => s.dropL2 q line)
  s.setDir line ⟨0, none, false, 512⟩

/-- The home performs a WRITE_LINE: every copy invalidated, a returned M line merged, the home written (R182, R187, R191). -/
def State.lineWrite (s : State) (line : Nat) (data : Line) (mask : BitVec 64) (w : Nat) : State :=
  let d := s.dirOf line
  if (d.owner.isSome && !d.fwd) || (s.meshOf line).isSome then
    let (old, p) := s.lineNow line
    (s.dropAll line).homePut line (mergeLine old data mask) (poisonAfter p mask) w
  else (s.dropAll line).memPut line data mask false

/-- The home writes an M line of quad q back, so that it is clean (R182, R183). -/
def State.writeBackM (s : State) (q line : Nat) : State :=
  match s.l2 q line with
  | some l => if l.st = .m then s.homePut line l.data l.poison (s.dirOf line).writer else s
  | none => s

/-- Masked bytes written into quad q's M line (R198), clearing poison under R191; the other cores' L1 data caches lose the line. -/
def State.l2Store (s : State) (q line : Nat) (data : Line) (mask : BitVec 64) : State :=
  match s.l2 q line with
  | some l => s.setL2 q line ⟨.m, mergeLine l.data data mask, poisonAfter l.poison mask⟩
  | none => s

/-- A core's store is in its quad's L2: the line leaves the other three cores' L1 data caches (R198). -/
def State.l1Stored (s : State) (c line : Nat) : State := s.l1Forget (fun x => x / 4 == c / 4 && x != c) line

/-! ### Evictions -/

/-- A quad leaves the line's directory entry. -/
def State.leaveDir (s : State) (q line : Nat) : State :=
  let d := s.dirOf line
  s.setDir line { d with sharers := setBit d.sharers q false, owner := if d.owner = some q then none else d.owner,
                         fwd := if d.owner = some q then false else d.fwd }

/-- The lines whose directory entries share a set of the sparse directory with `line` (R176, R188): held by a quad and not by their slice's mesh cache. -/
def State.dirMates (s : State) (line : Nat) : List Nat :=
  ((s.coh.dir.map Prod.fst).filter (fun x => x != line && dirSet x == dirSet line && s.homeNow x == s.homeNow line && (s.meshOf x).isNone))

/-- Whether the sparse directory has no way left for `line` (R176). -/
def State.dirFull (s : State) (line : Nat) : Bool := decide (16 ≤ (s.dirMates line).length)

/-- The request being served for a line. -/
def State.busyOf (s : State) (line : Nat) : Option HomeTxn := s.coh.busy.find? (fun t => t.req.line == line)

/-- The sparse directory evicts an entry, the exchange of R188 performed whole. -/
def State.dirEvictNow (s : State) (line : Nat) : State :=
  let d := s.dirOf line
  if d.holders = 0 then s
  else
    let s := match d.owner with | some o => s.writeBackM o line | none => s
    ((s.dropAll line).bump rMX_DIR_EVICT).pmEvent 0x0303 (s.homeNow line)

/-- Which entry of a full set makes room is a free choice among those whose lines are not busy. -/
def State.dirVictim (s : State) (line : Nat) : State × Option Nat :=
  let l := (s.dirMates line).filter (fun x => (s.busyOf x).isNone)
  if l.isEmpty then (s, none) else (fun (p : Nat × State) => (p.2, l[p.1 % l.length]?)) (s.fresh 32)

/-- Room in the sparse directory for a line, at once. -/
def State.dirRoom (s : State) (line : Nat) : State :=
  if (s.meshOf line).isNone && (s.dirOf line).holders == 0 && s.dirFull line then
    match s.dirVictim line with | (s, some v) => s.dirEvictNow v | (s, none) => s
  else s

/-- The mesh cache evicts a line: dirty data goes to memory with its poison bit; the state of a line that some quad holds moves to the sparse directory
(R179, R188). -/
def State.meshEvict (s : State) (line : Nat) : State :=
  match s.meshOf line with
  | some l =>
    let s := if (s.dirOf line).holders != 0 && s.dirFull line then (match s.dirVictim line with | (s, some v) => s.dirEvictNow v | (s, none) => s) else s
    let s := { s with coh := { s.coh with mesh := Map.del s.coh.mesh line } }
    if l.dirty then s.memPut line l.data (BitVec.allOnes 64) l.poison else s
  | none => s

/-- Room in the mesh cache for a line: with the 16 ways of its set taken, a free choice of them is evicted (R176). -/
def State.meshRoom (s : State) (line : Nat) : State :=
  let l := (s.coh.mesh.map Prod.fst).filter (fun x => x != line && meshSet x == meshSet line && s.homeNow x == s.homeNow line)
  if (s.meshOf line).isSome || l.length < 16 then s
  else (fun (p : Nat × State) => p.2.meshEvict (l.getD (p.1 % l.length) 0)) (s.fresh 32)

/-- WRITEBACK (R181): the home takes in an evicted M line; its mesh cache then holds it (DESIGN CHOICE, log 8), but for a line rehomed from a lost
slice, which goes to memory (R194). -/
def State.writeback (s : State) (q line : Nat) : State :=
  match s.l2 q line with
  | some l => if l.st = .m then
      let s := if bit s.coh.deadSlices (homeOf (line * 64)) then s.memPut line l.data (BitVec.allOnes 64) l.poison
        else
          let s := s.meshRoom line
          { s with coh := { s.coh with mesh := Map.put s.coh.mesh line ⟨l.data, true, l.poison, (s.dirOf line).writer⟩ } }
      (((s.dropL2 q line).leaveDir q line).pmEvent 0x0203 q).bwBytes 2 64
    else s
  | none => s

/-- EVICT_CLEAN (R181): the home takes in the eviction of an E or F line; a line in S is evicted silently, and the directory still names the quad. -/
def State.evictClean (s : State) (q line : Nat) : State :=
  match s.l2 q line with
  | some l => match l.st with
    | .m => s
    | .s => s.dropL2 q line
    | _ => (s.dropL2 q line).leaveDir q line
  | none => s

/-- Room in a quad's L2 for a line: with the 16 ways of its set taken, a free choice of them is evicted (R176, R181). -/
def State.l2Room (s : State) (q line : Nat) : State :=
  let l := (s.coh.l2.filter (fun e => e.1 / 2 ^ 46 == q && e.1 % 2 ^ 46 != line && l2Set (e.1 % 2 ^ 46) == l2Set line)).map (fun e => e.1 % 2 ^ 46)
  if (s.l2 q line).isSome || l.length < 16 then s
  else (fun (p : Nat × State) => let v := l.getD (p.1 % l.length) 0
    (p.2.writeback q v).evictClean q v) (s.fresh 32)

/-- A line enters a quad's L2. -/
def State.fillL2 (s : State) (q line : Nat) (l : L2Line) : State := (s.l2Room q line).setL2 q line l

/-! ### Requests at the home slice -/

/-- A request finishes: it is no longer served. -/
def State.unbusy (s : State) (line : Nat) : State :=
  { s with coh := { s.coh with busy := s.coh.busy.filter (fun t => t.req.line != line) } }

/-- s with the request of a line served further. -/
def State.setBusy (s : State) (t : HomeTxn) : State :=
  let s := s.unbusy t.req.line
  { s with coh := { s.coh with busy := s.coh.busy ++ [t] } }

/-- The requester of READ_OWN or UPGRADE gets M (R182). -/
def State.grantM (s : State) (q line inst : Nat) (data : Line) (p : Bool) : State :=
  let l : L2Line := match s.l2 q line with | some l => ⟨.m, l.data, l.poison⟩ | none => ⟨.m, data, p⟩
  ((s.fillL2 q line l).setDir line ⟨0, some q, false, inst⟩).unbusy line

/-- A request whose forwards and invalidations are all answered completes (R182). The home merges a WRITE_LINE into the line as it holds it then; an
evicted directory entry is free (R188). -/
def State.finishTxn (s : State) (t : HomeTxn) : State :=
  let r := t.req
  match r.kind, r.quad with
  | .readOwn, some q => s.grantM q r.line r.inst t.data t.poison
  | .upgrade, some q => s.grantM q r.line r.inst t.data t.poison
  | .writeLine data mask, _ => (s.lineWrite r.line data mask r.inst).unbusy r.line
  | .dirEvict, _ => (((s.dropAll r.line).bump rMX_DIR_EVICT).pmEvent 0x0303 (s.homeNow r.line)).unbusy r.line
  | _, _ => s.unbusy r.line

/-- WRITER_CHANGE (R183): the home records the new writer; an M line is written back and clean at that moment. -/
def State.writerChange (s : State) (q line inst : Nat) : State :=
  let d := s.dirOf line
  if d.owner = some q ∧ d.fwd = false then
    let s := (s.writeBackM q line).setDir line { d with writer := inst }
    match s.l2 q line with
    | some l => s.setL2 q line { l with st := .e }
    | none => s
  else s

/-- The home acts on a request by the line's directory entry d and its value (R182). -/
def State.serveAs (s : State) (r : CohReq) (d : DirEnt) (v : Line × Bool) : State :=
  let (data, p) := v
  let excl := d.owner.isSome && !d.fwd
  match r.kind, r.quad with
  | .readShared, some q =>
    if (s.l2 q r.line).isSome && bit d.holders q then s
    else match d.owner with
      | some o => if o = q then (s.dropL2 q r.line).fillL2 q r.line ⟨if d.fwd then .f else .e, data, p⟩
                  else s.setBusy ⟨r, some o, 0, data, p⟩
      | none =>
        if d.sharers = 0 then (s.fillL2 q r.line ⟨.e, data, p⟩).setDir r.line ⟨0, some q, false, r.inst⟩
        else (s.fillL2 q r.line ⟨.f, data, p⟩).setDir r.line ⟨setBit d.sharers q false, some q, true, 512⟩
  | .readOwn, some q | .upgrade, some q =>
    if excl then
      match d.owner with
      | some o => if o = q then (s.grantM q r.line r.inst data p) else s.setBusy ⟨r, some o, 0, data, p⟩
      | none => s
    else
      let inv := setBit d.holders q false
      let s := if bit d.holders q then s else s.dropL2 q r.line
      if inv = 0 then s.grantM q r.line r.inst data p else s.setBusy ⟨r, none, inv, data, p⟩
  | .writerChange, some q => s.writerChange q r.line r.inst
  | .readSnoop, _ =>
    match d.owner with
    | some o => if excl then s.setBusy ⟨r, some o, 0, data, p⟩
                else { s with coh := { s.coh with snooped := (r.line, data, p) } }
    | none => { s with coh := { s.coh with snooped := (r.line, data, p) } }
  | .writeLine dt mask, _ =>
    if d.holders = 0 then s.lineWrite r.line dt mask r.inst
    else s.setBusy ⟨r, none, d.holders, (s.homeLine r.line).1, (s.homeLine r.line).2⟩
  | _, _ => s

/-- A line's data is lost: memory keeps the line poisoned (R189, R192, R194). -/
def State.loseLine (s : State) (line : Nat) : State :=
  let s := { s with coh := { s.coh with mesh := Map.del s.coh.mesh line } }
  (s.dropAll line).setPoison line true

/-- The writers that lost a dirty line of a dead agent, and how many lines (R192, R216, R220): key quad, or 16 + slice. -/
def State.lostWriters (s : State) (k : Nat) : List Nat := Map.getD s.coh.lostW k []
def State.noteLost (s : State) (k w : Nat) : State :=
  let l := s.lostWriters k
  let s := { s with coh := { s.coh with lostW := Map.put s.coh.lostW k (if l.contains w then l else l ++ [w]) } }
  let s := s.sf MX_RECLAIM_POISONED (satN 32 (s.rf MX_RECLAIM_POISONED + 1))
  if k < 16 then s.sf QD_STAT_LOST_DIRTY (satN 16 (s.rf QD_STAT_LOST_DIRTY k + 1)) k else s

/-- One directory entry that names the dead quad q is reclaimed (R192): a shared or exclusive clean line loses the quad, an M line is poisoned in
memory and its writer recorded. -/
def State.reclaimLine (s : State) (q line : Nat) : State :=
  match s.l2 q line with
  | some l =>
    if l.st = .m then (s.loseLine line).noteLost q (s.dirOf line).writer else (s.dropL2 q line).leaveDir q line
  | none => s.leaveDir q line

/-- A request meets entries of the line that name dead quads and reclaims them on demand (R192). -/
def State.onDemand (s : State) (line : Nat) : State :=
  if s.coh.deadQuads = 0 then s
  else s.each ((List.range 16).filter (fun q => bit s.coh.deadQuads q)) (fun s q =>
    if bit (s.dirOf line).holders q || (s.l2 q line).isSome then s.reclaimLine q line else s)

/-- Whether memory supplies the line (07 R263): no quad in E or M and no mesh cache does, and the request asks for its data. -/
def State.fromMemory (s : State) (r : CohReq) : Bool :=
  (match r.kind with | .readShared | .readOwn | .upgrade | .readSnoop => true | _ => false) && !bit (s.dirOf r.line).holders (r.quad.getD 16) &&
  (s.meshOf r.line).isNone && ((s.dirOf r.line).owner.isNone || (s.dirOf r.line).fwd)

/-- A WRITE_LINE. -/
def ReqKind.isWrite (k : ReqKind) : Bool := match k with | .writeLine _ _ => true | _ => false

/-- What a request meets before the home acts on it: entries that name dead quads, the counters of hits, misses and bytes (18 R761, R762), and the array's error rules where
memory supplies the line (07 R265). -/
def State.meets (s : State) (r : CohReq) (fs : List ChanFinding := []) : State :=
  let s := s.onDemand r.line
  let s := s.pmEvent (if (s.meshOf r.line).isSome then 0x0301 else 0x0302) (s.homeNow r.line)
  let s := s.when (s.fromMemory r) (fun s => s.readMeets r.line fs)
  s.bwBytes (if r.kind.isWrite then 2 else 1) (if r.kind = .upgrade then 0 else 64) (if r.inst < 512 then some r.inst else none)

/-- The home serves a request for a line that is not busy (R182). -/
def State.serve (s : State) (r : CohReq) (fs : List ChanFinding := []) : State :=
  let z := s.meets r fs
  z.serveAs r (z.dirOf r.line) (z.lineNow r.line)

/-- Two requests are one: the same sender, line and message. -/
def CohReq.same (a b : CohReq) : Bool := a.line == b.line && a.quad == b.quad && a.agent == b.agent && decide (a.kind = b.kind)

/-- A NACK is counted (R185). -/
def State.countNack (s : State) (r : CohReq) : State :=
  ((s.bump rMX_NACK).pmEvent 0x0304 (s.homeNow r.line)).when r.quad.isSome (fun s => s.pmEvent 0x0204 (r.quad.getD 0))

/-- A NACKed request waits at its sender; one that waits already is to be scheduled afresh. -/
def addNack (l : List NackEnt) (r : CohReq) : List NackEnt :=
  if l.any (fun n => n.req.same r) then l.map (fun n => if n.req.same r then { n with scheduled := false } else n) else l ++ [⟨r, 0, 0, false, false⟩]

/-- A request waits at its sender. -/
def State.hold (s : State) (r : CohReq) : State := { s with coh := { s.coh with nacked := addNack s.coh.nacked r } }

/-- The home answers NACK (R185): the request waits at its sender. -/
def State.nack (s : State) (r : CohReq) : State := (s.countNack r).hold r

/-- A request is taken up: it waits at its sender no longer. -/
def State.takeUp (s : State) (r : CohReq) : State :=
  { s with coh := { s.coh with nacked := s.coh.nacked.filter (fun n => !n.req.same r) } }

/-- Whether an earlier WRITE_LINE of the same agent is not performed yet (R187): being served, or waiting before this one. -/
def State.earlierWrite (s : State) (r : CohReq) : Bool :=
  let mine := fun (x : CohReq) => x.kind.isWrite && x.agent == r.agent && !x.same r
  r.kind.isWrite && (s.coh.busy.any (fun t => mine t.req) || (s.coh.nacked.takeWhile (fun n => !n.req.same r)).any (fun n => mine n.req))

/-- Whether the request needs a directory entry that the full sparse directory has no room for (R188). -/
def State.lacksRoom (s : State) (r : CohReq) : Bool :=
  r.quad.isSome && (s.dirOf r.line).holders == 0 && (s.meshOf r.line).isNone && s.dirFull r.line

/-- Whether the line's slice is lost and its lines are not rehomed yet (R194, R222). -/
def State.rehoming (s : State) (line : Nat) : Bool := s.rf MX_SLICE_STAT_STATE (s.homeNow line) == 1

/-- Whether the home serves the request now (R185-R188, R194): the line is neither busy nor being rehomed, no other request is reserved for it, there is room for its
directory entry, and its sender's earlier writes are performed. -/
def State.mayServe (s : State) (r : CohReq) : Bool :=
  (s.busyOf r.line).isNone && !s.rehoming r.line && !s.lacksRoom r && !s.earlierWrite r &&
  (match s.coh.nacked.find? (fun n => n.reserved && n.req.line == r.line) with | some n => n.req.same r | none => true)

/-- The sparse directory begins to evict an entry (R188): the quads that it names are sent INVALIDATE, and the line is busy until they have answered. -/
def State.dirEvict (s : State) (line : Nat) : State :=
  let d := s.dirOf line
  if d.holders = 0 ∨ (s.busyOf line).isSome then s
  else s.setBusy ⟨⟨.dirEvict, line, none, org 3 (s.homeNow line), 512⟩, none, d.holders, (s.homeLine line).1, (s.homeLine line).2⟩

/-- Room is made for the entry of a line: one eviction at a time in a set. -/
def State.startEvict (s : State) (line : Nat) : State :=
  if s.coh.busy.any (fun t => decide (t.req.kind = .dirEvict) && (s.dirMates line).contains t.req.line) then s
  else match s.dirVictim line with | (s, some v) => s.dirEvict v | (s, none) => s

/-- A request reaches its home slice (R185-R188): served, or NACKed; a write behind an earlier one of its agent waits at its sender. -/
def State.request (s : State) (r : CohReq) (fs : List ChanFinding := []) : State :=
  if s.mayServe r then (s.takeUp r).serve r fs
  else if s.earlierWrite r then s.hold r
  else (s.when (s.lacksRoom r && (s.busyOf r.line).isNone) (fun s => s.startEvict r.line)).nack r

/-- FWD_SHARED at the holder (R182, R185): it supplies the line and becomes S, writing back if M; a miss serves the request afresh. -/
def State.fwdShared (s : State) (line : Nat) : State :=
  match s.busyOf line with
  | some ⟨r, some o, _, _, _⟩ =>
    match r.kind, r.quad, s.l2 o line with
    | .readShared, some q, some l =>
      let d := s.dirOf line
      let s := (s.writeBackM o line).setL2 o line { l with st := .s }
      let s := s.fillL2 q line ⟨.f, l.data, l.poison⟩
      (s.setDir line ⟨setBit (setBit d.sharers o true) q false, some q, true, 512⟩).unbusy line
    | .readShared, _, none => (s.unbusy line).serve r
    | _, _, _ => s
  | _ => s

/-- FWD_OWN at the holder (R182): it supplies the line and becomes I. -/
def State.fwdOwn (s : State) (line : Nat) : State :=
  match s.busyOf line with
  | some ⟨r, some o, inv, _, _⟩ =>
    match r.kind, s.l2 o line with
    | .readOwn, some l | .upgrade, some l =>
      let d := s.dirOf line
      let s := (s.dropL2 o line).setDir line { d with owner := none }
      s.finishTxn ⟨r, none, inv, l.data, l.poison⟩
    | .readOwn, none | .upgrade, none => (s.unbusy line).serve r
    | _, _ => s
  | _ => s

/-- SNOOP at the holder (R182): it supplies a copy and keeps its state. -/
def State.snoop (s : State) (line : Nat) : State :=
  match s.busyOf line with
  | some ⟨r, some o, _, _, _⟩ =>
    match r.kind, s.l2 o line with
    | .readSnoop, some l => ({ s with coh := { s.coh with snooped := (line, l.data, l.poison) } }).unbusy line
    | .readSnoop, none => (s.unbusy line).serve r
    | _, _ => s
  | _ => s

/-- A reply of quad q to INVALIDATE or RECALL is taken in; with the last the request completes. -/
def State.acknowledge (s : State) (t : HomeTxn) (q : Nat) : State :=
  let t := { t with invs := setBit t.invs q false }
  if t.invs = 0 ∧ t.fwdTo = none then s.finishTxn t else s.setBusy t

/-- INVALIDATE at quad q (R181, R182): it drops the line, returning M data, which the home holds from then on; the last acknowledgement completes the
request. -/
def State.invalidate (s : State) (q line : Nat) : State :=
  match s.busyOf line with
  | some t =>
    if bit t.invs q && decide (t.req.kind ≠ .recall) then
      let t := match s.l2 q line with
        | some l => if l.st == CSt.m || l.st == CSt.f then { t with data := l.data, poison := l.poison } else t
        | none => t
      let d := s.dirOf line
      let s := ((s.writeBackM q line).dropL2 q line).setDir line
        { d with sharers := setBit d.sharers q false, owner := if d.owner = some q then none else d.owner }
      s.acknowledge t q
    else s
  | none => s

/-- What quad q reports of a line (R181, R189), and the entry follows the report; a dirty line is returned, and the quad keeps no copy of it (DESIGN CHOICE, log 8). -/
def State.recallReply (s : State) (q line : Nat) : State :=
  match s.l2 q line with
  | none => s.leaveDir q line
  | some l =>
    let d := s.dirOf line
    match l.st with
    | .m => ((s.writeBackM q line).dropL2 q line).leaveDir q line
    | .e => s.setDir line { d with owner := some q, fwd := false }
    | .f => s.setDir line { d with owner := some q, fwd := true }
    | .s => s.setDir line { d with sharers := setBit d.sharers q true }

/-- RECALL at quad q (R181, R189): its reply; with the last of the replies the line is no longer busy. -/
def State.recall (s : State) (q line : Nat) : State :=
  let s := s.recallReply q line
  match s.busyOf line with
  | some t => if bit t.invs q && decide (t.req.kind = .recall) then s.acknowledge t q else s
  | none => s

/-! ### Losses -/

/-- The instance charged with a dirty line's loss (R183), with its generation; 512 stands for none. -/
def State.charge (s : State) (w : Nat) : Option (Nat × Nat) := if w < 512 then some (w, s.gen w) else none

/-- The entry of a line as the L2s report it, the RECALL of R195 performed whole. -/
def State.rebuildDir (s : State) (line : Nat) : State :=
  let st := fun q => (s.l2 q line).map L2Line.st
  let sh := (List.range 16).foldl (fun v q => if st q = some .s then v + 2 ^ q else v) 0
  let d := s.dirOf line
  match (List.range 16).find? (fun q => st q = some .m || st q = some .e) with
  | some q => s.setDir line { d with sharers := sh, owner := some q, fwd := false }
  | none => match (List.range 16).find? (fun q => st q = some .f) with
    | some q => s.setDir line { d with sharers := sh, owner := some q, fwd := true }
    | none => s.setDir line { d with sharers := sh, owner := none, fwd := false }

/-- QD_L2_ELOG_q (R218). -/
def State.qdElog (s : State) (q kind line : Nat) : State :=
  ((s.sf QD_L2_ELOG_VALID 1 q).sf QD_L2_ELOG_KIND kind q).sf QD_L2_ELOG_LINE line q

/-- An error in the caches or the directory and its outcome (R189, R214). A tag error is judged by the state that the directory names: a line in E or M at the quad
may be dirty (DEDUCED, log 65). -/
def State.cacheError (s : State) (e : CacheErr) : State :=
  match e with
  | .l2Single q => (s.bump rQD_L2_CORR q.val).report { org := org 2 q.val, cause := 0x0201, cls := slate, react := 1 }
  | .meshSingle line =>
    let h := s.homeNow line
    (s.bump rMX_SLICE_CORR h).report { org := org 3 h, cause := 0x0301, cls := slate, react := 1 }
  | .l2Data q line tag =>
    let d := s.dirOf line
    let dirty := if tag then decide (d.owner = some q.val) && !d.fwd else (match s.l2 q.val line with | some l => l.st == .m | none => false)
    let s := ((s.bump rQD_L2_UNCORR q.val).raise (0x080 + 2 * q.val)).when tag (fun s => s.raise 0x0EB)
    let s := s.qdElog q.val (if tag then 2 else b2n dirty) line
    if dirty then
      (s.loseLine line).report { org := org 2 q.val, cause := 0x0203, cls := russet, subj := s.charge d.writer, d0 := line * 64 }
    else ((s.dropL2 q.val line).leaveDir q.val line).report
      { org := org 2 q.val, cause := 0x0202, cls := slate, d0 := line * 64, react := 3 }
  | .meshData line =>
    let h := s.homeNow line
    let s := s.raise (0x0A0 + h)
    match s.meshOf line with
    | some l =>
      let s := { s with coh := { s.coh with mesh := Map.del s.coh.mesh line } }
      if l.dirty then (s.setPoison line true).report { org := org 3 h, cause := 0x0304, cls := russet, subj := s.charge l.writer, d0 := line * 64 }
      else s.report { org := org 3 h, cause := 0x0302, cls := slate, d0 := line * 64, react := 3 }
    | none => s
  | .dirEntry line =>
    let h := s.homeNow line
    let s := ((s.raise (0x0A0 + h)).raise 0x0EB).report { org := org 3 h, cause := 0x0303, cls := ochre, d0 := line * 64, react := 3 }
    if (s.busyOf line).isSome then s.rebuildDir line
    else s.setBusy ⟨⟨.recall, line, none, org 3 h, 512⟩, none, 0xFFFF, (s.homeLine line).1, (s.homeLine line).2⟩

/-- What else the home slice meets while it serves a request (R188, R189). -/
def State.homeSide (s : State) (h : HomeSide) : State :=
  let s := match h.err with | some e => s.cacheError e | none => s
  let s := match h.evictMesh with | some l => s.meshEvict l | none => s
  match h.evictDir with | some l => s.dirEvict l | none => s

/-- The retry delay after one more NACK (R185). -/
def State.nextDelay (s : State) (d : Nat) : Nat :=
  min (if d = 0 then s.rf MX_CFG_NACK_BASE else 2 * d) (s.rf MX_CFG_NACK_MAX * 16)

/-- A NACKed request schedules its retry, and enters the reservation table of its home when its age reaches the threshold and the
table of 8 has room (R185, R186). A line has one reservation: a further old request for it keeps retrying (DESIGN CHOICE, log 65). -/
def State.nackSchedule (s : State) (line : Nat) (quad : Option Nat) (age : Nat) : State :=
  let home := s.homeNow line
  let used := (s.coh.nacked.filter (fun n => n.reserved && s.homeNow n.req.line == home)).length
  let taken := s.coh.nacked.any (fun n => n.reserved && n.req.line == line)
  { s with coh := { s.coh with nacked := s.coh.nacked.map (fun n =>
      if n.req.line = line ∧ n.req.quad = quad ∧ n.scheduled = false then
        { n with scheduled := true, delay := s.nextDelay n.delay, age := max n.age (satN 8 age),
                 reserved := n.reserved || (decide (s.rf MX_CFG_AGE_THRESH ≤ max n.age (satN 8 age)) && decide (used < 8) && !taken) }
      else n) } }

/-- The retry delay expires: the request is sent again with its age stamp (R185). -/
def State.nackRetry (s : State) (line : Nat) (quad : Option Nat) : State :=
  match s.coh.nacked.find? (fun n => n.req.line == line && n.req.quad == quad && n.scheduled) with
  | some n => s.request n.req
  | none => s

/-- A reclaim begins (R192, R214, R220). -/
def State.reclaimStart (s : State) (kind agent : Nat) : State :=
  ((((((s.sf MX_RECLAIM_BUSY 1).sf MX_RECLAIM_KIND kind).sf MX_RECLAIM_AGENT agent).sf MX_RECLAIM_SLICES_DONE 0).sf MX_RECLAIM_POISONED 0).raise 0x0EB)

/-- A reclaim ends; BUSY stays while another is in progress (R196). -/
def State.reclaimEnd (s : State) (k : Nat) : State :=
  let other := (List.range 16).any (fun q => s.rf QD_STAT_STATE q == 1) || (List.range 64).any (fun a => s.rf MX_SLICE_STAT_STATE a == 1)
  (({ s with coh := { s.coh with lostW := Map.del s.coh.lostW k } }.sf MX_RECLAIM_SLICES_DONE 64).sf MX_RECLAIM_BUSY (b2n other)).raise 0x0EB

/-- The mesh stops take nothing more from a dead quad (R192 step 1): its requests are gone, a forward to it is a miss, and it owes no acknowledgement. -/
def State.fenceQuad (s : State) (q : Nat) : State :=
  let s := { s with coh := { s.coh with deadQuads := setBit s.coh.deadQuads q true, nacked := s.coh.nacked.filter (fun n => n.req.quad != some q),
                                        busy := s.coh.busy.filter (fun t => t.req.quad != some q) } }
  s.each s.coh.busy (fun s t =>
    if t.fwdTo = some q then ((s.reclaimLine q t.req.line).unbusy t.req.line).serve t.req
    else if bit t.invs q then (s.reclaimLine q t.req.line).acknowledge t q
    else s)

/-- The scan for a dead quad's lines (R192 step 2). -/
def State.reclaimQuad (s : State) (q : Nat) : State :=
  let mine := (s.coh.l2.filter (fun e => e.1 / 2 ^ 46 == q)).map (fun e => e.1 % 2 ^ 46)
  let named := (s.coh.dir.filter (fun e => bit e.2.holders q)).map Prod.fst
  s.each (mine ++ named) (fun s l => s.reclaimLine q l)

/-- The slice that takes over the lines of slice `a` (R194, R195): its buddy, or the lowest-numbered working slice of the tile; with none left the
lines keep the buddy for home (DESIGN CHOICE, log 65). -/
def State.takesOver (s : State) (a : Nat) : Nat :=
  let up := fun x => s.rf MX_SLICE_STAT_STATE x == 0
  if up (a ^^^ 1) then a ^^^ 1
  else match (List.range 16).find? (fun k => up (a / 16 * 16 + k)) with
    | some k => a / 16 * 16 + k
    | none => a ^^^ 1

/-- A slice loss begins (R194): the data of its mesh cache are gone, dirty lines are poisoned in memory, and its lines wait for their new home. -/
def State.sliceFence (s : State) (a : Nat) : State :=
  let s := s.reclaimStart 1 a
  let lost := s.coh.mesh.filter (fun e => s.homeNow e.1 == a)
  let s := { s with coh := { s.coh with mesh := s.coh.mesh.filter (fun e => !(s.homeNow e.1 == a)), deadSlices := setBit s.coh.deadSlices a true } }
  let s := s.each (lost.filter (fun e => e.2.dirty)) (fun s e => (s.setPoison e.1 true).noteLost (16 + a) e.2.writer)
  let s := ((s.sf MX_SLICE_STAT_STATE 1 a).raise (0x0A0 + a)).setUnit (org 3 a) (fun u => { u with st := 3 })
  s.report { org := org 3 a, cause := 0x0305, cls := ochre, react := 6 }

/-- A slice loss ends (R192 step 3, R194, R195): the lines have their new home, and the writers that lost a dirty line are recorded. With the buddy lost as well the
directory state is rebuilt from the quads' replies. -/
def State.sliceTake (s : State) (a : Nat) : State :=
  let heir := s.takesOver a
  let homes := (List.range 64).filter (fun x => s.rf MX_SLICE_STAT_HOME x == a)
  let lines := ((s.coh.l2.map (fun (e : Nat × L2Line) => e.1 % 2 ^ 46)) ++ s.coh.dir.map Prod.fst).filter (fun l => s.homeNow l == a)
  let s := if s.rf MX_SLICE_STAT_STATE (a ^^^ 1) = 0 then s else (s.each lines (fun s l => s.rebuildDir l)).raise 0x0EB
  let s := s.each homes (fun s x => s.sf MX_SLICE_STAT_HOME heir x)
  let s := (s.sf MX_SLICE_STAT_STATE 2 a).raise (0x0A0 + a)
  let s := s.each (s.lostWriters (16 + a)) (fun s w => s.report { org := org 3 a, cause := 0x0304, cls := russet, subj := s.charge w })
  s.reclaimEnd (16 + a)

/-- SLICE_LOSS (05 R192, R194, R222): an Up slice is lost; for a Lost one the takeover ends. -/
def State.doSliceLoss (s : State) (a : Nat) : State :=
  if s.rf MX_SLICE_STAT_STATE a = 0 then s.sliceFence a
  else if s.rf MX_SLICE_STAT_STATE a = 1 then s.sliceTake a
  else s

/-! ### Accesses that the model performs whole -/

/-- The quads asked for a line answer once. -/
def State.answerAll (s : State) (line : Nat) : State :=
  (((s.fwdShared line).fwdOwn line).snoop line).each (List.range 16) (fun s q =>
    match s.busyOf line with
    | some t => if !bit t.invs q then s else if t.req.kind = .recall then s.recall q line else s.invalidate q line
    | none => s)

/-- What stands before an access that the model performs whole (R185, R186, R192, R194): the line has its home, entries of dead quads are reclaimed, the request being
served completes, and a reserved one with it. -/
def State.settleLine (s : State) (line : Nat) : State :=
  let s := if s.rehoming line then s.sliceTake (s.homeNow line) else s
  let s := s.onDemand line
  let s := if (s.busyOf line).isSome then (s.answerAll line).answerAll line else s
  match s.coh.nacked.find? (fun n => n.reserved && n.req.line == line) with
  | some n => ((s.request n.req).answerAll line).answerAll line
  | none => s

/-- A WRITE_LINE performed whole, for a writer (R187). -/
def State.coWrite (s : State) (line : Nat) (data : Line) (mask : BitVec 64) (w : Nat := 512) : State := (s.settleLine line).lineWrite line data mask w

/-- Quad q gets the line in M for stores of `inst` (R182 READ_OWN and UPGRADE, R183 WRITER_CHANGE), the exchange performed whole. -/
def State.acquireM (s : State) (q line inst : Nat) : State :=
  let s := s.settleLine line
  let d := s.dirOf line
  if d.owner = some q ∧ d.fwd = false ∧ (s.l2 q line).isSome then
    let s := if d.writer = inst then s else (s.writeBackM q line).setDir line { d with writer := inst }
    match s.l2 q line with
    | some l => s.setL2 q line { l with st := .m }
    | none => s
  else
    let s := (s.srTouch line).dirRoom line
    let s := s.when (s.fromMemory ⟨.readOwn, line, some q, org 2 q, inst⟩) (fun s => s.readMeets line [])
    let s := s.bwBytes 1 64 (if inst < 512 then some inst else none)
    let (data, p) := s.lineNow line
    ((s.dropAll line).fillL2 q line ⟨.m, data, p⟩).setDir line ⟨0, some q, false, inst⟩

/-! ### Bytes of system memory through the coherent view -/

/-- The pieces of `n` bytes at `pa` in each line: line, offset, length. -/
def lineSpans (pa n : Nat) : List (Nat × Nat × Nat) :=
  (List.range (if n = 0 then 0 else (pa + n - 1) / 64 + 1 - pa / 64)).map (fun i =>
    let line := pa / 64 + i
    let lo := max pa (line * 64)
    (line, lo - line * 64, min (pa + n) (line * 64 + 64) - lo))

/-- `n` bytes of system memory at `pa`, little-endian, each line's most recent value (R187). -/
def State.coRead (s : State) (pa n : Nat) : Nat :=
  (lineSpans pa n).foldr (fun p acc =>
    ((s.lineNow p.1).1.toNat / 256 ^ p.2.1) % 256 ^ p.2.2 + 256 ^ p.2.2 * acc) 0

/-- Whether a line of the `n` bytes at `pa` is poisoned. -/
def State.coPoison (s : State) (pa n : Nat) : Bool :=
  (List.range ((pa + n - 1) / 64 + 1 - pa / 64)).any (fun i => (s.lineNow (pa / 64 + i)).2)

/-- The WRITE_LINE pieces of `n` bytes of value v at `pa`: line, data and mask, in address order. -/
def linePieces (pa n v : Nat) : List (Nat × Line × BitVec 64) :=
  (lineSpans pa n).map (fun p =>
    (p.1, BitVec.ofNat 512 ((v / 256 ^ (p.1 * 64 + p.2.1 - pa)) % 256 ^ p.2.2 * 256 ^ p.2.1),
     BitVec.ofNat 64 ((2 ^ p.2.2 - 1) * 2 ^ p.2.1)))

/-- `n` bytes written at `pa` by an agent without a cache, for a writer (R187). -/
def State.coWriteN (s : State) (pa n v : Nat) (w : Nat := 512) : State :=
  s.each (linePieces pa n v) (fun s p => s.coWrite p.1 p.2.1 p.2.2 w)

/-- What the fetch of core c reads of a line (R176): its L1 instruction cache's copy, else the most recent value. -/
def State.fetchLine (s : State) (c line : Nat) : Line × Bool :=
  match (s.l1iOf c).find? (fun x => x.1 == line) with
  | some x => (x.2, false)
  | none => s.lineNow line

/-- The fetch of core c has read a line: filled from the L2 on a miss (R176, R177; 18 R761). -/
def State.l1Fetch (s : State) (c line : Nat) (inst : Option Nat) : State :=
  if (s.l1iOf c).any (fun x => x.1 == line) then s
  else
    let s := s.pmEvent 0x0105 c inst
    if (s.l2 (c / 4) line).isSome && !(s.lineNow line).2 then
      let s := s.pmEvent 0x0201 (c / 4) inst
      let (s, l) := s.fillWay (s.l1iOf c) (line, (s.lineNow line).1) (fun x => l1iSet x.1) 4
      { s with coh := { s.coh with l1i := Map.put s.coh.l1i c l } }
    else s

end Sys2Proof.Machine
end

