-- ==== Sys2Proof/Machine/Xlat.lean ====
section
/-! DEFINITION. Address translation and I/O protection (06): walks of both stages, permissions, A and D updates, TLBs, TLBI. -/

namespace Sys2Proof.Machine

/-- The targets of a device physical address (01 R23, R24). -/
inductive Target where
  | sys | store | ipage | regs | pcie (root : Nat) | unmapped
  deriving DecidableEq, Repr

/-- The top of usable system memory (01 R24, 07 R258). -/
def State.topMem (s : State) : Nat := s.rf MA_CAP_USABLE_GIB * 2 ^ 30

/-- Where a device physical address lies (01 R23). -/
def State.target (s : State) (pa : Nat) : Target :=
  if pa < s.topMem then .sys
  else if 0x400000000000 ≤ pa ∧ pa < 0x400600000000 then .store
  else if 0x7F0000000000 ≤ pa ∧ pa < 0x7F0002000000 then .ipage
  else if 0x7F1000000000 ≤ pa ∧ pa < 0x7F1001300000 then .regs
  else if 0x800000000000 ≤ pa ∧ pa < 0x1000000000000 then .pcie ((pa - 0x800000000000) / 0x200000000000)
  else .unmapped

/-- The region that device firmware reserves: the highest 4 GiB of usable memory (01 R26). -/
def State.fwRegion (s : State) (pa : Nat) : Bool := decide (pa < s.topMem) && decide (s.topMem ≤ pa + 2 ^ 32)

/-- The ECAM space at the top of each PCIe window (19 R803). -/
def inEcam (pa : Nat) : Bool := decide (0x800000000000 ≤ pa) && decide (0x1FFFF0000000 ≤ (pa - 0x800000000000) % 0x200000000000)

/-- What a walk finds at the end: the leaf's entry address, value and level, and its page size in address bits. -/
structure Leaf where
  addr : Nat
  ent : Nat
  level : Nat
  deriving DecidableEq, Repr

/-- Page size in address bits of a leaf at a level (R227). -/
def pageBits (level : Nat) : Nat := if level = 1 then 30 else if level = 2 then 21 else 12

/-- The output address of a leaf for an input address. -/
def Leaf.out (l : Leaf) (hi input : Nat) : Nat :=
  let pb := pageBits l.level
  bits l.ent hi 12 * 4096 / 2 ^ pb * 2 ^ pb + input % 2 ^ pb

/-- Whether an entry with V = 1 is malformed (R230). `hi` is the top address bit of its stage; `st2` says stage 2. -/
def State.malformed (s : State) (e level hi : Nat) (st2 : Bool) : Bool :=
  let leaf := bit e 1
  let addr := bits e hi 12 * 4096
  (e >>> (hi + 1) != 0) || (st2 && bits e 11 10 != 0) || (leaf && level == 0) || (!leaf && level == 3) ||
  (leaf && addr % 2 ^ pageBits level != 0) || (leaf && bit e 3 && !bit e 2) ||
  (st2 && leaf && bit e 5 && s.target addr != .sys)

/-- How a stage-2 walk fails: the tenant physical address, and the table that could not be read. -/
structure S2Fail where
  tpa : Nat
  table : Option Nat
  deriving DecidableEq, Repr

/-- The index into the table at a level for a 39+9-bit input (R227). -/
def walkIndex (level input : Nat) : Nat := bits input (47 - 9 * level) (39 - 9 * level)

/-- A table entry that a walk meets at a device physical address: the walk cache's copy, else the coherent value (R232, R242, R246). `wc` lists the
cached entries as (address, value). -/
def State.ptRead (s : State) (wc : List (Nat × Nat)) (a : Nat) : Nat :=
  match wc.find? (fun w => w.1 == a) with
  | some w => w.2
  | none => s.coRead a 8

/-- Whether the line of a table entry that is not cached is poisoned (R231). -/
def State.ptPoison (s : State) (wc : List (Nat × Nat)) (a : Nat) : Bool := !wc.any (fun w => w.1 == a) && s.coPoison a 8

/-- The stage-2 walk from the table at `tbl`, `fuel` levels left (R227, R229, R235): the leaf, and the table entries read on the way. -/
def State.walk2 (s : State) (wc : List (Nat × Nat)) (tpa tbl : Nat) : Nat → Except S2Fail (Leaf × List (Nat × Nat))
  | 0 => .error ⟨tpa, none⟩
  | fuel + 1 =>
    let level := 3 - fuel
    let a := tbl + 8 * walkIndex level tpa
    if s.target a ≠ .sys ∨ s.ptPoison wc a then .error ⟨tpa, some tbl⟩
    else
      let e := s.ptRead wc a
      if !bit e 0 || s.malformed e level 51 true then .error ⟨tpa, none⟩
      else if bit e 1 then .ok (⟨a, e, level⟩, [])
      else (s.walk2 wc tpa (bits e 51 12 * 4096) fuel).map (fun (r : Leaf × List (Nat × Nat)) => (r.1, (a, e) :: r.2))

/-- An instance's record; an unlisted instance has none of its own yet. -/
def State.inst (s : State) (i : Nat) : InstSt := Map.getD s.tn.insts i InstSt.empty

/-- s with an instance's record changed. -/
def State.setInst (s : State) (i : Nat) (f : InstSt → InstSt) : State :=
  { s with tn := { s.tn with insts := Map.put s.tn.insts i (f (s.inst i)) } }

/-- The stage-2 leaf below a root for a tenant physical address, and the table entries read on the way. -/
def State.leafAt (s : State) (wc : List (Nat × Nat)) (root tpa : Nat) : Except S2Fail (Leaf × List (Nat × Nat)) :=
  if 2 ^ 46 ≤ tpa then .error ⟨tpa, none⟩ else s.walk2 wc tpa root 4

/-- The stage-2 leaf of an instance for a tenant physical address, by the instance's record and without a walk cache (R226). -/
def State.leaf2 (s : State) (i tpa : Nat) : Except S2Fail Leaf := (s.leafAt [] (s.inst i).s2root tpa).map Prod.fst

/-- Where a device physical address lies for an instance's accesses: a secure granule is no memory for the Normal world (17 R705). -/
def State.instTarget (s : State) (i pa : Nat) : Target :=
  if s.secGran.contains (pa / 2 ^ 21) && !s.rb TN_INST_SECURE i then .unmapped else s.target pa

/-- Whether a stage-2 output is refused to every agent but device firmware (01 R26, R27, 19 R803), with the R32 page of the instance
itself excepted. -/
def State.outRefused (s : State) (i pa : Nat) : Bool :=
  s.fwRegion pa || inEcam pa ||
  match s.target pa with
  | .regs => true
  | .ipage => (pa - 0x7F0000000000) / 0x10000 != i
  | _ => false

/-- An A or D update that an access still owes: the entry's address, the value read, the bits to set, whether the entry is a
stage-1 entry, and whether its page is protected (R236, R237, R250). -/
structure AdUpd where
  addr : Nat
  old : Nat
  bits : Nat
  stage1 : Bool
  pr : Bool
  deriving DecidableEq, Repr

/-- The update a leaf needs for a read, or for a write (R236). -/
def adNeed (l : Leaf) (write stage1 pr : Bool) : List AdUpd :=
  let want := if write then 0x180 else 0x80
  if l.ent &&& want = want then [] else [⟨l.addr, l.ent, want, stage1, pr⟩]

/-- A write to a protected line that is not owed waits at its home slice while the epoch stretches or more than 8 MiB are owed (16 R677). -/
def State.heldWrite (s : State) (pr : Bool) (line : Nat) : Bool :=
  pr && s.isActiveRunning && (s.tw.stretch || decide (131072 < s.recorded.length)) && !s.recorded.contains line

/-- Record the lines of a protected page that a write touched (R250). -/
def State.recordLine (s : State) (line : Nat) : State :=
  if s.recorded.contains line then s
  else { s with recorded := s.recorded.filter (· < line) ++ line :: s.recorded.filter (line < ·) }

/-- Record every line of `n` bytes at `pa` when the page is protected. -/
def State.recordSpan (s : State) (pr : Bool) (pa n : Nat) : State :=
  if pr then s.each (lineSpans pa n) (fun s p => s.recordLine p.1) else s

/-- Whether a device physical address lies in a protected page: a stage-2 leaf with PR maps it (R250, R251). -/
def State.paProtected (s : State) (pa : Nat) : Bool :=
  s.tn.insts.any (fun (e : Nat × InstSt) => e.2.maps.any (fun (m : Mapping) => bit m.perm 4 && decide (m.dpage ≤ pa / 4096) && decide (pa / 4096 < m.dpage + m.pages)))

/-- Record a write of n bytes of one page, made by an agent that translates nothing. -/
def State.recordAt (s : State) (pa n : Nat) : State := s.recordSpan (s.paProtected pa) pa n

/-- One update, a compare-and-swap (R237); nothing comes between the walk and it, so it is taken against the entry as it stands. A
stage-1 update is an AMO through the quad's L2; the writer is the instance. -/
def State.adUpdate (s : State) (quad inst : Nat) (u : AdUpd) : State :=
  let cur := s.coRead u.addr 8
  if cur &&& u.bits = u.bits then s
  else
    let new := cur ||| u.bits
    let s := s.recordSpan u.pr u.addr 8
    if u.stage1 then
      s.each (linePieces u.addr 8 new) (fun s p => (s.acquireM quad p.1 inst).l2Store quad p.1 p.2.1 p.2.2)
    else s.coWriteN u.addr 8 new

/-- A finished translation: the device and the tenant physical address, PR, the A and D updates owed, the TLB fills by structure, and after a walk the table
entries that it read. -/
structure Trans where
  pa : Nat
  tpa : Nat
  pr : Bool
  upds : List AdUpd
  fill : List (Nat × TlbEnt)
  walk : Option (List WalkEnt)
  deriving DecidableEq, Repr

/-- Whether the leaf at an address belongs to a contiguity group (R241): sixteen leaves of its table, all CH, A and V, alike in
permissions, naming consecutive pages. -/
def State.contig (s : State) (l : Leaf) (hi : Nat) (readAt : Nat → Nat) (st2 : Bool) : Bool :=
  if !bit l.ent 9 then false
  else
    let base := l.addr / 128 * 128
    let es := (List.range 16).map (fun j => readAt (base + 8 * j))
    let e0 := es.headD 0
    let pg := 2 ^ pageBits l.level
    let adr := fun e => bits e hi 12 * 4096
    (adr e0 % (16 * pg) == 0) &&
    (List.range 16).all (fun j =>
      let e := es.getD j 0
      bit e 0 && bit e 1 && bit e 9 && bit e 7 && !s.malformed e l.level hi st2 &&
      (bits e 6 2 == bits e0 6 2) && (adr e == adr e0 + j * pg))

/-- The extent in 4 KiB pages that a leaf's entry covers. -/
def extent (l : Leaf) (group : Bool) : Nat := 2 ^ (pageBits l.level - 12) * (if group then 16 else 1)

/-- Whether the leaf that maps an input page holds D once the access to page `here` has made its update (R236, R240, R241): a page of a contiguity group has a
leaf of its own. `l` is the leaf of `here`. -/
def State.leafDirty (s : State) (l : Leaf) (group write : Bool) (here page : Nat) : Bool :=
  let per := 2 ^ (pageBits l.level - 12)
  if group && page / per != here / per then bit (s.coRead (l.addr / 128 * 128 + 8 * (page / per % 16)) 8) 8
  else write || bit l.ent 8

/-- D for each sixteenth of an entry of n pages from `first` (R240, R241). -/
def dirtyMask (first n : Nat) (d : Nat → Bool) : Nat := (List.range 16).foldl (fun m j => setBit m j (d (first + j * n / 16))) 0

/-- The D mask bit of a page within an entry. -/
def TlbEnt.chunk (t : TlbEnt) (page : Nat) : Nat := if t.pages < 16 then 0 else (page - t.vpage) * 16 / t.pages

/-- Structure u's entries (R242, R252). -/
def State.tlbOf (s : State) (u : Nat) : List TlbEnt := Map.getD s.tlb.ents u []

/-- The ITLB, the DTLB and the second level of core c (R242). -/
def itlb (c : Nat) : Nat := c
def dtlb (c : Nat) : Nat := 128 + c
def tlb2 (c : Nat) : Nat := 256 + c

/-- How many entries structure u holds (R242). -/
def tlbCap (u : Nat) : Nat := if u < 64 then 64 else if u < 128 then 2048 else if u < 256 then 96 else 1024

/-- The entry that an access may use (R244): its tags match, and stage 1 took part in it as it does in the access (R234). -/
def State.tlbFind (s : State) (u inst gen : Nat) (en : Bool) (asid page : Nat) : Option TlbEnt :=
  (s.tlbOf u).find? (fun t => t.inst == inst && t.gen == gen && t.world == s.rb TN_INST_SECURE inst && t.en == en && (t.asid.isNone || t.asid == some asid) &&
    decide (t.vpage ≤ page) && decide (page < t.vpage + t.pages))

def State.setTlb (s : State) (u : Nat) (l : List TlbEnt) : State := { s with tlb := { s.tlb with ents := Map.put s.tlb.ents u l } }

/-- A fill (R242, R243): it replaces an entry of its own extent, else a random one when the structure is full. -/
def State.tlbFill (s : State) (u : Nat) (t : TlbEnt) : State :=
  let l := (s.tlbOf u).filter (fun x => !(x.inst == t.inst && x.gen == t.gen && x.en == t.en && x.asid == t.asid && x.vpage == t.vpage && x.pages == t.pages))
  if l.length < tlbCap u then s.setTlb u (t :: l)
  else
    let (v, s) := s.fresh 32
    let k := v % l.length
    s.setTlb u (t :: (l.take k ++ l.drop (k + 1)))

/-- A core's walk cache, of 32 entries (R242). -/
def State.walkOf (s : State) (c : Nat) : List WalkEnt := Map.getD s.tlb.walk c []
def State.setWalk (s : State) (c : Nat) (l : List WalkEnt) : State := { s with tlb := { s.tlb with walk := Map.put s.tlb.walk c l } }

/-- The walk-cache entries that a walk for an instance may use, as (address, value) (R244). -/
def State.walkHits (s : State) (c inst gen : Nat) : List (Nat × Nat) :=
  ((s.walkOf c).filter (fun w => w.inst == inst && w.gen == gen && w.world == s.rb TN_INST_SECURE inst)).map (fun w => (w.addr, w.val))

/-- A table entry enters the walk cache; a full one replaces a random entry (R243). -/
def State.walkFill (s : State) (c : Nat) (w : WalkEnt) : State :=
  let l := (s.walkOf c).filter (fun x => !(x.inst == w.inst && x.addr == w.addr))
  if l.length < 32 then s.setWalk c (w :: l)
  else
    let (v, s) := s.fresh 32
    let k := v % l.length
    s.setWalk c (w :: (l.take k ++ l.drop (k + 1)))

/-- The outcome of an I/O translation (R252, R253, 13 R563). -/
inductive IoRes where
  | ok (pa : Nat) (pr : Bool)
  | stale
  | refused
  | unmapped
  deriving DecidableEq, Repr

/-- A refusal's record: Slate, S2_REFUSED, naming the instance, the agent and the tenant physical address (R253, R235). -/
def State.refuse (s : State) (agent inst tpa : Nat) (table : Option Nat) : State :=
  s.report { org := org 0x17 inst, cause := 0x0003, cls := slate, subj := some (inst, s.gen inst), d0 := tpa,
             d1 := table.getD agent, via := some agent }

/-- An I/O access judged against a leaf's permissions: R, W, IO at bits 0, 1, 4 of `perm`. -/
def ioAllowed (perm : Nat) (write : Bool) : Bool := bit perm 4 && (if write then bit perm 1 else bit perm 0)

/-- The permission bits R, W, X, U, IO of a stage-2 leaf. -/
def perm2 (e : Nat) : Nat := b2n (bit e 2) + 2 * b2n (bit e 3) + 4 * b2n (bit e 4) + 8 + 16 * b2n (bit e 6)

/-- An I/O access that ends as an access to an unmapped address: its Slate record (01 R25). -/
def State.ioAddress (s : State) (agent inst pa : Nat) : State :=
  s.report { org := org 0x17 inst, cause := 0x0001, cls := slate, subj := some (inst, s.gen inst), d0 := pa, via := some agent }

/-- What becomes of an I/O access that its leaf allows, by where it lands: refused by 01 R26 and R27, or unmapped (01 R25, 17 R705), else performed. -/
def State.ioLand (s : State) (agent inst tpa pa : Nat) (pr : Bool) : State × IoRes :=
  if s.outRefused inst pa then (s.refuse agent inst tpa none, .refused)
  else if s.instTarget inst pa = .unmapped then (s.ioAddress agent inst pa, .unmapped)
  else (s, .ok pa pr)

/-- The stage-2 walk of an I/O request, with its A and D updates and TLB fill (R252, R236, R241). -/
def State.ioWalk (s : State) (u agent inst tpa : Nat) (write : Bool) : State × IoRes :=
  match s.leaf2 inst tpa with
  | .error f => (s.refuse agent inst f.tpa f.table, .refused)
  | .ok l =>
    let p := perm2 l.ent
    if !ioAllowed p write then (s.refuse agent inst tpa none, .refused)
    else match s.ioLand agent inst tpa (l.out 51 tpa) (bit l.ent 5) with
      | (s, .ok pa pr) =>
        let g := s.contig l 51 (fun a => s.coRead a 8) true
        let n := extent l g
        let vp := tpa / 4096 / n * n
        let t : TlbEnt := ⟨inst, s.gen inst, s.rb TN_INST_SECURE inst, false, none, vp, pa / 4096 / n * n, vp, n, p, pr,
          dirtyMask vp n (s.leafDirty l g write (tpa / 4096))⟩
        ((s.each (adNeed l write false false) (fun s x => s.adUpdate 0 inst x)).tlbFill u t, .ok pa pr)
      | r => r

/-- An I/O translation (R252, R253): stale requests are discarded and counted; a TLB entry is used while it may be. -/
def State.ioXlat (s : State) (u agent inst gen tpa : Nat) (write : Bool) : State × IoRes :=
  if s.gen inst ≠ gen then (s.bump rTN_STALE inst, .stale)
  else if 2 ^ 46 ≤ tpa then (s.refuse agent inst tpa none, .refused)
  else match s.tlbFind u inst gen false 0 (tpa / 4096) with
    | some t =>
      if !ioAllowed t.perm write then (s.refuse agent inst tpa none, .refused)
      else if write && !bit t.dirty (t.chunk (tpa / 4096)) then s.ioWalk u agent inst tpa write
      else s.ioLand agent inst tpa ((t.ppage + (tpa / 4096 - t.vpage)) * 4096 + tpa % 4096) t.pr
    | none => s.ioWalk u agent inst tpa write

/-- The hub's I/O translation unit (R252). -/
def hubUnit : Nat := 68

/-! ### Stage 1 and combined translations, for cores -/

/-- Why a core's translation fails: a stage-1 refusal, a write to a Signal Store page whose stage-2 leaf has W = 0 (R235), another stage-2 fault,
or a poisoned table line (R231): the tenant and the device physical address of its entry. -/
inductive XFault where
  | s1
  | ro (tpa : Nat)
  | s2 (f : S2Fail)
  | poison (tpa pa : Nat)
  deriving DecidableEq, Repr

/-- The access kinds of R233; `csub` is the check of CSUB's first CCE. -/
inductive AccKind where
  | fetch | load | csub | store | amo | bmovRead
  deriving DecidableEq, Repr

def AccKind.writes : AccKind → Bool
  | .store => true
  | .amo => true
  | _ => false

/-- Whether permission bits R, W, X, U (0 to 3) at stage 1 allow an access at U or K (R233). -/
def s1Allowed (p : Nat) (k : AccKind) (user : Bool) : Bool :=
  match k with
  | .fetch => bit p 2 && (bit p 3 == user)
  | .load | .csub => bit p 0 && (!user || bit p 3)
  | .store => bit p 1 && (!user || bit p 3)
  | .amo | .bmovRead => bit p 0 && bit p 1 && (!user || bit p 3)

/-- Whether stage-2 permissions allow an access (R233). -/
def s2Allowed (p : Nat) (k : AccKind) : Bool :=
  match k with
  | .fetch => bit p 2
  | .load | .csub => bit p 0
  | .store => bit p 1
  | .amo | .bmovRead => bit p 0 && bit p 1

/-- The stage-1 leaf's permissions R, W, X, U. -/
def perm1 (e : Nat) : Nat := b2n (bit e 2) + 2 * b2n (bit e 3) + 4 * b2n (bit e 4) + 8 * b2n (bit e 5)

/-- What a stage-1 walk finds: the leaf, its tenant physical address, the stage-2 leaf of the table's page, the updates owed and the table entries read. -/
structure Walked where
  leaf : Leaf
  at1 : Nat
  leaf2 : Leaf
  owed : List AdUpd
  seen : List (Nat × Nat)

/-- The stage-1 walk (R227, R228, R231): each table read is translated through stage 2 and needs R; the updates it owes are kept. -/
def State.walk1 (s : State) (wc : List (Nat × Nat)) (inst root va tbl : Nat) (owed : List AdUpd) (seen : List (Nat × Nat)) : Nat → Except XFault Walked
  | 0 => .error .s1
  | fuel + 1 =>
    let level := 3 - fuel
    let a := tbl + 8 * walkIndex level va
    match s.leafAt wc root a with
    | .error f => .error (.s2 f)
    | .ok (l2, seen2) =>
      let pa := l2.out 51 a
      if !bit l2.ent 2 || s.outRefused inst pa || s.instTarget inst pa != .sys then .error (.s2 ⟨a, none⟩)
      else if s.ptPoison wc pa then .error (.poison a pa)
      else
        let e := s.ptRead wc pa
        let owed := owed ++ adNeed l2 false false false
        if !bit e 0 || s.malformed e level 45 false then .error .s1
        else if bit e 1 then .ok ⟨⟨pa, e, level⟩, a, l2, owed, seen ++ seen2⟩
        else s.walk1 wc inst root va (bits e 45 12 * 4096) owed (seen ++ seen2 ++ [(pa, e)]) fuel

/-- What stage 1 contributes to a combined translation: the tenant physical address, permissions, extent, D by page (R240), the ASID tag, the updates owed and
the table entries read. -/
structure Stage1 where
  tpa : Nat
  perm : Nat
  pages : Nat
  dirty : Nat → Bool
  asid : Option Nat
  owed : List AdUpd
  seen : List (Nat × Nat)

/-- Stage 1 of a core's access (R227, R231, R233, R234). A stage-1 update is a write through stage 2: it needs W there and sets A and D in that leaf
(R231, R249's example). -/
def State.stage1 (s : State) (wc : List (Nat × Nat)) (inst root s1root va : Nat) (k : AccKind) (user : Bool) : Except XFault Stage1 :=
  let asid := some (bits s1root 63 48)
  if bit s1root 0 then
    match s.walk1 wc inst root va (bits s1root 45 12 * 4096) [] [] 4 with
    | .error f => .error f
    | .ok w =>
      let need := adNeed w.leaf k.writes true (bit w.leaf2.ent 5)
      if !s1Allowed (perm1 w.leaf.ent) k user then .error .s1
      else if !need.isEmpty && !bit w.leaf2.ent 3 then .error (.s2 ⟨w.at1, none⟩)
      else
        let g := s.contig w.leaf 45 (fun a => s.coRead a 8) false
        .ok ⟨w.leaf.out 45 va, perm1 w.leaf.ent, extent w.leaf g, s.leafDirty w.leaf g k.writes (va / 4096),
             if bit w.leaf.ent 6 then none else asid, w.owed ++ (if need.isEmpty then [] else adNeed w.leaf2 true false false ++ need), w.seen⟩
  else if bits va 47 46 ≠ 0 ∨ 2 ^ 48 ≤ va then .error .s1
  else .ok ⟨va, 15, 2 ^ 34, fun _ => true, asid, [], []⟩

/-- The combined translation of a core's access at U or K (R223, R233-R236, R240-R242), by the stage-2 root that the core holds (R226). -/
def State.coreWalk (s : State) (c inst gen root s1root va : Nat) (k : AccKind) (user : Bool) : Except XFault Trans :=
  let wc := s.walkHits c inst gen
  match s.stage1 wc inst root s1root va k user with
  | .error f => .error f
  | .ok x =>
    match s.leafAt wc root x.tpa with
    | .error f => .error (.s2 f)
    | .ok (l, seen) =>
      let pa := l.out 51 x.tpa
      let p2 := perm2 l.ent
      if !s2Allowed p2 k || s.outRefused inst pa then
        .error (if k.writes && !bit l.ent 3 && decide (s.target pa = .store) then .ro x.tpa else .s2 ⟨x.tpa, none⟩)
      else
        let g := s.contig l 51 (fun a => s.coRead a 8) true
        let n := min x.pages (extent l g)
        let vp := va / 4096 / n * n
        let tp := x.tpa / 4096 / n * n
        let pr := bit l.ent 5
        let world := s.rb TN_INST_SECURE inst
        let d := fun (page : Nat) => x.dirty page && s.leafDirty l g k.writes (x.tpa / 4096) (tp + (page - vp))
        let t : TlbEnt := ⟨inst, gen, world, bit s1root 0, x.asid, vp, pa / 4096 / n * n, tp, n, x.perm &&& p2, pr, dirtyMask vp n d⟩
        .ok ⟨pa, x.tpa, pr, x.owed ++ adNeed l k.writes false false, [(if k = .fetch then itlb c else dtlb c, t), (tlb2 c, t)],
             some ((x.seen ++ seen).map (fun e => ⟨inst, gen, world, e.1, e.2⟩))⟩

/-- The TLB entry that a core's access uses, and the fill of the first level when it comes from the second (R242). -/
def State.coreEntry (s : State) (c inst gen : Nat) (en : Bool) (asid page : Nat) (fetch : Bool) : Option (TlbEnt × List (Nat × TlbEnt)) :=
  let u := if fetch then itlb c else dtlb c
  match s.tlbFind u inst gen en asid page with
  | some t => some (t, [])
  | none => (s.tlbFind (tlb2 c) inst gen en asid page).map (fun t => (t, [(u, t)]))

/-- A core's translation through its TLBs (R242-R246): an entry with the needed permissions and D is used as it is; what 01 R26 and R27 refuse stays refused. -/
def State.coreXlat (s : State) (c inst gen root s1root va : Nat) (k : AccKind) (user : Bool) : Except XFault Trans :=
  let page := va / 4096
  match s.coreEntry c inst gen (bit s1root 0) (bits s1root 63 48) page (k == .fetch) with
  | some (t, fill) =>
    if s1Allowed t.perm k user && (!k.writes || bit t.dirty (t.chunk page)) then
      let pa := (t.ppage + (page - t.vpage)) * 4096 + va % 4096
      let tpa := (t.tpage + (page - t.vpage)) * 4096 + va % 4096
      if s.outRefused inst pa then .error (.s2 ⟨tpa, none⟩) else .ok ⟨pa, tpa, t.pr, [], fill, none⟩
    else s.coreWalk c inst gen root s1root va k user
  | none => s.coreWalk c inst gen root s1root va k user

/-- Carry out what a committed access owes (R239): its A and D updates, then its fills. -/
def State.xlatCommit (s : State) (c inst : Nat) (t : Trans) : State :=
  let s := s.each t.upds (fun s u => s.adUpdate (c / 4) inst u)
  let s := s.each t.fill (fun s e => s.tlbFill e.1 e.2)
  s.each (t.walk.getD []) (fun s w => s.walkFill c w)

/-- s with the entries of structure u that satisfy `p` removed (R247). -/
def State.tlbDrop (s : State) (u : Nat) (p : TlbEnt → Bool) : State := s.setTlb u ((s.tlbOf u).filter (fun t => !p t))

/-- s with the entries of a core that satisfy `p` removed, and with them the walk-cache entries of the instance named, or of every instance (R247). -/
def State.coreTlbDrop (s : State) (c : Nat) (inst : Option Nat) (p : TlbEnt → Bool) : State :=
  ((((s.tlbDrop (itlb c) p).tlbDrop (dtlb c) p).tlbDrop (tlb2 c) p)).setWalk c
    ((s.walkOf c).filter (fun w => match inst with | some i => w.inst != i | none => false))

/-- A core's translation structures are empty (04 R156). -/
def State.coreTlbClear (s : State) (c : Nat) : State := s.coreTlbDrop c none (fun _ => true)

/-- s with the entries that satisfy `p` removed from every structure, a crossing into every core's island (18 R741). -/
def State.tlbDropAll (s : State) (inst : Option Nat) (p : TlbEnt → Bool) : State :=
  (s.each (List.range 64) (fun s c => (s.crossInto c).coreTlbDrop c inst p)).each [64, 65, 66, 67, 68] (fun s u => s.tlbDrop u p)

/-- The stage-1 variants of TLBI: which entries variant v removes (R247). -/
def tlbiHits (v inst op : Nat) (t : TlbEnt) : Bool :=
  let page := bits op 47 12
  let covers := decide (t.vpage ≤ page) && decide (page < t.vpage + t.pages)
  t.inst == inst &&
  (if v % 4 = 0 then covers && (t.asid.isNone || t.asid == some (bits op 63 48))
   else if v % 4 = 1 then covers
   else if v % 4 = 2 then t.asid == some (bits op 15 0)
   else true)

/-- S2.TPA, S2.INST (R247). -/
def State.tlbiS2Tpa (s : State) (inst tpage : Nat) : State :=
  let s := s.each (List.range 64) (fun s c => (s.crossInto c).coreTlbDrop c (some inst) (fun t => t.inst == inst))
  s.each [64, 65, 66, 67, 68] (fun s u =>
    s.tlbDrop u (fun t => t.inst == inst && decide (t.vpage ≤ tpage) && decide (tpage < t.vpage + t.pages)))

def State.tlbiS2Inst (s : State) (inst : Nat) : State := s.tlbDropAll (some inst) (fun t => t.inst == inst)

/-! ### Memory accesses of an I/O agent for an instance -/

/-- Read n bytes at a tenant physical address for an instance: the bytes, `none` when refused (with its reason code: 0 stale,
1 translation, 2 address error, 3 poison). Pieces are translated page by page. -/
def State.ioRead (s : State) (agent inst gen tpa n : Nat) : State × Except Nat Nat :=
  let pages := (List.range (if n = 0 then 0 else (tpa + n - 1) / 4096 + 1 - tpa / 4096)).map (fun i =>
    let lo := max tpa ((tpa / 4096 + i) * 4096)
    (lo, min (tpa + n) ((tpa / 4096 + i + 1) * 4096) - lo))
  pages.foldl (fun (acc : State × Except Nat Nat) p =>
    match acc with
    | (s, .error e) => (s, .error e)
    | (s, .ok v) =>
      match s.ioXlat hubUnit agent inst gen p.1 false with
      | (s, .ok pa _) =>
        if s.target pa ≠ .sys then (s.ioAddress agent inst pa, .error 2)
        else if s.coPoison pa p.2 then
          (s.report { org := agent, cause := 0x0004, cls := slate, subj := some (inst, gen), d0 := pa }, .error 3)
        else ((s.srTouch (pa / 64)).bwBytes 1 p.2 (some inst), .ok (v + s.coRead pa p.2 * 256 ^ (p.1 - tpa)))
      | (s, .stale) => (s, .error 0)
      | (s, .refused) => (s, .error 1)
      | (s, .unmapped) => (s, .error 2)) (s, .ok 0)

/-- Write n bytes of v at a tenant physical address for an instance; every page is translated before any byte is written. -/
def State.ioWrite (s : State) (agent inst gen tpa n v : Nat) : State × Except Nat Unit :=
  let pages := (List.range (if n = 0 then 0 else (tpa + n - 1) / 4096 + 1 - tpa / 4096)).map (fun i =>
    let lo := max tpa ((tpa / 4096 + i) * 4096)
    (lo, min (tpa + n) ((tpa / 4096 + i + 1) * 4096) - lo))
  let r := pages.foldl (fun (acc : State × Except Nat (List (Nat × Nat × Nat × Bool))) p =>
    match acc with
    | (s, .error e) => (s, .error e)
    | (s, .ok l) =>
      match s.ioXlat hubUnit agent inst gen p.1 true with
      | (s, .ok pa pr) => if s.target pa ≠ .sys then (s.ioAddress agent inst pa, .error 2) else (s, .ok (l ++ [(pa, p.1, p.2, pr)]))
      | (s, .stale) => (s, .error 0)
      | (s, .refused) => (s, .error 1)
      | (s, .unmapped) => (s, .error 2)) (s, .ok [])
  match r with
  | (s, .error e) => (s, .error e)
  | (s, .ok l) =>
    (s.each l (fun s x =>
      ((((s.srTouch (x.1 / 64)).bwBytes 2 x.2.2.1 (some inst))).recordSpan x.2.2.2 x.1 x.2.2.1).coWriteN x.1 x.2.2.1 (v / 256 ^ (x.2.1 - tpa) % 256 ^ x.2.2.1) inst), .ok ())

end Sys2Proof.Machine
end

