-- ==== Sys2Proof/Machine/Events.lean ====
section
/-! DEFINITION. Ring pointers (11 R485, 13 R556), virtual core records, the event queue (13 R557), event routes (01 R35-R38), and the
delivery of what one command raises. -/

namespace Sys2Proof.Machine

/-! ### Rings of 2^L entries -/

/-- The position of a pointer register: WRAP and INDEX (11 R485). -/
def ptrPos (v lg : Nat) : Nat := b2n (bit v 16) * 2 ^ lg + bits v 15 0 % 2 ^ lg

/-- The pointer register of a position. -/
def ptrVal (pos lg : Nat) : Nat :=
  let p := pos % 2 ^ (lg + 1)
  p / 2 ^ lg * 65536 + p % 2 ^ lg

/-- Entries from `head` up to `tail`. -/
def ptrDist (head tail lg : Nat) : Nat := (tail + 2 ^ (lg + 1) - head) % 2 ^ (lg + 1)

/-! ### Virtual cores -/

/-- The key of a virtual core. -/
def vkey (i v : Nat) : Nat := i * 64 + v

/-- A virtual core's image. -/
def State.vc (s : State) (k : Nat) : VCore := Map.getD s.kc.vc k VCore.empty

def State.setVc (s : State) (k : Nat) (f : VCore → VCore) : State :=
  { s with kc := { s.kc with vc := Map.put s.kc.vc k (f (s.vc k)) } }

/-- A physical core's state. -/
def State.core (s : State) (c : Nat) : CoreSt := Map.getD s.kc.cores c CoreSt.empty

def State.setCore (s : State) (c : Nat) (f : CoreSt → CoreSt) : State :=
  { s with kc := { s.kc with cores := Map.put s.kc.cores c (f (s.core c)) } }

/-- The reset value of a stored control register (02 R65, R67): UCT = 1 and PL = K; TIMECMP all ones; else 0. -/
def crReset (n : Nat) : Nat := if n = 0 then 0x801 else if n = 0x12 then 2 ^ 64 - 1 else 0

/-- A stored control register of an image. -/
def VCore.getCr (c : VCore) (n : Nat) : Nat :=
  match Map.find c.cr n with
  | some v => v.toNat
  | none => crReset n

def VCore.setCr (c : VCore) (n v : Nat) : VCore :=
  { c with cr := Map.set c.cr (BitVec.ofNat 64 (crReset n)) n (BitVec.ofNat 64 v) }

/-- General register n (02 R57). -/
def VCore.getG (c : VCore) (n : Nat) : Nat := if n = 0 then 0 else (Map.getD c.g n (0 : Word)).toNat

def VCore.setG (c : VCore) (n v : Nat) : VCore :=
  if n = 0 then c else { c with g := Map.set c.g 0 n (BitVec.ofNat 64 v) }

/-- How many virtual cores an instance has. -/
def State.vcores (s : State) (i : Nat) : Nat := s.rf TN_INST_VCORES i

/-- Whether virtual core v of an instance is parked (13 R553). -/
def State.isParked (s : State) (i v : Nat) : Bool := bit (s.rf IP_PARKED_VALUE i) v

/-- The virtual core that receives MAILBOX and EVENT (13 R548). -/
def State.irqVcore (s : State) (i : Nat) : Nat :=
  let n := s.rf IP_QCTL_IRQ_VCORE i
  let vs := s.vcores i
  if n < vs ∧ s.isParked i n = false then n
  else match (List.range vs).find? (fun v => !s.isParked i v) with
    | some v => v
    | none => if n < vs then n else 0

/-- KC_IPEND bit b becomes pending on a virtual core (02 R69). -/
def State.setIpend (s : State) (i v b : Nat) : State :=
  s.setVc (vkey i v) (fun c => c.setCr 0x11 (setBit (c.getCr 0x11) b true))

/-! ### The event queue -/

/-- Whether events for an instance's queue are discarded: Freezing, Frozen or Saving (13 R568). -/
def State.eventsHeld (s : State) (i : Nat) : Bool := [4, 5, 6].contains (s.ist i)

/-- An entry of the event queue is dropped (13 R557). -/
def State.eqDrop (s : State) (i : Nat) : State := (s.sf IP_EQ_STAT_OVF 1 i).bump rTN_EQ_DROP i

/-- Post a 32-byte entry, made in generation `g`, to an instance's event queue (13 R557, R563, R568). -/
def State.eqPost (s : State) (i g entry : Nat) : State :=
  if s.ist i = 0 then s
  else if s.gen i ≠ g then s.bump rTN_STALE i
  else if s.eventsHeld i then
    (s.bump rTN_EQ_DROP i).setInst i (fun r => { r with frozenDrop := r.frozenDrop + 1 })
  else
    let lg := s.rf IP_EQ_CFG_LOG2 i
    let tail := ptrPos (s.reg rIP_EQ_TAIL i) lg
    let head := ptrPos (s.reg rIP_EQ_HEAD i) lg
    let n := ptrDist head tail lg
    if 2 ^ lg ≤ n then s.eqDrop i
    else
      let a := s.rf IP_EQ_CFG_BASE i * 4096 + (tail % 2 ^ lg) * 32
      match s.ioWrite (org 0x17 i) i g a 32 entry with
      | (s, .error _) => (s.eqDrop i).sf IP_EQ_STAT_ERROR 2 i
      | (s, .ok _) =>
        let s := s.wreg rIP_EQ_TAIL i (ptrVal (tail + 1) lg)
        if n = 0 then s.setIpend i (s.irqVcore i) 1 else s

/-- An entry of TYPE 0x10 to 0x13: TYPE, the word at 0x04, the doubleword at 0x08 (13 R557). -/
def State.eqEntry (s : State) (i type w4 d8 : Nat) : Nat :=
  type + w4 * 2 ^ 32 + d8 % 2 ^ 64 * 2 ^ 64 + s.now * 2 ^ 128 + s.gen i * 2 ^ 224

/-- Post an entry of TYPE 0x10 to 0x13 to an instance, in its current generation. -/
def State.eqNotice (s : State) (i type w4 d8 : Nat) : State := s.eqPost i (s.gen i) (s.eqEntry i type w4 d8)

/-- An instance notice (TYPE 0x12): KIND, virtual core, count. -/
def State.notice (s : State) (i kind v count : Nat) : State := s.eqNotice i 0x12 (kind + v * 256) count

/-! ### The Management Port's side: MSI-X and host memory (01 R36, 19 R808) -/

/-- A vector's table entry: address at bits 63 to 0, data at 95 to 64, its mask bit at 96, which is set at reset (the PCIe value; PRESUMED, log 6). -/
def State.msixEntry (s : State) (v : Nat) : Nat := Map.getD s.mp.msix v (2 ^ 96)

/-- Whether a message of vector v may go out. -/
def State.msixOpen (s : State) (v : Nat) : Bool := s.mp.busMaster && s.mp.msixEn && !s.mp.msixMask && !bit (s.msixEntry v) 96

/-- A message of vector v: it goes out, or sets the vector's pending bit; with MSI-X disabled there is none (PCIe, PRESUMED, log 6). -/
def State.msixSend (s : State) (v : Nat) : State :=
  if s.msixOpen v then s.emit (.msix v (bits (s.msixEntry v) 63 0) (bits (s.msixEntry v) 95 64))
  else if s.mp.msixEn && !s.mp.msixPend.contains v then
    { s with mp := { s.mp with msixPend := s.mp.msixPend.takeWhile (fun x => decide (x < v)) ++ v :: s.mp.msixPend.dropWhile (fun x => decide (x < v)) } }
  else s

/-- The pending messages that may now go out do, lowest vector first. -/
def State.msixFlush (s : State) : State :=
  { s with mp := { s.mp with msixPend := s.mp.msixPend.filter (fun v => !s.msixOpen v) } }.each (s.mp.msixPend.filter (fun v => s.msixOpen v)) (fun s v => s.msixSend v)

/-- A write into the Operator Host's memory, and whether it was made: only while Bus Master Enable is 1 (19 R808). -/
def State.hostWrite (s : State) (addr : Nat) (bs : List Nat) : State × Bool :=
  if s.mp.busMaster then (s.emit (.hostWrite addr bs), true) else (s, false)

/-! ### Event routes -/

/-- Deliver event n as its route register reads (01 R36-R38). -/
def State.deliverOne (s : State) (n : Nat) : State :=
  let vec := s.rb MP_EVT_ROUTE_VEC_EN n
  let eq := s.rb MP_EVT_ROUTE_EQ_EN n
  let i := s.rf MP_EVT_ROUTE_INSTANCE n
  let okq := s.ist i != 0 && (!s.rb MP_EVT_ROUTE_SECURE n || s.rb TN_INST_SECURE i)
  let s := if vec then s.msixSend (s.rf MP_EVT_ROUTE_VECTOR n) else s
  if eq then (if okq then s.eqNotice i 0x10 n 0 else s.incSat MP_EVT_DROP_COUNT)
  else if vec then s else s.incSat MP_EVT_DROP_COUNT

/-- Deliver every event raised so far, in order. -/
def State.deliverRound (s : State) : State := { s with raised := [] }.each s.raised (fun s n => s.deliverOne n)

/-- A command ends: its events are delivered, and the queue of waiting commands is `q`. A delivery may raise one event itself, that of a rank set which
leaves self-refresh (at most once a ms, 18 R748): the second round delivers it, and no third arises. -/
def State.settle (s : State) (q : List Instr) : State := { s.deliverRound.deliverRound with raised := [], pending := q }

/-- A command's effect, its events delivered; nothing happens while the module is unpowered (19 R789, log 5). -/
def run (f : State → State) (s : State) : Host.Outcome State Fault Refusal :=
  if s.powered then .next ((f s).settle s.pending) else .next s

end Sys2Proof.Machine
end

