-- ==== Sys2Proof/Machine/Engines.lean ====
section
/-! DEFINITION. Token buckets and weighted deficit round-robin of the shared engines (13 R560-R562). -/

namespace Sys2Proof.Machine

/-- The flattened index of TN_BUCKET_n_k. -/
def bucketIdx (i k : Nat) : Nat := i * 5 + k

/-- Whether an instance's request of a cost is eligible (R561). -/
def State.eligible (s : State) (k i cost : Nat) : Bool :=
  s.rf TN_BUCKET_RATE (bucketIdx i k) == 0 || decide (cost ≤ s.rf TN_BUCKET_LEVEL (bucketIdx i k))

/-- The bucket is charged (R561, R562). -/
def State.chargeTokens (s : State) (k i cost : Nat) : State :=
  if s.rf TN_BUCKET_RATE (bucketIdx i k) = 0 then s
  else s.sf TN_BUCKET_LEVEL (s.rf TN_BUCKET_LEVEL (bucketIdx i k) - cost) (bucketIdx i k)

/-- A token goes back: the unit of work that it was charged for did not start. -/
def State.refundToken (s : State) (k i : Nat) : State :=
  if s.rf TN_BUCKET_RATE (bucketIdx i k) = 0 then s
  else s.sf TN_BUCKET_LEVEL (min (s.rf TN_BUCKET_BURST (bucketIdx i k)) (s.rf TN_BUCKET_LEVEL (bucketIdx i k) + 1)) (bucketIdx i k)

/-- The quantum of an instance: WEIGHT times 4, 2 or 1 by CLASS (R562). -/
def State.quantum (s : State) (i : Nat) : Nat :=
  s.rf TN_INST_WEIGHT i * (match s.rf TN_INST_CLASS i with | 0 => 4 | 1 => 2 | _ => 1)

def State.deficitOf (s : State) (k i : Nat) : Nat := Map.getD (s.inst i).deficit k 0

def State.setDeficit (s : State) (k i v : Nat) : State :=
  s.setInst i (fun r => { r with deficit := Map.set r.deficit 0 k v })

/-- The arbiter of a class between grants. -/
def State.rr (s : State) (k : Nat) : RrSt := Map.getD s.tn.rounds k ⟨[], none, 0, true⟩

def State.setRr (s : State) (k : Nat) (r : RrSt) : State :=
  { s with tn := { s.tn with rounds := Map.put s.tn.rounds k r } }

/-- The waiting instances in the order of a new round: increasing ID, starting after the one served first in the last. -/
def roundOrder (ids : List Nat) (first : Nat) : List Nat :=
  let l := (List.range 513).filter (fun i => ids.contains i)
  l.filter (first < ·) ++ l.filter (· ≤ first)

/-- Grants of arbiter `arb` of class k (R562): `reqs` gives each waiting instance's next request as (instance, cost). The instance granted,
its deficit and bucket charged; `none` when nothing is eligible. A round keeps the quanta that its instances have when it begins: a change of
WEIGHT or CLASS applies from the next. `fuel` bounds the visits. -/
def State.grantFuel (s : State) (k arb : Nat) (reqs : List (Nat × Nat)) : Nat → State × Option Nat
  | 0 => (s, none)
  | fuel + 1 =>
    let r := s.rr arb
    match r.cur with
    | some i =>
      match reqs.find? (fun q => q.1 == i && s.eligible k i q.2) with
      | some (_, cost) =>
        if cost ≤ s.deficitOf arb i then
          let s := (s.setDeficit arb i (s.deficitOf arb i - cost)).chargeTokens k i cost
          (s.setRr arb (if r.fresh then { r with first := i, fresh := false } else r), some i)
        else (s.setRr arb { r with cur := none }).grantFuel k arb reqs fuel
      | none => ((s.setDeficit arb i 0).setRr arb { r with cur := none }).grantFuel k arb reqs fuel
    | none =>
      match r.todo with
      | (i, w) :: t =>
        if reqs.any (fun q => q.1 == i) then
          ((s.setDeficit arb i (s.deficitOf arb i + w)).setRr arb { r with cur := some i, todo := t }).grantFuel k arb reqs fuel
        else (s.setRr arb { r with todo := t }).grantFuel k arb reqs fuel
      | [] =>
        if reqs.any (fun q => s.eligible k q.1 q.2) then
          (s.setRr arb { r with todo := (roundOrder (reqs.map Prod.fst) r.first).map (fun i => (i, s.quantum i)), fresh := true }).grantFuel k arb reqs fuel
        else (s, none)

/-- A grant among waiting requests, the arbiter visiting as long as a round can need: each round adds a quantum to each instance. The
compression engine (1) and the cipher engine (2) are one arbiter each; channel processor n is arbiter 16 + n. -/
def State.grant (s : State) (k : Nat) (reqs : List (Nat × Nat)) (arb : Nat := k) : State × Option Nat :=
  let most := reqs.foldl (fun m q => max m q.2) 0
  s.grantFuel k arb reqs (3 * (reqs.length + 1) * (most + 2) + 1030)

/-- TOKEN_REFILL (R561): each bucket gains a thousandth of RATE, fractions carried forward, up to BURST. -/
def State.refillOne (s : State) (i k : Nat) : State :=
  let b := bucketIdx i k
  let rate := s.rf TN_BUCKET_RATE b
  if rate = 0 then s
  else
    let f := Map.getD (s.inst i).frac k 0 + rate
    let s := s.setInst i (fun r => { r with frac := Map.set r.frac 0 k (f % 1000) })
    s.sf TN_BUCKET_LEVEL (min (s.rf TN_BUCKET_BURST b) (s.rf TN_BUCKET_LEVEL b + f / 1000)) b

/-- Every bucket whose register differs from its reset value is refilled; the others have RATE 0. -/
def State.refill (s : State) : State :=
  s.each (s.regs.filterMap (fun e =>
    if rTN_BUCKET.base ≤ e.1 ∧ e.1 < rTN_BUCKET.base + 64 * 512 then some ((e.1 - rTN_BUCKET.base) / 64, (e.1 - rTN_BUCKET.base) % 64 / 8)
    else none)) (fun s p => s.refillOne p.1 p.2)

end Sys2Proof.Machine
end

