-- ==== Sys2Proof/Machine/Queues.lean ====
section
/-! DEFINITION. An instance's submission and completion queues (13 R555, R556, R830, R563). -/

namespace Sys2Proof.Machine

/-- The flattened index of a queue control block: class 0 channel, 1 compression, 2 cipher; kind 0 submission, 1 completion. -/
def qIdx (inst cls kind d : Nat) : Nat := ((inst * 3 + cls) * 2 + kind) * 16 + d

/-- The position of a queue's TAIL or HEAD, its depth and its fill. -/
def State.qTail (s : State) (q : Nat) : Nat := ptrPos (s.reg rIP_Q_TAIL q) (s.rf IP_Q_CFG_LOG2 q)
def State.qHead (s : State) (q : Nat) : Nat := ptrPos (s.reg rIP_Q_HEAD q) (s.rf IP_Q_CFG_LOG2 q)
def State.qFill (s : State) (q : Nat) : Nat := ptrDist (s.qHead q) (s.qTail q) (s.rf IP_Q_CFG_LOG2 q)
def State.qFree (s : State) (q : Nat) : Nat := 2 ^ s.rf IP_Q_CFG_LOG2 q - s.qFill q

/-- Requests outstanding of a submission queue change by one. -/
def State.outInc (s : State) (q : Nat) : State := s.sf IP_Q_STAT_OUTSTANDING (satN 16 (s.rf IP_Q_STAT_OUTSTANDING q + 1)) q
def State.outDec (s : State) (q : Nat) : State := s.sf IP_Q_STAT_OUTSTANDING (s.rf IP_Q_STAT_OUTSTANDING q - 1) q

/-- The end of one attempt to write a completion. -/
inductive CplRes where
  | posted | stale | noRoom | refused
  deriving DecidableEq, Repr

/-- One attempt to write a 32-byte completion into completion queue d of a class (R556, R563, R830), by unit `agent`. -/
def State.cplTry (s : State) (agent inst gen cls d entry : Nat) : State × CplRes :=
  let q := qIdx inst cls 1 d
  if s.gen inst ≠ gen ∨ s.ist inst = 0 then (s.bump rTN_STALE inst, .stale)
  else if !s.rb IP_Q_CFG_EN q || s.qFree q == 0 then (s, .noRoom)
  else
    let lg := s.rf IP_Q_CFG_LOG2 q
    let tail := s.qTail q
    let was := s.qFill q
    match s.ioWrite agent inst gen (s.rf IP_Q_CFG_BASE q * 4096 + tail % 2 ^ lg * 32) 32 entry with
    | (s, .error _) => (s.sf IP_Q_STAT_ERROR 2 q, .refused)
    | (s, .ok _) =>
      let s := (s.wreg rIP_Q_TAIL q (ptrVal (tail + 1) lg)).outDec (qIdx inst cls 0 d)
      if was = 0 ∧ s.rb IP_Q_CFG_NOTIFY q then (s.eqNotice inst 0x11 (d + cls * 256) 0, .posted) else (s, .posted)

/-- Whether a completion waits for completion queue d of a class (R830). -/
def State.cplWaits (s : State) (inst cls d : Nat) : Bool := s.tn.waiting.any (fun w => w.inst == inst && w.queue == cls * 16 + d)

/-- A completion joins the ones that wait (R830). -/
def State.cplPark (s : State) (w : WaitCpl) : State := { s with tn := { s.tn with waiting := s.tn.waiting ++ [w] } }

/-- A cipher request lets go of its slot's half as its completion is posted or discarded (10 R392, R393). `note` is
slot * 2 + half + 1, or 0. -/
def State.cyRelease (s : State) (note : Nat) : State :=
  if note = 0 then s
  else
    let k := (note - 1) / 2
    let s := s.sf CY_SLOT_INFLIGHT (s.rf CY_SLOT_INFLIGHT k - 1) k
    if s.rf CY_ROTATE_PHASE = 1 ∧ s.rf CY_ROTATE_SLOT = k ∧ (note - 1) % 2 ≠ s.rf CY_SLOT_CUR k then
      s.sf CY_ROTATE_POS_POS (s.rf CY_ROTATE_POS_POS + 1)
    else s

/-- An engine's completion: posted, or it waits behind the queue's earlier ones (R830). -/
def State.complete (s : State) (agent inst gen cls d entry : Nat) (note : Nat := 0) : State :=
  if s.gen inst ≠ gen then (s.bump rTN_STALE inst).cyRelease note
  else if s.cplWaits inst cls d then s.cplPark ⟨inst, cls * 16 + d, entry, gen, agent, note, s.now⟩
  else match s.cplTry agent inst gen cls d entry with
    | (s, .noRoom) => s.cplPark ⟨inst, cls * 16 + d, entry, gen, agent, note, s.now⟩
    | (s, .refused) => s.cplPark ⟨inst, cls * 16 + d, entry, gen, agent, note, s.now + 1000000⟩
    | (s, _) => s.cyRelease note

/-- s without the oldest completion that waits for a queue, and that completion. -/
def takeWaiting (l : List WaitCpl) (inst queue : Nat) : Option WaitCpl × List WaitCpl :=
  match l with
  | [] => (none, [])
  | w :: r =>
    if w.inst == inst && w.queue == queue then (some w, r)
    else let x := takeWaiting r inst queue; (x.1, w :: x.2)

/-- Write the completions that wait for a queue, in order, while they succeed and the first is not held back after a refusal (R830); `fuel` bounds them by their number. -/
def State.cplFlushFuel (s : State) (inst cls d : Nat) : Nat → State
  | 0 => s
  | fuel + 1 =>
    match takeWaiting s.tn.waiting inst (cls * 16 + d) with
    | (none, _) => s
    | (some w, rest) =>
      if s.now < w.notBefore then s
      else match s.cplTry w.agent inst w.gen cls d w.entry with
      | (s', .posted) => ({ s' with tn := { s'.tn with waiting := rest } }.cyRelease w.note).cplFlushFuel inst cls d fuel
      | (s', .stale) => ({ s' with tn := { s'.tn with waiting := rest } }.cyRelease w.note).cplFlushFuel inst cls d fuel
      | (s', .noRoom) => s'
      | (s', .refused) =>
        { s' with tn := { s'.tn with waiting := s'.tn.waiting.map (fun x => if x == w then { x with notBefore := s'.now + 1000000 } else x) } }

def State.cplFlush (s : State) (inst cls d : Nat) : State := s.cplFlushFuel inst cls d (s.tn.waiting.length + 1)

/-- Whether an engine may fetch from submission queue d of a class (R545, R556, R830). -/
def State.qFetchable (s : State) (inst cls d : Nat) : Bool :=
  let sq := qIdx inst cls 0 d
  let cq := qIdx inst cls 1 d
  s.ist inst == 2 && s.rb IP_Q_CFG_EN sq && decide (0 < s.qFill sq) && s.rb IP_Q_CFG_EN cq &&
  decide (s.rf IP_Q_STAT_OUTSTANDING sq + 1 ≤ s.qFree cq) && !s.cplWaits inst cls d

/-- The first fetchable queue of an instance, from queue `q0` on. -/
def State.qPick (s : State) (inst cls q0 : Nat) : Option Nat :=
  ((List.range 16).map (fun j => (q0 + j) % 16)).find? (fun d => s.qFetchable inst cls d)

/-- The instances with a descriptor that an engine may fetch. Instances that are Running are listed in the records. -/
def State.qWaiting (s : State) (cls : Nat) : List Nat :=
  (Map.keys s.tn.insts).filter (fun i => (s.qPick i cls 0).isSome)

/-- Fetch the 64-byte descriptor at HEAD (R556): HEAD advances and the queue has one more outstanding. A refused or poisoned read sets
ERROR and leaves the descriptor in its queue (DEDUCED, log 9). -/
def State.qFetch (s : State) (agent inst cls d : Nat) : State × Option Nat :=
  let q := qIdx inst cls 0 d
  let lg := s.rf IP_Q_CFG_LOG2 q
  let head := s.qHead q
  match s.ioRead agent inst (s.gen inst) (s.rf IP_Q_CFG_BASE q * 4096 + head % 2 ^ lg * 64) 64 with
  | (s, .error _) => (s.sf IP_Q_STAT_ERROR 2 q, none)
  | (s, .ok v) => ((s.wreg rIP_Q_HEAD q (ptrVal (head + 1) lg)).outInc q, some v)

end Sys2Proof.Machine
end

