-- ==== Sys2Proof/Machine/Command.lean ====
section
/-! DEFINITION. Command packets (14): admission, the global queue, status replies, long operations, Sheepdog restarts. -/

namespace Sys2Proof.Machine

/-- A long operation's entry before it starts. -/
def LongOp.none : LongOp := ⟨0, 0, 0, 0, 0, false, []⟩

/-- The source whose command it is: one that the active of the pair applies on this standby keeps that source (16 R680). -/
def Cmd.sender (c : Cmd) : Nat := if 1000 ≤ c.src then c.src - 1000 else c.src

/-- Whether two entries are the same open command: its place in the order of admission. -/
def Cmd.same (a b : Cmd) : Bool := a.seq == b.seq

/-- The front end's registers follow the queue (R612, R615). -/
def State.mpSync (s : State) : State :=
  let q := s.mp.cmds
  let wait := fun (k : Nat) => (q.filter (fun c => decide (c.phase < 2) &&
    (match opInfo c.op with | some o => (if o.cls == 2 && c.promoted then 1 else o.cls) == k | none => false))).length
  let s := s.sf MP_QUEUE_TOTAL (q.filter (fun c => c.entry)).length
  let s := ((s.sf MP_QUEUE_URGENT (wait 0)).sf MP_QUEUE_NORMAL (wait 1)).sf MP_QUEUE_BULK (wait 2)
  (s.sf MP_STAT_LONG_OPS (q.filter (fun c => c.phase == 3)).length).sf MP_STAT_ASSEMBLY s.mp.asms.length

def State.setCmds (s : State) (l : List Cmd) : State := { s with mp := { s.mp with cmds := l } }.mpSync

/-- s with an open command changed. -/
def State.putCmd (s : State) (c : Cmd) : State := s.setCmds (s.mp.cmds.map (fun x => if x.same c then c else x))

/-- A source's slot becomes free (R583). -/
def State.freeSlotOf (s : State) (src slot : Nat) : State :=
  if src = 0 then s.sf MP_HQ_FREE_FREE (setBit (s.rf MP_HQ_FREE_FREE) slot true)
  else if src ≤ 512 then s.sf IP_CMD_STAT_FREE (setBit (s.rf IP_CMD_STAT_FREE (src - 1)) slot true) (src - 1)
  else s

/-- The bytes of a status reply (R591). -/
def replyBytes (c : Cmd) (status pfmt : Nat) (final : Bool) (count retry pos total : Nat) (results : List Nat) : List Nat :=
  let b := toBytes c.tag 4 ++ toBytes (status + pfmt * 2 ^ 16 + b2n final * 2 ^ 18) 4 ++ toBytes c.op 2 ++ toBytes count 2 ++
    toBytes retry 4 ++ toBytes pos 8 ++ toBytes total 8 ++ (List.range 6).flatMap (fun k => toBytes (results.getD k 0) 4) ++ toBytes 0 4
  b ++ toBytes (crc32c b) 4

/-- Write 64 bytes to the command's REPLY (R592, R40): a reply that an instance's tables refuse is discarded with a Slate record, one that the
Management Port may not write without (19 R808). -/
def State.writeReply (s : State) (c : Cmd) (bs : List Nat) : State :=
  if c.src = 0 then
    let r := s.hostWrite c.reply bs
    if r.2 && c.notify then r.1.raise 0x3C1 else r.1
  else if c.src ≤ 512 then
    let i := c.src - 1
    match s.ioWrite (org 0x13 0) i (s.gen i) c.reply 64 (ofBytes bs) with
    | (s, .ok _) => s
    | (_, .error _) =>
      s.report { org := org 0x17 i, cause := 0x0005, cls := slate, subj := some (i, s.gen i), d0 := c.reply, via := some (org 0x13 0) }
  else s

/-- A source's BUSY replies of the last 100 ms (R598). -/
def State.busyCount (s : State) (src : Nat) : Nat :=
  (s.mp.busy.filter (fun b => b.1 == src && decide (s.now < b.2 + 100000000))).length

/-- A refusal at admission: a final reply with COUNT 1 (R586, R598). -/
def State.refuseCmd (s : State) (c : Cmd) (status : Nat) (results : List Nat) : State :=
  let retry := if status = stBUSY then s.rf MP_CMD_CFG_RETRY_BASE_US * 2 ^ min (s.busyCount c.src) 6 else 0
  let s := s.writeReply c (replyBytes c status 0 true 1 retry 0 0 results)
  let s := if status = stBUSY then
      { s.bump rMP_BUSY_CNT with mp := { s.mp with busy := s.mp.busy.filter (fun b => decide (s.now < b.2 + 100000000)) ++ [(c.src, s.now)] } }
    else if status = stABORTED then s.bump rMP_ABORT_CNT else s
  if c.slotHeld then s.freeSlotOf c.src c.slot else s

/-- The first Urgent packet that waits for an entry takes one that frees (R589). -/
def State.urgentAdmit (s : State) : State :=
  if (s.mp.cmds.filter (fun c => c.entry)).length < 2048 then
    match s.mp.cmds.find? (fun c => c.phase == 0) with
    | some c => (s.putCmd { c with phase := 1, entry := true }).bump rMP_CMD_CNT
    | none => s
  else s

/-- A reply of an open command (R591, R592): the first frees its slot and its queue entry; a final one ends the command. -/
def State.reply (s : State) (c : Cmd) (status : Nat) (final : Bool) (results : List Nat) : State :=
  let n := (c.count + 1) % 65536
  let pf := c.lop.pfmt
  let s := s.writeReply c (replyBytes c status pf final n 0 (if pf = 0 then 0 else c.lop.pos) (if pf = 2 then c.lop.total else 0) results)
  let s := if status = stABORTED then s.bump rMP_ABORT_CNT else s
  let s := if c.slotHeld then s.freeSlotOf c.src c.slot else s
  if final then s.setCmds (s.mp.cmds.filter (fun x => !x.same c))
  else s.putCmd { c with count := n, entry := false, slotHeld := false, lop := { c.lop with repPos := c.lop.pos, repAt := s.now } }

/-- A command that the active applied has failed on this standby (16 R680, R682, 17 R728). -/
def State.mirrorFailed (s : State) (op : Nat) : State :=
  let s := (s.report { org := org 0x11 0, cause := 0x110B, cls := ochre, d0 := op }).raise 0x347
  ({ s with tw := { s.tw with unfit := true } }).loseFit

/-- The final reply of a command. -/
def State.finish (s : State) (c : Cmd) (status : Nat) (results : List Nat := []) : State :=
  (s.reply c status true results).when (decide (1000 ≤ c.src) && status != stOK && (s.isRunning || c.op == 0x0501)) (fun s => s.mirrorFailed c.op)

/-- A long operation begins its first or its next phase: TOTAL is fixed, PROGRESS 0, and an IN_PROGRESS reply is written (R594). -/
def State.longPhase (s : State) (c : Cmd) (pfmt total : Nat) (items : List Nat) : State :=
  s.reply { c with phase := 3, lop := { c.lop with pfmt := pfmt, pos := 0, total := total, items := items } } stIN_PROGRESS false []

/-- A long operation's progress moves; it never falls within a phase (R594). -/
def State.longPos (s : State) (c : Cmd) (pos : Nat) : State := s.putCmd { c with lop := { c.lop with pos := max c.lop.pos pos } }

/-- The oldest started command of an opcode that satisfies a test. -/
def State.startedCmd (s : State) (op : Nat) (p : Cmd → Bool := fun _ => true) : Option Cmd :=
  s.mp.cmds.find? (fun c => c.op == op && c.phase == 2 && p c)

/-- A long operation of an opcode under way. -/
def State.longCmd (s : State) (op : Nat) (p : Cmd → Bool := fun _ => true) : Option Cmd :=
  s.mp.cmds.find? (fun c => c.op == op && c.phase == 3 && p c)

/-- The command as it now stands in the queue. -/
def State.curCmd (s : State) (c : Cmd) : Cmd := (s.mp.cmds.find? (fun x => x.same c)).getD c

/-- Run an opcode's effect on the oldest started command of it: unnamed parameter bits end it with BAD_PARAM (R602). -/
def State.onCmd (s : State) (op : Nat) (p : Cmd → Bool) (f : State → Cmd → State) : State :=
  match s.startedCmd op p, opInfo op with
  | some c, some o => if paramsNamed o c.ps then f s c else s.finish c stBAD_PARAM
  | _, _ => s

/-- A long operation's row (R594): the oldest started command of the opcode begins; with none, those under way go on, in order. -/
def State.onLong (s : State) (op : Nat) (begin_ next : State → Cmd → State) : State :=
  match s.startedCmd op with
  | some _ => s.onCmd op (fun _ => true) begin_
  | none => s.each (s.mp.cmds.filter (fun (c : Cmd) => c.op == op && c.phase == 3)) (fun s c => next s (s.curCmd c))

/-- A command that the Vault firmware gives on its own account (17 R708; DESIGN CHOICE, log 10): started at once, no reply. -/
def State.vaultCmd (s : State) (op inst : Nat) (ps pay : List Nat) : State × Cmd :=
  let c : Cmd := ⟨600, 0, op, 0, inst, 0xFFF, false, ps, pay, 0, s.mp.seq, s.now, false, 0, 2, false, false, .none⟩
  ({ s with mp := { s.mp with seq := s.mp.seq + 1, cmds := s.mp.cmds ++ [c] } }, c)

/-- Run an opcode's effect on a command from where `v` says. -/
def State.onVia (s : State) (v : Via) (op : Nat) (p : Cmd → Bool) (f : State → Cmd → State) : State :=
  match v with
  | .packet => s.onCmd op p f
  | .vault i ps pay =>
    let r := s.vaultCmd op i.toNat (ps.map (·.toNat)) (pay.map (·.toNat))
    match opInfo op with
    | some o => if paramsNamed o r.2.ps then f r.1 r.2 else r.1.finish r.2 stBAD_PARAM
    | none => s

/-- Who a command comes from: the Secure world (a secure instance or the Vault), else the Normal world. -/
def State.fromSecure (s : State) (c : Cmd) : Bool := c.sender == 600 || (c.sender != 0 && s.rb TN_INST_SECURE (c.sender - 1))

/-! ### Buffers -/

/-- Write a command's buffer (R602): host memory, or a tenant physical range of the sending instance. -/
def State.bufWrite (s : State) (c : Cmd) (addr : Nat) (bs : List Nat) : State × Bool :=
  if bs.isEmpty then (s, true)
  else if c.src = 0 then s.hostWrite addr bs
  else if c.src ≤ 512 then
    match s.ioWrite (org 0x13 0) (c.src - 1) (s.gen (c.src - 1)) addr bs.length (ofBytes bs) with
    | (s, .ok _) => (s, true)
    | (s, .error _) => (s, false)
  else (s, true)

/-! ### Admission -/

/-- A packet's header and payload from the slot's 4 KiB (R584). -/
def parseCmd (src slot hdr : Nat) (pay : List Nat) (seq now : Nat) : Cmd :=
  ⟨src, slot, bits hdr 15 0, bits hdr 63 32, bits hdr 72 64, bits hdr 84 73, bit hdr 18,
   (List.range 8).map (fun k => bits hdr (128 + 32 * k + 31) (128 + 32 * k)), pay.take (bits hdr 107 96), bits hdr 447 384, seq, now, false,
   0, 1, true, true, .none⟩

/-- Check 2 (R586, R585). -/
def hdrOk (src hdr : Nat) (c : Cmd) : Bool :=
  (bits hdr 31 24 == 1) && (bits hdr 23 19 == 0) && (bits hdr 95 88 == 0) && (bits hdr 127 108 == 0) && (bits hdr 479 448 == 0) &&
  decide (bits hdr 107 96 ≤ 4032) && !(c.notify && src != 0) &&
  (src != 0 || (opInfo c.op).isNone || hasSubj c.op c.ps || (c.inst == 0 && c.gen == 0xFFF))

/-- Check 3: SOURCE, and an instance names itself. -/
def State.sourceOk (s : State) (src hdr : Nat) (c : Cmd) : Bool :=
  if src = 0 then bits hdr 87 85 == 0
  else (bits hdr 87 85 == (if s.rb TN_INST_SECURE (src - 1) then 2 else 1)) && c.inst == src - 1

/-- Check 5: the sender is permitted for the opcode and its subject (R602; 13 R539: a Normal-world sender that names a secure instance). -/
def State.senderOk (s : State) (src : Nat) (c : Cmd) (o : OpInfo) : Bool :=
  if src = 0 then o.h && !(decide (0x0101 ≤ c.op) && decide (c.op ≤ 0x010A) && s.rb TN_INST_SECURE c.inst && s.ist c.inst != 0) &&
    !(c.op == 0x0101 && bit (c.p 0) 0)
  else if s.rb TN_INST_SECURE (src - 1) then o.x || o.i
  else o.i

/-- Check 6 (R587). -/
def State.genOk (s : State) (src : Nat) (c : Cmd) : Bool :=
  if src = 0 then c.gen == 0xFFF || (c.op != 0x0101 && c.gen == s.gen c.inst)
  else if src ≤ 512 then c.gen == s.gen (src - 1)
  else true

/-- An admitted command enters the global queue; an Urgent packet that finds no entry waits in its slot, and none passes it (R589). -/
def State.enqueueCmd (s : State) (c : Cmd) (cls : Nat) : State :=
  let used : Nat := (s.mp.cmds.filter (fun (x : Cmd) => x.entry || x.phase == 0)).length
  let c : Cmd := { c with seq := s.mp.seq, time := s.now }
  let s := { s with mp := { s.mp with seq := s.mp.seq + 1 } }
  if cls = 0 then
    if used < 2048 then (s.setCmds (s.mp.cmds ++ [c])).bump rMP_CMD_CNT
    else s.setCmds (s.mp.cmds ++ [{ c with phase := 0, entry := false }])
  else
    let un : Nat := (s.mp.cmds.filter (fun (x : Cmd) => x.entry && (match opInfo x.op with | some o => o.cls != 0 | none => true))).length
    if used < 2048 ∧ un < 1984 then (s.setCmds (s.mp.cmds ++ [c])).bump rMP_CMD_CNT else s.refuseCmd c stBUSY []

/-- s without the assembly of a command. -/
def State.dropAsm (s : State) (c : Cmd) : State :=
  { s with mp := { s.mp with asms := s.mp.asms.filter (fun a => !(a.cmd.src == c.src && a.cmd.tag == c.tag)) } }.mpSync

/-- A continuation packet (R595, R596): check 6 of R586 comes before those of the segmentation, and a reset of its source ends the command. -/
def State.continueCmd (s : State) (hdr : Nat) (c : Cmd) : State :=
  match s.mp.asms.find? (fun a => a.cmd.src == c.src && a.cmd.tag == c.tag) with
  | none => if s.genOk c.src c then s.refuseCmd c stBAD_PARAM [] else s.refuseCmd c stSTALE []
  | some a =>
    let first := { a.cmd with slotHeld := false }
    if !s.genOk c.src first then ((s.freeSlotOf c.src c.slot).dropAsm c).refuseCmd first stSTALE []
    else if !s.genOk c.src c then s.refuseCmd c stSTALE []
    else
      let s := s.freeSlotOf c.src c.slot
      let more := bit hdr 17
      let okp := c.op == first.op && c.inst == first.inst && c.gen == first.gen && c.reply == first.reply && c.ps.all (· == 0) &&
        (if more then c.pay.length == 4032 else decide (1 ≤ c.pay.length)) && decide (a.packets + 1 ≤ 64) &&
        decide (first.pay.length + c.pay.length ≤ 258048)
      if !okp then (s.dropAsm c).refuseCmd first stBAD_PARAM []
      else
        let first := { first with pay := first.pay ++ c.pay }
        if more then
          (fun (s : State) => s.bump rMP_CMD_CNT) { s with mp := { s.mp with asms := s.mp.asms.map (fun (x : Asm) =>
              if x.cmd.src == c.src && x.cmd.tag == c.tag then (⟨first, x.packets + 1, s.now⟩ : Asm) else x) } }
        else (s.dropAsm c).enqueueCmd first ((opInfo first.op).map (·.cls) |>.getD 1)

/-- ADMISSION (R586): the checks from the second on. -/
def State.admitCmd (s : State) (src hdr : Nat) (c : Cmd) : State :=
  if !hdrOk src hdr c then s.refuseCmd c stBAD_PARAM []
  else if !s.sourceOk src hdr c then s.refuseCmd c stDENIED []
  else match opInfo c.op with
    | none => s.refuseCmd c stBAD_OPCODE []
    | some o =>
      if !s.senderOk src c o then s.refuseCmd c stDENIED []
      else if bit hdr 16 && o.seg then
        (if s.rf MP_STAT_STATE = 2 then s.refuseCmd c stFAULTED [] else s.continueCmd hdr c)
      else if !s.genOk src c then s.refuseCmd c stSTALE []
      else if (bit hdr 16 || bit hdr 17) && !o.seg then s.refuseCmd c stBAD_PARAM []
      else if bit hdr 17 && c.pay.length != 4032 then s.refuseCmd c stBAD_PARAM []
      else if bit hdr 17 && s.mp.asms.any (fun a => a.cmd.src == src) then s.refuseCmd c stDENIED []
      else if s.rf MP_STAT_STATE = 2 then s.refuseCmd c stFAULTED []
      else if s.isSable && !sableOps.contains c.op then s.refuseCmd c stFAULTED []
      else if s.isStandby && !standbyOps.contains c.op then s.refuseCmd c stSTANDBY []
      else if (s.rf MP_LOAD_LEVEL == 1 && o.cls == 2) || (s.rf MP_LOAD_LEVEL == 2 && o.cls != 0) then s.refuseCmd c stBUSY []
      else if bit hdr 17 then
        (if 8 ≤ s.mp.asms.length then s.refuseCmd c stBUSY []
         else ((({ s with mp := { s.mp with asms := s.mp.asms ++ [(⟨{ c with slotHeld := false }, 1, s.now⟩ : Asm)] } }.mpSync).freeSlotOf src c.slot).bump rMP_CMD_CNT))
      else s.enqueueCmd c o.cls

/-- Check 1 of a packet (R586): its code of MP_HQ_ERR, 0 when it passes. -/
def packetCheck (hdr : Nat) : Nat :=
  if crc32c (toBytes hdr 60) ≠ bits hdr 511 480 then 1 else if bits hdr 447 384 % 64 ≠ 0 then 2 else 0

/-- The front end takes packets: READY, or Held with a Sable fault (17 R718, R722). -/
def State.takesPackets (s : State) : Bool := s.rf VT_BOOT_STATE == 1 || s.rf VT_BOOT_STATE == 3

/-- MP_HQ_SUBMIT (R581, R583, R586). -/
def State.hqSubmit (s : State) (slot : Nat) : State :=
  let err := fun (s : State) (code tag : Nat) =>
    (((s.sf MP_HQ_ERR_VALID 1).sf MP_HQ_ERR_SLOT slot).sf MP_HQ_ERR_CODE code).sf MP_HQ_ERR_TAG tag
  if !s.takesPackets then s
  else if !bit (s.rf MP_HQ_FREE_FREE) slot then err s 3 0
  else
    let hdr := Bytes.rdN s.mp.bar2 (0x1000 * slot) 64
    match packetCheck hdr with
    | 0 =>
      let s := s.sf MP_HQ_FREE_FREE (setBit (s.rf MP_HQ_FREE_FREE) slot false)
      s.admitCmd 0 hdr (parseCmd 0 slot hdr (toBytes (Bytes.rdN s.mp.bar2 (0x1000 * slot + 64) 4032) 4032) s.mp.seq s.now)
    | code => ((err s code (bits hdr 63 32)).bump rMP_DISCARD_CNT).raiseMs 0x3C4

/-- IP_CMD_SUBMIT (R582, R586). -/
def State.ipSubmit (s : State) (i slot : Nat) : State :=
  let err := fun (s : State) (code : Nat) => ((s.sf IP_CMD_STAT_VALID 1 i).sf IP_CMD_STAT_CODE code i).sf IP_CMD_STAT_ERR_SLOT slot i
  if !s.rb IP_CMD_CFG_EN i then err s 4
  else if !bit (s.rf IP_CMD_STAT_FREE i) slot then err s 3
  else
    match s.ioRead (org 0x13 0) i (s.gen i) (s.rf IP_CMD_CFG_BASE i * 2 ^ 14 + 0x1000 * slot) 4096 with
    | (s, .error _) => err s 5
    | (s, .ok v) =>
      let hdr := v % 2 ^ 512
      match packetCheck hdr with
      | 0 =>
        let s := s.sf IP_CMD_STAT_FREE (setBit (s.rf IP_CMD_STAT_FREE i) slot false) i
        s.admitCmd (i + 1) hdr (parseCmd (i + 1) slot hdr (toBytes (v / 2 ^ 512) 4032) s.mp.seq s.now)
      | code => (err s code).bump rMP_DISCARD_CNT

/-! ### Starting commands -/

/-- The class under which a waiting command starts: a Bulk command that waited 100 ms counts as Normal (R589). -/
def Cmd.effClass (c : Cmd) : Nat :=
  match opInfo c.op with
  | some o => if o.cls == 2 && c.promoted then 1 else o.cls
  | none => 2

/-- The next command to start (R589, R590): by class, then by admission; behind an earlier one of its source and class none overtakes. -/
def State.nextCmd (s : State) : Option Cmd :=
  let q := s.mp.cmds
  let started := q.filter (fun c => decide (2 ≤ c.phase))
  let ready := fun (c : Cmd) => c.phase == 1 && !started.any (fun d => c.blockedBy d) &&
    !q.any (fun d => d.phase == 1 && d.src == c.src && d.effClass == c.effClass && decide (d.seq < c.seq))
  [0, 1, 2].findSome? (fun k => q.find? (fun c => c.effClass == k && ready c))

/-- COMMAND_START (R589, R590, R587, R594). -/
def State.startCmd (s : State) : State :=
  if s.rf MP_STAT_STATE ≠ 0 then s
  else match s.nextCmd with
    | none => s
    | some c =>
      let s := s.urgentAdmit
      if !s.genOk c.src c then s.finish c stSTALE
      else match opInfo c.op with
        | none => s.finish c stBAD_OPCODE
        | some o =>
          if o.long && decide (32 ≤ (s.mp.cmds.filter (fun x => decide (2 ≤ x.phase) && (opInfo x.op).any (·.long))).length) then
            s.finish c stNO_RESOURCE [0xFFFFFFFF]
          else s.putCmd { c with phase := 2 }

/-- BULK_PROMOTION: the Bulk command that has waited longest takes its place among Normal commands (R589). -/
def State.promoteBulk (s : State) : State :=
  match s.mp.cmds.find? (fun c => c.phase == 1 && c.effClass == 2) with
  | some c => s.putCmd { c with promoted := true }
  | none => s

/-- PROGRESS_REPLY (R594): the long operation with changed progress whose last reply is oldest. -/
def State.progressReply (s : State) : State :=
  let l := s.mp.cmds.filter (fun c => c.phase == 3 && c.lop.pos != c.lop.repPos)
  match l.foldl (fun (b : Option Cmd) c => match b with | some x => if c.lop.repAt < x.lop.repAt then some c else some x | none => some c) none with
  | some c => s.reply c stIN_PROGRESS false []
  | none => s

/-- SEGMENT_TIMEOUT (R596): the assembly that has waited longest ends. -/
def State.segmentTimeout (s : State) : State :=
  match s.mp.asms.foldl (fun (b : Option Asm) a => match b with | some x => if a.last < x.last then some a else some x | none => some a) none with
  | some a =>
    let s := s.dropAsm a.cmd
    if s.genOk a.cmd.src a.cmd then s.refuseCmd a.cmd stABORTED [a.packets] else s.refuseCmd a.cmd stSTALE []
  | none => s

/-- LOAD_MEASUREMENT (R597, R613): the utilisation of the last 10 ms in percent. While Sheepdog restarts the level holds. -/
def State.loadMeasure (s : State) (u : Nat) : State :=
  let s := (s.sf MP_LOAD_UTIL u).sf MP_LOAD_UTIL_MAX (max u (s.rf MP_LOAD_UTIL_MAX))
  let hi := if s.rf MP_CMD_CFG_SHED_PCT < u then s.mp.high + 1 else 0
  let lo := if u < s.rf MP_CMD_CFG_LOW_PCT then s.mp.low + 1 else 0
  let set := fun (l : Nat) => ({ s with mp := { s.mp with high := 0, low := 0 } }.sf MP_LOAD_LEVEL l).raise 0x3C2
  if s.rf MP_STAT_STATE ≠ 0 then s
  else match s.rf MP_LOAD_LEVEL with
    | 0 => if 1 ≤ hi then set 1 else { s with mp := { s.mp with high := hi, low := lo } }
    | 1 => if 10 ≤ hi then set 2 else if 10 ≤ lo then set 0 else { s with mp := { s.mp with high := hi, low := lo } }
    | _ => if 10 ≤ lo then set 1 else { s with mp := { s.mp with high := hi, low := lo } }

/-! ### Restarts -/

/-- What a restart does to the commands (R600): short started ones end ABORTED, long ones resume with one IN_PROGRESS reply. A started
command that has not taken its effect has taken none of it; a Prefix command says so in result word 0. -/
def State.restartCmds (s : State) : State :=
  s.each s.mp.cmds (fun s c =>
    if c.phase = 3 then s.reply c stIN_PROGRESS false []
    else if c.phase = 2 then (if (opInfo c.op).any (·.long) then s.putCmd { c with phase := 2 } else s.finish c stABORTED [0])
    else s)

/-- SHEEPDOG_RESTART (R599-R601): an Ochre fault, one recovery, and at the limit retirement. -/
def State.sheepRestart (s : State) (cause : Nat) : State :=
  if s.rf MP_STAT_STATE = 2 then s
  else
    let (s, ret) := s.outOfService (org 0x13 0)
    let recent := s.mp.restarts.filter (fun t => decide (s.now < t + 86400000000000)) ++ [s.now]
    let s := { s with mp := { s.mp with restarts := recent, high := 0, low := 0 } }
    let s := ((s.sf MP_STAT_CAUSE cause).sf MP_STAT_RESTARTS (satN 8 recent.length)).bump rMP_RESTART_CNT
    let s := (s.sf MP_STAT_STATE 1).raise 0x3C0
    if ret then
      ((s.sf MP_STAT_STATE 2).raise 0x3C0).report { org := org 0x13 0, cause := 0x1302, cls := ochre, d0 := cause, react := 6 }
    else
      let s := s.report { org := org 0x13 0, cause := 0x1301, cls := ochre, d0 := cause, react := 7 }
      let s := s.restartCmds
      let s := { s with mp := { s.mp with asms := s.mp.asms.map (fun (a : Asm) => { a with last := s.now }) } }
      ((s.sf MP_STAT_STATE 0).raise 0x3C0).returned (org 0x13 0)

/-- The message that carries a command of the active to the standby before its reply is sent (16 R680). -/
def State.mirrorCmd (s : State) (c : Cmd) : State :=
  s.when (s.isActiveRunning) (fun s => s.emit (.twin 6 (toBytes c.sender 2 ++ toBytes c.op 2 ++ toBytes c.inst 2 ++ c.ps.flatMap (fun p => toBytes p 4) ++ c.pay)))

end Sys2Proof.Machine
end

