-- ==== Sys2Proof/Machine/Cipher.lean ====
section
/-! DEFINITION. The cipher engine (10): slots, requests, chunks, pipes, rotations. -/

namespace Sys2Proof.Machine

/-! ### Slots and pipes -/

def Slot.empty : Slot := ⟨[], [], 0, 0, 0, false, [], [], []⟩

def State.slot (s : State) (k : Nat) : Slot := Map.getD s.cy.slots k Slot.empty

def State.setSlot (s : State) (k : Nat) (f : Slot → Slot) : State :=
  { s with cy := { s.cy with slots := Map.set s.cy.slots Slot.empty k (f (s.slot k)) } }

/-- The key bytes of half h. -/
def Slot.key (x : Slot) (h : Nat) : List Nat := if h = 0 then x.k0 else x.k1

def State.cyUp (s : State) (n : Nat) : Bool := s.rf CY_PIPE_STAT_STATE n == 0
def State.cyLeased (s : State) (n : Nat) : Bool := s.rb CY_PIPE_STAT_LEASED n

/-- A pipe enters or leaves a lease, and its event source with it (01 R37). -/
def State.pipeLease (s : State) (n : Nat) (b : Bool) : State := (s.sb CY_PIPE_STAT_LEASED b n).secSource (0x308 + n) b

/-- The Up pipes of a side (R408). -/
def State.cySide (s : State) (leased : Bool) : List Nat := (List.range 8).filter (fun n => s.cyUp n && s.cyLeased n == leased)

/-- CY_STAT and the pipes' ACTIVE follow the pipes, slots and contexts (R415, R418); 0x310 on each change of UP (R413). -/
def State.cySync (s : State) : State :=
  let s := s.sf CY_STAT_CTX_USED s.cy.ctxs.length
  let s := s.each (List.range 8) (fun s n =>
    s.sf CY_PIPE_STAT_ACTIVE (s.cy.ctxs.filter (fun (c : CyCtx) => c.pa == n || c.pb == n)).length n)
  let s := s.sf CY_STAT_LEASED ((List.range 8).foldl (fun a n => a + b2n (s.cyLeased n) * 2 ^ n) 0)
  let up := (List.range 8).foldl (fun a n => a + b2n (s.cyUp n) * 2 ^ n) 0
  if s.rf CY_STAT_UP = up then s else (s.sf CY_STAT_UP up).raise 0x310

def State.setCy (s : State) (l : List CyCtx) : State := { s with cy := { s.cy with ctxs := l } }.cySync

/-! ### Bundles -/

/-- An opened bundle (R387). -/
structure KeyBundle where
  alg : Nat
  auto : Bool
  bid : Nat
  fixed : Nat
  key : List Nat

/-- The Vault opens a bundle (R387, R389): `none` for every failure that answers BAD_PARAM; and whether it was the unwrap that failed. -/
def State.openBundle (s : State) (b : List Nat) : Option KeyBundle × Bool :=
  let h := ofBytes (b.take 8)
  let kek := bits h 39 32
  if b.length < 48 ∨ bits h 31 0 ≠ 0x314B5954 ∨ bits h 63 40 ≠ 0 ∨ 16 ≤ kek ∨ bit (s.rf VT_KEYS_KEK_PRESENT) kek = false then (none, false)
  else
    match kwUnwrap (toBytes (Config.kek kek).toNat 32) (b.drop 8) with
    | none => (none, true)
    | some p =>
      let w := ofBytes (p.take 16)
      let alg := bits w 3 0
      let want := match alg with | 0 => 64 | 1 => 96 | 2 => 48 | 3 => 64 | _ => 0
      let key := p.drop 16
      let xts := decide (alg < 2)
      if b.length ≠ want ∨ bits w 15 5 ≠ 0 ∨ bits w 127 64 ≠ 0 ∨ (xts ∧ key.take (key.length / 2) = key.drop (key.length / 2)) ∨
          (xts ∧ bit w 4 = true) then (none, false)
      else (some ⟨alg, bit w 4, bits w 31 16, bits w 63 32, key⟩, false)

/-- The bundle's length in a payload is that of the algorithm its slot expects; without one, the whole payload (R387, R608). -/
def State.takeBundle (s : State) (b : List Nat) : State × Option KeyBundle :=
  match s.openBundle b with
  | (some k, _) => (s, some k)
  | (none, true) => (s.raise 0x3F2, none)
  | (none, false) => (s, none)

/-- KEY_LOAD's effect (R389): the key goes into half 0. -/
def State.loadSlot (s : State) (k owner : Nat) (b : KeyBundle) (bundle : List Nat) : State :=
  let s := s.setSlot k (fun _ => { Slot.empty with k0 := b.key, fixed := b.fixed, bundle := bundle })
  let s := ((s.sf CY_SLOT_STATE 1 k).sf CY_SLOT_CUR 0 k).sf CY_SLOT_PREV_VALID 0 k
  (((s.sb CY_SLOT_AUTO b.auto k).sf CY_SLOT_ALG b.alg k).sf CY_SLOT_OWNER owner k).sf CY_SLOT_BUNDLE_ID b.bid k

/-- The Vault zeroes a slot (R390). A lease on it stays. -/
def State.zeroSlot (s : State) (k : Nat) : State :=
  let l := s.rf CY_SLOT_LEASED k
  ((s.setSlot k (fun _ => Slot.empty)).wreg rCY_SLOT k 0).sf CY_SLOT_LEASED l k

/-- KEY_ERASE's effect (R390): Erasing, or Empty at once when no request holds it. -/
def State.eraseSlot (s : State) (k : Nat) : State :=
  if s.rf CY_SLOT_STATE k = 0 then s
  else if s.rf CY_SLOT_INFLIGHT k = 0 then s.zeroSlot k
  else s.sf CY_SLOT_STATE 3 k

/-! ### Completions -/

/-- A completion entry (R401). -/
def cyEntry (c : CyCtx) (status reason done : Nat) : Nat :=
  c.tag + status * 2 ^ 16 + reason * 2 ^ 24 + done * 2 ^ 64 + (if c.auto then c.n else 0) * 2 ^ 128 +
  (c.pa + c.pb * 16 + c.arbs * 256) * 2 ^ 192 + c.gen * 2 ^ 224

/-- The note of a context that holds its slot. -/
def CyCtx.note (c : CyCtx) : Nat := c.slot * 2 + c.half + 1

/-- Post a completion; `held` says that the request holds its slot. -/
def State.cyPost (s : State) (c : CyCtx) (held : Bool) (entry : Nat) : State :=
  s.complete (org 0xB c.pa) c.inst c.gen 2 c.queue entry (if held then c.note else 0)

/-- A request fails (R402, R413, R414, R417). -/
def State.cyFail (s : State) (c : CyCtx) (held : Bool) (reason done : Nat) : State :=
  let s := s.bump rCY_FAIL_CNT
  let s := { s with cy := { s.cy with elogLeased := c.lease } }
  let s := ((((s.sf CY_ELOG_VALID 1).sf CY_ELOG_SLOT c.slot).sf CY_ELOG_REASON reason).sf CY_ELOG_INSTANCE c.inst).sf CY_ELOG_TAG c.tag
  let s := if reason = 5 then (s.bump rCY_AUTH_FAIL_CNT).raiseMs 0x311 else if reason = 6 then s.raise 0x314 else s
  s.cyPost c held (cyEntry c 1 reason done)

/-! ### Fetch -/

/-- A context from a descriptor (R395). -/
def cyParse (inst gen queue v : Nat) : CyCtx :=
  { inst := inst, gen := gen, queue := queue, tag := bits v 47 32, op := bits v 7 0, slot := bits v 27 16, half := b2n (bit v 8),
    auto := bit v 9, n := 0, atagLen := bits v 52 48, src := bits v 127 64, len := bits v 159 128, dst := bits v 255 192,
    w4 := bits v 319 256, w5 := bits v 383 320, w6 := bits v 447 384, w7 := bits v 511 448,
    pa := 0, pb := 0, pos := 0, tw := 0, j0 := 0, y := 0, begun := false, pass := 1, arbs := 0, charged := true, lease := false }

/-- Whether [a, a + n) and [b, b + m) overlap. -/
def overlaps (a n b m : Nat) : Bool := decide (0 < n) && decide (0 < m) && decide (a < b + m) && decide (b < a + n)

/-- The GCM fields: AAD, IV and tag ranges. -/
def CyCtx.aadLen (c : CyCtx) : Nat := bits c.w5 31 0
def CyCtx.ivLen (c : CyCtx) : Nat := bits c.w5 39 32
/-- The data unit length (R397). -/
def CyCtx.du (c : CyCtx) : Nat := if bits c.w6 24 0 = 0 then c.len else bits c.w6 24 0

/-- The rules of an XTS request's data unit length over `len` bytes (R396). -/
def badDu (du len : Nat) : Bool :=
  (decide (0 < du) && decide (du < 16)) || decide (0x1000000 < du) || (du == 0 && decide (0x1000000 < len)) ||
  (decide (0 < du) && decide (0 < len % du) && decide (len % du < 16))

/-- BAD_DESC (R396). -/
def cyBad (v : Nat) (c : CyCtx) : Bool :=
  let common := (bits v 15 10 != 0) || (bits v 31 28 != 0) || (bits v 63 53 != 0) || decide (2 ^ 46 ≤ c.src) || (bits v 191 160 != 0) ||
    decide (2 ^ 46 ≤ c.dst) || !(decide (1 ≤ c.op) && decide (c.op ≤ 4)) || (c.auto && c.op != 3) || decide (2 ^ 30 < c.len) ||
    (c.src != c.dst && overlaps c.src c.len c.dst c.len)
  if c.op ≤ 2 then
    common || (c.atagLen != 0) || decide (c.len < 16) || (bits c.w6 63 25 != 0) || (c.w7 != 0) || badDu (bits c.w6 24 0) c.len
  else
    let rs := [(c.w4, c.aadLen), (c.w6, c.ivLen), (c.w7, c.atagLen), (c.dst, c.len)]
    common || !([4, 8, 12, 13, 14, 15, 16].contains c.atagLen) || decide (2 ^ 46 ≤ c.w4) || decide (2 ^ 46 ≤ c.w6) || decide (2 ^ 46 ≤ c.w7) ||
    (bits c.w5 63 40 != 0) || decide (2 ^ 30 < c.aadLen) || (c.ivLen == 0) || decide (128 < c.ivLen) || (c.auto && c.ivLen != 12) ||
    (List.range 4).any (fun i => (List.range 4).any (fun j => decide (i < j) &&
      overlaps (rs.getD i (0, 0)).1 (rs.getD i (0, 0)).2 (rs.getD j (0, 0)).1 (rs.getD j (0, 0)).2))

/-- The half a request resolves (R392). -/
def State.cyHalf (s : State) (c : CyCtx) : Nat :=
  let cur := s.rf CY_SLOT_CUR c.slot
  if c.half = 1 then 1 - cur else cur

/-- KEY at fetch (R392, R390, R393 step 2, R400). -/
def State.cyKeyBad (s : State) (c : CyCtx) : Bool :=
  let k := c.slot
  let alg := s.rf CY_SLOT_ALG k
  (s.rf CY_SLOT_STATE k == 0) || (s.rf CY_SLOT_STATE k == 3) || (s.rf CY_SLOT_OWNER k != c.inst) ||
  (decide (c.op ≤ 2) != decide (alg ≤ 1)) || (c.half == 1 && !s.rb CY_SLOT_PREV_VALID k) ||
  (c.half == 1 && s.rf CY_ROTATE_PHASE == 1 && s.rf CY_ROTATE_SLOT == k) ||
  (c.auto && (!s.rb CY_SLOT_AUTO k || decide (2 ^ 64 - 1 ≤ (s.slot k).ctr) || (s.slot k).closed))

/-- A slot's automatic-IV requests of the last millisecond. -/
def State.autoRecent (s : State) (x : Slot) : List (Nat × Nat) := x.autoWin.filter (fun (e : Nat × Nat) => decide (s.now < e.1 + 1000000))

def State.autoCount (s : State) (k : Nat) : Nat := ((s.autoRecent (s.slot k)).map Prod.snd).sum

/-- Whether an IV_AUTO request is held at fetch (R400). -/
def State.cyHold (s : State) (c : CyCtx) : Bool :=
  c.auto && ((s.isActiveRunning && decide ((s.slot c.slot).acked + 2 ^ 20 ≤ (s.slot c.slot).ctr)) || decide (65536 ≤ s.autoCount c.slot))

/-- The invocation counter gives its value and advances (R400). -/
def State.takeAuto (s : State) (k : Nat) : State :=
  s.setSlot k (fun x => { x with ctr := x.ctr + 1, autoWin := match s.autoRecent x with
                                   | (t, n) :: r => if t = s.now then (t, n + 1) :: r else (s.now, 1) :: (t, n) :: r
                                   | [] => [(s.now, 1)] })

/-- CIPHER_DESCRIPTOR_FETCH (R385, R392, R396, R562) from the arbiter's instance's next fetchable queue from `q0` on. A held request stays
in its queue. A request that fails here starts no chunk, so it costs no token; with IV_AUTO one that finds no pair consumes its counter
value all the same (R402). -/
def State.cyFetch (s : State) (q0 : Nat) : State :=
  if decide (32 ≤ s.cy.ctxs.length) || s.isStandby then s
  else
    match s.grant 2 ((s.qWaiting 2).map (fun i => (i, 1))) with
    | (_, none) => s
    | (t, some i) =>
      match t.qPick i 2 q0 with
      | none => s
      | some d =>
        match t.qFetch (org 0xB 0) i 2 d with
        | (t, none) => t.refundToken 2 i
        | (t, some v) =>
          let c := cyParse i (t.gen i) d v
          let leased := t.rb CY_SLOT_LEASED c.slot
          let side := t.cySide leased
          let c := { c with pa := side.getD 0 0, pb := side.getD 1 0, lease := leased }
          if cyBad v c then (t.refundToken 2 i).cyFail c false 1 0
          else if t.cyKeyBad c then (t.refundToken 2 i).cyFail c false 4 0
          else if t.cyHold c then s
          else
            let c := { c with half := t.cyHalf c, n := if c.auto then (t.slot c.slot).ctr else 0 }
            let t := if c.auto then t.takeAuto c.slot else t
            if side.length < 2 then (t.refundToken 2 i).cyFail c false 7 0
            else (t.sf CY_SLOT_INFLIGHT (satN 16 (t.rf CY_SLOT_INFLIGHT c.slot + 1)) c.slot).setCy (t.cy.ctxs ++ [c])

/-! ### Pipes -/

/-- Contexts whose pair is no longer of their side move to pairs of the remaining pipes (R406, R407, R409). -/
def State.cyMove (s : State) : State :=
  s.setCy (s.cy.ctxs.map (fun (c : CyCtx) =>
    let side := s.cySide c.lease
    if side.contains c.pa = false ∨ side.contains c.pb = false then
      let keep := if side.contains c.pa then c.pa else c.pb
      let other := (side.filter (· != keep)).getD 0 keep
      if side.contains keep then { c with pa := keep, pb := other } else { c with pa := side.getD 0 0, pb := side.getD 1 0 }
    else c))

/-- VT_LEASE and CY_STAT.SLOTS_LEASED follow the leases (17 R738, 10 R415). -/
def State.leaseSync (s : State) : State :=
  let slots := s.leases.foldl (fun a (l : Lease) => a + l.slots.length) 0
  let pages := s.leases.foldl (fun a (l : Lease) => a + l.pages.length) 0
  let pairs := (List.range 4).foldl (fun a j => a + b2n (s.cyLeased (2 * j) || s.cyLeased (2 * j + 1)) * 2 ^ j) 0
  let s := (((s.sf VT_LEASE_LEASES s.leases.length).sf VT_LEASE_SLOTS slots).sf VT_LEASE_SRAM_KIB (4 * pages)).sf VT_LEASE_PAIRS pairs
  ((s.sb VT_LEASE_RECALL (s.leases.any (fun (l : Lease) => l.deadline.isSome))).sf CY_STAT_SLOTS_LEASED slots).cySync

/-- CIPHER_PIPE_RETIREMENT (R406, R409): a leased pipe is replaced by the lowest-numbered Up unleased one. -/
def State.cyRetire (s : State) (n : Nat) : State :=
  if !s.cyUp n then s
  else
    let (s, ret) := s.outOfService (org 0xB n)
    let s := (s.sf CY_PIPE_STAT_STATE (if ret then 3 else 1) n).raise (0x308 + n)
    let s := s.report { org := org 0xB n, cause := 0x0B03, cls := ochre, react := if ret then 6 else 5 }
    let s := if s.cyLeased n then
        let s := s.pipeLease n false
        (match s.cySide false with
        | r :: _ =>
          { (s.pipeLease r true).raise (0x308 + r) with
            leases := s.leases.map (fun (l : Lease) => if l.pipes.contains n then { l with pipes := l.pipes.filter (· != n) ++ [r] } else l) }
        | [] => { s with leases := s.leases.map (fun (l : Lease) => { l with pipes := l.pipes.filter (· != n) }) }).leaseSync
      else s
    s.cyMove

/-- A retired pipe returns, unleased (R406, R409, 15 R635). -/
def State.cyReturn (s : State) (n : Nat) : State := ((s.sf CY_PIPE_STAT_STATE 0 n).raise (0x308 + n)).cySync

/-- One repetition or arbitration counted against pipes (R404, R405, R413). -/
def State.cyRetryOn (s : State) (ps : List Nat) : State := s.each ps (fun s n => (s.bump rCY_PIPE_RETRY n).raise (0x308 + n))

/-- How a chunk's checks end: the state, whether its output is written, the pipes that ran it last, and arbitrations (R404, R405). -/
structure CyRun where
  s : State
  ok : Bool
  pa : Nat
  pb : Nat
  arbs : Nat

/-- The checks of a chunk on primary p and checker c with the outcomes `e` (R383, R404, R405). -/
def State.cyChecks (s : State) (leased : Bool) (p c : Nat) (e : CheckEnd) : CyRun :=
  let retry := fun (s : State) => (s.cyRetryOn [p, c]).each [p, c] (fun s n =>
    s.report { org := org 0xB n, cause := 0x0B01, cls := slate, react := 2 })
  match e with
  | .passed => ⟨s, true, p, c, 0⟩
  | .repeated => ⟨retry s, true, p, c, 0⟩
  | e =>
    let s := retry s
    match (s.cySide leased).filter (fun n => n != p && n != c) with
    | [] => ⟨s, false, p, c, 0⟩
    | t :: _ =>
      let s := (s.cyRetryOn [p, c, t]).each [p, c] (fun s n => s.report { org := org 0xB n, cause := 0x0B02, cls := slate, react := 2 })
      match e with
      | .primaryRight => ⟨s.cyRetire c, true, p, t, 1⟩
      | .thirdRight => ⟨s.cyRetire p, true, t, c, 1⟩
      | _ => ⟨(s.cyRetire p).cyRetire c, false, p, c, 1⟩

/-! ### Chunks -/

/-- The reason of a refused or poisoned access (R402). DESIGN CHOICE (log 71): an address error (01 R25), for which the list has no code, is
TRANSLATION. -/
def cyReason (e : Nat) : Nat := if e = 3 then 3 else 2

def State.cyRead (s : State) (c : CyCtx) (addr n : Nat) : State × Except Nat (List Nat) :=
  match s.ioRead (org 0xB c.pa) c.inst c.gen addr n with
  | (s, .error e) => (s, .error (cyReason e))
  | (s, .ok v) => (s, .ok (toBytes v n))

def State.cyWrite (s : State) (c : CyCtx) (addr : Nat) (bs : List Nat) : State × Bool :=
  match s.ioWrite (org 0xB c.pa) c.inst c.gen addr bs.length (ofBytes bs) with
  | (s, .error _) => (s, false)
  | (s, .ok _) => (s, true)

/-- Whether position e lies within the last 32 bytes of a data unit of an XTS request, not at its end (R385). -/
def inTail (du len e : Nat) : Bool :=
  let stop := min len ((e / du + 1) * du)
  e % du != 0 && e != len && decide (stop < e + 32)

/-- The end of the chunk that starts at pos (R385). -/
def chunkEnd (xts : Bool) (du len pos : Nat) : Nat :=
  if len ≤ pos + 16384 then len
  else if !xts then pos + 16384
  else match ((List.range 1024).map (fun j => pos + 16384 - 16 * j)).find? (fun e => !inTail du len e) with
    | some e => e
    | none => len

/-- XTS over bytes from position `pos` of a request (R397), data unit by data unit; tw is the tweak of the next block inside a unit. -/
def xtsSpan (k1 k2 : List (List Nat)) (enc : Bool) (du tweak pos tw : Nat) (l : List Nat) : Nat → List Nat × Nat
  | 0 => ([], tw)
  | fuel + 1 =>
    if l.isEmpty then ([], tw)
    else
      let t := if pos % du = 0 then ofBytes (aesEnc k2 (toBytes ((tweak + pos / du) % 2 ^ 128) 16)) else tw
      let n := min l.length (du - pos % du)
      let r := xtsPiece (if enc then aesEnc k1 else aesDec k1) enc t (l.take n) (n / 16 + 1)
      let q := xtsSpan k1 k2 enc du tweak (pos + n) r.2 (l.drop n) fuel
      (r.1 ++ q.1, q.2)

/-- The two AES keys of an XTS key. -/
def xtsKeys (key : List Nat) : List (List Nat) × List (List Nat) :=
  (aesKeys (key.take (key.length / 2)), aesKeys (key.drop (key.length / 2)))

/-- The end of a chunk. -/
inductive CyEnd where
  | more (c : CyCtx)
  | ok (c : CyCtx)
  | fail (c : CyCtx) (reason : Nat)

/-- An XTS chunk (R397). -/
def State.cyXts (s : State) (c : CyCtx) (key : List Nat) : State × CyEnd :=
  let e := chunkEnd true c.du c.len c.pos
  match s.cyRead c (c.src + c.pos) (e - c.pos) with
  | (s, .error r) => (s, .fail c r)
  | (s, .ok l) =>
    let ks := xtsKeys key
    let o := xtsSpan ks.1 ks.2 (c.op == 1) c.du (c.w4 + c.w5 * 2 ^ 64) c.pos c.tw l (l.length + 1)
    match s.cyWrite c (c.dst + c.pos) o.1 with
    | (s, false) => (s, .fail c 2)
    | (s, true) =>
      let s := s.bump rCY_PIPE_BYTES c.pa o.1.length
      let c := { c with pos := e, tw := o.2 }
      (s, if e = c.len then .ok c else .more c)

/-- What a GCM request does before its text (R398, R400): the IV read or written, the AAD read once. -/
def State.cyGcmBegin (s : State) (c : CyCtx) (ks : List (List Nat)) (fixed : Nat) : State × Except Nat CyCtx :=
  if c.begun then (s, .ok c)
  else
    let h := gcmH ks
    let iv : State × Except Nat (List Nat) :=
      if c.auto then
        let b := toBytes fixed 4 ++ toBytes c.n 8
        match s.cyWrite c c.w6 b with
        | (s, true) => (s, .ok b)
        | (s, false) => (s, .error 2)
      else s.cyRead c c.w6 c.ivLen
    match iv with
    | (s, .error r) => (s, .error r)
    | (s, .ok iv) =>
      match s.cyRead c c.w4 c.aadLen with
      | (s, .error r) => (s, .error r)
      | (s, .ok aad) => (s, .ok { c with begun := true, j0 := gcmJ0 h iv, y := ghash h 0 aad })

/-- A GCM chunk (R398, R399). -/
def State.cyGcm (s : State) (c : CyCtx) (key : List Nat) (fixed : Nat) : State × CyEnd :=
  let ks := aesKeys key
  let h := gcmH ks
  match s.cyGcmBegin c ks fixed with
  | (s, .error r) => (s, .fail c r)
  | (s, .ok c) =>
    let e := chunkEnd false 0 c.len c.pos
    match s.cyRead c (c.src + c.pos) (e - c.pos) with
    | (s, .error r) => (s, .fail c r)
    | (s, .ok l) =>
      let o := gcmCtr ks c.j0 c.pos l
      let put := fun (s : State) (c : CyCtx) (k : State → CyCtx → State × CyEnd) =>
        match s.cyWrite c (c.dst + c.pos) o with
        | (s, false) => (s, .fail c 2)
        | (s, true) => k (s.bump rCY_PIPE_BYTES c.pa o.length) { c with pos := e }
      if c.op = 3 then
        put s c (fun s c' =>
          let y := ghash h c.y o
          if e = c.len then
            match s.cyWrite c' c.w7 ((gcmTag ks h c.j0 y c.aadLen c.len).take c.atagLen) with
            | (s, true) => (s, .ok c')
            | (s, false) => (s, .fail c' 2)
          else (s, .more { c' with y := y }))
      else if c.pass = 2 then put s c (fun s c => (s, if e = c.len then .ok c else .more c))
      else
        let y := ghash h c.y l
        if e < c.len then (s, .more { c with y := y, pos := e })
        else
          match s.cyRead c c.w7 c.atagLen with
          | (s, .error r) => (s, .fail { c with pos := 0 } r)
          | (s, .ok t) =>
            if t ≠ (gcmTag ks h c.j0 y c.aadLen c.len).take c.atagLen then (s, .fail { c with pos := 0 } 5)
            else if c.len ≤ 16384 then put s c (fun s c => (s, .ok c))
            else (s, .more { c with pass := 2, pos := 0 })

/-- DONE of a context (R403): nothing is written in the first pass of a GCM_DEC. -/
def CyCtx.done (c : CyCtx) : Nat := if c.op = 4 ∧ c.pass = 1 then 0 else c.pos

/-- CY_PIPE_STAT_n.INSTANCE and PARTNER of the pair that a context's chunk is on (R418). -/
def State.servedBy (s : State) (c : CyCtx) : State :=
  ((((s.sf CY_PIPE_STAT_INSTANCE c.inst c.pa).sf CY_PIPE_STAT_INSTANCE c.inst c.pb).sf CY_PIPE_STAT_PARTNER c.pb c.pa).sf CY_PIPE_STAT_PARTNER c.pa c.pb)

/-- CIPHER_CHUNK on primary p and checker q (R383, R385): the next context of their side whose instance has a token; one whose side has no
pair fails with ENGINE_DOWN (R406, R408). -/
def State.cyChunk (s : State) (p q : Nat) (e : CheckEnd) : State :=
  let okPair := fun (c : CyCtx) => let side := s.cySide c.lease; p != q && side.contains p && side.contains q
  let down := fun (c : CyCtx) => decide ((s.cySide c.lease).length < 2)
  match s.cy.ctxs.find? (fun c => down c || (okPair c && (c.charged || s.eligible 2 c.inst 1))) with
  | none => s
  | some c =>
    let others := s.cy.ctxs.filter (fun (x : CyCtx) => x != c)
    if down c then (s.setCy others).cyFail c true 7 c.done
    else
      let leased := c.lease
      let s := if c.charged then s else s.chargeTokens 2 c.inst 1
      let s := (((s.servedBy { c with pa := p, pb := q }).setCy others).when (!leased) (fun s => (s.pmEvent 0x0801 p (some c.inst)).pmEvent 0x0802 q (some c.inst)))
      let r := s.cyChecks leased p q e
      let c := { c with pa := r.pa, pb := r.pb, arbs := min 15 (c.arbs + r.arbs) }
      let r := { r with s := r.s.servedBy c }
      if !r.ok then r.s.cyFail c true 6 c.done
      else
        let key := (r.s.slot c.slot).key c.half
        let x := if c.op ≤ 2 then r.s.cyXts c key else r.s.cyGcm c key (r.s.slot c.slot).fixed
        match x with
        | (s, .more c) => s.setCy (s.cy.ctxs ++ [{ c with charged := false }])
        | (s, .ok c) => (s.cySync).cyPost c true (cyEntry c 0 0 c.len)
        | (s, .fail c reason) => (s.cySync).cyFail c true reason c.done

/-! ### Rotation -/

/-- A rotation ends: its slot Loaded again, the reply (R393, R413); a completed one opens its slot to automatic IVs again (R400). -/
def State.rotEnd (s : State) (r : Rot) (status : Nat) (results : List Nat) : State :=
  let s := if status = stOK then s.setSlot r.slot (fun x => { x with closed := false }) else s
  let s := if s.rf CY_SLOT_STATE r.slot = 2 then s.sf CY_SLOT_STATE 1 r.slot else s
  let s := ((s.sf CY_ROTATE_BUSY 0).sf CY_ROTATE_PHASE 0).raise 0x312
  let s := { s with cy := { s.cy with rot := none } }
  match s.mp.cmds.find? (fun c => c.seq == r.cmd) with
  | some c => s.finish { c with lop := { c.lop with pos := s.rf CY_ROTATE_POS_POS } } status results
  | none => s

/-- Requests that hold the non-current half of a slot: in contexts, or with a completion that waits (R393). -/
def State.holders (s : State) (k : Nat) : Nat :=
  let note := k * 2 + (1 - s.rf CY_SLOT_CUR k) + 1
  (s.cy.ctxs.filter (fun (c : CyCtx) => c.note == note)).length + (s.tn.waiting.filter (fun (w : WaitCpl) => w.note == note)).length

/-- The units of a rewrap. -/
def Rot.units (r : Rot) : Nat := (r.len + (if r.du = 0 then r.len else r.du) - 1) / (if r.du = 0 then max r.len 1 else r.du)

/-- ROTATION_DRAIN_END (R393 step 3): no request holds the non-current half; the new key goes into it and CUR flips. -/
def State.rotDrainEnd (s : State) : State :=
  match s.cy.rot with
  | none => s
  | some r =>
    if s.rf CY_ROTATE_PHASE ≠ 1 ∨ s.holders r.slot ≠ 0 then s
    else match s.openBundle r.bundle with
      | (none, _) => s.rotEnd r stBAD_PARAM []
      | (some b, _) =>
        let nh := 1 - s.rf CY_SLOT_CUR r.slot
        let s := s.setSlot r.slot (fun x =>
          { x with k0 := if nh = 0 then b.key else x.k0, k1 := if nh = 0 then x.k1 else b.key, fixed := b.fixed, ctr := 0, acked := 0, prev := x.bundle, bundle := r.bundle })
        let s := ((s.sf CY_SLOT_CUR nh r.slot).sf CY_SLOT_PREV_VALID 1 r.slot).sb CY_SLOT_AUTO b.auto r.slot
        let s := s.sf CY_SLOT_BUNDLE_ID b.bid r.slot
        if r.len = 0 then s.rotEnd r stOK []
        else
          let s := ((s.sf CY_ROTATE_PHASE 2).sf CY_ROTATE_TOTAL r.units).sf CY_ROTATE_POS_POS 0
          match s.mp.cmds.find? (fun c => c.seq == r.cmd) with
          | some c => s.longPhase c 2 r.units []
          | none => s

/-- REWRAP_UNIT (R394) on primary p and checker q: one data unit decrypted under the previous key and encrypted under the current one. -/
def State.rewrapUnit (s : State) (p q : Nat) (e : CheckEnd) : State :=
  match s.cy.rot with
  | none => s
  | some r =>
    let k := r.slot
    let own := s.rf CY_SLOT_OWNER k
    let side := s.cySide (s.rb CY_SLOT_LEASED k)
    let pos := s.rf CY_ROTATE_POS_POS
    let du := if r.du = 0 then r.len else r.du
    let n := min du (r.len - pos * du)
    let cost := (n + 16383) / 16384
    let stop := fun (s : State) => s.rotEnd r stFAULTED [pos]
    if s.rf CY_ROTATE_PHASE ≠ 2 then s
    else if side.length < 2 then stop s
    else if p = q ∨ side.contains p = false ∨ side.contains q = false ∨ s.eligible 2 own cost = false then s
    else
      let s := s.chargeTokens 2 own cost
      let x := s.cyChecks (s.rb CY_SLOT_LEASED k) p q e
      if !x.ok then stop x.s
      else
        let c := { cyParse own (x.s.gen own) 0 0 with pa := x.pa, slot := k }
        match x.s.cyRead c (r.base + pos * du) n with
        | (s, .error _) => stop s
        | (s, .ok l) =>
          let cur := s.rf CY_SLOT_CUR k
          let old := xtsKeys ((s.slot k).key (1 - cur))
          let new := xtsKeys ((s.slot k).key cur)
          let plain := (xtsSpan old.1 old.2 false n (r.tweak + pos) 0 0 l (l.length + 1)).1
          let out := (xtsSpan new.1 new.2 true n (r.tweak + pos) 0 0 plain (l.length + 1)).1
          match s.cyWrite c (r.base + pos * du) out with
          | (s, false) => stop s
          | (s, true) =>
            let s := s.bump rCY_PIPE_BYTES x.pa (2 * n)
            let s := s.sf CY_ROTATE_POS_POS (pos + 1)
            let tot := r.units
            let s := if pos * 100 / tot < (pos + 1) * 100 / tot then s.raise 0x312 else s
            if pos + 1 = tot then s.rotEnd r stOK []
            else match s.mp.cmds.find? (fun c => c.seq == r.cmd) with
              | some c => s.longPos c (pos + 1)
              | none => s

/-- OP_CANCEL of a KEY_ROTATE (R393): in the drain no key changes; in the rewrap it stops at the next data unit. -/
def State.rotCancel (s : State) : State :=
  match s.cy.rot with
  | some r => s.rotEnd r stCANCELLED [s.rf CY_ROTATE_POS_POS]
  | none => s

/-- The drain of an instance (R411): its started requests end, their completions discarded and counted; a rewrap of its slots ends. -/
def State.cyDrain (s : State) (i : Nat) : State :=
  let mine := s.cy.ctxs.filter (fun (c : CyCtx) => c.inst == i)
  let s := s.setCy (s.cy.ctxs.filter (fun (c : CyCtx) => c.inst != i))
  let s := s.each mine (fun s c => (s.bump rTN_STALE i).cyRelease c.note)
  match s.cy.rot with
  | some r => if s.rf CY_SLOT_OWNER r.slot = i ∧ s.rf CY_ROTATE_PHASE = 2 then s.rotCancel else s
  | none => s

end Sys2Proof.Machine
end

