-- ==== Sys2Proof/Machine/Journal.lean ====
section
/-! DEFINITION. The Journal (11 R443-R453): the transaction ring, the sequence area, superblocks; transaction IDs and submissions. -/

namespace Sys2Proof.Machine

/-! ### Transaction IDs (R434, 13) -/

/-- A transaction ID: instance, generation, sequence number. -/
def mkTid (inst gen seq : Nat) : Nat := inst * 2 ^ 55 + gen * 2 ^ 43 + seq
def tidInst (t : Nat) : Nat := t / 2 ^ 55 % 512
def tidGen (t : Nat) : Nat := t / 2 ^ 43 % 4096
/-- A transaction of the Operator Host: generation 0xFFF. -/
def tidHost (t : Nat) : Bool := tidGen t == 0xFFF

def Txn.host (t : Txn) : Bool := tidHost t.tid
def Txn.inst (t : Txn) : Nat := tidInst t.tid
def Txn.gen (t : Txn) : Nat := tidGen t.tid

/-- A transaction as it is accepted. -/
def Txn.fresh (tid queue : Nat) (loc : Loc) : Txn :=
  ⟨tid, loc, queue, 1, 1024, [], [], 0, 0, false, 0, false, 0, 0, 0, [], 0, 0, 0, 0, 0, none, false, 0, 0, 0, 0, 0, 0, [], 0⟩

/-! ### The ring -/

def ringSize : Nat := 519168

/-- The latest valid entry of a transaction (R445, R447). -/
def latestOf (r : List JEnt) (tid : Nat) : Option JEnt := (r.filter (fun e => e.ok && e.kind != 0xF && e.tid == tid)).getLast?

/-- Drop the entries before the oldest live one: how many, and the rest (R447, R450). -/
def trimRing : List JEnt → Nat × List JEnt
  | [] => (0, [])
  | e :: r =>
    if e.ok && e.kind != 0xF && e.kind != 7 && !r.any (fun x => x.ok && x.kind != 0xF && x.tid == e.tid) then (0, e :: r)
    else let q := trimRing r; (q.1 + 1, q.2)

/-- How many PROGRESS entries a transaction may still write for whole intervals of its data CCEs (R451, R465). -/
def Txn.progressDue (t : Txn) (mib : Nat) : Nat :=
  ((t.ccs.drop t.cce).foldl (fun n c => if [0x10, 0x11, 0x20, 0x21].contains (bits c 7 0) then n + bits c 95 64 / (max mib 1 * 2 ^ 20) else n) 0) -
    t.off / (max mib 1 * 2 ^ 20)

/-- Whether the ring has room for `extra` further transactions beside its reserves (R451). -/
def State.jrnRoom (s : State) (extra : Nat) : Bool :=
  let mib := s.rf CH_CFG_PROG_MIB
  decide (4096 + 6 * (s.ch.txns.length + extra) + s.ch.txns.foldl (fun n (t : Txn) => n + t.progressDue mib) 0 + s.ch.ring.length ≤ ringSize)

/-- The CH registers follow the Journal (R477-R479). -/
def State.jrnSync (s : State) : State :=
  let r := s.ch.ring
  let s := (s.sf CH_JRNL_LIVE s.ch.txns.length).sf CH_JRNL_FREE (ringSize - r.length)
  let s := (s.sf CH_JRNL_HEAD_INDEX ((s.ch.tail + r.length) % ringSize)).sf CH_JRNL_TAIL_INDEX s.ch.tail
  let s := s.sf CH_JRNL_JSN_JSN s.ch.jsn
  let j := s.rf CH_STAT_JOURNAL
  if j = 0 ∨ j = 2 then s.sf CH_STAT_JOURNAL (if s.jrnRoom 1 then 0 else 2) else s

/-- An entry at the head (R447): JSN order, the tail moves past what is no longer live, and the fill is watched (R474). -/
def State.jrnPush (s : State) (kind tid : Nat) (t : Option Txn) : State :=
  if ringSize ≤ s.ch.ring.length then s
  else
    let was := s.ch.ring.length
    let e : JEnt := ⟨s.ch.jsn, kind, tid, t, true⟩
    let q := trimRing (s.ch.ring ++ [e])
    let s := { s with ch := { s.ch with ring := q.2, tail := (s.ch.tail + q.1) % ringSize, jsn := (s.ch.jsn + 1) % 2 ^ 48 } }
    let w := s.rf CH_CFG_FILL_WARN * ringSize
    let s := s.when (decide (was * 100 < w) && decide (w ≤ (was + 1) * 100)) (fun s => s.raise 0x290)
    s.jrnSync

/-- A Journal error is recorded (R452, R481): KIND and entry number, event 0x292, and its record. -/
def State.jrnError (s : State) (kind entry cause cls react : Nat) : State :=
  let s := ((s.sf CH_ELOG_VALID 1).sf CH_ELOG_KIND kind).sf CH_ELOG_ENTRY entry
  (s.raise 0x292).report { org := org 9 0, cause := cause, cls := cls, d0 := entry, react := react }

/-- The entry number of the head. -/
def State.jrnHead (s : State) : Nat := 0x1400 + (s.ch.tail + s.ch.ring.length) % ringSize

/-- A FILL entry where a read-back failed (R448, R452). -/
def State.jrnFill (s : State) : State := (s.jrnError 0 s.jrnHead 0x0902 slate 2).jrnPush 0xF 0 none

/-- The message that carries an entry to the standby (16 R679): its JSN, kind and transaction ID lead it. In a running pair the entry
counts as committed when the standby has written it, which the model takes as part of the same step (DESIGN CHOICE, log 11). -/
def State.jrnMirror (s : State) (kind tid : Nat) : State :=
  s.when s.isActiveRunning (fun s => s.emit (.twin 5 (toBytes s.ch.jsn 6 ++ [kind] ++ toBytes tid 8)))

/-- Commit an entry of a transaction (R448): `bad` writes fail their read-back first. The transaction's record follows. -/
def State.jrn (s : State) (t : Txn) (kind bad : Nat) : State :=
  let s := s.each (List.range bad) (fun s _ => s.jrnFill)
  let s := { s with ch := { s.ch with txns := s.ch.txns.map (fun (x : Txn) => if x.tid == t.tid then t else x) } }
  ((s.jrnPush kind t.tid (some t)).jrnMirror kind t.tid).pmEvent 0x0604 (s.rf CH_CHAN_PROC t.chan) (some t.inst)

/-- A transaction's record changes with no entry. -/
def State.putTxn (s : State) (t : Txn) : State :=
  { s with ch := { s.ch with txns := s.ch.txns.map (fun (x : Txn) => if x.tid == t.tid then t else x) } }

/-- An unretired transaction. -/
def State.txn (s : State) (tid : Nat) : Option Txn := s.ch.txns.find? (fun t => t.tid == tid)

/-- Whether the Journal takes entries. -/
def State.jrnOn (s : State) : Bool := s.rf CH_STAT_JOURNAL == 0 || s.rf CH_STAT_JOURNAL == 2

/-- Whether channel processors dispatch: not on a standby or a yielded module, not while Sable, the Journal ready (R432, 15 R638). -/
def State.chOn (s : State) : Bool := s.jrnOn && !s.isStandby && !s.isYielded && !s.isSable

/-! ### Sequence numbers -/

/-- Whether an orphan of an owner awaits JOURNAL_ACK: 512 the Operator Host. -/
def State.hasOrphan (s : State) (key : Nat) : Bool :=
  s.ch.txns.any (fun t => t.orphan && (if key = 512 then t.host else !t.host && t.inst == key))

/-- The next number of an instance's generation, or of the Operator Host (key 512), its block reserved first (R435); `none` when they are
exhausted. -/
def State.takeSeq (s : State) (key : Nat) : State × Option Nat :=
  let kept := Map.getD s.ch.tops key 0
  let p := (Map.find s.ch.next key).getD (kept + 1, kept)
  let p := if key = 512 ∧ 2 ^ 43 - 1 < p.1 ∧ s.hasOrphan 512 = false then (1, 0) else p
  if 2 ^ 43 - 1 < p.1 then (s, none)
  else
    let top := if p.2 < p.1 then p.1 - 1 + 65536 else p.2
    let s := s.when (decide (p.2 < p.1)) (fun s => s.when s.isActiveRunning (fun s => s.emit (.twin 5 ([0xFF] ++ toBytes key 8 ++ toBytes top 8))))
    ({ s with ch := { s.ch with tops := Map.put s.ch.tops key (max kept top), next := Map.put s.ch.next key (p.1 + 1, top) } }, some p.1)

/-- A generation begins (R435, R564): at 1, or above the kept top when the counter returned to 0. -/
def State.seqStart (s : State) (i gen : Nat) : State :=
  { s with ch := { s.ch with next := if gen = 0 then Map.del s.ch.next i else Map.put s.ch.next i (1, 0) } }

/-- The next SEQ of a node (R453): blocks of 256, modulo 2^16. -/
def State.takeFrSeq (s : State) (port node : Nat) : State × Nat :=
  let key := 1024 + port * 256 + node
  let kept := Map.getD s.ch.tops key 0
  let p := (Map.find s.ch.next key).getD (kept, kept)
  let top := if p.1 = p.2 then (p.2 + 256) % 65536 else p.2
  ({ s with ch := { s.ch with tops := Map.put s.ch.tops key top, next := Map.put s.ch.next key ((p.1 + 1) % 65536, top) } }, p.1)

/-! ### Submission (R430-R434) -/

/-- A refusal as an acknowledgement (R432). -/
def refusalAck (code : Nat) : Nat := code * 2 ^ 48

/-- Unretired transactions of a submitter (R432). -/
def State.unretired (s : State) (key : Nat) : Nat :=
  (s.ch.txns.filter (fun t => if key = 512 then t.host else !t.host && t.inst == key)).length

/-- SUBMISSION_ACCEPT (R433, R434): a chain of owner `key` (512: the Operator Host), on queue d; `busy` says that its queue or request is refused
with that code. Answers the acknowledgement. -/
def State.submit (s : State) (key d : Nat) (loc : Loc) (fault bad : Nat) : State × Nat :=
  let host := key == 512
  let j := s.rf CH_STAT_JOURNAL
  let code :=
    if s.isStandby then 6
    else if !host && s.ist key != 2 then 5
    else if j = 1 ∨ j = 3 then 8
    else if fault ≠ 0 then fault
    else if s.rf CH_CFG_INST_MAX ≤ s.unretired key then 2
    else if !s.jrnRoom 1 then 1
    else 0
  let no := fun (s : State) (code : Nat) =>
    let s := (s.bump rCH_REFUSE_CNT).when (!host) (fun s => s.bump rIP_TEL_REFUSED key)
    ((if code = 1 then (s.sf CH_STAT_JOURNAL 2).raiseMs 0x291 else s), refusalAck code)
  if code ≠ 0 then no s code
  else match s.takeSeq key with
    | (s, none) => no s 7
    | (s, some n) =>
      let tid := mkTid (if host then 0 else key) (if host then 0xFFF else s.gen key) n
      let t := Txn.fresh tid d loc
      let s := { s with ch := { s.ch with txns := s.ch.txns ++ [t] } }
      let s := (s.jrn t 1 bad).bump rCH_ACCEPT_CNT
      (if host then s else s.outInc (qIdx key 0 0 d), tid)

/-- A doorbell write's submission (R430). -/
def State.doorbell (s : State) (i d v bad : Nat) : State × Nat :=
  let q := qIdx i 0 0 d
  let fault := if !s.rb IP_Q_CFG_EN q then 3 else if v / 65536 ≠ 0 ∨ 2 ^ s.rf IP_Q_CFG_LOG2 q ≤ v % 65536 then 4 else 0
  s.submit i d (.ring d (v % 65536)) fault bad

/-- A CSUB's submission (R431). -/
def State.csubmit (s : State) (i tpa sel bad : Nat) : State × Nat :=
  let fault := if 16 ≤ sel then 4 else if !s.rb IP_Q_CFG_EN (qIdx i 0 0 sel) then 3 else 0
  s.submit i (sel % 16) (.mem (sel % 16) tpa) fault bad

/-! ### Superblocks and carries -/

/-- SUPERBLOCK_REWRITE (R449): copies A and B in turn; nothing to do while the tail stands still. -/
def State.superWrite (s : State) : State :=
  let a := s.ch.supA
  let b := s.ch.supB
  let newer := if b.count < a.count then a else b
  if newer.tail = s.ch.tail ∨ s.jrnOn = false then s
  else
    let c : Super := ⟨newer.count + 1, s.ch.tail, (s.ch.ring.head?.map (·.jsn)).getD s.ch.jsn, true⟩
    if b.count < a.count then { s with ch := { s.ch with supB := c } } else { s with ch := { s.ch with supA := c } }

/-- CARRY (R450): while fewer than 4,096 entries are free, the oldest live transaction's latest state is written at the head. -/
def State.carry (s : State) (bad : Nat) : State :=
  if s.jrnOn && decide (ringSize < s.ch.ring.length + 4096) then
    match s.ch.ring with
    | e :: _ => match s.txn e.tid with
      | some t => s.jrn t 8 bad
      | none => s
    | [] => s
  else s

end Sys2Proof.Machine
end

