-- ==== Sys2Proof/Machine/KamyonAlu.lean ====
section
/-! DEFINITION. What Kamyon integer, compare and vector operations compute (03 R86-R94, R117-R122), on numbers. -/

namespace Sys2Proof.Machine

/-- The 64-bit result of a 32-bit computation (R87). -/
def sextW (n : Nat) : Nat := wrapInt 64 (sextInt 32 n)

/-- Arithmetic shift right of a w-bit number. -/
def sraN (w a k : Nat) : Nat := wrapInt w (sextInt w a / (2 ^ k : Int))

/-- Leading zero bits of the low w bits (R92). -/
def clzN (w a : Nat) : Nat := let n := a % 2 ^ w; if n = 0 then w else w - 1 - Nat.log2 n

/-- Division rounded toward zero. -/
def tquot (a b : Int) : Int := if (a < 0) = (b < 0) then Int.ofNat (a.natAbs / b.natAbs) else -(Int.ofNat (a.natAbs / b.natAbs))

/-- PERM (R93). -/
def permBytes (a b : Nat) : Nat :=
  ofBytes ((List.range 8).map (fun k => let sel := byteOf b k; if 128 ≤ sel then 0 else byteOf a (sel % 8)))

/-- Whether the operation raises DIV_ZERO (R91). -/
def Alu.divZero (o : Alu) (b : Nat) : Bool :=
  match o with
  | .div | .divu | .rem | .remu => b == 0
  | .divw | .divuw => b % 2 ^ 32 == 0
  | _ => false

/-- The result of an integer operation: a and b are 64-bit numbers, d the old destination (R88, R90-R94). -/
def Alu.run (o : Alu) (a b d : Nat) : Nat :=
  let m := 2 ^ 64
  let sa := sextInt 64 a
  let sb := sextInt 64 b
  let pos := b % 64
  let w := bits b 13 8 + 1
  match o with
  | .add => (a + b) % m
  | .sub => (a + m - b) % m
  | .and => a &&& b
  | .or => a ||| b
  | .xor => a ^^^ b
  | .andn => a &&& (m - 1 - b)
  | .orn => a ||| (m - 1 - b)
  | .xnor => m - 1 - (a ^^^ b)
  | .sll => a * 2 ^ pos % m
  | .srl => a / 2 ^ pos
  | .sra => sraN 64 a pos
  | .ror => (a / 2 ^ pos + a * 2 ^ (64 - pos)) % m
  | .addw => sextW (a + b)
  | .subw => sextW (a + m - b)
  | .sllw => sextW (a * 2 ^ (b % 32))
  | .srlw => sextW (a % 2 ^ 32 / 2 ^ (b % 32))
  | .sraw => sextW (sraN 32 a (b % 32))
  | .min => if sa ≤ sb then a else b
  | .max => if sa ≤ sb then b else a
  | .minu => if a ≤ b then a else b
  | .maxu => if a ≤ b then b else a
  | .sextb => wrapInt 64 (sextInt 8 a)
  | .sexth => wrapInt 64 (sextInt 16 a)
  | .sextw => sextW a
  | .zextw => a % 2 ^ 32
  | .sh1add => (2 * a + b) % m
  | .sh2add => (4 * a + b) % m
  | .sh3add => (8 * a + b) % m
  | .ldi => b
  | .mul => a * b % m
  | .mulh => wrapInt 64 (sa * sb / (m : Int))
  | .mulhu => a * b / m
  | .mulhsu => wrapInt 64 (sa * (b : Int) / (m : Int))
  | .mulw => sextW (a * b)
  | .div => wrapInt 64 (tquot sa sb)
  | .divu => a / b
  | .rem => wrapInt 64 (sa - sb * tquot sa sb)
  | .remu => a % b
  | .divw => sextW (wrapInt 32 (tquot (sextInt 32 a) (sextInt 32 b)))
  | .divuw => sextW (a % 2 ^ 32 / (b % 2 ^ 32))
  | .clz => clzN 64 a
  | .clzw => clzN 32 a
  | .perm => permBytes a b
  | .bfx => wrapInt 64 (sextInt w (sraN 64 a pos))
  | .bfxu => a / 2 ^ pos % 2 ^ w
  | .bfi =>
    let mask := ((2 ^ w - 1) * 2 ^ pos) % m
    (d &&& (m - 1 - mask)) ||| ((a * 2 ^ pos % m) &&& mask)

/-- The condition of a compare (R84). -/
def cmpCond (cond a b : Nat) : Bool :=
  match cond with
  | 0 => a == b
  | 1 => a != b
  | 2 => decide (sextInt 64 a < sextInt 64 b)
  | 3 => !decide (sextInt 64 a < sextInt 64 b)
  | 4 => decide (a < b)
  | 5 => !decide (a < b)
  | 6 => a &&& b != 0
  | _ => a &&& b == 0

/-- The new predicate: MODE none, .N, .AND, .OR (R84). -/
def cmpMode (mode : Nat) (old c : Bool) : Bool :=
  match mode with
  | 0 => c
  | 1 => !c
  | 2 => old && c
  | _ => old || c

/-! ### Sample words (R117-R122) -/

/-- Lane k of a vector (R58). -/
def lane (v k : Nat) : Nat := bits v (32 * k + 31) (32 * k)

/-- The vector whose lanes are those of `f`. -/
def ofLanes (f : Nat → Nat) : Nat := ofWords32 ((List.range 8).map f)

/-- Doubleword element k. -/
def elem (v k : Nat) : Nat := bits v (64 * k + 63) (64 * k)

/-- The vector whose elements are those of `f`. -/
def ofElems (f : Nat → Nat) : Nat :=
  (List.range 4).foldr (fun k acc => f k % 2 ^ 64 + 2 ^ 64 * acc) 0

/-- The value of a sample word. -/
def sval (w : Nat) : Int := sextInt 24 w

/-- The quality of a sample word (R117). -/
def sq (w : Nat) : Nat := bits w 25 24

/-- R118's `sat24` and quality: the exact value, the worst input quality, and a domain error. -/
def sampleResult (x : Int) (q : Nat) (dom : Bool) : Nat :=
  let (v, sat) := if 8388607 < x then ((8388607 : Int), true) else if x < -8388608 then (-8388608, true) else (x, false)
  let q := if sat then max q 1 else q
  let q := if dom then max q 2 else q
  q * 2 ^ 24 + wrapInt 24 v

/-- The greatest r below 2^n with r * r ≤ x. -/
def isqrtBits (x : Nat) : Nat → Nat → Nat
  | 0, r => r
  | n + 1, r => let t := r + 2 ^ n; isqrtBits x n (if t * t ≤ x then t else r)

/-- a^(2^n). -/
def powPow2 (a : Nat) : Nat → Nat
  | 0 => a
  | n + 1 => let b := powPow2 a n; b * b

/-- The greatest n below 2^k, from `acc` upward, whose rounding point is at or below 2^(a / 2^18) (R121). -/
def exp2Bits (e : Nat) : Nat → Nat → Nat
  | 0, acc => acc
  | k + 1, acc => let n := acc + 2 ^ k; exp2Bits e k (if powPow2 (2 * n - 1) 18 ≤ 2 ^ e then n else acc)

/-- The correctly rounded functions of R121: value and domain error. -/
def sampleFn (o : VOp) (a : Int) : Int × Bool :=
  match o with
  | .sqrts =>
    if a < 0 then (0, true)
    else
      let n := a.toNat * 2 ^ 23
      let r := isqrtBits n 24 0
      (Int.ofNat (if r * r + r < n then r + 1 else r), false)
  | .recs =>
    if a = 0 then (8388607, true)
    else
      let m := a.natAbs
      let q := (2 ^ 24 + m) / (2 * m)
      ((if a < 0 then -(Int.ofNat q) else Int.ofNat q), false)
  | .log2s =>
    if a ≤ 0 then (-8388608, true)
    else (Int.ofNat ((Nat.log2 (powPow2 a.toNat 19) + 1) / 2), false)
  | _ =>
    if 23 * 2 ^ 18 ≤ a then (8388608, false)
    else if a + 2 ^ 18 < 0 then (0, false)
    else (Int.ofNat (exp2Bits (a + 2 ^ 18).toNat 24 0), false)

/-- The exact value of a two-input sample operation (R119): a, b and the old destination d. -/
def sampleExact (o : VOp) (a b d : Int) : Int :=
  let p := (a * b + 2 ^ 22) / 2 ^ 23
  match o with
  | .adds => a + b
  | .subs => a - b
  | .muls => p
  | .macs => d + p
  | .mins => min a b
  | .maxs => max a b
  | .abss => (a.natAbs : Int)
  | .negs => -a
  | _ => (a + b + 1) / 2

/-- The VCMPS conditions (R120). -/
def vcond (sel wa wb : Nat) : Bool :=
  let a := sval wa
  let b := sval wb
  match sel with
  | 0 => a == b
  | 1 => a != b
  | 2 => decide (a < b)
  | 3 => !decide (a < b)
  | 4 => decide (a ≤ b)
  | 5 => decide (b < a)
  | _ => decide (2 ≤ sq wa)

/-- The reductions of R122. -/
def reduce (o : VOp) (va : Nat) : Nat :=
  let ls := (List.range 8).map (fun k => sval (lane va k))
  let x := match o with
    | .redmin => ls.foldl min (ls.headD 0)
    | .redmax => ls.foldl max (ls.headD 0)
    | _ => ls.foldl (· + ·) 0
  sampleResult x ((List.range 8).foldl (fun q k => max q (sq (lane va k))) 0) false

/-- A vector operation's vector result: old VD, VA, VB as 256-bit numbers, SEL, and the general operands of the splats and VINSW. -/
def VOp.run (o : VOp) (vd va vb sel ga gb : Nat) : Nat :=
  match o with
  | .abss | .negs => ofLanes (fun k => sampleResult (sampleExact o (sval (lane va k)) 0 0) (sq (lane va k)) false)
  | .adds | .subs | .muls | .mins | .maxs | .avgs => ofLanes (fun k =>
      sampleResult (sampleExact o (sval (lane va k)) (sval (lane vb k)) 0) (max (sq (lane va k)) (sq (lane vb k))) false)
  | .macs => ofLanes (fun k =>
      sampleResult (sampleExact o (sval (lane va k)) (sval (lane vb k)) (sval (lane vd k)))
        (max (sq (lane vd k)) (max (sq (lane va k)) (sq (lane vb k)))) false)
  | .cvtob => ofLanes (fun k => lane va k ^^^ 0x800000)
  | .qget => ofLanes (fun k => sq (lane va k))
  | .qset => ofLanes (fun k => setBits (lane va k) 25 24 sel)
  | .qworst => ofLanes (fun k => setBits (lane va k) 25 24 (max (sq (lane va k)) (sq (lane vb k))))
  | .cmps => ofLanes (fun k => if vcond sel (lane va k) (lane vb k) then 0xFFFFFFFF else 0)
  | .sel => ofLanes (fun k => if bit (lane vd k) 31 then lane va k else lane vb k)
  | .sqrts | .recs | .log2s | .exp2s => ofLanes (fun k =>
      let r := sampleFn o (sval (lane va k)); sampleResult r.1 (sq (lane va k)) r.2)
  | .addd => ofElems (fun k => elem va k + elem vb k)
  | .subd => ofElems (fun k => elem va k + 2 ^ 64 - elem vb k)
  | .andv => va &&& vb
  | .orv => va ||| vb
  | .xorv => va ^^^ vb
  | .splatw => ofLanes (fun _ => ga % 2 ^ 32)
  | .splatd => ofElems (fun _ => ga)
  | .insw => ofLanes (fun k => if k = sel then gb % 2 ^ 32 else lane vd k)
  | .perm => ofLanes (fun k => lane va (lane vb k % 8))
  | .redmin | .redmax | .redsum => reduce o va
  | .extw => lane va sel
  | .extd => elem va sel

end Sys2Proof.Machine
end

