-- ==== Sys2Proof/Machine/Signal.lean ====
section
/-! DEFINITION. The Signal Plane (08): lanes, records, conversion, alarms, history, the corridor test (09 R351-R354), fan-out,
output slots, the digest, lane and Signal Store faults. -/

namespace Sys2Proof.Machine

/-! ### The Signal Store -/

/-- n bytes of the Signal Store at an offset. -/
def State.sgRd (s : State) (off n : Nat) : Nat := Bytes.rdN s.sg.store off n

def State.sgWr (s : State) (off n v : Nat) : State :=
  { s with sg := { s.sg with store := Bytes.wrN s.sg.store off n v } }

/-- The lane of a Signal ID (R292). -/
def laneOf (sid : Nat) : Nat := bits sid 5 0 ^^^ bits sid 13 8 ^^^ bits sid 20 16

/-- A signal record as one 512-bit number (R300). -/
def State.sigRec (s : State) (sid : Nat) : Nat := s.sgRd (64 * sid) 64
def State.setRec (s : State) (sid v : Nat) : State := s.sgWr (64 * sid) 64 v

/-- Field accessors of a record (R300). -/
def recEng (r : Nat) : Nat := bits r 31 0
def recSig (r : Nat) : Nat := bits r 63 32
def recTime (r : Nat) : Nat := bits r 127 64
def recCycle (r : Nat) : Nat := bits r 159 128
def recHpos (r : Nat) : Nat := bits r 167 160
def recAlm (r : Nat) : Nat := bits r 171 168
def recUpd (r : Nat) : Nat := bits r 191 176
def recDcnt (r k : Nat) : Nat := bits r (199 + 8 * k) (192 + 8 * k)
def recDef (r : Nat) : Bool := bit r 233
def recRocAct (r : Nat) : Nat := bits r 235 234
def recTable (r : Nat) : Nat := bits r 247 236
def recSubs (r : Nat) : Bool := bit r 248
def recHist (r : Nat) : Bool := bit r 249
def recCorr (r : Nat) : Bool := bit r 250
def recOc (r : Nat) : Bool := bit r 251
def recOut (r : Nat) : Bool := bit r 252
def recOb (r : Nat) : Bool := bit r 253
def recMode (r : Nat) : Nat := bits r 255 254
def recSlot (r : Nat) : Nat := bits r 272 256
def recOwner (r : Nat) : Nat := bits r 296 288
def recDead (r : Nat) : Nat := bits r 471 448
def recHyst (r : Nat) : Nat := bits r 495 480
def recRoc (r : Nat) : Nat := bits r 511 496
/-- The word of limit k: HH 3, H 2, L 1, LL 0, as the ALM bits are numbered. -/
def recLim (r k : Nat) : Nat := bits r (351 + 32 * (3 - k)) (320 + 32 * (3 - k))

/-- The configuration words as the 288-bit number of bytes 0x1C to 0x3F. -/
def recCfg (r : Nat) : Nat := r / 2 ^ 224 % 2 ^ 288

/-- The runtime words after a definition: not yet valid (R307). -/
def freshRuntime : Nat := 0x03000000 + 0x03000000 * 2 ^ 32

/-- `sat24` of R118 with its saturation flag. -/
def sat24 (x : Int) : Int × Bool :=
  if 8388607 < x then (8388607, true) else if x < -8388608 then (-8388608, true) else (x, false)

/-- Point k of a conversion table (R304). -/
def State.tablePt (s : State) (t k : Nat) : Int × Int :=
  let w := s.sgRd (0x12200000 + 256 * t + 8 * k) 8
  (sextInt 24 w, sextInt 24 (w / 2 ^ 32))

/-- CONVERSION (R304): value and clamp. -/
def State.convert (s : State) (r : Nat) (rv : Int) : Int × Bool :=
  match recMode r with
  | 1 =>
    let gain := sextInt 32 (bits r 287 256)
    let offs := sextInt 24 (bits r 311 288)
    sat24 ((rv * gain + 2 ^ 15) / 2 ^ 16 + offs)
  | 2 =>
    let p := s.tablePt (recTable r)
    if rv < (p 0).1 then ((p 0).2, true)
    else if (p 16).1 < rv then ((p 16).2, true)
    else
      let k := ((List.range 16).find? (fun k => decide (rv ≤ (p (k + 1)).1))).getD 15
      let a := p k
      let b := p (k + 1)
      let d := b.1 - a.1
      (a.2 + (2 * (rv - a.1) * (b.2 - a.2) + d) / (2 * d), false)
  | _ => sat24 rv

/-- ALARM_TEST for limit k (R305): the new alarm bit and delay counter. -/
def alarmOne (r : Nat) (v : Int) (k : Nat) : Bool × Nat :=
  let w := recLim r k
  let lim := sextInt 24 w
  let h : Int := (recHyst r : Nat)
  let hi := decide (2 ≤ k)
  if !bit w 31 then (false, 0)
  else if !bit (recAlm r) k then
    if (if hi then decide (lim < v) else decide (v < lim)) then
      let c := min (recDcnt r k + 1) 255
      (decide (bits w 30 24 < c), c)
    else (false, 0)
  else if (if hi then decide (v < lim - h) else decide (lim + h < v)) then (false, 0)
  else (true, recDcnt r k)

/-- The alarms after a sample of value v and quality q: ALM and the four counters (R305). -/
def alarms (r : Nat) (v : Int) (q : Nat) : Nat × Nat :=
  if 2 ≤ q then
    ((List.range 4).foldl (fun a k => a + (if bit (recLim r k) 31 && bit (recAlm r) k then 2 ^ k else 0)) 0, 0)
  else
    ((List.range 4).foldl (fun a k => a + (if (alarmOne r v k).1 then 2 ^ k else 0)) 0,
     (List.range 4).foldl (fun a k => a + (alarmOne r v k).2 * 2 ^ (8 * k)) 0)

/-! ### Historian staging -/

/-- Entries of a lane's staging ring. -/
def stageSize : Nat := 15728640

def stagePos (v : Nat) : Nat := b2n (bit v 24) * stageSize + bits v 23 0
def stageVal (p : Nat) : Nat := let q := p % (2 * stageSize); q / stageSize * 2 ^ 24 + q % stageSize

/-- The fill of a lane's staging ring. -/
def State.stageFill (s : State) (l : Nat) : Nat :=
  (stagePos (s.reg rSG_STAGE_HEAD l) + 2 * stageSize - stagePos (s.reg rSG_STAGE_TAIL l)) % (2 * stageSize)

/-- CZ_HIST_STAT follows the held HIST_FILLs and the waiting staging entries (09 R370, R374, R379). -/
def State.czStarve (s : State) : State :=
  let st := (List.range 64).any (fun l => decide (0 < s.stageFill l)) && s.cz.held.isEmpty
  let was := s.rb CZ_HIST_STAT_STARVED
  let s := (s.sb CZ_HIST_STAT_STARVED st).sf CZ_HIST_STAT_WAITING (satN 16 s.cz.held.length)
  if st && !was then s.raiseMs 0x305 else s

/-- Append a staging entry on the lane of a signal (R333): TIME, word, KIND. -/
def State.stage (s : State) (sid time word kind : Nat) : State :=
  let l := laneOf sid
  let fill := s.stageFill l
  if stageSize ≤ fill then
    let s := (s.bump rSG_STAGE_LOST).raiseMs 0x143
    if s.sg.gaps.contains l then s else { s with sg := { s.sg with gaps := s.sg.gaps ++ [l] } }
  else
    let h := stagePos (s.reg rSG_STAGE_HEAD l)
    let gap := b2n (s.sg.gaps.contains l || (kind == 0 && s.sg.regap.contains sid))
    let v := time + word * 2 ^ 64 + (sid + kind * 2 ^ 21 + gap * 2 ^ 24) * 2 ^ 96
    let s := s.sgWr (0x240000000 + l * 0xF000000 + 16 * (h % stageSize)) 16 v
    let s := { s with sg := { s.sg with gaps := s.sg.gaps.filter (· != l), regap := if kind = 0 then s.sg.regap.filter (· != sid) else s.sg.regap } }
    let s := (s.wreg rSG_STAGE_HEAD l (stageVal (h + 1))).czStarve
    let warn := s.rf SG_CFG_STAGE_WARN * stageSize
    if fill * 100 < warn ∧ warn ≤ (fill + 1) * 100 then s.raise 0x142 else s

/-- Ceiling of a / b for positive b. -/
def ceilDiv (a b : Int) : Int := -((-a) / b)

/-- CORRIDOR_TEST (09 R353): half-width e, block, the record's previous TIME and ENG, the new time and word. The points to stage
and the new block. -/
def corridor (e blk oldT oldW t w : Nat) : List (Nat × Nat) × Nat :=
  let tau := t / 1000
  let th := oldT / 1000
  let span := bits blk 30 0
  let anchor := bits blk 63 32
  let mk := fun (sp an : Nat) (up lo : Int) => 2 ^ 31 + sp % 2 ^ 31 + an * 2 ^ 32 + wrapInt 32 up * 2 ^ 64 + wrapInt 32 lo * 2 ^ 96
  let upper := sextInt 32 (bits blk 95 64)
  let lower := sextInt 32 (bits blk 127 96)
  if !bit blk 31 then ([(t, w)], mk 0 w upper lower)
  else
    let held := span != 0
    let d : Int := (tau : Int) - ((th : Int) - span)
    if bits w 31 24 ≠ bits oldW 31 24 ∨ tau ≤ th ∨ 2147483647 < d then
      ((if held then [(oldT, oldW)] else []) ++ [(t, w)], mk 0 w upper lower)
    else
      let a7 := sextInt 24 anchor * 128
      let v7 := sextInt 24 w * 128
      let e7 : Int := 128 * (e : Int)
      if !held then ([], mk d.toNat anchor (v7 + e7) (v7 - e7))
      else
        let u := a7 + (upper - a7) * d / (span : Int)
        let l := a7 + ceilDiv ((lower - a7) * d) (span : Int)
        if u < v7 ∨ v7 < l then ([(oldT, oldW)], mk (tau - th) oldW (v7 + e7) (v7 - e7))
        else ([], mk d.toNat anchor (min u (v7 + e7)) (max l (v7 - e7)))

def State.corrBlk (s : State) (sid : Nat) : Nat := s.sgRd (0x10000000 + 16 * sid) 16
def State.setCorrBlk (s : State) (sid v : Nat) : State := s.sgWr (0x10000000 + 16 * sid) 16 v

/-- The corridor test on an accepted sample: old record, stamp, new word (09 R353). -/
def State.offerCorridor (s : State) (sid old t w : Nat) : State :=
  if recCorr old then
    let r := corridor (recDead old) (s.corrBlk sid) (recTime old) (recEng old) t w
    (s.each r.1 (fun s p => s.stage sid p.1 p.2 0)).setCorrBlk sid r.2
  else s

/-- A void update closes the corridor (09 R354). -/
def State.closeCorridor (s : State) (sid old t w : Nat) : State :=
  let blk := s.corrBlk sid
  if recCorr old && bit blk 31 then
    let s := if bits blk 30 0 ≠ 0 then s.stage sid (recTime old) (recEng old) 0 else s
    (s.stage sid t w 0).setCorrBlk sid 0
  else s

/-! ### Fan-out offers -/

/-- Offer an update to its island's fan-out unit (R321). -/
def State.offer (s : State) (o : Offer) : State :=
  let i := laneOf o.sid / 8
  let q := Map.getD s.sg.fan i []
  if s.isStandby then s
  else if 65536 ≤ q.length then (s.bump rSG_FAN_DROP).raiseMs 0x141
  else { s with sg := { s.sg with fan := Map.put s.sg.fan i (q ++ [o]) } }.pmEvent 0x0503 (laneOf o.sid)

/-- SIGNIFICANCE (R306): from the record before, and the record after the update with SIG and HPOS still those of before. -/
def State.significance (s : State) (sid old new : Nat) : State :=
  let eng := recEng new
  let sg := recSig new
  let dv := (sval eng - sval sg).natAbs
  let almC := recAlm old ^^^ recAlm new
  let sig := decide (recDead new ≤ dv) || bits eng 31 24 != bits sg 31 24 || almC != 0
  let hist := sig && recHist new
  let s := if hist then
      let a := 0x40000000 + 4096 * sid + 16 * recHpos new
      let s := { s with sg := { s.sg with bad := s.sg.bad.filter (· != a / 16) } }
      s.sgWr a 16 (recTime new + eng * 2 ^ 64 + recCycle new * 2 ^ 96)
    else s
  let new := if sig then setBits new 63 32 eng else new
  let new := if hist then setBits new 167 160 (recHpos new + 1) else new
  let s := (s.setRec sid new).when sig (fun s => s.pmEvent 0x0502 (laneOf sid))
  let cl := b2n sig + 2 * b2n (almC != 0) + 4 * b2n (bits eng 25 24 != bits (recEng old) 25 24)
  if recSubs new then
    s.offer ⟨1, sid, cl, recAlm new, almC, eng, recUpd new, recTime new, recCycle new⟩
  else s

/-! ### The digest (R330, R331) -/

/-- `mix` of R330. -/
def digestMix (sid eng alm cycle : Nat) : Nat :=
  let m := 2 ^ 64
  let a := sid % 2 ^ 21 * 2 ^ 32 + eng % 2 ^ 32
  let b := alm % 16 * 2 ^ 32 + cycle % 2 ^ 32
  let x := a ^^^ (b * 0x9E3779B97F4A7C15 % m)
  let x := x ^^^ (x / 2 ^ 30)
  let x := x * 0xBF58476D1CE4E5B9 % m
  let x := x ^^^ (x / 2 ^ 27)
  let x := x * 0x94D049BB133111EB % m
  x ^^^ (x / 2 ^ 31)

/-- Add an input update to the digest of its cycle. -/
def State.addDigest (s : State) (sid eng alm cycle : Nat) : State :=
  let k := bits sid 20 16 * 2 ^ 32 + cycle % 2 ^ 32
  let e := Map.getD s.sg.sums k (0, 0)
  { s with sg := { s.sg with sums := Map.put s.sg.sums k ((e.1 + digestMix sid eng alm cycle) % 2 ^ 64, e.2) } }

/-! ### Lane queues -/

def State.laneQ (s : State) (l : Nat) : List Upd := Map.getD s.sg.queue l []
def State.laneHeld (s : State) (l : Nat) : List Upd := Map.getD s.sg.held l []

/-- A lane's queue changes; DEPTH and DEPTH_MAX follow (R346). -/
def State.setLaneQ (s : State) (l : Nat) (q : List Upd) : State :=
  let s := { s with sg := { s.sg with queue := if q.isEmpty then Map.del s.sg.queue l else Map.put s.sg.queue l q } }
  (s.sf SG_LANE_STAT_DEPTH (min 1024 q.length) l).sf SG_LANE_STAT_DEPTH_MAX (max (s.rf SG_LANE_STAT_DEPTH_MAX l) q.length) l

def State.setLaneHeld (s : State) (l : Nat) (q : List Upd) : State :=
  { s with sg := { s.sg with held := if q.isEmpty then Map.del s.sg.held l else Map.put s.sg.held l q } }

/-- Hand an update to lane l's home: it enters the queue, or waits in front of it behind what already waits (R293, R295). -/
def State.toLane (s : State) (l : Nat) (u : Upd) : State :=
  let h := s.rf SG_LANE_STAT_HOME l
  let q := s.laneQ h
  if q.length < 1024 ∧ (s.laneHeld h).isEmpty then s.setLaneQ h (q ++ [u]) else s.setLaneHeld h (s.laneHeld h ++ [u])

/-- What waits in front of a queue enters it while it has room. -/
def State.refillLane (s : State) (l : Nat) : State :=
  let q := s.laneQ l
  let w := s.laneHeld l
  if w.isEmpty then s
  else (s.setLaneQ l (q ++ w.take (1024 - q.length))).setLaneHeld l (w.drop (1024 - q.length))

/-- An output update, and those at the front of a lane's queue: field samples, definitions and markers pass them, as the lane takes outputs only under their
instances' token buckets and in cycles that field samples leave free (R293, R326; DESIGN CHOICE, log 68). -/
def Upd.isOutput (u : Upd) : Bool := match u with | .output _ => true | _ => false
def State.frontOuts (s : State) (l : Nat) : List Upd := (s.laneQ l).takeWhile Upd.isOutput

/-- The first entry of a lane's queue that is no output update. -/
def State.laneNext (s : State) (l : Nat) : Option Upd := ((s.laneQ l).dropWhile Upd.isOutput).head?

/-- That entry is taken. -/
def State.popLane (s : State) (l : Nat) : State := (s.setLaneQ l (s.frontOuts l ++ ((s.laneQ l).dropWhile Upd.isOutput).drop 1)).refillLane l

/-- Output updates of the slots that `p` names leave the lanes (R313, R338). -/
def Upd.kept (p : Nat → Bool) (u : Upd) : Bool := match u with | .output n => !p n | _ => true
def State.dropOutputs (s : State) (p : Nat → Bool) : State :=
  s.each ((List.range 64).filter (fun l => !((s.laneQ l).all (Upd.kept p) && (s.laneHeld l).all (Upd.kept p)))) (fun s l =>
    ((s.setLaneQ l ((s.laneQ l).filter (Upd.kept p))).setLaneHeld l ((s.laneHeld l).filter (Upd.kept p))).refillLane l)

/-! ### Subscriptions in the store (R299, R320) -/

/-- The blocks of 15 entries that a list takes. -/
def subBlocks (n : Nat) : Nat := (n + 14) / 15

/-- A signal's subscription list changes, and takes or gives up blocks: the lowest that are free (DESIGN CHOICE, log 51). -/
def State.setSubs (s : State) (sid : Nat) (l : List Sub) : State :=
  let mine := Map.getD s.sg.blocks sid []
  let n := subBlocks l.length
  let used := s.sg.blocks.flatMap Prod.snd
  let new := ((List.range (used.length + n)).filter (fun b => !used.contains b)).take (n - mine.length)
  { s with sg := { s.sg with subs := if l.isEmpty then Map.del s.sg.subs sid else Map.put s.sg.subs sid l,
                             blocks := if n = 0 then Map.del s.sg.blocks sid else Map.put s.sg.blocks sid (mine.take n ++ new) } }

/-- An entry, and the word that names a block, 0 for none (DESIGN CHOICE, log 51). -/
def Sub.word (x : Sub) : Nat := x.inst + x.gen * 2 ^ 9 + x.classes * 2 ^ 21
def blockWord (l : List Nat) : Nat := match l with | b :: _ => b + 1 | [] => 0

/-- A byte of the subscription area, by its offset in the Signal Store: a head, or a block's entries and link. -/
def State.subByte (s : State) (off : Nat) : Nat :=
  if off < 0x15000000 then byteOf (blockWord (Map.getD s.sg.blocks ((off - 0x14000000) / 8) [])) (off % 8)
  else
    let b := (off - 0x15000000) / 64
    match s.sg.blocks.find? (fun (e : Nat × List Nat) => e.2.contains b) with
    | none => 0
    | some e =>
      let k := e.2.idxOf b
      let x := ((Map.getD s.sg.subs e.1 []).drop (15 * k)).take 15
      byteOf (if off % 64 < 60 then ((x.map Sub.word).getD (off % 64 / 4) 0) else blockWord (e.2.drop (k + 1))) (off % 4)

/-- What a load of the Signal Store returns (R299): the subscription area by its lists. -/
def State.sgLook (s : State) (off n : Nat) : Nat :=
  if 0x14000000 ≤ off && decide (off < 0x40000000) then ofBytes ((List.range n).map (fun k => s.subByte (off + k))) else s.sgRd off n

/-! ### Lane updates -/

/-- One update of any kind applied by lane l (R340): the signal's record is read and written (18 R762). -/
def State.laneCount (s : State) (l : Nat) : State := ((s.bump rSG_LANE_UPD l).pmEvent 0x0501 l).bwBytes 3 128

/-- The first sample in each second for an undefined or output signal raises 0x144 (R302). -/
def State.undefSample (s : State) : State :=
  let s := s.bump rSG_UNDEF
  let sec := s.now / 1000000000
  if Map.find s.fc.rate 0x144 = some sec then s
  else { s.raise 0x144 with fc := { s.fc with rate := Map.put s.fc.rate 0x144 sec } }

/-- INPUT_SAMPLE's processing (R302-R308): Signal ID, raw word, stamp, cycle. -/
def State.sampleUpdate (s : State) (sid w t c : Nat) : State :=
  let r := s.sigRec sid
  if !recDef r || recOut r then s.undefSample
  else
    let raw := bits w 23 0 ^^^ (if recOb r then 0x800000 else 0)
    let (v, clmp) := s.convert r (sextInt 24 raw)
    let q := bits w 25 24
    let q := if bit w 26 || bit w 27 then max q 1 else q
    let q := if clmp then max q 1 else q
    let dc := max ((c + 2 ^ 32 - recCycle r) % 2 ^ 32) 1
    let roc := recRoc r != 0 && decide (bits (recEng r) 25 24 ≤ 1) && decide (recRoc r * dc < (v - sval (recEng r)).natAbs)
    let act := recRocAct r
    let upd := (recUpd r + 1) % 65536
    if roc && act == 3 then
      let eng := setBits (setBit (recEng r) 30 true) 25 24 (max (bits (recEng r) 25 24) 1)
      let new := setBits (setBits r 31 0 eng) 191 176 upd
      (s.significance sid r new).addDigest sid eng (recAlm r) c
    else
      let q := if roc && act == 1 then max q 1 else if roc && act == 2 then max q 2 else q
      let (alm, dcnt) := alarms r v q
      let eng := wrapInt 24 v + q * 2 ^ 24 + bits w 28 26 * 2 ^ 26 + b2n clmp * 2 ^ 29 + b2n roc * 2 ^ 30 + b2n (alm != 0) * 2 ^ 31
      let new := setBits r 31 0 eng
      let new := setBits (setBits new 127 64 t) 159 128 c
      let new := setBits (setBits (setBits new 191 176 upd) 171 168 alm) 223 192 dcnt
      ((s.significance sid r new).offerCorridor sid r t eng).addDigest sid eng alm c

/-- VOID_UPDATE's processing (R309). -/
def State.voidUpdate (s : State) (sid t c : Nat) : State :=
  let r := s.sigRec sid
  if !recDef r || recOut r then s
  else
    let eng := setBits (recEng r) 25 24 2
    let new := setBits (setBits (setBits r 31 0 eng) 127 64 t) 159 128 c
    let new := setBits (setBits new 191 176 (recUpd r + 1)) 223 192 0
    ((s.significance sid r new).closeCorridor sid r t eng).addDigest sid eng (recAlm r) c

/-- A RESET event to every subscriber of a signal (R312, R323). -/
def State.resetEvent (s : State) (sid : Nat) : State := s.offer ⟨3, sid, 7, 0, 0, recEng (s.sigRec sid), recUpd (s.sigRec sid), s.now, 0⟩

/-- Output slot words (R325). -/
def slotAddr (n : Nat) : Nat := 0x12000000 + 16 * n
def State.slotWord (s : State) (n k : Nat) : Nat := s.sgRd (slotAddr n + 4 * k) 4
def State.slotOwner (s : State) (n : Nat) : Nat := recOwner (s.sigRec (Map.getD s.sg.slots n 0))
def State.setSlotWord (s : State) (n k v : Nat) : State := s.sgWr (slotAddr n + 4 * k) 4 v

/-- STAGED of a slot changes; SG_OUT_STAT counts the slots with STAGED = 1 (R345). -/
def State.setStaged (s : State) (n : Nat) (b : Bool) : State :=
  let w := s.slotWord n 1
  if bit w 30 = b then s
  else (s.setSlotWord n 1 (setBit w 30 b)).sf SG_OUT_STAT_STAGED
    (if b then s.rf SG_OUT_STAT_STAGED + 1 else s.rf SG_OUT_STAT_STAGED - 1)

/-- A slot becomes free: its words are zero and its waiting update is gone (R313). A page that outlived its owner goes with its last slot. -/
def State.freeSlot (s : State) (n : Nat) : State :=
  let s := (s.setStaged n false).sgWr (slotAddr n) 16 0
  let slots := Map.del s.sg.slots n
  let used := slots.any (fun e => e.1 / 256 == n / 256)
  let s := s.dropOutputs (fun x => x == n)
  let s := { s with sg := { s.sg with slots := slots,
                                      pages := if used || Map.find s.sg.pages (n / 256) != some 512 then s.sg.pages else Map.del s.sg.pages (n / 256) } }
  s.sf SG_OUT_STAT_ASSIGNED slots.length

/-- DEFINITION_UPDATE's processing (R312, R313): the 36 configuration bytes as a number. -/
def State.defineUpdate (s : State) (sid cfg : Nat) : State :=
  let r := s.sigRec sid
  let isDef := bit cfg 9
  let blk := s.corrBlk sid
  let s := if recDef r && recCorr r then
      if bit blk 31 && bits blk 30 0 != 0 then s.stage sid (recTime r) (recEng r) 1 else s.stage sid 0 0 1
    else s
  let s := if recDef r && recOut r && !(isDef && bits cfg 48 32 == recSlot r && bit cfg 28) then s.freeSlot (recSlot r) else s
  let s := s.setCorrBlk sid 0
  let s := { s with sg := { s.sg with regap := s.sg.regap.filter (· != sid) } }
  let s := s.sgWr (0x08000000 + 64 * sid) 64 (if isDef then cfg * 2 ^ 224 else 0)
  let s := s.setRec sid (if isDef then freshRuntime + cfg * 2 ^ 224 else 0)
  let s := if isDef then
      let b := 0x40000000 + 4096 * sid
      { s with sg := { s.sg with store := s.sg.store.filter (fun e => e.1 < b || b + 4096 ≤ e.1),
                                 bad := s.sg.bad.filter (fun g => g < b / 16 || b / 16 + 256 ≤ g) } }
    else s
  let n := s.rf SG_STAT_DEFINED
  let s := s.sf SG_STAT_DEFINED (n + b2n isDef - b2n (recDef r))
  s.resetEvent sid

/-- OUTPUT_RELEASE (R329). -/
def State.releaseSlot (s : State) (n : Nat) : State :=
  match Map.find s.sg.slots n with
  | none => s
  | some sid =>
    let st := s.slotWord n 2
    let s := (s.setSlotWord n 3 st).setStaged n false
    let r := s.sigRec sid
    let new := setBits (setBits (setBits r 31 0 st) 127 64 s.now) 159 128 (bits (s.rf FR_CYCLE_CYCLE (bits sid 20 16)) 31 0)
    s.significance sid r (setBits new 191 176 (recUpd r + 1))

/-- Whether a staged value of a slot is released at once (R328, 15 R638). -/
def State.releaseNow (s : State) (oc : Bool) : Bool :=
  !s.isSable && !s.isStandby && !s.isYielded && (!oc || !s.isActiveRunning)

/-- OUTPUT_UPDATE's processing of one slot (R326, R327). -/
def State.outputUpdate (s : State) (n sid : Nat) : State :=
  let r := s.sigRec sid
  let w := s.slotWord n 0
  let s := s.setSlotWord n 1 (setBit (s.slotWord n 1) 31 false)
  let v := sval w
  let (v, c1) := if bit (recLim r 2) 31 && decide (sextInt 24 (recLim r 2) < v) then (sextInt 24 (recLim r 2), true) else (v, false)
  let (v, c2) := if bit (recLim r 1) 31 && decide (v < sextInt 24 (recLim r 1)) then (sextInt 24 (recLim r 1), true) else (v, c1)
  let q := if c2 then max (bits w 25 24) 1 else bits w 25 24
  let st := wrapInt 24 v + q * 2 ^ 24 + bits w 28 26 * 2 ^ 26 + b2n c2 * 2 ^ 29
  let s := s.setSlotWord n 2 st
  let s := s.setSlotWord n 1 (setBits (s.slotWord n 1) 15 0 (s.rf TW_EPOCH_NUMBER))
  let s := s.setStaged n true
  if s.releaseNow (recOc r) then s.releaseSlot n else s

/-- Release every staged slot that satisfies a test of its EPOCH word and OC (R328). -/
def State.releaseStaged (s : State) (p : Nat → Bool) : State :=
  s.each (s.sg.slots.map Prod.fst) (fun s n =>
    if bit (s.slotWord n 1) 30 && p (bits (s.slotWord n 1) 15 0) then s.releaseSlot n else s)

/-- OUTPUT_SLOT_STORE (R326): the PEND words of a drained line. -/
def State.pendStore (s : State) (off : Nat) (data : Line) (mask : BitVec 64) : State :=
  s.each [0, 1, 2, 3] (fun s j =>
    if bits mask.toNat (16 * j + 3) (16 * j) = 15 then
      let n := (off - 0x12000000) / 16 + j
      match Map.find s.sg.slots n with
      | none => s
      | some sid =>
        let s := s.setSlotWord n 0 (bits data.toNat (128 * j + 31) (128 * j))
        if bit (s.slotWord n 1) 31 then s
        else (s.setSlotWord n 1 (setBit (s.slotWord n 1) 31 true)).toLane (laneOf sid) (.output n)
    else s)

/-- A port's sample, void and marker (R295, R309, R331). -/
def State.sampleIn (s : State) (sid raw t c : Nat) : State := s.toLane (laneOf sid) (.sample sid raw t c)
def State.voidIn (s : State) (sid t c : Nat) : State := s.toLane (laneOf sid) (.void sid t c)
def State.markerIn (s : State) (port c : Nat) : State :=
  s.each (List.range 64) (fun s l => s.toLane l (.marker port c l))

/-! ### Fan-out -/

/-- The 32-byte entry of a signal event (R322), for a subscription generation. -/
def Offer.entry (o : Offer) (matched gen : Nat) : Nat :=
  (o.type + (if o.type = 1 then matched % 8 * 2 ^ 8 else 0) + o.alm * 2 ^ 16 + o.almChg * 2 ^ 20) + o.sid * 2 ^ 32 +
  o.eng * 2 ^ 64 + o.upd * 2 ^ 96 + o.time * 2 ^ 128 + o.cycle % 2 ^ 32 * 2 ^ 192 + gen * 2 ^ 224

/-- Remove a signal's lapsed subscriptions, those whose generation is not current (R324). -/
def State.liveSubs (s : State) (l : List Sub) : List Sub := l.filter (fun x => s.gen x.inst == x.gen && s.ist x.inst != 0)

/-- CYCLE events go out once no update of their cycle and port waits in a fan-out unit, nor one that carries an earlier cycle (R323). -/
def State.flushCycles (s : State) : State :=
  s.sg.cycEv.foldl (fun s e =>
    if s.sg.fan.any (fun f => f.2.any (fun o => bits o.sid 20 16 == e.1 && o.type == 1 && decide ((e.2.1 + 2 ^ 32 - o.cycle) % 2 ^ 32 < 2 ^ 31))) then s
    else
      let l := s.liveSubs (Map.getD s.sg.cycSubs e.1 [])
      let s := { s with sg := { s.sg with cycEv := s.sg.cycEv.filter (· != e) } }
      s.each l (fun s x => s.eqPost x.inst x.gen ((⟨2, e.1 * 65536, 0, 0, 0, 0, 0, e.2.2, e.2.1⟩ : Offer).entry 0 x.gen))) s

/-- FAN_OUT (R321-R324): the oldest offered update of an island. -/
def State.fanOut (s : State) (i : Nat) : State :=
  match Map.getD s.sg.fan i [] with
  | [] => s.flushCycles
  | o :: q =>
    let live := s.liveSubs (Map.getD s.sg.subs o.sid [])
    let s := { s with sg := { s.sg with fan := if q.isEmpty then Map.del s.sg.fan i else Map.put s.sg.fan i q } }.setSubs o.sid live
    let s := if s.isStandby then s else s.each live (fun s x =>
      let m := if o.type = 1 then x.classes &&& o.classes else 7
      if m = 0 then s else s.eqPost x.inst x.gen (o.entry m x.gen))
    s.flushCycles

/-! ### Signal Store errors (R336) and loss (R337) -/

/-- SG_ELOG and event 0x145. -/
def State.sgElog (s : State) (kind lane sid : Nat) : State :=
  ((((s.sf SG_ELOG_VALID 1).sf SG_ELOG_KIND kind).sf SG_ELOG_LANE lane).sf SG_ELOG_SID sid).raise 0x145

def State.sgReport (s : State) (cause cls sid react : Nat) : State :=
  s.report { org := org 7 0, cause := cause, cls := cls, d0 := sid, react := react }

/-- A record's runtime words reset as after a definition (R307). -/
def State.resetRuntime (s : State) (sid : Nat) : State :=
  let s := s.setRec sid (freshRuntime + recCfg (s.sigRec sid) * 2 ^ 224)
  s.resetEvent sid

/-- SIGNAL_STORE_ERROR (R336; corridor blocks and staging as 09 R371 states). -/
def State.storeError (s : State) (lane : Nat) (e : StoreErr) : State :=
  match e with
  | .single => (s.bump rSG_STORE_CORR).sgReport 0x0701 slate 0 1
  | .recordCfg sid =>
    let sid := sid.toNat
    let m := recCfg (s.sgRd (0x08000000 + 64 * sid) 64)
    let s := (s.setRec sid (freshRuntime + m * 2 ^ 224)).resetEvent sid
    (s.sgElog 0 lane sid).sgReport 0x0702 ochre sid 3
  | .recordRun sid => ((s.resetRuntime sid.toNat).sgElog 1 lane sid.toNat).sgReport 0x0703 ochre sid.toNat 0
  | .mirror sid =>
    let sid := sid.toNat
    ((s.sgWr (0x08000000 + 64 * sid) 64 (recCfg (s.sigRec sid) * 2 ^ 224)).sgElog 5 lane sid).sgReport 0x0702 slate sid 3
  | .both sid =>
    let sid := sid.toNat
    let s := if recDef (s.sigRec sid) then s.sf SG_STAT_DEFINED (s.rf SG_STAT_DEFINED - 1) else s
    let s := if recDef (s.sigRec sid) && recOut (s.sigRec sid) then s.freeSlot (recSlot (s.sigRec sid)) else s
    let s := ((s.setRec sid 0).sgWr (0x08000000 + 64 * sid) 64 0).resetEvent sid
    (s.sgElog 2 lane sid).sgReport 0x0704 ochre sid 0
  | .history sid k =>
    let g := (0x40000000 + 4096 * sid.toNat) / 16 + k.val
    let s := { s with sg := { s.sg with bad := s.sg.bad.filter (· != g) ++ [g] } }
    (s.sgElog 3 lane sid.toNat).sgReport 0x0705 slate sid.toNat 0
  | .staging l =>
    let g := (0x240000000 + l.val * 0xF000000) / 16 + stagePos (s.reg rSG_STAGE_TAIL l.val) % stageSize
    let s := { s with sg := { s.sg with bad := s.sg.bad.filter (· != g) ++ [g] } }
    (s.sgElog 4 lane (s.sgRd (16 * g + 12) 4 % 2 ^ 21)).sgReport 0x0706 ochre l.val 0
  | .corridor sid =>
    let s := { s with sg := { s.sg with regap := s.sg.regap.filter (· != sid.toNat) ++ [sid.toNat] } }
    ((s.setCorrBlk sid.toNat 0).sgElog 4 lane sid.toNat).sgReport 0x0706 ochre sid.toNat 0
  | .subscriptions sid b =>
    let l := Map.getD s.sg.subs sid.toNat []
    ((s.setSubs sid.toNat (l.take (15 * b.val) ++ l.drop (15 * b.val + 15))).sgElog 4 lane sid.toNat).sgReport 0x0706 ochre sid.toNat 0
  | .slot n =>
    let n := n.toNat
    let s := s.setStaged n false
    let s := s.sgWr (slotAddr n) 16 0
    let s := match Map.find s.sg.slots n with
      | some sid => ((s.dropOutputs (fun x => x == n)).setSlotWord n 1 0x80000000).toLane (laneOf sid) (.output n)
      | none => s
    (s.sgElog 4 lane n).sgReport 0x0706 ochre n 0

/-- Whether the Signal Store is lost (R337). -/
def State.storeLost (s : State) : Bool := s.rf SG_STAT_STORE == 1

/-- The solo path of a lost Signal Store (R337): every subscriber receives one event of TYPE 0x04; a standby posts none (R332). -/
def State.storeEvents (s : State) : State :=
  if s.isStandby then s
  else
    let all := (s.sg.subs.flatMap (fun e => e.2)) ++ (s.sg.cycSubs.flatMap (fun e => e.2))
    let ids := (s.liveSubs all).map (fun x => x.inst)
    s.each ids.eraseDups (fun s i =>
      s.eqPost i (s.gen i) ((⟨4, 0, 0, 0, 0, 0, 0, s.now, 0⟩ : Offer).entry 0 (s.gen i)))

/-- SIGNAL_STORE_LOSS (R337): a takeover where one can be asked for, else the solo path. -/
def State.storeLoss (s : State) : State :=
  if s.storeLost then s
  else
    let s := ((s.sf SG_STAT_STORE 1).raise 0x140).report { org := org 7 0, cause := 0x0707, cls := ochre, react := 5 }
    if s.canYield then s.askTakeoverFor none else s.storeEvents

/-! ### Lane faults (R335) -/

/-- Repetitions of an update, each a Slate record and an event. -/
def State.laneRepeats (s : State) (l n : Nat) : State :=
  s.each (List.range n) (fun s _ =>
    (s.raise (0x100 + l)).report { org := org 6 l, cause := 0x0601, cls := slate, react := 2 })

/-- The lanes in state Up (R342). -/
def State.countLanes (s : State) : State :=
  s.sf SG_STAT_LANES_UP ((List.range 64).filter (fun l => s.rf SG_LANE_STAT_STATE l == 0)).length

/-- The lane an update belongs to; an output's is its signal's. -/
def State.updLane (s : State) (u : Upd) : Nat :=
  match u with
  | .sample sid _ _ _ => laneOf sid
  | .void sid _ _ => laneOf sid
  | .define sid _ => laneOf sid
  | .output n => laneOf (Map.getD s.sg.slots n 0)
  | .marker _ _ l => l

/-- The lanes homed at `a` move to `b`, with their waiting updates in order. -/
def State.moveLanes (s : State) (a b : Nat) (p : Nat → Bool) : State :=
  let s := s.each ((List.range 64).filter (fun x => p x && s.rf SG_LANE_STAT_HOME x == a)) (fun s x => s.sf SG_LANE_STAT_HOME b x)
  let w := (s.laneQ a ++ s.laneHeld a)
  let mv := w.filter (fun u => p (s.updLane u))
  let st := w.filter (fun u => !p (s.updLane u))
  let s := ((s.setLaneQ a (st.take 1024)).setLaneHeld a (st.drop 1024))
  let tgt := s.laneQ b ++ s.laneHeld b ++ mv
  (s.setLaneQ b (tgt.take 1024)).setLaneHeld b (tgt.drop 1024)

/-- LANE_RETIREMENT (R335): to the first Up lane of l xor 8, ..., l xor 56. -/
def State.retireLane (s : State) (l : Nat) : State :=
  if s.rf SG_LANE_STAT_STATE l ≠ 0 then s
  else
    let (s, ret) := s.outOfService (org 6 l)
    let s := ((s.sf SG_LANE_STAT_STATE (if ret then 3 else 1) l).raise (0x100 + l)).countLanes
    let s := s.report { org := org 6 l, cause := 0x0602, cls := ochre, react := if ret then 6 else 5 }
    match [8, 16, 24, 32, 40, 48, 56].find? (fun x => s.rf SG_LANE_STAT_STATE (l ^^^ x) == 0) with
    | some x => s.moveLanes l (l ^^^ x) (fun _ => true)
    | none => s

/-- At the start of a ring cycle the signals of lanes that have returned move back (R335). -/
def State.lanesBack (s : State) : State :=
  s.each ((List.range 64).filter (fun l => s.rf SG_LANE_STAT_STATE l == 0 && s.rf SG_LANE_STAT_HOME l != l)) (fun s l =>
    s.moveLanes (s.rf SG_LANE_STAT_HOME l) l (fun x => x == l))

/-- A retired lane returns to service; its signals move back when a ring cycle next starts, at once where no port runs (R335; DESIGN CHOICE, log 68). -/
def State.laneReturn (s : State) (l : Nat) : State :=
  let s := ((s.sf SG_LANE_STAT_STATE 0 l).raise (0x100 + l)).countLanes
  if (List.range 32).all (fun p => s.rf FR_STAT_ROLE p == 0) then s.lanesBack else s

/-! ### Cycle markers -/

/-- CYCLE_MARKER's processing (R331). -/
def State.takeMarker (s : State) (p c l : Nat) : State :=
  let k := p * 2 ^ 32 + c % 2 ^ 32
  let e := Map.getD s.sg.sums k (0, 0)
  let m := setBit e.2 l true
  if m = 2 ^ 64 - 1 then
    let d := (s.reg rSG_RD p + e.1) % 2 ^ 64
    let s := (((s.wreg rSG_RD p d).sf SG_RD_CYC_CYCLE c p).sf SG_RD_CYC_VALID 1 p)
    let s := { s with sg := { s.sg with sums := Map.del s.sg.sums k,
                                        pairs := Map.put s.sg.pairs p (((c, d) :: Map.getD s.sg.pairs p []).take 64),
                                        cycEv := if s.isStandby then s.sg.cycEv else s.sg.cycEv ++ [(p, c, s.now)] } }
    s.flushCycles
  else { s with sg := { s.sg with sums := Map.put s.sg.sums k (e.1, m) } }

/-- The digest of a port starts afresh (R331): no cycle has completed. -/
def State.digestZero (s : State) (p : Nat) : State := (s.wreg rSG_RD p 0).wreg rSG_RD_CYC p 0

/-! ### Instance drains and reprocessing -/

/-- An instance reset, freeze or destroy (R338): queued output updates and unreleased STAGE values of its slots are gone. -/
def State.sgDrain (s : State) (i : Nat) : State :=
  let l := s.sg.slots.filterMap (fun e => if recOwner (s.sigRec e.2) = i then some e.1 else none)
  (s.dropOutputs (fun n => l.contains n)).each l (fun s n => (s.setSlotWord n 1 (setBit (s.slotWord n 1) 31 false)).setStaged n false)

/-- The slots whose QUEUED is 1 and whose update no lane holds enter their lanes, as a new active takes up the outputs (R332; 16 R686). -/
def State.requeueOuts (s : State) : State :=
  s.each s.sg.slots (fun s (e : Nat × Nat) =>
    if bit (s.slotWord e.1 1) 31 && !(s.sg.queue.any (fun x => x.2.contains (.output e.1)) || s.sg.held.any (fun x => x.2.contains (.output e.1)))
    then s.toLane (laneOf e.2) (.output e.1) else s)

/-- The history entries of a signal from oldest to newest: time and word, entries never written left out (R301). -/
def State.history (s : State) (sid : Nat) : List (Nat × Nat) :=
  ((List.range 256).map (fun k =>
    let e := s.sgRd (0x40000000 + 4096 * sid + 16 * ((recHpos (s.sigRec sid) + k) % 256)) 16
    (bits e 63 0, bits e 95 64))).filter (fun e => e.1 != 0)

/-- The corridor test run afresh over a list of words: the points in order (R334). -/
def corridorRun (e : Nat) : List (Nat × Nat) → Nat → Nat × Nat → List (Nat × Nat)
  | [], _, _ => []
  | (t, w) :: r, blk, old =>
    let x := corridor e blk old.1 old.2 t w
    x.1 ++ corridorRun e r x.2 (t, w)

/-- One signal of a reprocessing (R334). -/
def State.reprocessOne (s : State) (sid : Nat) : State :=
  s.each (corridorRun (recDead (s.sigRec sid)) (s.history sid) 0 (0, 0)) (fun s p => s.stage sid p.1 p.2 2)

end Sys2Proof.Machine
end

