-- ==== Sys2Proof/Machine/Ring.lean ====
section
/-! DEFINITION. The Field Ring head-end (12): schedules, frames, requests, slots, paths. -/

namespace Sys2Proof.Machine

def FrPort.empty : FrPort := ⟨none, [], [], [], [], [], [], [], [], [], false, false, none, none, false, none⟩

def State.port (s : State) (p : Nat) : FrPort := Map.getD s.fr.ports p FrPort.empty
def State.setPort (s : State) (p : Nat) (f : FrPort → FrPort) : State :=
  { s with fr := { s.fr with ports := Map.put s.fr.ports p (f (s.port p)) } }

/-- The flattened index of FR_NODE of node a on port p. -/
def nodeIdx (p a : Nat) : Nat := p * 256 + a

/-- Event k of port p (R531), and one raised at most once per ms. -/
def State.frEv (s : State) (p k : Nat) : State := s.raise (0x180 + 8 * p + k)
def State.frEvMs (s : State) (p k : Nat) : State := s.raiseMs (0x180 + 8 * p + k)

/-- FR_ELOG (R537). -/
def State.frElog (s : State) (p kind node edge : Nat) : State :=
  let s := ((s.sf FR_ELOG_VALID 1 p).sf FR_ELOG_KIND kind p).sf FR_ELOG_NODE node p
  (s.sf FR_ELOG_EDGE_NS edge p).sf FR_ELOG_CYCLE (s.rf FR_CYCLE_CYCLE p) p

/-- NODES_UP follows the node states (R534). -/
def State.countNodes (s : State) (p : Nat) : State :=
  s.sf FR_STAT_NODES_UP ((List.range 256).filter (fun a => s.rf FR_NODE_STATE (nodeIdx p a) == 2)).length p

def State.setNodeState (s : State) (p a st : Nat) : State := (s.sf FR_NODE_STATE st (nodeIdx p a)).countNodes p

def State.setRole (s : State) (p r : Nat) : State :=
  if s.rf FR_STAT_ROLE p = r then s else (s.sf FR_STAT_ROLE r p).frEv p 0

/-! ### Schedules (R494-R496, R522-R524) -/

/-- The cycle length in ns (R493). -/
def cycNs (c : Nat) : Nat := 250000 * 2 ^ c

/-- Whether a point byte is an input, or an output; its scan class (R524). -/
def ptIn (b : Nat) : Bool := bit b 4 && !bit b 3
def ptOut (b : Nat) : Bool := bit b 4 && bit b 3

/-- The output points of 256 point bytes. -/
def outPts (pts : List Nat) : List Nat := (List.range 256).filter (fun k => ptOut (pts.getD k 0))

/-- How many class-k inputs lie below point n. -/
def classIdx (pts : List Nat) (k n : Nat) : Nat := ((List.range n).filter (fun j => ptIn (pts.getD j 0) && pts.getD j 0 % 8 == k)).length

/-- The points due in cycle c (R496). -/
def duePts (pts : List Nat) (c : Nat) : List Nat :=
  (List.range 256).filter (fun n =>
    let b := pts.getD n 0
    ptIn b && (c % 2 ^ (b % 8) == classIdx pts (b % 8) n % 2 ^ (b % 8)))

/-- M(n) (R496). -/
def slotMax (pts : List Nat) : Nat :=
  (List.range 8).foldl (fun m k => m + (classIdx pts k 256 + 2 ^ k - 1) / 2 ^ k) 0

/-- A slot's length in ns without its guard (R494). -/
def NodeCfg.slotNs (n : NodeCfg) : Nat := 4 * (14 + 4 * slotMax n.pts + 4 * n.rb4)

/-- OUT_BYTES (R495): the outputs messages and REQ_BYTES, rounded up to 64. -/
def RingTbl.outBytes (t : RingTbl) : Nat :=
  let n := t.nodes.foldl (fun a (x : NodeCfg) => let k := (outPts x.pts).length; if k = 0 then a else a + 12 + 4 * k) 0 + t.reqBytes
  (n + 63) / 64 * 64

/-- The slot offsets R_n in ns, in node order, from a start. -/
def slotOffsets : List NodeCfg → Nat → List (Nat × Nat)
  | [], _ => []
  | n :: r, t => (n.addr, t) :: slotOffsets r (t + n.slotNs + 320)

def RingTbl.start (t : RingTbl) : Nat := 600 + 4 * (t.outBytes + 2) + 320
def RingTbl.offset (t : RingTbl) (a : Nat) : Nat := Map.getD (slotOffsets t.nodes t.start) a 0

/-- The left side of R495. -/
def RingTbl.used (t : RingTbl) : Nat := t.nodes.foldl (fun u (n : NodeCfg) => u + n.slotNs + 320) t.start + 2000

/-- A ring table's bytes parsed (R522-R524); `none` when malformed. -/
def parseTable (bs : List Nat) : Option RingTbl :=
  let w := fun (o n : Nat) => ofBytes ((bs.drop o).take n)
  let ent := fun (a : Nat) => (bs.drop (64 + 272 * a)).take 272
  let e := fun (a o n : Nat) => ofBytes (((ent a).drop o).take n)
  let badEnt := fun (a : Nat) =>
    e a 0 4 &&& 0xFFFF00FE != 0 || e a 8 8 != 0 ||
    ((ent a).drop 16).any (fun b => decide (32 ≤ b) || (bit b 3 && b % 8 != 0)) ||
    (bit (e a 0 4) 0 && !(decide (4 ≤ bits (e a 0 4) 15 8) && decide (bits (e a 0 4) 15 8 ≤ 63)))
  if bs.length ≠ 69696 ∨ w 0 4 ≠ 0x31524654 ∨ w 4 4 &&& 0xFFFC ≠ 0 ∨ w 8 4 / 2 ^ 24 ≠ 0 ∨ w 12 52 ≠ 0 then none
  else
    let t : RingTbl := ⟨w 4 4 % 4, w 6 2, w 8 2, w 10 1,
      ((List.range 256).filter (fun a => bit (e a 0 4) 0)).map (fun a => (⟨a, bits (e a 0 4) 15 8, e a 4 4, (ent a).drop 16⟩ : NodeCfg))⟩
    if t.source = 0 ∨ t.reqBytes < 256 ∨ 16384 < t.reqBytes ∨ t.hold = 0 ∨ (List.range 256).any badEnt = true then none else some t

def FrPort.cfg (q : FrPort) (a : Nat) : Option NodeCfg := q.tbl.bind (fun t => t.nodes.find? (fun n => n.addr == a))

/-! ### The lane budget (08 R294) -/

/-- The defined signals. -/
def State.definedSids (s : State) : List Nat :=
  (((s.sg.store.filter (fun c => decide (c.1 < 0x8000000))).map (fun c => c.1 / 64)).eraseDups).filter (fun i => recDef (s.sigRec i))

/-- Samples per 128 s that a defined input produces under a table. -/
def RingTbl.rate (t : RingTbl) (sid : Nat) : Nat :=
  match t.nodes.find? (fun n => n.addr == bits sid 15 8) with
  | some n => let b := n.pts.getD (sid % 256) 0; if ptIn b then 128 * 1000000000 / (cycNs t.cyc * 2 ^ (b % 8)) else 0
  | none => 0

/-- Whether a lane's load lies above LANE_BUDGET, for the defined inputs `sids` under the tables that `tbl` gives. -/
def State.overBudget (s : State) (sids : List Nat) (tbl : Nat → Option RingTbl) : Bool :=
  (List.range 64).any (fun l => decide (s.rf SG_CFG_LANE_BUDGET * 375000 * 128 <
    ((sids.filter (fun i => laneOf i == l)).foldl (fun n i => n + ((tbl (bits i 20 16)).map (fun t => t.rate i) |>.getD 0)) 0)))

/-! ### Frames (R497-R501) -/

/-- A message of the outbound frame: header, body, CRC-32C (R498). -/
def frMsg (node type : Nat) (body : List Nat) : List Nat :=
  let b := [node, type] ++ toBytes (body.length + 8) 2 ++ body
  b ++ toBytes (crc32c b) 4

/-- An OUTPUTS message (R499). -/
def outputsMsg (node : Nat) (words : List Nat) : List Nat := frMsg node 1 (toBytes words.length 4 ++ words.flatMap (fun w => toBytes w 4))

/-- A REQUEST message (R499). -/
def FrReq.msg (r : FrReq) : List Nat :=
  let arg := if r.op = 3 ∨ r.op = 2 ∨ r.op = 4 then r.arg else 0
  frMsg r.node 2 (toBytes r.source 2 ++ toBytes r.seq 2 ++ [r.op, r.count] ++ toBytes r.cmd 2 ++ toBytes arg 4 ++
    (if r.op = 1 ∨ r.op = 4 then r.pts.flatMap (fun x => toBytes (x.1 % 256) 4 ++ toBytes x.2 4) else []))

/-- A SET_SCHEDULE message (R499). -/
def setSchedMsg (t : RingTbl) (ver : Nat) (n : NodeCfg) : List Nat :=
  frMsg n.addr 3 (toBytes 1 4 ++ toBytes (ver + t.cyc * 65536 + t.hold * 2 ^ 24) 4 ++ toBytes (t.offset n.addr) 4 ++
    toBytes (n.rb4 + t.source * 65536) 4 ++ n.pts)

/-- RESET_WINDOW and STOP messages. -/
def resetWinMsg (node source : Nat) : List Nat := frMsg node 3 (toBytes 2 4 ++ toBytes source 4)
def stopMsg (node : Nat) : List Nat := frMsg node 3 (toBytes 3 4)

/-- The word a port sends for an output point (R499, 08 R337). -/
def State.outWord (s : State) (p a k : Nat) : Nat :=
  let sid := p * 65536 + a * 256 + k
  let r := s.sigRec sid
  if s.rf FR_STAT_ROLE p ≠ 2 ∨ !(recDef r && recOut r) ∨ Map.find s.sg.slots (recSlot r) ≠ some sid ∨ recTime r = 0 then 0x03000000
  else
    let w := s.slotWord (recSlot r) 3
    if s.storeLost then setBits w 25 24 2 else w

/-- A sync frame with its CRC (R497). -/
def State.syncBytes (s : State) (p : Nat) (shadow : Bool) (disc : Bool) (next : Nat × Nat × Nat) (heal : Bool) (cycle : Nat) : List Nat :=
  let paired := s.rf TW_STAT_STATE != 0
  let mute := (List.range 256).foldl (fun m a => if s.rf FR_NODE_STATE (nodeIdx p a) = 3 then m + 2 ^ a else m) 0
  let b := [1, b2n shadow + 2 * b2n disc + 4 * b2n heal + 8 * b2n (next.1 != 0) + s.rf FR_STAT_CYC p * 16 + next.2.1 * 64] ++
    toBytes (s.rf FR_STAT_SOURCE p) 2 ++ toBytes (s.rf FR_STAT_SCHED_VER p + (if paired then s.rf TW_STAT_INDEX else 0) * 65536) 4 ++
    toBytes cycle 8 ++ toBytes s.now 8 ++ toBytes next.1 4 ++ toBytes next.2.2 4 ++ toBytes mute 32
  b ++ toBytes (crc32c b) 4

/-! ### Requests (R453, R508, R509) -/

/-- The Field Ring segments of a transaction with one changed. -/
def Txn.setSeg (t : Txn) (k : Nat) (f : Seg → Seg) : Txn := { t with segs := t.segs.modify k f }

/-- A request ended without success: counted, logged, event (R509, R531, R537). -/
def State.frFailed (s : State) (p node : Nat) (nack : Bool) : State :=
  ((s.bump (if nack then rFR_REQ_NACK else rFR_REQ_ABSENT) p).frElog p 5 node 0).frEvMs p 6

/-- The answer to a request reaches its transaction (R501, R509, R460, R461): a RESULT code, 0x100 for a node that is absent, 0x101 for a port
that is down. -/
def State.frAnswer (s : State) (p : Nat) (r : FrReq) (result : Nat) (words : List Nat) : State :=
  if !r.awaited then s
  else match s.txn r.tid with
    | none => s
    | some t =>
      let ok := match r.op with | 4 => result == 1 | 5 => result == 2 | _ => result == 0
      let reason := if result = 0x100 then 7 else if result = 0x101 then 0xD else 6
      let t' := t.setSeg r.seg (fun g =>
        if r.op = 5 then
          (if ok then { g with st := 3 } else { g with last := if result = 0x100 ∨ result = 0x101 then 1 else 2 })
        else if ok then { g with st := if r.op = 4 then 2 else 3, words := words }
        else { g with st := 4, reason := reason })
      let s := s.putTxn t'
      if ok || r.op = 5 || result = 0x101 then s else s.frFailed p r.node (result < 0x100)

/-- A port takes a request from a channel processor (R509). -/
def State.frTake (s : State) (p : Nat) (r : FrReq) : State :=
  if s.rf FR_STAT_ROLE p ≠ 2 then s.frAnswer p r 0x101 []
  else if s.rf FR_NODE_STATE (nodeIdx p r.node) ≠ 2 then s.frAnswer p r 0x100 []
  else s.setPort p (fun q => { q with reqs := q.reqs ++ [r] })

/-- The requests of a node end: it became Absent or Muted. -/
def State.frDropNode (s : State) (p node : Nat) : State :=
  let l := (s.port p).reqs.filter (fun r => r.node == node)
  let s := s.setPort p (fun q => { q with reqs := q.reqs.filter (fun r => r.node != node) })
  s.each l (fun s r => s.frAnswer p r 0x100 [])

/-- Every request of a port ends: it no longer runs. -/
def State.frDropAll (s : State) (p : Nat) : State :=
  let l := (s.port p).reqs
  let s := s.setPort p (fun q => { q with reqs := [] })
  s.each l (fun s r => s.frAnswer p r 0x101 [])

/-- The requests sent in one cycle (R509): in order, at most 8 outstanding per node, within `room` bytes; a node's later requests do not
pass one of its own that waits. Answers the requests as they now stand and the messages. -/
def pickReqs (cycle : Nat) : List FrReq → Nat → Map Nat → List Nat → List FrReq × List (List Nat)
  | [], _, _, _ => ([], [])
  | r :: l, room, outst, stuck =>
    let n := Map.getD outst r.node 0
    let due := r.sent.isNone || r.resend
    let can := due && !stuck.contains r.node && decide (r.msg.length ≤ room) && (r.sent.isSome || decide (n < 8))
    if can then
      let q := pickReqs cycle l (room - r.msg.length) (Map.put outst r.node (n + 1)) stuck
      ({ r with sent := some cycle, resend := false } :: q.1, r.msg :: q.2)
    else
      let q := pickReqs cycle l room (if r.sent.isSome then Map.put outst r.node (n + 1) else outst) (if due then r.node :: stuck else stuck)
      (r :: q.1, q.2)

/-- The first of a list of byte strings that fit into `room` bytes, in order, and the rest. -/
def fitFirst : List (List Nat) → Nat → List (List Nat) × List (List Nat)
  | [], _ => ([], [])
  | r :: l, room => if r.length ≤ room then let q := fitFirst l (room - r.length); (r :: q.1, q.2) else ([], r :: l)

/-! ### Paths (R517-R519) -/

/-- The looped nodes known from slots, in roll-call order (R536). -/
def State.loopedNodes (s : State) (p : Nat) : List Nat :=
  let q := s.port p
  let l := if q.order.isEmpty then (q.tbl.map (fun t => t.nodes.map (·.addr))).getD [] else q.order
  l.filter (fun a => s.rb FR_NODE_LOOPED (nodeIdx p a))

/-- FR_WRAP names the looped points of the current path. -/
def State.setWrap (s : State) (p : Nat) : State :=
  let path := s.rf FR_STAT_PATH p
  let l := s.loopedNodes p
  let f := if path = 2 ∨ path = 4 ∨ path = 5 then l.head? else none
  let g := if path = 3 then l.getLast? else if (path = 2 ∨ path = 5) ∧ 2 ≤ l.length then l.getLast? else none
  let s := (s.sb FR_WRAP_FIRST_VALID f.isSome p).sb FR_WRAP_SECOND_VALID g.isSome p
  (s.sf FR_WRAP_FIRST (f.getD 0) p).sf FR_WRAP_SECOND (g.getD 0) p

/-- The path changes (R517); a change from or to Down is not one of the ring's paths. -/
def State.setPath (s : State) (p path : Nat) : State :=
  let old := s.rf FR_STAT_PATH p
  if old = path then s.setWrap p
  else
    let s := ((s.sf FR_STAT_PATH path p).sf FR_WRAP_CYCLES 0 p).setWrap p
    let s := s.frEv p 0
    if old = 0 ∨ path = 0 then s
    else
      let l := s.loopedNodes p
      (s.bump rFR_PATH_CNT p).report { org := org 0xC p, cause := 0x0C01, cls := ochre, d0 := l.headD 0, d1 := l.getLastD 0, react := 4 }

/-- The sides whose input is lost, as they stand after a cycle's reception: a side stays lost until the ring heals or the other is lost too (R517,
R519). -/
def State.sidesLost (s : State) (p : Nat) (v : RingSeen) : Bool × Bool :=
  let n := (s.port p).lostN || !v.inN
  let q := (s.port p).lostP || !v.inP
  if n && q then (!v.inN, !v.inP) else (n, q)

/-- The path that the previous cycle's reception gives (R517). -/
def State.choosePath (s : State) (p : Nat) (v : RingSeen) : Nat :=
  let lost := s.sidesLost p v
  let base :=
    if lost.1 && lost.2 then 0 else if lost.1 then 3 else if lost.2 then 4
    else if v.syncP && v.shadowN then 1 else if v.syncN then 2
    else if s.rf FR_STAT_PATH p = 0 then 1 else s.rf FR_STAT_PATH p
  let cut := ((s.port p).tbl.map (fun t => t.nodes.any (fun n => s.rf FR_NODE_STATE (nodeIdx p n.addr) == 1))).getD false
  if 2 ≤ base ∧ base ≠ 5 ∧ cut = true then 5 else base

/-! ### Switching to a schedule (R525 step 5) -/

/-- The new schedule and cycle length take effect; the port is Master. -/
def State.applySwitch (s : State) (p : Nat) : State :=
  match (s.port p).comm with
  | none => s
  | some c =>
    let t := c.tbl
    let s := s.setPort p (fun q => { q with tbl := some t, switchAt := none, voids := [], restored := [] })
    let s := (s.sf FR_STAT_CYC t.cyc p).sf FR_STAT_SOURCE t.source p
    let s := s.sf FR_STAT_SCHED_VER (s.rf FR_STAT_SCHED_VER p % 0xFFFF + 1) p
    let s := (s.sf FR_BUDGET_USED_NS t.used p).sf FR_BUDGET_OUT_BYTES t.outBytes p
    let s := s.each (List.range 256) (fun s a => s.wreg rFR_NODE (nodeIdx p a) 0)
    let s := s.each t.nodes (fun s n =>
      (s.sf FR_NODE_STATE (if c.confirmed.contains n.addr then 2 else 1) (nodeIdx p n.addr)).sf FR_NODE_POINTS (slotMax n.pts) (nodeIdx p n.addr))
    ((s.countNodes p).setRole p 2).digestZero p

/-! ### The cycle (R493) -/

/-- Whether this module may drive its rings (R488, 16 R672, 15 R638). -/
def State.drives (s : State) : Bool := s.rb TW_STAT_GATE && !s.isSable

/-- CYCLE_START (R493, R497, R498, R517, R525, R528). -/
def State.cycleStart (s : State) (p : Nat) (v : RingSeen) : State :=
  let role := s.rf FR_STAT_ROLE p
  if !s.drives ∨ (role ≠ 1 ∧ role ≠ 2) then s
  else
    let s := s.lanesBack.when v.other (fun s => (s.report { org := org 0xC p, cause := 0x0C02, cls := ochre }).frEv p 5)
    let q := s.port p
    let prev := s.rf FR_CYCLE_CYCLE p
    let good := match q.comm with | some c => c.confirmed.all (fun a => q.used.contains a) | none => false
    let s := s.setPort p (fun q => { q with comm := q.comm.map (fun c => { c with good := if good then c.good + 1 else 0 }) })
    let n := (prev + 1) % 2 ^ 64
    let sw := q.switchAt == some (n % 2 ^ 32)
    let heal := q.healAt == some (n % 2 ^ 32)
    let lost := s.sidesLost p v
    let s := (s.setPath p (if heal then 1 else s.choosePath p v)).setPort p (fun q => { q with lostN := lost.1, lostP := lost.2 })
    let s := if sw then s.applySwitch p else s
    let s := s.when heal (fun s => s.setPort p (fun q => { q with lostN := false, lostP := false, restored := [] }))
    let n := if sw then 0 else n
    let s := (s.sf FR_CYCLE_CYCLE n p).sf FR_LOOP_LOOP_NS v.loopNs.toNat p
    let s := (s.setPort p (fun q => { q with used := [], heard := [], clean := [], closed := [] })).incSat FR_WRAP_CYCLES p
    let q := s.port p
    let nextSw := match q.switchAt, q.comm with
      | some x, some c => (s.rf FR_STAT_SCHED_VER p % 0xFFFF + 1, c.tbl.cyc, x)
      | _, _ => (0, 0, q.healAt.getD 0)
    let tx := s.rf FR_STAT_PATH p == 3 || (s.rf FR_STAT_PATH p == 5 && (s.port p).lostN)
    let s := s.emit (.ring p (!tx) 1 n (s.syncBytes p false q.discover nextSw q.healAt.isSome n))
    let shadow := s.rf FR_STAT_PATH p == 1
    let s := s.when shadow (fun s => s.emit (.ring p tx 1 n (s.syncBytes p true q.discover nextSw q.healAt.isSome n)))
    let s :=
      if q.discover then s.emit (.ring p (!tx) 4 n (let b := toBytes 0 8; b ++ toBytes (crc32c b) 4))
      else
        let nodes := (q.tbl.map (·.nodes)).getD []
        let outs := nodes.flatMap (fun x => let k := outPts x.pts; if k.isEmpty then [] else outputsMsg x.addr (k.map (fun j => s.outWord p x.addr j)))
        let s := s.when (n % 64 == 0 && role == 2) (fun s => s.setPort p (fun q => match q.tbl with
          | some t =>
            let away := t.nodes.filter (fun (x : NodeCfg) => s.rf FR_NODE_STATE (nodeIdx p x.addr) == 1)
            { q with mgmt := q.mgmt ++ (away.map (setSchedMsg t (s.rf FR_STAT_SCHED_VER p))).filter (fun m => !q.mgmt.contains m) }
          | none => q))
        let q := s.port p
        let room := (q.tbl.map (·.reqBytes)).getD 0
        let picked := pickReqs n q.reqs room [] []
        let left := room - picked.2.flatten.length
        let mgmt := if role == 2 then fitFirst q.mgmt left else (q.mgmt, [])
        let s := (s.setPort p (fun q => { q with reqs := picked.1, mgmt := mgmt.2 })).pmEvent 0x0903 p none (picked.2.length + mgmt.1.length)
        let body := outs ++ picked.2.flatten ++ mgmt.1.flatten
        let s := s.emit (.ring p (!tx) 2 n body)
        s.when shadow (fun s => s.emit (.ring p tx 2 n body))
    (s.when heal (fun s => s.setPort p (fun q => { q with healAt := none }))).setWrap p

/-! ### Slots (R511-R514) -/

/-- A node's window of the current cycle in the schedule. -/
def State.isLastSlot (s : State) (p a : Nat) : Bool :=
  match (s.port p).tbl with
  | some t => (t.nodes.getLast?.map (fun n => n.addr == a)).getD false
  | none => false

/-- The reply entries of a slot frame (R501): SEQ, SOURCE, OP, RESULT, words. -/
def parseReplies : Nat → List Nat → List (Nat × Nat × Nat × Nat × List Nat)
  | 0, _ => []
  | fuel + 1, bs =>
    if bs.length < 8 then []
    else
      let n := bs.getD 7 0
      let ws := (List.range n).map (fun k => ofBytes ((bs.drop (8 + 4 * k)).take 4))
      (ofBytes (bs.take 2), ofBytes ((bs.drop 2).take 2), bs.getD 4 0, bs.getD 5 0, ws) :: parseReplies fuel (bs.drop (8 + 4 * n))

/-- A reply ends the request it answers (R501, R509). -/
def State.frReply (s : State) (p a : Nat) (r : Nat × Nat × Nat × Nat × List Nat) : State :=
  match (s.port p).reqs.find? (fun x => x.node == a && x.seq == r.1 && x.source == r.2.1 && x.op == r.2.2.1 && x.sent.isSome) with
  | some x =>
    let s := s.setPort p (fun q => { q with reqs := q.reqs.filter (fun y => !(y.node == a && y.seq == r.1 && y.source == r.2.1 && y.op == r.2.2.1)) })
    s.frAnswer p x r.2.2.2.1 r.2.2.2.2
  | none => s

/-- A node's record: cause k of kind 0x0D. -/
def State.nodeRec (s : State) (p a k cls : Nat) : State :=
  s.report { org := org 0xD (256 * p + a), cause := 0x0D00 + k, cls := cls, d0 := s.rf FR_CYCLE_CYCLE p, via := some (org 0xC p) }

/-- A node is muted (R513). -/
def State.muteNode (s : State) (p a edge : Nat) : State :=
  let s := (((s.setNodeState p a 3).sf FR_NODE_CLEAN 0 (nodeIdx p a)).bump rFR_MUTE p).frElog p 3 a edge
  ((((s.setPort p (fun q => { q with voids := Map.put q.voids a 0 })).nodeRec p a 2 ochre).frEv p 2)).frDropNode p a

/-- The words of a used slot enter the lanes (R505, R511). -/
def State.slotWords (s : State) (p a : Nat) (pts : List Nat) (words : List Nat) : State :=
  s.each (pts.zip words) (fun s x => s.sampleIn (p * 65536 + a * 256 + x.1) x.2 s.now (s.rf FR_CYCLE_CYCLE p))

/-- A slot frame taken apart (R500). -/
structure SlotHdr where
  node : Nat
  flags : Nat
  points : Nat
  rwords : Nat
  ver : Nat
  words : List Nat
  replies : List Nat
  crcOk : Bool

def parseSlot (bs : List Nat) : SlotHdr :=
  let h := ofBytes (bs.take 8)
  let n := bits h 24 16
  let r := bits h 39 32
  let body := bs.take (8 + 4 * n + 4 * r)
  ⟨bits h 7 0, bits h 15 8, n, r, bits h 55 40, (List.range n).map (fun k => ofBytes ((bs.drop (8 + 4 * k)).take 4)),
   (bs.drop (8 + 4 * n)).take (4 * r),
   decide (bs.length = body.length + 4) && decide (crc32c body = ofBytes (bs.drop body.length))⟩

/-- FLAGS bits of the slot header: LOOPED, RESTARTED, MAINT, SAFE, PROBE, CONFLICT, RESTORED at 0 to 6. -/
def SlotHdr.flag (h : SlotHdr) (k : Nat) : Bool := bit h.flags k

/-- Whether a slot may be used (R511), the edge aside. -/
def State.slotFits (s : State) (p a : Nat) (n : NodeCfg) (h : SlotHdr) : Bool :=
  h.crcOk && h.node == a && h.ver == s.rf FR_STAT_SCHED_VER p && !h.flag 4 &&
  h.points == (duePts n.pts (s.rf FR_CYCLE_CYCLE p)).length && decide (h.rwords ≤ n.rb4)

/-- The flags of the last used slot (R538), and k = 7 on a change of SAFE (R531). -/
def State.slotFlags (s : State) (i p : Nat) (h : SlotHdr) : State :=
  let s := s.when (s.rb FR_NODE_SAFE i != h.flag 3) (fun s => s.frEv p 7)
  (((s.sb FR_NODE_LOOPED (h.flag 0) i).sb FR_NODE_RESTARTED (h.flag 1) i).sb FR_NODE_MAINT (h.flag 2) i).sb FR_NODE_SAFE (h.flag 3) i

/-- A used slot: words, replies, flags (R511, R538). -/
def State.useSlot (s : State) (p a : Nat) (n : NodeCfg) (h : SlotHdr) : State :=
  let i := nodeIdx p a
  let s := (s.bump rFR_SLOT_OK p).pmEvent 0x0901 p
  let s := s.setPort p (fun q => { q with used := q.used ++ [a], voids := Map.put q.voids a 0,
                                          restored := if h.flag 6 then a :: q.restored.filter (· != a) else q.restored.filter (· != a) })
  let s := s.slotWords p a (duePts n.pts (s.rf FR_CYCLE_CYCLE p)) h.words
  (s.each (parseReplies 64 h.replies) (fun s r => s.frReply p a r)).slotFlags i p h

/-- A magnitude of a signed edge. -/
def edgeAbs (e : Int) : Nat := e.natAbs

/-- SLOT_FRAME_RECEIVE (R511-R514, R506): a slot frame arrives in the window of node a with a measured edge error; `viol` code violations were
met on that side, which void it. -/
def State.slotReceive (s : State) (p a : Nat) (sideN : Bool) (viol : Nat) (edge : Int) (bs : List Nat) : State :=
  match (s.port p).cfg a with
  | none => s
  | some n =>
    if s.rf FR_STAT_ROLE p ≠ 2 ∨ (s.port p).closed.contains a then s
    else
      let i := nodeIdx p a
      let h := parseSlot bs
      if viol ≠ 0 then
        (s.bump (if sideN then rFR_CODE_ERR_N else rFR_CODE_ERR_P) p viol).frElog p 4 a 0
      else if !h.crcOk then (s.bump rFR_CRC_ERR p).frElog p 0 a 0
      else
        let twice := (s.port p).heard.contains a
        let s := s.setPort p (fun q => { q with heard := q.heard ++ [a] })
        let e := wrapInt 16 edge
        let s := (s.sf FR_NODE_EDGE_NS e i).sf FR_NODE_EDGE_MAX_NS (max (s.rf FR_NODE_EDGE_MAX_NS i) (satN 16 (edgeAbs edge))) i
        let s := s.when (h.flag 5) (fun s => (s.report { org := org 0xC p, cause := 0x0C02, cls := ochre, d0 := a }).frEv p 5)
        let s := s.when (h.flag 1) (fun s => (s.nodeRec p a 5 slate).frEv p 3)
        if s.rf FR_NODE_STATE i = 3 then
          let s := s.when (h.flag 4) (fun s => s.sb FR_NODE_LOOPED (h.flag 0) i)
          if h.flag 4 && h.node == a && decide (edgeAbs edge ≤ 200) && !twice then
            s.setPort p (fun q => { q with clean := q.clean ++ [a] })
          else s
        else
          let s := s.when (decide (200 < edgeAbs edge)) (fun s =>
            (((s.bump rFR_EDGE_WARN p).frElog p 2 a e).nodeRec p a 1 slate).frEvMs p 1)
          if 320 ≤ edgeAbs edge then s.muteNode p a e
          else if twice then s.setPort p (fun q => { q with used := q.used.filter (· != a) })
          else if s.slotFits p a n h then
            let s := s.useSlot p a n h
            s.when (s.rf FR_NODE_STATE i == 1) (fun s => (s.setNodeState p a 2).frEv p 3)
          else s

/-- A node becomes Absent (R514). -/
def State.absentNode (s : State) (p a : Nat) : State :=
  (((s.setNodeState p a 1).nodeRec p a 4 ochre).frEv p 3).frDropNode p a

/-- The unanswered requests of a node at its window's end (R509). -/
def State.frDeadline (s : State) (p a : Nat) : State :=
  let c := s.rf FR_CYCLE_CYCLE p
  let late := (s.port p).reqs.filter (fun r => r.node == a && !r.resend && (match r.sent with | some x => x != c | none => false))
  let tries := s.rf FR_CFG_RETRIES p
  let gone := late.filter (fun r => decide (tries ≤ r.tries))
  let again := late.filter (fun r => decide (r.tries < tries))
  let s := s.bump rFR_REQ_RETRY p again.length
  let bumpTry := fun (r : FrReq) => if again.contains r then { r with resend := true, tries := r.tries + 1 } else r
  let s := s.setPort p (fun q => { q with reqs := (q.reqs.filter (fun r => !gone.contains r)).map bumpTry })
  s.each gone (fun s r => s.frAnswer p r 0x100 [])

/-- SLOT_WINDOW_CLOSE (R511, R513, R514, R509, R520, 08 R331): void updates for a slot that was not used, and the cycle marker after the last. -/
def State.windowClose (s : State) (p a : Nat) : State :=
  match (s.port p).cfg a with
  | none => s
  | some n =>
    let role := s.rf FR_STAT_ROLE p
    if (role ≠ 2 ∧ role ≠ 3) ∨ (s.port p).closed.contains a then s
    else
      let i := nodeIdx p a
      let c := s.rf FR_CYCLE_CYCLE p
      let s := s.setPort p (fun q => { q with closed := q.closed ++ [a] })
      let muted := s.rf FR_NODE_STATE i == 3
      let s :=
        if (s.port p).used.contains a then s
        else
          let s := (s.bump rFR_SLOT_VOID p).pmEvent 0x0902 p
          let s := s.when (!(s.port p).heard.contains a && role == 2) (fun s => s.frElog p 1 a 0)
          let s := s.each ((duePts n.pts c).filter (fun k => recDef (s.sigRec (p * 65536 + a * 256 + k)))) (fun s k =>
            s.voidIn (p * 65536 + a * 256 + k) s.now c)
          if role = 3 then s
          else if muted then
            if (s.port p).clean.contains a then
              let k := s.rf FR_NODE_CLEAN i + 1
              let s := s.sf FR_NODE_CLEAN k i
              if 16 ≤ k then ((s.setNodeState p a 2).nodeRec p a 3 slate).frEv p 2 else s
            else s.sf FR_NODE_CLEAN 0 i
          else
            let v := Map.getD (s.port p).voids a 0 + 1
            let s := s.setPort p (fun q => { q with voids := Map.put q.voids a v })
            if s.rf FR_CFG_ABSENT_CYCLES p ≤ v ∧ s.rf FR_NODE_STATE i = 2 then s.absentNode p a else s
      let s := if role = 2 then s.frDeadline p a else s
      if s.isLastSlot p a then s.markerIn p c else s

/-- PORT_INPUT_LOSS (R492, R517): the side is silent for 100 us and then sends IDLE; the path follows at the next cycle. -/
def State.portLoss (s : State) (p : Nat) (sideN : Bool) : State :=
  s.setPort p (fun q => if sideN then { q with lostN := true } else { q with lostP := true })

/-- HEAL (R519): every looped node in reach reports RESTORED, and the head-end's own inputs are back. -/
def State.heal (s : State) (p : Nat) (inN inP : Bool) : State :=
  let path := s.rf FR_STAT_PATH p
  let q := s.port p
  if s.rf FR_STAT_ROLE p = 2 ∧ 2 ≤ path ∧ path ≤ 5 ∧ s.rf FR_CFG_HEAL_MS p ≠ 0 ∧ q.healAt = none ∧ q.switchAt = none ∧ inN = true ∧ inP = true ∧
      (s.loopedNodes p).all (fun a => q.restored.contains a) = true then
    s.setPort p (fun q => { q with healAt := some ((s.rf FR_CYCLE_CYCLE p + 4) % 2 ^ 32) })
  else s

/-- A roll-call record (R527). -/
def rollRecord (a : Nat) (head : Bool) (ident points fwRev held : Nat) : List Nat :=
  [a, b2n head, 0, 0] ++ toBytes ident 4 ++ toBytes (points % 512 + fwRev * 65536) 4 ++ toBytes held 4

/-- A roll-call frame with a record appended: count and CRC follow (R527). -/
def appendRoll (f record : List Nat) : List Nat :=
  let b := toBytes (ofBytes (f.take 8) + 1) 8 ++ (f.drop 8).take (f.length - 12) ++ record
  b ++ toBytes (crc32c b) 4

/-- LISTENER_SLOT_RECEIVE (R520): the reference sync frame of the cycle comes with the first valid copy of a slot frame, or, in a discovery cycle,
with the roll-call frame, to which the listener appends its record (R527; a head-end has no VENDOR, MODEL, points and firmware, log 69). -/
def State.listenerSlot (s : State) (p a : Nat) (sync bs : List Nat) : State :=
  let c := ofBytes ((sync.drop 8).take 8)
  let okSync := decide (sync.length = 68) && decide (crc32c (sync.take 64) = ofBytes (sync.drop 64)) && !bit (sync.getD 1 0) 0
  if okSync && bit (sync.getD 1 0) 1 && s.rf FR_STAT_ROLE p == 3 then
    s.emit (.ring p true 4 c (appendRoll bs (rollRecord 0 true 0 0 0 (s.rf FR_STAT_SCHED_VER p))))
  else match (s.port p).cfg a with
  | none => s
  | some n =>
    if s.rf FR_STAT_ROLE p ≠ 3 ∨ okSync = false then s
    else
      let s := if c = s.rf FR_CYCLE_CYCLE p then s
        else (s.lanesBack.sf FR_CYCLE_CYCLE c p).setPort p (fun q => { q with used := [], heard := [], clean := [], closed := [] })
      let h := parseSlot bs
      if !h.crcOk then (s.bump rFR_CRC_ERR p).frElog p 0 a 0
      else if (s.port p).heard.contains a ∨ (s.port p).closed.contains a then s
      else
        let s := s.setPort p (fun q => { q with heard := q.heard ++ [a] })
        if s.slotFits p a n h then
          let s := ((s.bump rFR_SLOT_OK p).pmEvent 0x0901 p).setPort p (fun q => { q with used := q.used ++ [a] })
          (s.slotWords p a (duePts n.pts c) h.words).slotFlags (nodeIdx p a) p h
        else s

end Sys2Proof.Machine
end

