-- ==== Sys2Proof/Machine/RingNode.lean ====
section
/-! DEFINITION. The nodes of the rings (12 R502-R508, R515, R516) and the commissioning of a port (R525-R527). -/

namespace Sys2Proof.Machine

def NodeSt.empty : NodeSt := ⟨none, none, none, false, false, false, false, [], [], [], 0, 0, 0, 0, false, false, 0, []⟩

def State.node (s : State) (k : Nat) : Option NodeSt := Map.find s.fr.nodes k
def State.putNode (s : State) (k : Nat) (n : NodeSt) : State := { s with fr := { s.fr with nodes := Map.put s.fr.nodes k n } }

/-- The output points of the node's schedule. -/
def NodeSt.outs (n : NodeSt) : List Nat := (n.sched.map (fun x => outPts x.pts)).getD []

/-- Every output in the safe action (R507). -/
def NodeSt.safe (n : NodeSt) : NodeSt := { n with words := [] }

/-- A reply entry (R501). -/
def replyEntry (seq source op result : Nat) (dup : Bool) (words : List Nat) : List Nat :=
  toBytes seq 2 ++ toBytes source 2 ++ [op % 256, result, b2n dup, words.length] ++ words.flatMap (fun w => toBytes w 4)

def NodeSt.answer (n : NodeSt) (seq source op result : Nat) (dup : Bool) (words : List Nat) : NodeSt :=
  { n with replies := n.replies ++ [replyEntry seq source op result dup words] }

/-- Words applied to output points: Q 0b10 and 0b11 put a point in the safe action (R507). -/
def NodeSt.apply (n : NodeSt) (l : List (Nat × Nat)) : NodeSt :=
  { n with words := l.foldl (fun w x => if bit x.2 25 then Map.del w x.1 else Map.put w x.1 x.2) n.words }

/-- The first 16 slots after a power-up or a schedule carry RESTARTED (R500). -/
def NodeSt.takeSched (n : NodeSt) (x : NodeSched) : NodeSt := { n with sched := some x, restarted := 16 }

/-! ### The window (R515) -/

def NodeSt.win (n : NodeSt) (source : Nat) : Option Window := n.wins.find? (fun w => w.source == source)

/-- The window of a source becomes the most recently used. -/
def NodeSt.putWin (n : NodeSt) (w : Window) : NodeSt :=
  { n with wins := (w :: n.wins.filter (fun x => x.source != w.source)).take 4 }

/-- A window with a request recorded; what lies more than 31 behind H is forgotten. -/
def Window.record (w : Window) (e : WinEnt) : Window :=
  let h := match w.h with
    | none => e.seq
    | some h => let d := (e.seq + 65536 - h) % 65536; if 1 ≤ d ∧ d ≤ 32767 then e.seq else h
  { w with h := some h, ents := (w.ents.filter (fun x => x.seq != e.seq && decide ((h + 65536 - x.seq) % 65536 ≤ 31))) ++ [e] }

/-- How a SEQ stands to a window: 0 new or late, 1 received before, 2 stale. -/
def Window.judge (w : Window) (s : Nat) : Nat :=
  match w.h with
  | none => 0
  | some h =>
    let d := (s + 65536 - h) % 65536
    if 1 ≤ d ∧ d ≤ 32767 then 0
    else if d = 0 ∨ 65505 ≤ d then (if w.ents.any (fun e => e.seq == s) then 1 else 0)
    else 2

/-- A change of a SEQ's phase in the window. -/
def NodeSt.winPhase (n : NodeSt) (source seq phase : Nat) : NodeSt :=
  let upd := fun (w : Window) =>
    if w.source == source then { w with ents := w.ents.map (fun (e : WinEnt) => if e.seq == seq then { e with phase := phase } else e) } else w
  { n with wins := n.wins.map upd }

def NodeSt.prepPhase (n : NodeSt) (source seq phase : Nat) : NodeSt :=
  let upd := fun (e : PrepEnt) => if e.source == source && e.seq == seq then { e with phase := phase } else e
  ({ n with preps := n.preps.map upd }).winPhase source seq phase

/-- What a request does when it is performed: the node, RESULT, words (R510, R515, R516). -/
def NodeSt.perform (n : NodeSt) (m : NodeMaker) (now source seq op cmd arg count : Nat) (pts : List (Nat × Nat)) : NodeSt × Nat × List Nat :=
  let badOut := pts.any (fun x => !n.outs.contains x.1)
  match op with
  | 1 => if badOut then (n, 0x10, []) else if m.refuse then (n, 0x11, []) else (n.apply pts, 0, [])
  | 2 =>
    let l := (List.range count).map (fun k => arg % 256 + k)
    if l.any (fun k => decide (256 ≤ k) || !bit m.readable.toNat k) then (n, 0x10, [])
    else (n, 0, l.map (fun k => ((m.values.getD k 0).toNat)))
  | 3 =>
    match cmd with
    | 1 => if arg = 0 then (n, 0, [m.ident.toNat]) else (n, 0x16, [])
    | 2 => if arg = 0 then (n, 0, [m.status.toNat]) else (n, 0x16, [])
    | 3 => (n, 0, [0])
    | 0x10 => if arg = 0 then ({ n with maint := true }, 0, [0]) else (n, 0x16, [])
    | 0x11 => if arg = 0 then ({ n with maint := false }, 0, [0]) else (n, 0x16, [])
    | _ => if 0x8000 ≤ cmd then (match m.cmdReply with | some w => (n, 0, [w.toNat]) | none => (n, 0x16, [])) else (n, 0x16, [])
  | 4 =>
    if badOut then (n, 0x10, []) else if m.refuse then (n, 0x11, [])
    else ({ n with preps := n.preps ++ [⟨source, seq, pts, now + arg % 65536 * 1000000, 1⟩] }, 1, [])
  | _ => (n, 0x16, [])

/-- COMMIT and ROLLBACK act on the recorded phase (R516). -/
def NodeSt.settle (n : NodeSt) (source seq : Nat) (commit : Bool) : NodeSt × Nat × Bool :=
  let pe := n.preps.find? (fun (e : PrepEnt) => e.source == source && e.seq == seq)
  let phase := match pe with
    | some e => e.phase
    | none => match (n.win source).bind (fun (w : Window) => w.ents.find? (fun (e : WinEnt) => e.seq == seq)) with
      | some e => e.phase
      | none => 0
  match phase with
  | 1 =>
    if commit then (((n.prepPhase source seq 2).apply ((pe.map (fun (e : PrepEnt) => e.pts)).getD [])), 2, false) else (n.prepPhase source seq 3, 3, false)
  | 2 => (n, 2, true)
  | 3 => if commit then (n, 0x12, false) else (n, 3, true)
  | 4 => if commit then (n, 0x12, false) else (n, 3, true)
  | _ => (n, 0x12, false)

/-- A REQUEST message (R515, R516). -/
def NodeSt.request (n : NodeSt) (m : NodeMaker) (now : Nat) (b : List Nat) : NodeSt :=
  let w := fun (o k : Nat) => ofBytes ((b.drop o).take k)
  let source := w 0 2
  let seq := w 2 2
  let op := w 4 1
  let count := w 5 1
  let arg := w 8 4
  let pts := (List.range count).map (fun k => (w (12 + 8 * k) 1, w (16 + 8 * k) 4))
  let n := n.preps.foldl (fun n e => if e.phase = 1 ∧ e.endAt ≤ now then n.prepPhase e.source e.seq 4 else n) n
  let n := { n with preps := n.preps.filter (fun (e : PrepEnt) => decide (now < e.endAt)) }
  if op = 5 ∨ op = 6 then
    let r := n.settle source seq (op == 5)
    r.1.answer seq source op r.2.1 r.2.2 []
  else match n.win source with
    | none => n.answer seq source op 0x14 false []
    | some win =>
      match win.judge seq with
      | 1 =>
        let e := (win.ents.find? (fun (e : WinEnt) => e.seq == seq)).getD ⟨seq, 0, [], 0⟩
        (n.putWin win).answer seq source op e.result true e.words
      | 2 => (n.putWin win).answer seq source op 0x15 false []
      | _ =>
        if op = 4 ∧ 8 ≤ (n.preps.filter (fun (e : PrepEnt) => e.source == source)).length then n.answer seq source op 0x13 false []
        else
          let r := n.perform m now source seq op (w 6 2) arg count pts
          let e : WinEnt := ⟨seq, r.2.1, r.2.2, if op = 4 ∧ r.2.1 = 1 then 1 else 0⟩
          (r.1.putWin (win.record e)).answer seq source op r.2.1 false r.2.2

/-- A MGMT message (R499). -/
def NodeSt.mgmt (n : NodeSt) (b : List Nat) : NodeSt :=
  let w := fun (o k : Nat) => ofBytes ((b.drop o).take k)
  let sub := w 0 1
  let n := match sub with
    | 1 => n.takeSched ⟨w 4 2, w 6 1 % 4, w 7 1, w 8 4, w 12 1, w 14 2, (b.drop 16).take 256⟩
    | 2 => n.putWin ⟨w 4 2, none, []⟩
    | 3 => { n with sched := none, ref := none, sendDue := false }.safe
    | _ => n
  n.answer 0 0 (0x80 + sub) (if 1 ≤ sub ∧ sub ≤ 3 then 0 else 0x16) false []

/-- An OUTPUTS message: a word per output point (R507). -/
def NodeSt.outputs (n : NodeSt) (b : List Nat) : NodeSt :=
  let o := n.outs
  let ws := (List.range (ofBytes (b.take 2) % 512)).map (fun k => ofBytes ((b.drop (4 + 4 * k)).take 4))
  if ws.length = o.length then { n.apply (o.zip ws) with missed := 0 } else n

/-- The messages of an outbound frame: node, TYPE, body, those with a good CRC only (R498). -/
def parseMsgs : Nat → List Nat → List (Nat × Nat × List Nat)
  | 0, _ => []
  | fuel + 1, bs =>
    let len := ofBytes ((bs.drop 2).take 2)
    if bs.length < 8 ∨ len < 8 ∨ bs.length < len then []
    else
      let m := bs.take len
      let rest := parseMsgs fuel (bs.drop len)
      if crc32c (m.take (len - 4)) = ofBytes (m.drop (len - 4)) then (m.getD 0 0, m.getD 1 0, (m.take (len - 4)).drop 4) :: rest else rest

/-- The messages for one node, in order (R502). -/
def NodeSt.messages (n : NodeSt) (a : Nat) (m : NodeMaker) (now : Nat) (outb : List Nat) : NodeSt :=
  (parseMsgs (outb.length / 8 + 1) outb).foldl (fun n x =>
    if x.1 ≠ a then n
    else match x.2.1 with
      | 1 => n.outputs x.2.2
      | 2 => n.request m now x.2.2
      | 3 => n.mgmt x.2.2
      | _ => n) n

/-- NODE_SYNC_RECEIVE (R502, R506, R507, R519, R527): a sync frame reaches the node with what follows it. -/
def State.nodeSync (s : State) (p a : Nat) (sync outb roll : List Nat) (m : NodeMaker) : State :=
  match s.node (p * 256 + a) with
  | none => s
  | some n =>
    let valid := decide (sync.length = 68) && decide (crc32c (sync.take 64) = ofBytes (sync.drop 64)) && sync.getD 0 0 == 1
    let f := sync.getD 1 0
    if valid = false ∨ bit f 0 then s
    else
      let w := fun (o k : Nat) => ofBytes ((sync.drop o).take k)
      let c := w 8 8
      let master := w 6 2 % 2
      let at_ := w 28 4
      let isRef := match n.ref with
        | none => true
        | some (c0, _) => decide (c0 < c) || (c != c0 && (match n.afterSwitch with | some x => (c0 + 1) % 2 ^ 32 == x | none => false))
      if !isRef then
        (match n.ref with
         | some (c0, m0) => if c = c0 ∧ master ≠ m0 then s.putNode (p * 256 + a) { n with conflict := true, skip := true } else s
         | none => s)
      else
        let due := match n.sched with | some x => x.ver == w 4 2 | none => false
        let unloop := bit f 2 && c % 2 ^ 32 == at_
        let n := { n with ref := some (c, master), skip := false, sendDue := due, muted := bit (w 32 32) a,
                          afterSwitch := if bit f 3 then some at_ else if c = 0 then none else n.afterSwitch,
                          looped := if unloop then 0 else n.looped, lost := if unloop then 0 else n.lost,
                          restored := if unloop then false else n.restored, missed := n.missed + 1 }
        let n := n.messages a m s.now outb
        let s := s.putNode (p * 256 + a) n
        s.when (bit f 1) (fun s => s.emit (.node p a 4 c (appendRoll roll (rollRecord a false m.ident.toNat m.points.toNat m.fwRev.toNat ((n.sched.map (·.ver)).getD 0)))))

/-- NODE_SLOT_SEND (R500, R503, R505, R513): the words are the due points' samples. -/
def State.nodeSlot (s : State) (p a : Nat) (samples : List Nat) : State :=
  match s.node (p * 256 + a) with
  | none => s
  | some n =>
    match n.sched, n.ref with
    | some x, some (c, _) =>
      if !n.sendDue || n.skip then s
      else
        let due := if n.muted then [] else duePts x.pts c
        let rep := if n.muted then ([], n.replies) else fitFirst n.replies (4 * x.rb4)
        let safe := n.outs.any (fun k => (Map.find n.words k).isNone)
        let rb := rep.1.flatten
        let flags := b2n (n.looped != 0) + 2 * b2n (n.restarted != 0) + 4 * b2n n.maint + 8 * b2n safe + 16 * b2n n.muted +
          32 * b2n n.conflict + 64 * b2n n.restored
        let h := [a, flags] ++ toBytes due.length 2 ++ toBytes (rb.length / 4 + x.ver * 256) 4
        let body := h ++ (List.range due.length).flatMap (fun k => toBytes (samples.getD k 0x03000000) 4) ++ rb
        let s := s.putNode (p * 256 + a) { n with sendDue := false, conflict := false, restarted := n.restarted - 1, replies := rep.2 }
        s.emit (.node p a 3 c (body ++ toBytes (crc32c body) 4))
    | _, _ => s

/-- NODE_SYNC_TIMEOUT (R504): no slot for the missing cycle. -/
def State.nodeTimeout (s : State) (p a : Nat) : State :=
  match s.node (p * 256 + a) with
  | none => s
  | some n => s.putNode (p * 256 + a) { n with sendDue := false, missed := n.missed + 1 }

/-- NODE_INPUT_LOSS (R492): silence for 100 us on that side, then IDLE; the stream of the other side is looped. -/
def State.nodeLoss (s : State) (p a : Nat) (sideN : Bool) : State :=
  match s.node (p * 256 + a) with
  | none => s
  | some n =>
    let k := if sideN then 1 else 2
    s.putNode (p * 256 + a) { n with lost := n.lost ||| k, looped := n.looped ||| k, silentUntil := s.now + 100000, restored := false }

/-- NODE_INPUT_RESTORED (R492): reported in the slot header; the node stays looped. -/
def State.nodeRestored (s : State) (p a : Nat) : State :=
  match s.node (p * 256 + a) with
  | none => s
  | some n => if n.looped = 0 then s else s.putNode (p * 256 + a) { n with lost := 0, restored := true }

/-- NODE_POWER_UP (R502, R507, R516): windows and schedule are in non-volatile storage, prepared values are not. -/
def State.nodePower (s : State) (p a : Nat) : State :=
  let n := (s.node (p * 256 + a)).getD NodeSt.empty
  let n := n.preps.foldl (fun n e => if e.phase = 1 then n.prepPhase e.source e.seq 4 else n) n
  s.putNode (p * 256 + a) { n.safe with ref := none, afterSwitch := none, sendDue := false, muted := false, conflict := false, skip := false,
                                        missed := 0, lost := 0, looped := 0, restored := false, maint := false, restarted := 16, replies := [] }

/-- OUTPUT_HOLD_EXPIRY (R507). -/
def State.nodeHold (s : State) (p a : Nat) : State :=
  match s.node (p * 256 + a) with
  | none => s
  | some n =>
    match n.sched with
    | some x => if x.hold ≤ n.missed then s.putNode (p * 256 + a) n.safe else s
    | none => s.putNode (p * 256 + a) n.safe

/-- PREPARE_HOLD_EXPIRY (R516). -/
def State.prepExpire (s : State) (p a source seq : Nat) : State :=
  match s.node (p * 256 + a) with
  | none => s
  | some n =>
    if n.preps.any (fun e => e.source == source && e.seq == seq && e.phase == 1) then s.putNode (p * 256 + a) (n.prepPhase source seq 4) else s

/-! ### Commissioning (R525-R527) -/

/-- The records of a roll-call frame; none where its CRC fails. -/
def parseRolls (f : List Nat) : List Roll :=
  let n := ofBytes (f.take 2) % 512
  if f.length ≠ 12 + 16 * n ∨ crc32c (f.take (8 + 16 * n)) ≠ ofBytes (f.drop (8 + 16 * n)) then []
  else (List.range n).map (fun k =>
    let w := fun (o m : Nat) => ofBytes ((f.drop (8 + 16 * k + o)).take m)
    (⟨w 0 1, bit (w 1 1) 0, w 4 4, w 8 2 % 512, w 10 2, w 12 2⟩ : Roll))

/-- The port stops: Off, no schedule, its requests at an end. -/
def State.portOff (s : State) (p : Nat) : State :=
  let s := (s.frDropAll p).setPort p (fun q => { q with tbl := none, used := [], heard := [], clean := [], closed := [], voids := [], restored := [],
                                                        mgmt := [], lostN := false, lostP := false, healAt := none, switchAt := none, discover := false, comm := none })
  let s := s.each (List.range 256) (fun s a => s.wreg rFR_NODE (nodeIdx p a) 0)
  ((s.countNodes p).setRole p 0).setPath p 0

/-- A step's end is shown (R525, R535, R531). -/
def State.commStep (s : State) (p : Nat) (c : Cmd) (step pos : Nat) : State :=
  (((s.sf FR_COMM_STEP step p).sf FR_COMM_POS pos p).frEv p 4).longPos c pos

/-- A commissioning ends (R525, R526). -/
def State.commEnd (s : State) (p : Nat) (c : Cmd) (status code node : Nat) : State :=
  let s := if status = stOK then (s.mirrorCmd c).setPort p (fun q => { q with comm := none }) else s.portOff p
  let s := (((s.sf FR_COMM_BUSY 0 p).sf FR_COMM_STEP 0 p).sf FR_COMM_RESULT code p).sf FR_COMM_NODE node p
  (s.frEv p 4).finish c status (if status = stOK then [] else [code, node])

/-- A port takes the Listener role under a ring table and its version (16 R667 step 5, R520). -/
def State.listenerPort (s : State) (p ver : Nat) (t : RingTbl) : State :=
  let s := (s.portOff p).setPort p (fun q => { q with tbl := some t })
  let s := ((s.sf FR_STAT_CYC t.cyc p).sf FR_STAT_SOURCE t.source p).sf FR_STAT_SCHED_VER ver p
  let s := (s.sf FR_BUDGET_USED_NS t.used p).sf FR_BUDGET_OUT_BYTES t.outBytes p
  let s := s.each t.nodes (fun s n =>
    (s.sf FR_NODE_STATE 2 (nodeIdx p n.addr)).sf FR_NODE_POINTS (slotMax n.pts) (nodeIdx p n.addr))
  let s := ((s.countNodes p).setRole p 3).digestZero p
  { s with sg := { s.sg with pairs := Map.put s.sg.pairs p [(s.rf FR_CYCLE_CYCLE p, 0)] } }

/-- Step 1 (R525). -/
def State.commStart (s : State) (c : Cmd) (table : List Nat) : State :=
  let p := c.p 0 % 32
  if 1000 ≤ c.src then
    match parseTable table with
    | some t => (s.listenerPort p (s.rf FR_STAT_SCHED_VER p % 0xFFFF + 1) t).finish c stOK
    | none => s.finish c stBAD_PARAM
  else if s.rf FR_STAT_ROLE p = 3 then ((s.sf FR_COMM_RESULT 7 p).sf FR_COMM_NODE 0 p).finish c stDENIED [7, 0]
  else if c.p 3 ≠ 69696 then s.commEnd p c stBAD_PARAM 8 0
  else match parseTable table with
    | none => s.commEnd p c stBAD_PARAM 8 0
    | some t =>
      let old := ((s.port p).tbl.map (·.nodes)).getD []
      let s := (s.portOff p).digestZero p
      let quiet := old.flatMap (fun n => let k := outPts n.pts; if k.isEmpty then [] else [outputsMsg n.addr (k.map (fun _ => 0x03000000))])
      let s := s.setPort p (fun q => { q with mgmt := quiet ++ (List.range 256).map stopMsg, comm := some ⟨c.seq, bit (c.p 0) 8, t, [], [], 0⟩ })
      let total := 5 + t.nodes.length
      let s := ((s.sf FR_STAT_CYC 3 p).setRole p 1)
      let s := ((((s.sf FR_COMM_BUSY 1 p).sf FR_COMM_STEP 1 p).sf FR_COMM_RESULT 0 p).sf FR_COMM_NODE 0 p).sf FR_COMM_TOTAL total p
      (s.sf FR_COMM_POS 0 p).longPhase c 2 total []

/-- Steps 2 and 3: the first roll call's records and the checks of R526. -/
def State.commCheck (s : State) (p : Nat) (c : Cmd) (m : Comm) (rolls : List Roll) : State :=
  let nodes := rolls.filter (fun r => !r.headend)
  let t := m.tbl
  let twice := nodes.find? (fun r => decide (1 < (nodes.filter (fun x => x.addr == r.addr)).length))
  let bad := t.nodes.find? (fun n => match nodes.find? (fun r => r.addr == n.addr) with
    | none => m.strict
    | some r => n.expect != 0 && n.expect != r.ident)
  let closed := s.rf FR_LOOP_LOOP_NS p
  let s := s.sf FR_LOOP_CLOSED_NS closed p
  let ins := s.definedSids.filter (fun i => !recOut (s.sigRec i))
  match twice, bad with
  | some r, _ => s.commEnd p c stBAD_PARAM 3 r.addr
  | none, some n => s.commEnd p c stBAD_PARAM 2 n.addr
  | none, none =>
    if 32768 < t.outBytes ∨ cycNs t.cyc < t.used then s.commEnd p c stBAD_PARAM 4 0
    else if cycNs t.cyc / 2 - 10000 < closed ∨ rolls.dropLast.any (fun r => r.headend) = true then s.commEnd p c stBAD_PARAM 5 0
    else if s.overBudget ins (fun q => if q = p then some t else (s.port q).tbl) then s.commEnd p c stNO_RESOURCE 6 0
    else
      let ver := s.rf FR_STAT_SCHED_VER p % 0xFFFF + 1
      let msgs := t.nodes.flatMap (fun n => [resetWinMsg n.addr t.source, setSchedMsg t ver n])
      let s := s.setPort p (fun q => { q with discover := false, order := nodes.map (·.addr), mgmt := msgs, comm := some { m with rolls := rolls } })
      s.commStep p c 4 3

/-- RING_COMMISSION under way: the next step, with the roll-call frame that came back if the step reads one. -/
def State.commNext (s : State) (c : Cmd) (roll : List Nat) : State :=
  let p := c.p 0 % 32
  match (s.port p).comm with
  | none => s
  | some m =>
    let n := m.tbl.nodes.length
    match s.rf FR_COMM_STEP p with
    | 1 => (s.setPort p (fun q => { q with discover := true })).commStep p c 2 1
    | 2 => (s.commStep p c 3 2).commCheck p c m (parseRolls roll)
    | 4 =>
      if !(s.port p).discover then (s.setPort p (fun q => { q with discover := true })).commStep p c 4 (3 + n)
      else
        let ver := s.rf FR_STAT_SCHED_VER p % 0xFFFF + 1
        let conf := (parseRolls roll).filter (fun r => !r.headend && r.held == ver) |>.map (·.addr)
        match m.tbl.nodes.find? (fun x => !conf.contains x.addr && m.strict) with
        | some x => s.commEnd p c stBAD_PARAM 2 x.addr
        | none =>
          let ok := (m.tbl.nodes.map (·.addr)).filter (fun a => conf.contains a)
          let s := s.setPort p (fun q => { q with discover := false, switchAt := some ((s.rf FR_CYCLE_CYCLE p + 8) % 2 ^ 32),
                                                  comm := some { m with confirmed := ok } })
          s.commStep p c 5 (4 + n)
    | 5 =>
      if s.rf FR_STAT_ROLE p = 2 ∧ (s.port p).switchAt = none then
        (s.setPort p (fun q => { q with comm := q.comm.map (fun x => { x with good := 0 }) })).commStep p c 6 (5 + n)
      else s
    | 6 => if 16 ≤ m.good then s.commEnd p c stOK 1 0 else s
    | _ => s

/-- A last cycle of the Commissioning role, which carries STOP to every node (R525, log 64). -/
def State.stopCycle (s : State) (p : Nat) : State :=
  if !s.drives ∨ s.rf FR_STAT_ROLE p ≠ 1 then s
  else
    let n := (s.rf FR_CYCLE_CYCLE p + 1) % 2 ^ 64
    let s := s.sf FR_CYCLE_CYCLE n p
    let side := s.rf FR_STAT_PATH p != 3
    (s.emit (.ring p side 1 n (s.syncBytes p false false (0, 0, 0) false n))).emit (.ring p side 2 n ((List.range 256).flatMap stopMsg))

/-- OP_CANCEL of a commissioning: before step 5 it leaves the port Off with every node stopped (R525). -/
def State.commCancel (s : State) (c : Cmd) : State :=
  let p := c.p 0 % 32
  if s.rf FR_COMM_STEP p < 5 then (s.stopCycle p).commEnd p c stCANCELLED 0 0 else s

end Sys2Proof.Machine
end

