-- ==== Sys2Proof/Machine/Channel.lean ====
section
/-! DEFINITION. Logical channels (11 R420-R425), chains and their check (R426-R429), final states and completions (R436-R442, R463, R468). -/

namespace Sys2Proof.Machine

/-! ### Channels -/

/-- A channel's definition block (R422) and a field of it. -/
def State.cdef (s : State) (c : Nat) : Nat := Map.getD s.ch.defs c 0
def dfld (d off hi lo : Nat) : Nat := bits d (8 * off + hi) (8 * off + lo)

def State.chanKind (s : State) (c : Nat) : Nat := dfld (s.cdef c) 0 15 12

/-- Whether what a channel needs is running (R486): its ports in the Master or Listener role, its link up, its Ethernet port's link up, its LOOP
target not destroyed. -/
def State.chanUp (s : State) (c : Nat) : Bool :=
  let d := s.cdef c
  match s.chanKind c with
  | 0 => (List.range 32).all (fun p => !bit (dfld d 4 31 0) p || s.rf FR_STAT_ROLE p == 2 || s.rf FR_STAT_ROLE p == 3)
  | 1 => s.rf PX_LINK_STAT_STATE (dfld d 4 3 0) == 4
  | 2 => s.rb NT_STAT_LINK (dfld d 4 1 0) && s.rb NT_CFG_EN (dfld d 4 1 0)
  | _ => !s.ch.dead.contains c

def State.setChanState (s : State) (c st : Nat) : State :=
  if s.rf CH_CHAN_STATE c = st then s else (s.sf CH_CHAN_STATE st c).raise 0x298

/-- The processor that serves another's channels (R473): itself when Up, else the next Up one in order. -/
def State.procHome (s : State) (n : Nat) : Nat :=
  (((List.range 16).map (fun k => (n + k) % 16)).find? (fun m => s.rf CH_PROC_STAT_STATE m == 0)).getD n

/-- A channel whose processor is Up and carries transactions of it: it moves back to its own processor between transactions (R473). -/
def State.chanBusy (s : State) (c : Nat) : Bool :=
  s.rf CH_PROC_STAT_STATE (s.rf CH_CHAN_PROC c) == 0 && s.ch.txns.any (fun (t : Txn) => t.chan == c && decide (2 ≤ t.state) && decide (t.state ≤ 4))

/-- The channel registers follow (R477, R483, R486). -/
def State.chSync (s : State) : State :=
  let cs := Map.keys s.ch.defs
  let s := s.each cs (fun s c =>
    let st := s.rf CH_CHAN_STATE c
    let s := if st = 1 ∨ st = 3 then s.setChanState c (if s.chanUp c then 1 else 3) else s
    s.sf CH_CHAN_OUTSTANDING (s.ch.txns.filter (fun (t : Txn) => t.chan == c)).length c)
  let s := s.sf CH_STAT_DEFINED cs.length
  let up := (List.range 16).foldl (fun v n => if s.rf CH_PROC_STAT_STATE n = 0 then v + 2 ^ n else v) 0
  let s := s.sf CH_STAT_PROC_UP up
  let s := s.each (List.range 16) (fun s n =>
    let home := s.procHome n
    let s := s.sf CH_PROC_STAT_HOME home n
    let s := s.each (cs.filter (fun c => c % 16 == n && !s.chanBusy c)) (fun s c => s.sf CH_CHAN_PROC home c)
    s)
  s.each (List.range 16) (fun s n =>
    let s := s.sf CH_PROC_STAT_CHANNELS (cs.filter (fun c => s.rf CH_CHAN_PROC c == n)).length n
    s.sf CH_PROC_STAT_ACTIVE (s.ch.txns.filter (fun (t : Txn) => decide (2 ≤ t.state) && decide (t.state ≤ 4) && s.rf CH_CHAN_PROC t.chan == n)).length n)

/-- The processor of a channel is Up. -/
def State.procUp (s : State) (c : Nat) : Bool := s.rf CH_PROC_STAT_STATE (s.rf CH_CHAN_PROC c) == 0

/-- The unit that acts for a channel's transactions. -/
def State.chanOrg (s : State) (c : Nat) : Nat := org 8 (s.rf CH_CHAN_PROC c)

/-! ### CCEs (R426) -/

def ccOp (c : Nat) : Nat := bits c 7 0
def ccChain (c : Nat) : Bool := bit c 8
def ccImm (c : Nat) : Bool := bit c 9
def ccAtomic (c : Nat) : Bool := bit c 10
def ccChan (c : Nat) : Nat := bits c 25 16
def ccTag (c : Nat) : Nat := bits c 47 32
def ccCount (c : Nat) : Nat := bits c 63 48
def ccLen (c : Nat) : Nat := bits c 95 64
def ccNode (c : Nat) : Nat := bits c 111 104
def ccPort (c : Nat) : Nat := bits c 116 112
def ccAddr (c : Nat) : Nat := bits c 191 128
def ccArg (c : Nat) : Nat := bits c 255 192

/-- Reserved bits of a CCE, and the fields that only a first CCE has (R426). -/
def ccReserved (c : Nat) (first : Bool) : Bool :=
  bits c 15 11 != 0 || bits c 31 26 != 0 || bits c 127 117 != 0 || bits c 103 96 != 0 || (!first && (ccChan c != 0 || ccTag c != 0))

/-- Whether one CCE is malformed on a channel of definition d (R427, R428). -/
def ccBad (d : Nat) (c : Nat) : Bool :=
  let kind := dfld d 0 15 12
  let size := if kind = 3 then dfld d 0x10 31 0 else dfld d 0x10 63 0
  let span := fun (n : Nat) => decide (ccArg c + n ≤ size)
  let onRing := kind == 0 && bit (dfld d 4 31 0) (ccPort c)
  let onWindow := kind == 1 || kind == 3
  decide (0x4000000 < ccLen c) ||
  match ccOp c with
  | 0x01 => !(onRing && (if ccImm c then ccCount c == 1 && ccAddr c == 0 else decide (1 ≤ ccCount c) && decide (ccCount c ≤ 32)))
  | 0x02 => !(onRing && decide (1 ≤ ccCount c) && decide (ccCount c ≤ 32) && decide (ccArg c % 256 + ccCount c ≤ 256))
  | 0x03 => !onRing
  | 0x08 => !(kind == 0 && decide (1 ≤ ccCount c) && decide (ccCount c ≤ 64))
  | 0x10 => !(onWindow && span (ccLen c) && (!ccImm c || (decide (1 ≤ ccLen c) && decide (ccLen c ≤ 8))))
  | 0x11 => !(onWindow && span (ccLen c) && decide (1 ≤ ccLen c))
  | 0x12 => !(onWindow && span 8 && ccArg c % 8 == 0)
  | 0x20 => !(kind == 2 && decide (1 ≤ ccLen c))
  | 0x21 => !(kind == 2 && decide (1 ≤ ccLen c))
  | 0x30 => false
  | _ => true

/-- Whether every GROUP is followed by exactly COUNT segments (R428). -/
def groupsOk : Nat → List Nat → Bool
  | 0, _ => true
  | _ + 1, [] => true
  | fuel + 1, c :: r =>
    if ccOp c = 8 then
      decide (ccCount c ≤ r.length) && (r.take (ccCount c)).all (fun x => ccOp x == 1) && groupsOk fuel (r.drop (ccCount c))
    else groupsOk fuel r

/-- A malformed chain (R428), its last case aside. -/
def chainBad (d : Nat) (cs : List Nat) : Bool :=
  decide (256 < cs.length) || cs.zipIdx.any (fun x => ccReserved x.1 (x.2 == 0) || ccBad d x.1) || !groupsOk 257 cs ||
  (cs.any (fun c => ccOp c == 0x21) && cs.length != 1) || (match cs.getLast? with | some c => ccChain c | none => true)

/-- CCE k of a chain (R429-R431, R434): its 256 bits, or the reason the read fails. A chain that runs past its payload is malformed. DESIGN CHOICE
(log 71): an address error (01 R25), for which the list of reasons has no code, is UNREADABLE. -/
def State.readCce (s : State) (agent : Nat) (t : Txn) (k : Nat) : State × Except Nat Nat :=
  let get := fun (a : Nat) => match s.ioRead agent t.inst t.gen a 32 with
    | (s, .ok v) => (s, Except.ok v)
    | (s, .error e) => (s, Except.error (if e = 3 then 5 else 2))
  match t.loc with
  | .ring d first =>
    let q := qIdx t.inst 0 0 d
    get (s.rf IP_Q_CFG_BASE q * 4096 + (first + k) % 2 ^ s.rf IP_Q_CFG_LOG2 q * 32)
  | .mem _ tpa => get (tpa + 32 * k)
  | .host pay => if 32 * (k + 1) ≤ pay.length then (s, .ok (ofBytes ((pay.drop (32 * k)).take 32))) else (s, .error 1)

/-- The chain from CCE k on. -/
def State.readChain (s : State) (agent : Nat) (t : Txn) (k : Nat) : Nat → State × Except Nat (List Nat)
  | 0 => (s, .ok [])
  | fuel + 1 =>
    match s.readCce agent t k with
    | (s, .error e) => (s, .error e)
    | (s, .ok c) =>
      if ccChain c then
        match s.readChain agent t (k + 1) fuel with
        | (s, .ok l) => (s, .ok (c :: l))
        | (s, .error e) => (s, .error e)
      else (s, .ok [c])

/-- An FWRITE's points and words: from the CCE, or the list at ADDR; the Operator Host's lists arrive through the Management Port. -/
def State.readList (s : State) (agent : Nat) (t : Txn) (c : Nat) (host : List Nat) : State × Except Nat (List (Nat × Nat)) :=
  let entries := fun (v : Nat) => (List.range (ccCount c)).map (fun k => (bits v (64 * k + 7) (64 * k), bits v (64 * k + 63) (64 * k + 32)))
  let clean := fun (v : Nat) => (List.range (ccCount c)).all (fun k => bits v (64 * k + 31) (64 * k + 8) == 0)
  if ccOp c ≠ 1 then (s, .ok [])
  else if ccImm c then (s, .ok [(bits (ccArg c) 39 32, bits (ccArg c) 31 0)])
  else if t.host then (if clean (ofBytes host) then (s, .ok (entries (ofBytes host))) else (s, .error 1))
  else match s.ioRead agent t.inst t.gen (ccAddr c) (8 * ccCount c) with
    | (s, .ok v) => if clean v then (s, .ok (entries v)) else (s, .error 1)
    | (s, .error e) => (s, .error (if e = 3 then 5 else 2))

/-- The lists of a chain's FWRITEs, in order. -/
def State.readLists (s : State) (agent : Nat) (t : Txn) : List Nat → List (List Nat) → State × Except Nat (List (List (Nat × Nat)))
  | [], _ => (s, .ok [])
  | c :: r, hs =>
    let fromHost := ccOp c == 1 && !ccImm c && t.host
    match s.readList agent t c (if fromHost then hs.headD [] else []) with
    | (s, .error e) => (s, .error e)
    | (s, .ok l) =>
      match s.readLists agent t r (if fromHost then hs.drop 1 else hs) with
      | (s, .ok ls) => (s, .ok (l :: ls))
      | (s, .error e) => (s, .error e)

/-! ### Final states -/

/-- Whether a transaction's generation is no longer its instance's (R441, R468). -/
def State.txnStale (s : State) (t : Txn) : Bool := !t.host && (s.gen t.inst != t.gen || s.ist t.inst == 0)

/-- The completion entry of R439. -/
def Txn.entry (t : Txn) : Nat :=
  ccTag (t.ccs.headD 0) + t.fin * 2 ^ 16 + t.reason * 2 ^ 24 + t.doneCce * 2 ^ 32 + t.tid * 2 ^ 64 + t.done % 2 ^ 64 * 2 ^ 128 + t.x18 % 2 ^ 64 * 2 ^ 192

/-- An orphan's event entry, TYPE 0x20 (R468). -/
def Txn.orphanEntry (t : Txn) : Nat :=
  0x20 + t.fin * 2 ^ 8 + t.reason * 2 ^ 24 + t.doneCce * 2 ^ 32 + t.tid * 2 ^ 64 + t.done % 2 ^ 64 * 2 ^ 128 + t.x18 % 2 ^ 64 * 2 ^ 192

/-- One more orphan (R468, R474). -/
def State.orphanCount (s : State) : State :=
  let n := s.rf CH_ORPHAN_COUNT + 1
  (s.sf CH_ORPHAN_COUNT n).when (n == 1 || n % 4096 == 0) (fun s => s.raise 0x294)

/-- A segment's word of the result array (R463). -/
def Seg.resultWord (g : Seg) : Nat :=
  match g.st with
  | 3 => 0
  | 2 => 2
  | 5 => 3 + g.reason * 256
  | _ => 1 + g.reason * 256

/-- The result array of the group in progress joins those to write. -/
def Txn.addArray (t : Txn) : Txn :=
  let c := t.ccs.getD t.cce 0
  if ccOp c = 8 ∧ !t.segs.isEmpty then { t with arrays := t.arrays ++ [(ccArg c, t.segs.map Seg.resultWord)] } else t

/-- The result arrays, written once (R463). One that is refused is lost. -/
def State.writeArrays (s : State) (t : Txn) : State :=
  if s.txnStale t then s
  else s.each t.arrays (fun s a =>
    let bs := a.2.flatMap (fun w => toBytes w 4)
    if t.host then (s.hostWrite a.1 bs).1
    else (s.ioWrite (s.chanOrg t.chan) t.inst t.gen a.1 bs.length (ofBytes bs)).1)

/-- The completion slot that FINAL reserves (R441): behind those that wait in the same queue. -/
def State.reserveSlot (s : State) (t : Txn) : Nat :=
  let ahead := (s.ch.txns.filter (fun (x : Txn) => x.state == 5 && !x.orphan && x.host == t.host && x.tid != t.tid &&
    (t.host || (x.inst == t.inst && x.queue == t.queue)))).length
  if t.host then (ptrPos (s.reg rCH_HOST_CQ_TAIL 0) (s.rf CH_HOST_CQ_CFG_SIZE) + ahead) % 2 ^ s.rf CH_HOST_CQ_CFG_SIZE
  else (s.qTail (qIdx t.inst 0 1 t.queue) + ahead) % 2 ^ s.rf IP_Q_CFG_LOG2 (qIdx t.inst 0 1 t.queue)

/-- FINAL (R436, R440, R448, R466, R468): the state is journaled, counted and reported; a transaction whose generation is gone is an orphan, and one
that ends `late`, after its instance's drain, posts its event. -/
def State.finalTxn (s : State) (t : Txn) (fin reason bad : Nat) : State :=
  let late := t.cancel == 2
  let orphan := s.txnStale t
  let c := t.ccs.getD t.cce 0
  let t := { t with state := 5, fin := fin, reason := reason, begun := false, flush := false, orphan := orphan, finJsn := s.ch.jsn,
                    x18 := if ccOp c = 0x21 ∧ t.chan < 1024 then t.peer else s.now }
  let t := { t with slot := if orphan then none else some (s.reserveSlot t) }
  let s := (s.jrn t 6 bad).writeArrays t
  let s := if fin = 1 then s.bump rCH_FAIL_CNT else if fin = 2 then s.bump rCH_CANCEL_CNT else s
  let s := if t.chan < 1024 then (s.bump rCH_PROC_TXN (s.rf CH_CHAN_PROC t.chan)).pmEvent 0x0601 (s.rf CH_CHAN_PROC t.chan) (some t.inst) else s
  let s := s.when (fin == 1 && (reason == 0xA || reason == 0x11)) (fun s => s.raise 0x29B)
  let s := s.each (s.mp.cmds.filter (fun (d : Cmd) => d.op == 0x0305 && d.phase == 2 && !d.lop.items.isEmpty && d.p64 0 == t.tid)) (fun s d => s.finish d stOK [0])
  if orphan then
    let s := s.orphanCount
    if late && s.ist t.inst != 0 then s.eqPost t.inst (s.gen t.inst) t.orphanEntry else s
  else s

/-- POSTED is committed, and the transaction is retired (R436). -/
def State.retire (s : State) (t : Txn) (bad : Nat) : State :=
  let s := s.jrn { t with state := 6 } 7 bad
  { s with ch := { s.ch with txns := s.ch.txns.filter (fun (x : Txn) => x.tid != t.tid) } }.jrnSync

/-- Whether a FINAL transaction is the oldest of its completion queue. -/
def State.firstFinal (s : State) (t : Txn) : Bool :=
  !s.ch.txns.any (fun (x : Txn) => x.state == 5 && !x.orphan && x.host == t.host && (t.host || (x.inst == t.inst && x.queue == t.queue)) &&
    decide (x.finJsn < t.finJsn))

/-- COMPLETION_WRITE (R441, R442): the oldest FINAL transaction of its queue; a refused write is tried again 1 ms later (R830). -/
def State.completionWrite (s : State) (t : Txn) (retry : Bool) (bad : Nat) : State :=
  if t.state ≠ 5 ∨ t.orphan ∨ s.jrnOn = false ∨ s.isStandby then s
  else if s.txnStale t then ((s.bump rTN_STALE t.inst).jrn { t with orphan := true, slot := none, finJsn := s.ch.jsn } 6 bad).orphanCount
  else if !s.firstFinal t then s
  else if t.host then
    let lg := s.rf CH_HOST_CQ_CFG_SIZE
    let tail := ptrPos (s.reg rCH_HOST_CQ_TAIL 0) lg
    let n := ptrDist (ptrPos (s.reg rCH_HOST_CQ_HEAD 0) lg) tail lg
    if !s.rb CH_HOST_CQ_CFG_EN || decide (2 ^ lg ≤ n) || !s.mp.busMaster then s
    else
      let s := (s.hostWrite (s.rf CH_HOST_CQ_BASE_BASE * 64 + tail % 2 ^ lg * 32) (toBytes t.entry 32)).1
      let s := (s.wreg rCH_HOST_CQ_TAIL 0 (ptrVal (tail + 1) lg)).raise 0x299
      (s.when (n + 1 == 2 ^ lg) (fun s => s.raise 0x29A)).retire t bad
  else if s.now < t.notBefore ∧ retry = false then s
  else match s.cplTry (s.chanOrg t.chan) t.inst t.gen 0 t.queue t.entry with
    | (s, .posted) => s.retire t bad
    | (s, .refused) => s.putTxn { t with notBefore := s.now + 1000000 }
    | (s, _) => s

end Sys2Proof.Machine
end

