-- ==== Sys2Proof/Machine/ChanRun.lean ====
section
/-! DEFINITION. What channel processors do with transactions (11 R424, R437, R453-R465): the chain check, dispatch, outcomes, chunks. -/

namespace Sys2Proof.Machine

/-! ### Taking a transaction -/

/-- The channel that an ACCEPTED transaction names, as far as its first CCE can be read; its processor (an unreadable first CCE names none:
the queue's number chooses, DEDUCED, log 12). -/
def State.procOf (s : State) (t : Txn) : Nat :=
  match (s.readCce (org 8 0) t 0).2 with
  | .ok c => s.rf CH_CHAN_PROC (ccChan c)
  | .error _ => s.procHome (t.queue % 16)

def State.peekChan (s : State) (t : Txn) : Nat :=
  match (s.readCce (org 8 0) t 0).2 with
  | .ok c => ccChan c
  | .error _ => 1024

/-- The transactions that processor n may take next: per channel the oldest, in order of acceptance (R437). -/
def State.takeable (s : State) (n : Nat) : List Txn :=
  let l := (s.ch.txns.filter (fun (t : Txn) => t.state == 1 && s.procOf t == n)).map (fun t => (s.peekChan t, t))
  (l.foldl (fun (acc : List (Nat × Txn)) x => if x.1 < 1024 && acc.any (fun y => y.1 == x.1) then acc else acc ++ [x]) []).map Prod.snd

/-- A malformed or unreadable chain fails before anything is dispatched (R428). The processor that checked it ends it (R475), though its
channel is not known. -/
def State.failCheck (s : State) (t : Txn) (reason bad : Nat) : State :=
  let s := s.when (decide (1024 ≤ t.chan)) (fun s => (s.bump rCH_PROC_TXN (s.procOf t)).pmEvent 0x0601 (s.procOf t) (some t.inst))
  s.finalTxn t 1 reason bad

/-- Whether a submitter owns a channel that is defined (R421, R428). -/
def State.ownsChan (s : State) (t : Txn) (c : Nat) : Bool :=
  s.rf CH_CHAN_STATE c != 0 && (if t.host then s.rb CH_CHAN_HOST c else !s.rb CH_CHAN_HOST c && s.rf CH_CHAN_OWNER c == t.inst)

/-- CHAIN_CHECK of a transaction (R428, R436). `host` holds the lists that the Management Port read for the Operator Host. -/
def State.checkChain (s : State) (t : Txn) (host : List (List Nat)) (bad : Nat) : State :=
  let agent := org 8 (s.procOf t)
  match s.readChain agent t 0 257 with
  | (s, .error e) => s.failCheck t e bad
  | (s, .ok cs) =>
    let c := ccChan (cs.headD 0)
    let t := { t with ccs := cs.take 256 }
    if !s.ownsChan t c then s.failCheck t 3 bad
    else
      let t := { t with chan := c }
      if chainBad (s.cdef c) cs then s.failCheck t 1 bad
      else if s.rf CH_CHAN_STATE c ≠ 1 then s.failCheck t 0xD bad
      else match s.readLists agent t cs host with
        | (s, .error e) => s.failCheck t e bad
        | (s, .ok ls) =>
          let held := !t.host && s.rb TN_INST_PROTECTED t.inst && s.isRunning
          s.jrn { t with state := 2, lists := ls, epoch := if held then s.rf TW_EPOCH_NUMBER else 0 } 2 bad

/-- CHAIN_CHECK: processor n takes a transaction (R424), the Operator Host's in its turn and an instance's by the processor's arbiter; a CCE's
token is spent when the CCE starts. -/
def State.chainCheck (s : State) (n : Nat) (host : List (List Nat)) (bad : Nat) : State :=
  if !s.chOn || s.rf CH_PROC_STAT_STATE n != 0 || decide (64 ≤ s.rf CH_PROC_STAT_ACTIVE n) then s
  else match s.takeable n with
    | [] => s
    | t :: l =>
      if t.host then s.checkChain t host bad
      else
        match s.grant 0 (((t :: l).filter (fun x => !x.host)).map (fun x => (x.inst, 1))).eraseDups (16 + n) with
        | (s, none) => s
        | (s, some i) => match (t :: l).find? (fun x => !x.host && x.inst == i) with
          | some x => (s.refundToken 0 i).checkChain x host bad
          | none => s

/-! ### Outcomes -/

/-- A rollback goes to a segment's node; it is not awaited (R460). -/
def State.rollback (s : State) (g : Seg) : State :=
  s.frTake g.port ⟨0, 0, g.node, 6, g.source, g.seq, 0, 0, [], 0, false, none, false, 0⟩

/-- A CCE ends without success: the chain ends there (R437, R466). -/
def State.failCce (s : State) (t : Txn) (reason done bad : Nat) : State :=
  let t := { t.addArray with done := done }
  if t.cancel ≠ 0 then s.finalTxn t 2 (if t.cancel = 1 then 0 else 0xE) bad else s.finalTxn t 1 reason bad

/-- A CCE or a run of `k` of them has completed: the next starts, or the final state is decided (R437, R439, R466). -/
def State.doneCce (s : State) (t : Txn) (adv k done bad : Nat) : State :=
  let t := { t.addArray with cce := t.cce + adv, begun := false, flush := false, segs := [], off := 0, jOff := 0, doneCce := t.doneCce + k,
                             done := done, acked := 0, sent := 0, tries := 0 }
  let s := s.pmEvent 0x0602 (s.rf CH_CHAN_PROC t.chan) (some t.inst) k
  if t.cancel ≠ 0 then s.finalTxn t 2 (if t.cancel = 1 then 0 else 0xE) bad
  else if t.ccs.length ≤ t.cce then s.finalTxn { t with cce := t.cce - 1 } 0 0 bad
  else s.putTxn t

/-! ### Dispatch -/

/-- Whether nothing holds a transaction for an epoch (R458). -/
def State.released (s : State) (t : Txn) : Bool := t.epoch == 0 || !s.isRunning || decide (t.epoch ≤ s.rf TW_ACKED_EPOCH)

/-- The Field Ring requests of the CCE in progress (R427, R460, R508): an FREAD in pieces that fit the node's allowance. -/
def State.mkSegs (s : State) (t : Txn) : List Seg :=
  let c := t.ccs.getD t.cce 0
  let seg := fun (c op cmd arg : Nat) (pts : List (Nat × Nat)) =>
    (⟨ccPort c, ccNode c, op, s.rf FR_STAT_SOURCE (ccPort c), 0, cmd, arg, pts, 0, 0, 0, [], 0⟩ : Seg)
  match ccOp c with
  | 0x01 => [seg c 1 0 0 (t.lists.getD t.cce [])]
  | 0x02 =>
    let rb4 := (((s.port (ccPort c)).cfg (ccNode c)).map (·.rb4)).getD 4
    let m := rb4 - 2
    (List.range ((ccCount c + m - 1) / m)).map (fun k =>
      let n := min m (ccCount c - k * m)
      { seg c 2 0 (ccArg c % 256 + k * m) [] with prepAt := n })
  | 0x03 => [seg c 3 (ccArg c % 65536) (bits (ccArg c) 63 32) []]
  | 0x08 =>
    let hold := dfld (s.cdef t.chan) 8 15 0
    (List.range (ccCount c)).map (fun j =>
      seg (t.ccs.getD (t.cce + 1 + j) 0) (if ccAtomic c then 4 else 1) 0 hold (t.lists.getD (t.cce + 1 + j) []))
  | _ => []

/-- How many points or words a request counts (R499). -/
def Seg.count (g : Seg) : Nat := if g.op = 2 then g.prepAt else if g.op = 1 ∨ g.op = 4 then g.pts.length else 0

/-- The request of a segment, as the port takes it. -/
def Seg.req (g : Seg) (tid k op : Nat) : FrReq :=
  ⟨tid, k, g.node, op, g.source, g.seq, g.cmd, g.arg, if op = 5 then [] else g.pts, if op = 5 then 0 else g.count, true, none, false, 0⟩

/-- One segment's request: a new SEQ, its DISPATCH entry, and the port takes it (R448, R453). -/
def State.dispatchSeg (s : State) (tid k bad : Nat) : State :=
  match s.txn tid with
  | none => s
  | some t =>
    match t.segs[k]? with
    | none => s
    | some g =>
      let (s, q) := s.takeFrSeq g.port g.node
      let g := { g with seq := q, st := 1, prepAt := if g.op = 4 then s.now else g.prepAt }
      let s := s.jrn (t.setSeg k (fun _ => g)) 3 bad
      s.frTake g.port (g.req tid k g.op)

/-- Whether a CCE continues a run of PWRITE and PTID (R437, R454). -/
def isRunOp (op : Nat) : Bool := op == 0x10 || op == 0x12

/-- DISPATCH (R448): the next CCE of a READY or ACTIVE transaction starts, its tokens paid (R424). -/
def State.dispatch (s : State) (tid bad : Nat) : State :=
  match s.txn tid with
  | none => s
  | some t =>
    let c := t.ccs.getD t.cce 0
    let cost := 1 + (if ccOp c = 8 then ccCount c else 0)
    let earlier := (s.ch.txns.takeWhile (fun (x : Txn) => x.tid != tid)).any (fun (x : Txn) => x.chan == t.chan && x.state == 2)
    if !s.chOn || !s.drives || !(t.state == 2 || t.state == 3) || t.begun || t.flush || t.cancel != 0 || !s.procUp t.chan || !s.released t ||
        (t.state == 2 && earlier) || (!t.host && !s.eligible 0 t.inst cost) then s
    else
      let s := if t.host ∨ cost = 0 then s else s.chargeTokens 0 t.inst cost
      match ccOp c with
      | 0x30 => s.doneCce t 1 1 0 bad
      | op =>
        let segs := s.mkSegs t
        let t := { t with state := 3, begun := true, segs := segs, off := 0, jOff := 0, jAt := s.now, acked := 0, sent := 0, tries := 0, peer := 0,
                          run := if isRunOp op && 0 < t.cce && isRunOp (ccOp (t.ccs.getD (t.cce - 1) 0)) && decide (t.run < t.cce) then t.run else t.cce }
        if segs.isEmpty then s.jrn t 3 bad
        else (s.putTxn t).each (List.range segs.length) (fun s k => s.dispatchSeg tid k (if k = 0 then bad else 0))

/-! ### CCE outcomes -/

/-- Write n bytes into the buffer of a transaction's owner (R429). -/
def State.ownWrite (s : State) (t : Txn) (addr : Nat) (bs : List Nat) : State × Except Nat Unit :=
  if bs.isEmpty then (s, .ok ())
  else if t.host then (match s.hostWrite addr bs with | (s, true) => (s, .ok ()) | (s, false) => (s, .error 4))
  else match s.ioWrite (s.chanOrg t.chan) t.inst t.gen addr bs.length (ofBytes bs) with
    | (s, .ok _) => (s, .ok ())
    | (s, .error _) => (s, .error 4)

/-- Read n bytes of the owner's buffer; the Operator Host's bytes arrive through the Management Port. -/
def State.ownRead (s : State) (t : Txn) (addr n : Nat) (host : List Nat) : State × Except Nat (List Nat) :=
  if t.host then (s, .ok ((host ++ List.replicate (n - host.length) 0).take n))
  else match s.ioRead (s.chanOrg t.chan) t.inst t.gen addr n with
    | (s, .ok v) => (s, .ok (toBytes v n))
    | (s, .error e) => (s, .error (if e = 3 then 5 else 4))

/-- A group before its decision ends: FINAL, then rollbacks to the segments that answered prepared (R460, R466). -/
def State.endGroup (s : State) (t : Txn) (fin reason bad : Nat) : State :=
  let back := t.segs.filter (fun g => g.st == 2)
  let s := s.finalTxn t.addArray fin reason bad
  s.each back (fun s g => s.rollback g)

/-- COMMIT (R460): journaled, then a commit request to every segment. -/
def State.commitGroup (s : State) (t : Txn) (bad : Nat) : State :=
  let s := s.jrn { t with state := 4 } 5 bad
  s.each t.segs.zipIdx (fun s x => s.frTake x.1.port (x.1.req t.tid x.2 5))

/-- A COMMITTING group: OK or COMMIT_INCOMPLETE once every segment is settled (R461). -/
def State.committed (s : State) (t : Txn) (bad : Nat) : State :=
  if t.segs.all (fun g => g.st == 3) then
    let c := t.ccs.getD t.cce 0
    let bytes := 4 * (t.segs.foldl (fun n g => n + g.pts.length) 0)
    let t := { t with cancel := if t.cancel = 1 then 0 else t.cancel, state := 3 }
    if t.ccs.length ≤ t.cce + 1 + ccCount c then (s.pmEvent 0x0602 (s.rf CH_CHAN_PROC t.chan) (some t.inst)).finalTxn { t.addArray with doneCce := t.doneCce + 1, done := bytes } 0 0 bad
    else s.doneCce t (1 + ccCount c) 1 bytes bad
  else if t.segs.all (fun g => g.st == 3 || g.st == 5) then s.finalTxn { t.addArray with done := 0 } 1 0xA bad
  else s

/-- The outcome of the Field Ring CCE in progress (R437, R460-R462). -/
def State.ringOutcome (s : State) (t : Txn) (bad : Nat) : State :=
  let c := t.ccs.getD t.cce 0
  if t.state = 4 then s.committed t bad
  else if t.segs.any (fun g => decide (g.st < 2)) then s
  else
    let fails := t.segs.filter (fun g => decide (4 ≤ g.st))
    let bytes := 4 * (t.segs.foldl (fun n g => n + g.pts.length) 0)
    match ccOp c with
    | 0x08 =>
      if ccAtomic c then
        if t.cancel ≠ 0 then s.endGroup t 2 (if t.cancel = 1 then 0 else 0xE) bad
        else if fails.isEmpty then s.commitGroup t bad
        else s.endGroup { t with done := 0 } 1 8 bad
      else if fails.isEmpty then s.doneCce t (1 + ccCount c) 1 bytes bad
      else s.failCce t 9 0 bad
    | 0x02 =>
      match fails with
      | g :: _ => s.failCce t g.reason 0 bad
      | [] =>
        let bs := t.segs.flatMap (fun g => g.words.flatMap (fun w => toBytes w 4))
        if t.cancel = 2 then s.doneCce t 1 1 0 bad
        else match s.ownWrite t (ccAddr c) bs with
        | (s, .ok _) => s.doneCce t 1 1 bs.length bad
        | (s, .error e) => s.failCce t e 0 bad
    | 0x03 =>
      match fails with
      | g :: _ => s.failCce t g.reason 0 bad
      | [] => s.doneCce t 1 1 ((t.segs.headD ⟨0, 0, 0, 0, 0, 0, 0, [], 0, 0, 0, [], 0⟩).words.headD 0) bad
    | _ =>
      match fails with
      | g :: _ => s.failCce t g.reason 0 bad
      | [] => s.doneCce t 1 1 bytes bad

/-- A record of root port l / 4 about link l (19 R807): `none` names no link. -/
def State.pxReport (s : State) (r : Nat) (l : Option Nat) (cause addr : Nat) : State :=
  let s := s.report { org := org 0xF r, cause := cause, cls := slate, d0 := l.getD 0xFF, d1 := addr }
  match l with
  | some l => (s.bump rPX_LINK_ERR l).raiseMs (0x330 + l)
  | none => s

/-- The link of a root port whose range holds a bus address (19 R803). -/
def State.pxRoute (s : State) (r bus : Nat) : Option Nat :=
  (List.range 4).map (fun k => 4 * r + k) |>.find? (fun l =>
    decide (s.rf PX_LINK_BASE_ADDR l ≤ bus / 2 ^ 20) && decide (bus / 2 ^ 20 ≤ s.rf PX_LINK_LIMIT_ADDR l) && s.rf PX_LINK_STAT_STATE l != 0)

/-- Whether an outbound request reaches a link that is up; one that does not is a NO_ROUTE (19 R804). -/
def State.pxReach (s : State) (r bus : Nat) : State × Option Nat :=
  match s.pxRoute r bus with
  | some l => if s.rf PX_LINK_STAT_STATE l = 4 then (s, some l) else (s.pxReport r (some l) 0x0F07 bus, none)
  | none => (s.pxReport r none 0x0F07 bus, none)

/-- What the far end's answer to a request means: its data, or the reason (R440, R454), with the root port's record. -/
def State.farResult (s : State) (l bus n : Nat) (f : FarEnd) : State × Except Nat (List Nat) :=
  match f with
  | .ok data => (s, .ok (((data.map (fun (b : Byte) => b.toNat)) ++ List.replicate (n - data.length) 0).take n))
  | .timeout => (s.pxReport (l / 4) (some l) 0x0F04 bus, .error 0xC)
  | _ => (s.pxReport (l / 4) (some l) 0x0F03 bus, .error 0xB)

/-- CCE_OUTCOME (R437): a Field Ring CCE's answers are in, or the flush read of a run is answered (R454). -/
def State.cceOutcome (s : State) (tid : Nat) (far : FarEnd) (bad : Nat) : State :=
  match s.txn tid with
  | none => s
  | some t =>
    if !s.chOn || !s.procUp t.chan || !(t.state == 3 || t.state == 4) then s
    else if t.flush then
      let d := s.cdef t.chan
      let bus := dfld d 8 63 0 + dfld d 0x18 63 0
      match s.farResult (dfld d 4 3 0) bus 4 far with
      | (s, .ok _) => s.doneCce t 1 (t.cce + 1 - t.run) t.off bad
      | (s, .error e) => s.failCce t e t.off bad
    else if t.begun && !t.segs.isEmpty then s.ringOutcome t bad
    else s

/-- COMMIT_REPEAT (R461): each unanswered commit request again, until PREP_HOLD has run out since its segment's prepare. -/
def State.commitRepeat (s : State) (tid bad : Nat) : State :=
  match s.txn tid with
  | none => s
  | some t =>
    if t.state ≠ 4 ∨ s.chOn = false ∨ s.drives = false ∨ s.procUp t.chan = false then s
    else
      let hold := dfld (s.cdef t.chan) 8 15 0 * 1000000
      let step := fun (s : State) (x : Seg × Nat) =>
        let g := x.1
        if g.st = 3 ∨ g.st = 5 then s
        else if g.prepAt + hold ≤ s.now then
          let s := s.setPort g.port (fun q => { q with reqs := q.reqs.filter (fun r => !(r.tid == tid && r.seg == x.2)) })
          match s.txn tid with
          | some t => s.putTxn (t.setSeg x.2 (fun g => { g with st := 5, reason := if g.last = 2 then 6 else 7 }))
          | none => s
        else if (s.port g.port).reqs.any (fun r => r.tid == tid && r.seg == x.2) then s
        else s.frTake g.port (g.req tid x.2 5)
      let s := s.each t.segs.zipIdx step
      match s.txn tid with
      | some t => s.committed t bad
      | none => s

/-! ### Data chunks (R464, R465) -/

/-- The offset has moved: PROGRESS is journaled at each further multiple of PROG_MIB, and each ms while it moves (R465). -/
def State.progress (s : State) (t : Txn) (bad : Nat) : State :=
  let p := max (s.rf CH_CFG_PROG_MIB) 1 * 2 ^ 20
  if t.jOff / p < t.off / p ∨ t.jAt + 1000000 ≤ s.now then s.jrn { t with jOff := t.off, jAt := s.now } 4 bad else s.putTxn t

/-- A chunk is counted (18 R761). -/
def State.chunkSeen (s : State) (t : Txn) : State := s.pmEvent 0x0603 (s.rf CH_CHAN_PROC t.chan) (some t.inst)

/-- A chunk's token: every chunk after the first of a CCE (R424). -/
def State.chunkPaid (s : State) (t : Txn) : Option State :=
  if t.off = 0 ∨ t.host = true then some (s.chunkSeen t)
  else if s.eligible 0 t.inst 1 then some ((s.chargeTokens 0 t.inst 1).chunkSeen t) else none

/-- A data CCE stops at its chunk boundary for a cancellation or a reset (R466, R467). -/
def State.stopData (s : State) (t : Txn) (bad : Nat) : State := s.failCce t 0 t.off bad

/-- A PWRITE's or PTID's bytes for a chunk. -/
def State.pwBytes (s : State) (t : Txn) (c n : Nat) (host : List Nat) : State × Except Nat (List Nat) :=
  if ccOp c = 0x12 then (s, .ok (toBytes t.tid 8))
  else if ccImm c then (s, .ok (toBytes (ccAddr c) n))
  else s.ownRead t (ccAddr c + t.off) n host

/-- Length of a data CCE. -/
def ccDataLen (c : Nat) : Nat := if ccOp c = 0x12 then 8 else ccLen c

/-- A write of a run is issued; at the run's end the window's FLUSH offset is read (R437, R454). -/
def State.runStep (s : State) (t : Txn) (l bad : Nat) : State :=
  let d := s.cdef t.chan
  if t.off < ccDataLen (t.ccs.getD t.cce 0) then s.progress t bad
  else if t.cce + 1 < t.ccs.length && isRunOp (ccOp (t.ccs.getD (t.cce + 1) 0)) && t.cancel == 0 then
    s.putTxn { t with cce := t.cce + 1, begun := false, off := 0, jOff := 0 }
  else (s.emit (.pcie l false (dfld d 8 63 0 + dfld d 0x18 63 0) [4])).putTxn { t with flush := true }

/-- A chunk of a PCI CCE. -/
def State.pciChunk (s : State) (t : Txn) (host : List Nat) (far : FarEnd) (bad : Nat) : State :=
  let c := t.ccs.getD t.cce 0
  let d := s.cdef t.chan
  let bus := dfld d 8 63 0 + ccArg c + t.off
  let n := min 16384 (ccDataLen c - t.off)
  match s.pxReach (dfld d 4 3 0 / 4) bus with
  | (s, none) => s.failCce t 0xB t.off bad
  | (s, some l) =>
    if ccOp c = 0x11 then
      let s := s.emit (.pcie l false bus [n])
      match s.farResult l bus n far with
      | (s, .error e) => s.failCce t e t.off bad
      | (s, .ok bs) =>
        match s.ownWrite t (ccAddr c + t.off) bs with
        | (s, .error e) => s.failCce t e t.off bad
        | (s, .ok _) =>
          let t := { t with off := t.off + n }
          if ccLen c ≤ t.off then s.doneCce t 1 1 t.off bad else s.progress t bad
    else
      match s.pwBytes t c n host with
      | (s, .error e) => s.failCce t e t.off bad
      | (s, .ok bs) => (s.emit (.pcie l true bus bs)).runStep { t with off := t.off + n } l bad

/-! ### NET -/

/-- The payload bytes of a full datagram: MTU less the IP, UDP and transfer headers (R455, R456). -/
def netRoom (d : Nat) : Nat := dfld d 0x30 15 0 - (if bit (dfld d 4 2 2) 0 then 40 else 20) - 8 - 24

/-- The transfer header (R455). -/
def netHdr (type : Nat) (first last : Bool) (session tid off : Nat) : List Nat :=
  toBytes (1 + type * 256 + b2n first * 65536 + b2n last * 131072) 4 ++ toBytes session 4 ++ toBytes tid 8 ++ toBytes off 8

/-- A datagram leaves the module, if its link is up, the gate lets it and the peer is resolved; otherwise it is lost (R812, 16 R672). -/
def State.netSend (s : State) (c : Nat) (bs : List Nat) : State :=
  let d := s.cdef c
  let e := dfld d 4 1 0
  match Map.find s.ch.peers c with
  | some (mac, at_, _) =>
    if at_ ≠ 0 ∧ s.drives = true ∧ s.isStandby = false ∧ s.rb NT_STAT_LINK e = true then s.ethOut e (.net e c mac bs) bs.length else s
  | none => s

/-- The datagrams of `n` bytes from an offset: their offsets and lengths. -/
def dgrams (room off : Nat) : Nat → Nat → List (Nat × Nat)
  | 0, _ => []
  | fuel + 1, n => if n = 0 then [] else (off, min room n) :: dgrams room (off + min room n) fuel (n - min room n)

/-- What an NSEND may send now: the datagrams that begin in its chunk. Each fills the MTU, the transfer's last one aside; at most 256 KiB are
unacknowledged, and each frame takes a token of class 3 (R456, 13 R560). -/
def State.nsendPart (s : State) (t : Txn) : List (Nat × Nat) :=
  let c := t.ccs.getD t.cce 0
  let room := netRoom (s.cdef t.chan)
  let n := min (16384 - t.sent % 16384 + room) (ccLen c - t.sent)
  let ds := (dgrams room t.sent (n + 1) n).filter (fun (x : Nat × Nat) => (x.2 == room || x.1 + x.2 == ccLen c) &&
    decide (x.1 < t.sent + (16384 - t.sent % 16384)) && decide (x.1 + x.2 ≤ t.acked + 262144))
  if t.host = true ∨ s.rf TN_BUCKET_RATE (bucketIdx t.inst 3) = 0 then ds else ds.take (s.rf TN_BUCKET_LEVEL (bucketIdx t.inst 3))

/-- Whether an NSEND's next datagram is the first to begin in its chunk. -/
def State.nsendFresh (s : State) (t : Txn) : Bool :=
  t.sent == 0 || decide ((t.sent - netRoom (s.cdef t.chan)) / 16384 < t.sent / 16384)

/-- A chunk of an NSEND, or the part of it that may go (R456). -/
def State.nsendChunk (s : State) (t : Txn) (host : List Nat) (bad : Nat) : State :=
  let c := t.ccs.getD t.cce 0
  let d := s.cdef t.chan
  let ds := s.nsendPart t
  let n := ds.foldl (fun n x => n + x.2) 0
  match s.ownRead t (ccAddr c + t.sent) n host with
    | (s, .error e) => s.failCce t e t.acked bad
    | (s, .ok bs) =>
      let s := if t.host then s else s.chargeTokens 3 t.inst ds.length
      let s := s.each ds (fun s x =>
        s.netSend t.chan (netHdr 1 (x.1 == 0) (x.1 + x.2 == ccLen c) (dfld d 0xC 31 0) t.tid x.1 ++ (bs.drop (x.1 - t.sent)).take x.2))
      s.putTxn { t with sent := t.sent + n }

/-- DATA_CHUNK (R464): of a PCI or NSEND CCE. -/
def State.dataChunk (s : State) (tid : Nat) (host : List Nat) (far : FarEnd) (bad : Nat) : State :=
  match s.txn tid with
  | none => s
  | some t =>
    let c := t.ccs.getD t.cce 0
    let kind := s.chanKind t.chan
    if !s.chOn || !s.drives || !s.procUp t.chan || t.state != 3 || !t.begun || t.flush then s
    else if t.cancel ≠ 0 ∧ (kind = 1 ∨ kind = 2) then s.stopData t bad
    else if kind = 1 then (match s.chunkPaid t with | some s => s.pciChunk t host far bad | none => s)
    else if kind = 2 ∧ ccOp c = 0x20 then
      (if (s.nsendPart t).isEmpty then s
       else if !s.nsendFresh t then s.nsendChunk t host bad
       else match s.chunkPaid { t with off := t.sent } with | some s => s.nsendChunk t host bad | none => s)
    else s

/-- LOOP_CHUNK (R459): the target's state decides. -/
def State.loopChunk (s : State) (tid bad : Nat) : State :=
  match s.txn tid with
  | none => s
  | some t =>
    let c := t.ccs.getD t.cce 0
    let d := s.cdef t.chan
    let j := dfld d 4 8 0
    let st := s.ist j
    if !s.chOn || !s.procUp t.chan || t.state != 3 || !t.begun || s.chanKind t.chan != 3 then s
    else if t.cancel ≠ 0 then s.stopData t bad
    else if st = 0 ∨ st = 8 ∨ s.ch.dead.contains t.chan = true then s.failCce t 0xD t.off bad
    else if 3 ≤ st then s
    else match s.chunkPaid t with
      | none => s
      | some s =>
        let n := min 16384 (ccDataLen c - t.off)
        let area := dfld d 8 45 0 + ccArg c + t.off
        let agent := s.chanOrg t.chan
        let r : State × Except Nat Unit :=
          if ccOp c = 0x11 then
            match s.ioRead agent j (s.gen j) area n with
            | (s, .error e) => (s, .error (if e = 3 then 5 else 4))
            | (s, .ok v) => s.ownWrite t (ccAddr c + t.off) (toBytes v n)
          else match s.pwBytes t c n [] with
            | (s, .error e) => (s, .error e)
            | (s, .ok bs) =>
              match s.ioWrite agent j (s.gen j) area n (ofBytes bs) with
              | (s, .ok _) => (s, .ok ())
              | (s, .error _) => (s, .error 4)
        match r with
        | (s, .error e) => s.failCce t e t.off bad
        | (s, .ok _) =>
          let t := { t with off := t.off + n }
          if ccDataLen c ≤ t.off then s.doneCce t 1 1 t.off bad else s.progress t bad

/-- The inbox without its oldest ACK, or its oldest datagram of another TYPE, and that one. -/
def takeDgram (ack : Bool) : List Dgram → Option Dgram × List Dgram
  | [] => (none, [])
  | x :: r => if (x.bytes.getD 1 0 == 2) = ack then (some x, r) else let q := takeDgram ack r; (q.1, x :: q.2)

/-- A datagram's header is that of the channel's session (R455). -/
def State.netOk (s : State) (x : Dgram) : Bool :=
  decide (24 ≤ x.bytes.length) && x.bytes.getD 0 0 == 1 && (x.bytes.getD 1 0 == 1 || x.bytes.getD 1 0 == 2) && ofBytes ((x.bytes.drop 2).take 2) / 4 == 0 &&
  ofBytes ((x.bytes.drop 4).take 4) == dfld (s.cdef x.chan) 0xC 31 0

/-- The module's acknowledgement (R457). -/
def State.netAck (s : State) (c peer off : Nat) : State := s.netSend c (netHdr 2 false false (dfld (s.cdef c) 0xC 31 0) peer off)

/-- ACK_RECEIVE (R456). -/
def State.ackReceive (s : State) (bad : Nat) : State :=
  match takeDgram true s.ch.inbox with
  | (none, _) => s
  | (some x, rest) =>
    let s := { s with ch := { s.ch with inbox := rest } }
    if !s.netOk x then s.bump rCH_NET_DISC
    else
      let tid := ofBytes ((x.bytes.drop 8).take 8)
      let n := ofBytes ((x.bytes.drop 16).take 8)
      match s.txn tid with
      | none => s
      | some t =>
        let c := t.ccs.getD t.cce 0
        if t.chan ≠ x.chan ∨ t.state ≠ 3 ∨ t.begun = false ∨ ccOp c ≠ 0x20 ∨ n ≤ t.acked then s
        else
          let t := { t with acked := min n (ccLen c), sent := max t.sent (min n (ccLen c)), tries := 0, off := min n (ccLen c) }
          if ccLen c ≤ t.acked then s.doneCce t 1 1 t.acked bad else s.progress t bad

/-- RTO_EXPIRY (R456): send again from the acknowledged offset, or fail. -/
def State.rtoExpiry (s : State) (tid bad : Nat) : State :=
  match s.txn tid with
  | none => s
  | some t =>
    let c := t.ccs.getD t.cce 0
    if t.state ≠ 3 ∨ t.begun = false ∨ ccOp c ≠ 0x20 ∨ s.chOn = false ∨ s.procUp t.chan = false ∨ t.sent ≤ t.acked then s
    else if dfld (s.cdef t.chan) 0x34 7 0 ≤ t.tries then s.failCce t 0xC t.acked bad
    else (s.bump rCH_RESEND_CNT).putTxn { t with sent := t.acked, tries := t.tries + 1 }

/-- The posted buffer of a channel that a datagram of a peer's transfer belongs to: the one that the transfer fills, or, at its FIRST, the
first that no transfer fills (R457). -/
def State.nrecvFor (s : State) (c peer : Nat) (first : Bool) : Option Txn :=
  let l := s.ch.txns.filter (fun (t : Txn) => t.chan == c && t.state == 3 && t.begun && ccOp (t.ccs.headD 0) == 0x21 && t.cancel == 0)
  match l.find? (fun t => t.off != 0 && t.peer == peer) with
  | some t => some t
  | none => if first then l.find? (fun t => t.off == 0) else none

/-- The tokens of the chunks that n further bytes of an NRECV start (R424, R464): none for the first, none for the Operator Host. -/
def State.nrecvCost (_s : State) (t : Txn) (n : Nat) : Nat :=
  if t.host then 0 else (t.off + n + 16383) / 16384 - max 1 ((t.off + 16383) / 16384)

/-- DATAGRAM_RECEIVE (R457): one that needs a processor or a token that is not there waits. -/
def State.dgramReceive (s : State) (bad : Nat) : State :=
  match takeDgram false s.ch.inbox with
  | (none, _) => s
  | (some x, rest) =>
    let held := s
    let s := { s with ch := { s.ch with inbox := rest } }
    if !s.netOk x then s.bump rCH_NET_DISC
    else
      let peer := ofBytes ((x.bytes.drop 8).take 8)
      let off := ofBytes ((x.bytes.drop 16).take 8)
      let data := x.bytes.drop 24
      let last := bit (x.bytes.getD 2 0) 1
      let c := x.chan
      if (Map.getD s.ch.sess c []).contains peer then s.netAck c peer (off + data.length)
      else if (Map.find s.ch.inbound c).any (fun p => p.1 == peer) then
        let s := s.netAck c peer (off + data.length)
        if last then { s with ch := { s.ch with inbound := Map.del s.ch.inbound c } } else s
      else match s.nrecvFor c peer (off == 0 && bit (x.bytes.getD 2 0) 0) with
        | none => s
        | some t =>
          let cc := t.ccs.headD 0
          let take := data.take (ccLen cc - t.off)
          let cost := s.nrecvCost t take.length
          if off ≠ t.off then s.netAck c peer t.off
          else if !s.chOn || !s.procUp c || !s.eligible 0 t.inst cost then held
          else
            let s := s.chargeTokens 0 t.inst cost
            match s.ownWrite t (ccAddr cc + t.off) take with
            | (s, .error e) => s.failCce { t with peer := peer } e t.off bad
            | (s, .ok _) =>
              let tooLong := decide (ccLen cc < t.off + data.length)
              let t := { t with peer := peer, off := t.off + take.length }
              let s := s.netAck c peer (off + data.length)
              if tooLong then
                let s := if last then s else { s with ch := { s.ch with inbound := Map.put s.ch.inbound c (peer, off + data.length) } }
                s.failCce t 0xD t.off bad
              else if last then
                let s := { s with ch := { s.ch with sess := Map.put s.ch.sess c ((Map.getD s.ch.sess c [] ++ [peer]).reverse.take 64).reverse } }
                s.doneCce t 1 1 t.off bad
              else s.progress t bad

end Sys2Proof.Machine
end

