-- ==== Sys2Proof/Machine/ChanCmd.lean ====
section
/-! DEFINITION. Channel commands (11 R421-R425, R434, R466, R471), drains and replays (R467-R473), the host ring (R484, R485). -/

namespace Sys2Proof.Machine

/-! ### Retries and retirement of processors (R473) -/

/-- A failed check repeated once: a Slate record, counted, its event. -/
def State.procRetry (s : State) (n : Nat) (again : Bool) : State :=
  s.when again (fun s => ((s.bump rCH_PROC_RETRY n).raise (0x280 + n)).report { org := org 8 n, cause := 0x0801, cls := slate, react := 2 })

/-- The processor that acts for a transaction. -/
def State.txnProc (s : State) (tid : Nat) : Nat :=
  match s.txn tid with
  | some t => if t.chan < 1024 then s.rf CH_CHAN_PROC t.chan else s.procOf t
  | none => 0

/-- A transaction resumed (R470): unanswered requests of its CCE again with their SEQ, or its data CCE from the last journaled offset. -/
def State.resumeTxn (s : State) (tid : Nat) : State :=
  match s.txn tid with
  | none => s
  | some t =>
    if t.state = 3 ∧ t.begun = true then
      if t.segs.isEmpty then
        (s.when (t.flush || t.off != t.jOff || t.sent != t.jOff) (fun s => s.bump rCH_RESEND_CNT)).putTxn
          { t with flush := false, off := t.jOff, sent := t.jOff, acked := t.jOff, jAt := s.now }
      else
        s.each (t.segs.zipIdx.filter (fun (x : Seg × Nat) => x.1.st == 1)) (fun s x =>
          let s := s.setPort x.1.port (fun q => { q with reqs := q.reqs.filter (fun (r : FrReq) => !(r.tid == tid && r.seg == x.2)) })
          (s.bump rCH_RESEND_CNT).frTake x.1.port (x.1.req tid x.2 x.1.op))
    else s

/-- A replay's start in CH_REPLAY (R480), its event. -/
def State.replayStart (s : State) (trig inst total : Nat) : State :=
  (((((s.sf CH_REPLAY_BUSY 1).sf CH_REPLAY_TRIGGER trig).sf CH_REPLAY_INSTANCE inst).sf CH_REPLAY_TOTAL total).sf CH_REPLAY_POS 0).raise 0x293

def State.replayEnd (s : State) : State :=
  ((s.sf CH_REPLAY_POS (s.rf CH_REPLAY_TOTAL)).sf CH_REPLAY_BUSY 0).raise 0x293

/-- The transactions that a processor carries. -/
def State.txnsOf (s : State) (n : Nat) : List Nat :=
  (s.ch.txns.filter (fun (t : Txn) => decide (t.chan < 1024) && !t.orphan && s.rf CH_CHAN_PROC t.chan == n)).map (·.tid)

/-- CHANNEL_PROCESSOR_RETIREMENT (R473, R469, R472): its channels and transactions move to the next Up processor. -/
def State.procRetire (s : State) (n : Nat) : State :=
  if s.rf CH_PROC_STAT_STATE n ≠ 0 then s
  else
    let (s, ret) := s.outOfService (org 8 n)
    let l := s.txnsOf n
    let s := (s.sf CH_PROC_STAT_STATE (if ret then 3 else 1) n).raise (0x280 + n)
    let s := s.report { org := org 8 n, cause := 0x0802, cls := ochre, react := if ret then 6 else 5 }
    let s := ((((s.sf CH_ELOG_VALID 1).sf CH_ELOG_KIND 4).sf CH_ELOG_PROC n).sf CH_ELOG_ENTRY 0).raise 0x292
    ((s.chSync.replayStart 4 0 l.length).each l State.resumeTxn).replayEnd

/-- A retired processor is back: its channels return to it (R473). -/
def State.procReturn (s : State) (n : Nat) : State := ((s.sf CH_PROC_STAT_STATE 0 n).raise (0x280 + n)).chSync

/-! ### Instance resets (R467, R468) -/

/-- One transaction of an instance that is reset: whether it has ended. -/
def State.drainTxn (s : State) (t : Txn) : State :=
  match t.state with
  | 1 => s.finalTxn t 2 0xE 0
  | 2 => s.finalTxn t 2 0xE 0
  | 3 =>
    if t.begun && !t.segs.isEmpty then s.putTxn { t with cancel := 2 }
    else s.finalTxn { t with done := if t.begun then t.off else t.done } 2 0xE 0
  | 4 => s.putTxn { t with cancel := 2 }
  | _ => s

/-- The channel subsystem's part of an instance's drain, for the generation that has ended: transactions cancelled, and those still to reach
their final state (R467, R468). -/
def State.chDrain (s : State) (i g : Nat) : State × Nat × Nat :=
  let l := s.ch.txns.filter (fun (t : Txn) => !t.host && t.inst == i && t.gen == g && decide (t.state < 5))
  let s := (s.replayStart 5 i l.length).each l State.drainTxn
  let left := (s.ch.txns.filter (fun (t : Txn) => !t.host && t.inst == i && t.gen == g && decide (t.state < 5))).length
  (s.replayEnd.chSync, l.length - left, left)

/-- The TYPE 0x21 entry (R468). -/
def resetSummary (cancelled left oldGen : Nat) : Nat := 0x21 + cancelled * 2 ^ 32 + left * 2 ^ 64 + oldGen * 2 ^ 128

/-- LOOP channels whose target is being destroyed are Down (R459). -/
def State.chTargetGone (s : State) (i : Nat) : State :=
  let cs := (Map.keys s.ch.defs).filter (fun c => s.chanKind c == 3 && dfld (s.cdef c) 4 8 0 == i && !s.ch.dead.contains c)
  ({ s with ch := { s.ch with dead := s.ch.dead ++ cs } }).chSync

/-! ### Replay (R452, R470, R472) -/

/-- An orphan's FINAL entry written by a replay (R470). -/
def State.orphanFinal (s : State) (t : Txn) (fin reason : Nat) : State :=
  let x18 := if ccOp (t.ccs.getD t.cce 0) = 0x21 then t.peer else s.now
  let was := t.state == 5
  let t := { t with state := 5, fin := fin, reason := reason, orphan := true, slot := none, begun := false, flush := false, finJsn := s.ch.jsn,
                    x18 := if was then t.x18 else x18 }
  let s := s.jrn t 6 0
  let s := s.when (!was && fin == 1) (fun s => s.bump rCH_FAIL_CNT)
  let s := s.when (!was && decide (t.chan < 1024)) (fun s => (s.bump rCH_PROC_TXN (s.rf CH_CHAN_PROC t.chan)).pmEvent 0x0601 (s.rf CH_CHAN_PROC t.chan) (some t.inst))
  (s.when (!was && reason == 0x11) (fun s => s.raise 0x29B)).orphanCount

/-- A transaction whose latest entry is lost: the latest valid one governs, or none is left (R452). -/
def State.lostLatest (s : State) (tid entry : Nat) : State :=
    let subj := if tidHost tid then none else some (tidInst tid, tidGen tid)
    let rec_ := fun (s : State) (o : Nat) (sub : Option (Nat × Nat)) (react : Nat) =>
      (((s.sf CH_ELOG_VALID 1).sf CH_ELOG_KIND 1).sf CH_ELOG_ENTRY entry).raise 0x292
        |>.report { org := o, cause := 0x0904, cls := russet, subj := sub, d0 := entry, react := react }
    match latestOf s.ch.ring tid with
    | some e =>
      let s := rec_ s (org 9 0) subj 0
      let t := e.txn.getD (Txn.fresh tid 0 (.host []))
      let s := if (s.txn tid).isSome then s.putTxn t else { s with ch := { s.ch with txns := s.ch.txns ++ [t] } }
      if t.state = 5 then s else if s.txnStale t ∨ t.host = true then s.orphanFinal t 1 0x11 else s.finalTxn t 1 0x11 0
    | none =>
      (rec_ { s with ch := { s.ch with txns := s.ch.txns.filter (fun (x : Txn) => x.tid != tid) } } (org 9 0) none 0)

/-- How many entries lie between the tail that the governing superblock copy records and the ring's tail (R449): a scan begins there. They
belong to retired transactions. -/
def State.superLag (s : State) : Nat :=
  let a := s.ch.supA
  let b := s.ch.supB
  let sup := if a.ok && (!b.ok || decide (b.count ≤ a.count)) then a else b
  (s.ch.tail + ringSize - sup.tail) % ringSize

/-- One finding of a scan (R452), at the k-th entry that it reads. -/
def State.replayFinding (s : State) (f : JrnFinding) : State :=
  let lag := s.superLag
  let entryOf := fun (k : Nat) => 0x1400 + (s.ch.tail + ringSize - lag + k) % ringSize
  match f with
  | .corrected k =>
    ((s.bump rCH_JRNL_CORR).raise 0x292).report { org := org 9 0, cause := 0x0901, cls := slate, d0 := entryOf k.toNat, react := 1 }
  | .beyond k =>
    if k.toNat < lag then s.jrnError 1 (entryOf k.toNat) 0x0903 slate 0
    else match s.ch.ring[k.toNat - lag]? with
    | none => s
    | some e =>
      if !e.ok || e.kind == 0xF then s
      else
        let latest := (latestOf s.ch.ring e.tid).any (fun (x : JEnt) => x.jsn == e.jsn)
        let s := { s with ch := { s.ch with ring := s.ch.ring.modify (k.toNat - lag) (fun (x : JEnt) => { x with ok := false }) } }
        if latest then s.lostLatest e.tid (entryOf k.toNat) else s.jrnError 1 (entryOf k.toNat) 0x0903 slate 0
  | .superblock a =>
    if (if a then !s.ch.supB.ok else !s.ch.supA.ok) then
      { s with ch := if a then { s.ch with supA := { s.ch.supA with ok := false } } else { s.ch with supB := { s.ch.supB with ok := false } } }
    else
      let s := if a then { s with ch := { s.ch with supA := s.ch.supB } } else { s with ch := { s.ch with supB := s.ch.supA } }
      s.jrnError 2 (if a then 0 else 8) 0x0905 slate 1
  | .gap k => s.jrnError 3 (entryOf k.toNat) 0x0906 sable 0 |>.sf CH_STAT_JOURNAL 3

/-- Whether both superblock copies of a scan are invalid. -/
def bothSupers (l : List JrnFinding) : Bool := l.contains (.superblock true) && l.contains (.superblock false)

/-- The torn entry at the head is not there (R447). -/
def State.dropTorn (s : State) : State :=
  match s.ch.ring.getLast? with
  | some e => if e.ok then s else { s with ch := { s.ch with ring := s.ch.ring.dropLast, jsn := e.jsn } }
  | none => s

/-- A transaction after a replay's scan (R469, R470). -/
def State.replayTxn (s : State) (trig : Nat) (t : Txn) : State :=
  if trig < 2 then
    match t.state with
    | 1 => s.orphanFinal t 1 0xF
    | 2 => s.orphanFinal t 1 0xF
    | 5 => if t.orphan then s else s.orphanFinal t t.fin t.reason
    | _ => s.orphanFinal t 1 0x10
  else if t.state = 5 then s
  else if s.txnStale t then s.drainTxn t
  else s.resumeTxn t.tid

/-- After the loss of the module's state, transactions stand as their latest valid entries say (R445, R447). -/
def State.fromRing (s : State) : State :=
  { s with ch := { s.ch with txns := s.ch.txns.filterMap (fun (t : Txn) =>
      (latestOf s.ch.ring t.tid).bind (fun (e : JEnt) => if e.kind = 7 then none else some (e.txn.getD t))) } }

/-- REPLAY of a module reset, power-on, warm device reset or takeover (R469-R472): `finds` is what the scan meets. The events of a scan come at
each further 1 % of it. -/
def State.replay (s : State) (finds : List JrnFinding) : State :=
  if s.rf CH_STAT_JOURNAL ≠ 1 then s
  else
    let trig := s.rf CH_REPLAY_TRIGGER
    let s := if trig < 2 then s.dropTorn.fromRing else s
    let n := if trig < 2 then s.superLag + s.ch.ring.length else s.ch.txns.length
    let s := s.replayStart trig 0 n
    let s := if trig < 2 then s.each (List.range (min 99 (n - 1))) (fun s _ => s.raise 0x293) else s
    let s := s.sf CH_ORPHAN_COUNT (s.ch.txns.filter (fun (t : Txn) => t.orphan)).length
    let s := if bothSupers finds then s.replayFinding (.gap 0) else s.each finds State.replayFinding
    if s.rf CH_STAT_JOURNAL = 3 then s.sf CH_REPLAY_BUSY 0
    else
      let s := s.each s.ch.txns (fun s t => s.replayTxn trig t)
      (s.sf CH_STAT_JOURNAL 0).jrnSync.replayEnd.chSync

/-! ### Address resolution of NET peers (19 R812) -/

/-- The addresses of a channel's request: LADDR and PADDR. -/
def State.arpBytes (s : State) (c : Nat) : List Nat := toBytes (s.cdef c / 2 ^ 128) 32

/-- Ask for a channel's peer. -/
def State.arpAsk (s : State) (c : Nat) : State :=
  let e := dfld (s.cdef c) 4 1 0
  let p := Map.getD s.ch.peers c (0, 0, 0)
  let s := { s with ch := { s.ch with peers := Map.put s.ch.peers c (p.1, p.2.1, p.2.2 + 1) } }
  if s.drives && !s.isStandby && s.rb NT_STAT_LINK e && s.rb NT_CFG_EN e then s.ethOut e (.eth e 1 (s.arpBytes c)) (s.arpBytes c).length else s

/-! ### CHANNEL_DEFINE (R422, R423) -/

/-- The bits of a definition block that its kind uses. -/
def defMask (d : Nat) : Nat :=
  let w0 := 0x03FFF3FF
  let fld := fun (off w : Nat) => (2 ^ w - 1) * 2 ^ (8 * off)
  let v6 := bit (dfld d 4 2 2) 0
  match dfld d 0 15 12 with
  | 0 => w0 + fld 4 32 + fld 8 16
  | 1 => w0 + fld 4 4 + fld 8 64 + fld 0x10 64 + fld 0x18 64
  | 2 => w0 + fld 4 19 + fld 8 32 + fld 0xC 32 + fld 0x10 (if v6 then 128 else 32) + fld 0x20 (if v6 then 128 else 32) + fld 0x30 32 + fld 0x34 8
  | 3 => w0 + fld 4 9 + fld 8 46 + fld 0x10 32
  | _ => 0

/-- Whether a definition block's values are legal in this state (R423). -/
def State.defOk (s : State) (d : Nat) : Bool :=
  let inR := fun (lo v hi : Nat) => decide (lo ≤ v) && decide (v ≤ hi)
  let host := bit d 25
  decide (dfld d 0 15 12 < 4) && d &&& defMask d == d && (if host then dfld d 0 24 16 == 0 else s.ist (dfld d 0 24 16) != 0) &&
  match dfld d 0 15 12 with
  | 0 =>
    dfld d 4 31 0 != 0 && (List.range 32).all (fun p => !bit (dfld d 4 31 0) p || (s.port p).tbl.isSome) && inR 10 (dfld d 8 15 0) 1000 &&
    (s.rf TW_STAT_STATE == 0 || decide (s.rf TW_EPOCH_EPOCH_US + 1920 < dfld d 8 15 0 * 1000))
  | 1 =>
    let b := dfld d 8 63 0
    let n := dfld d 0x10 63 0
    let l := dfld d 4 3 0
    b % 4096 == 0 && n % 4096 == 0 && inR 4096 n (2 ^ 40) && dfld d 0x18 63 0 % 4 == 0 && decide (dfld d 0x18 63 0 + 4 ≤ n) &&
    decide (s.rf PX_LINK_BASE_ADDR l * 2 ^ 20 ≤ b) && decide (b + n ≤ (s.rf PX_LINK_LIMIT_ADDR l + 1) * 2 ^ 20) && s.rf PX_LINK_STAT_STATE l != 0
  | 2 =>
    let v6 := bit (dfld d 4 2 2) 0
    (if bit (dfld d 4 3 3) 0 then inR 1 (dfld d 4 15 4) 4094 else dfld d 4 18 4 == 0) &&
    inR (if v6 then 1280 else 576) (dfld d 0x30 15 0) 9000 && inR 1 (dfld d 0x30 31 16) 10000 && inR 1 (dfld d 0x34 7 0) 255
  | _ => !host && s.ist (dfld d 4 8 0) != 0 && dfld d 8 45 0 % 4096 == 0 && dfld d 0x10 31 0 % 4096 == 0 && decide (dfld d 0x10 31 0 ≤ 0x40000000)

/-- CHANNEL_DEFINE. -/
def State.doChanDefine (s : State) (c : Cmd) : State :=
  let d := ofBytes c.pay
  let n := d % 1024
  if c.pay.length ≠ 64 then s.finish c stBAD_PARAM
  else if s.rf CH_CHAN_STATE n ≠ 0 then s.finish c stDENIED
  else if !s.defOk d then s.finish c stBAD_PARAM
  else
    let s := { s with ch := { s.ch with defs := Map.put s.ch.defs n d, peers := Map.del s.ch.peers n } }
    let s := (((s.sf CH_CHAN_KIND (dfld d 0 15 12) n).sf CH_CHAN_HOST (dfld d 0 25 25) n).sf CH_CHAN_OWNER (dfld d 0 24 16) n).setChanState n 1
    let s := s.when (dfld d 0 15 12 == 2) (fun s => s.arpAsk n)
    (s.chSync.mirrorCmd c).finish c stOK

/-- A channel is Undefined again (R425). -/
def State.chanGone (s : State) (n : Nat) : State :=
  let s := { s with ch := { s.ch with
    defs := Map.del s.ch.defs n, dead := s.ch.dead.filter (· != n), sess := Map.del s.ch.sess n, inbound := Map.del s.ch.inbound n,
    inbox := s.ch.inbox.filter (fun (x : Dgram) => x.chan != n), peers := Map.del s.ch.peers n } }
  (((s.setChanState n 0).wreg rCH_CHAN n (rCH_CHAN.resetVal n))).chSync

/-- Transactions of a channel that are not retired. -/
def State.chanLeft (s : State) (n : Nat) : Nat := (s.ch.txns.filter (fun (t : Txn) => t.chan == n || (t.state == 1 && s.peekChan t == n))).length

/-- CHANNEL_UNDEFINE begins (R425): Closing. An Undefined channel is already what the command asks for. -/
def State.undefBegin (s : State) (c : Cmd) : State :=
  let n := c.p 0
  if s.rf CH_CHAN_STATE n = 0 then s.finish c stOK
  else ((s.setChanState n 2).mirrorCmd c).longPhase c 2 (s.chanLeft n) []

/-- CHANNEL_UNDEFINE goes on: OK once no transaction of the channel remains. -/
def State.undefNext (s : State) (c : Cmd) : State :=
  let n := c.p 0
  let left := s.chanLeft n
  if left = 0 then (s.chanGone n).finish { c with lop := { c.lop with pos := c.lop.total } } stOK
  else s.longPos c (c.lop.total - left)

/-- CHANNEL_QUERY (R421): the block, and CH_CHAN_n. -/
def State.doChanQuery (s : State) (c : Cmd) : State :=
  let n := c.p 0
  if c.sender ≠ 0 ∧ (s.rf CH_CHAN_STATE n = 0 ∨ s.rb CH_CHAN_HOST n = true ∨ s.rf CH_CHAN_OWNER n ≠ c.sender - 1) then s.finish c stDENIED
  else match s.bufWrite c (c.p64 1) (toBytes (s.cdef n) 64) with
    | (s, true) => s.finish c stOK [s.reg rCH_CHAN n % 2 ^ 32, s.reg rCH_CHAN n / 2 ^ 32]
    | (s, false) => s.finish c stBAD_PARAM

/-- Whether a command may name a transaction: the Operator Host any, an instance its own. -/
def mayTxn (c : Cmd) (tid : Nat) : Bool := c.sender == 0 || (tidInst tid == c.sender - 1 && !tidHost tid)

/-- TXN_QUERY (R436). -/
def State.doTxnQuery (s : State) (c : Cmd) : State :=
  let tid := c.p64 0
  if !mayTxn c tid then s.finish c stDENIED
  else match s.txn tid with
    | none => s.finish c stOK [0, 0]
    | some t => s.finish c stOK [t.state, if t.state = 5 then t.fin + t.reason * 256 else 0]

/-- TXN_CANCEL (R466). -/
def State.doTxnCancel (s : State) (c : Cmd) : State :=
  let tid := c.p64 0
  let cur := fun (s : State) (t : Txn) => (s.txn t.tid).getD t
  if !mayTxn c tid then s.finish c stDENIED
  else
    let s := s.mirrorCmd c
    match s.txn tid with
    | none => s.finish c stOK [2]
    | some t =>
      if 4 ≤ t.state then s.finish c stOK [1]
      else
        let s := (s.jrn { t with cancel := if t.cancel = 0 then 1 else t.cancel } 9 0)
        let t := cur s t
        if t.state < 3 ∨ t.begun = false ∧ t.flush = false then (s.finalTxn t 2 0 0).finish c stOK [0]
        else if ccOp (t.ccs.getD t.cce 0) = 8 ∧ ccAtomic (t.ccs.getD t.cce 0) = true ∧ t.segs.isEmpty = false then (s.endGroup t 2 0 0).finish c stOK [0]
        else s.putCmd { s.curCmd c with lop := { c.lop with items := [tid] } }

/-- The orphans in JSN order of their FINAL entries (R471). -/
def insertOrphan (t : Txn) : List Txn → List Txn
  | [] => [t]
  | x :: r => if t.finJsn < x.finJsn then t :: x :: r else x :: insertOrphan t r
def State.orphans (s : State) : List Txn := (s.ch.txns.filter (fun (t : Txn) => t.orphan)).foldl (fun l t => insertOrphan t l) []

/-- JOURNAL_REPORT (R471): its TOTAL is CH_ORPHAN.COUNT at the start; one entry a step, as many as the buffer holds. -/
def State.reportBegin (s : State) (c : Cmd) : State :=
  (s.mirrorCmd c).longPhase c 2 (s.rf CH_ORPHAN_COUNT) ((s.orphans.map (fun (t : Txn) => t.tid)).take (c.p64 2 / 32))

def State.reportEnd (s : State) (c : Cmd) (status : Nat) : State :=
  let k := c.lop.pos
  let last := if k = 0 then 0 else c.lop.items.getD (k - 1) 0
  s.finish c status [k, last % 2 ^ 32, last / 2 ^ 32]

def State.reportNext (s : State) (c : Cmd) : State :=
  let k := c.lop.pos
  if c.lop.cancel then s.reportEnd c stCANCELLED
  else match c.lop.items[k]? with
    | none => s.reportEnd c stOK
    | some tid =>
      match s.txn tid with
      | none => s.putCmd { c with lop := { c.lop with items := c.lop.items.filter (· != tid) } }
      | some t =>
        let r := s.bufWrite c (c.p64 0 + 32 * k) (toBytes t.entry 32)
        if r.2 then r.1.longPos c (k + 1) else s.reportEnd c stBAD_PARAM

/-- JOURNAL_ACK (R471, R468): the orphans up to the one named leave the Journal. -/
def State.doJournalAck (s : State) (c : Cmd) (bad : Nat) : State :=
  let l := s.orphans
  if !l.any (fun t => t.tid == c.p64 0) then s.finish c stBAD_PARAM
  else
    let go := (l.takeWhile (fun t => t.tid != c.p64 0)) ++ (l.filter (fun t => t.tid == c.p64 0))
    let s := s.each go (fun s t => s.retire t bad)
    ((s.sf CH_ORPHAN_COUNT (s.rf CH_ORPHAN_COUNT - go.length)).chSync.mirrorCmd c).finish c stOK [go.length]

/-- CHANNEL_SUBMIT (R434): its IN_PROGRESS reply, then the acceptance. -/
def State.submitBegin (s : State) (c : Cmd) : State :=
  if c.pay.length = 0 ∨ c.pay.length % 32 ≠ 0 ∨ 126 * 32 < c.pay.length then s.finish c stBAD_PARAM
  else (s.mirrorCmd c).longPhase c 0 0 []

def State.submitNext (s : State) (c : Cmd) (bad : Nat) : State :=
  match s.submit 512 0 (.host c.pay) 0 bad with
  | (s, ack) =>
    let c := s.curCmd c
    if ack % 2 ^ 43 = 0 then s.finish c stNO_RESOURCE [ack / 2 ^ 48] else s.finish c stACCEPTED [ack % 2 ^ 32, ack / 2 ^ 32]

/-! ### The host completion ring (R484, R485) -/

/-- HOST_CQ_ENABLE: a write of CH_HOST_CQ_CFG; SIZE only while EN was 0, and a reserved SIZE is not taken. -/
def State.hostCqEnable (s : State) (v : Nat) : State :=
  let was := s.rb CH_HOST_CQ_CFG_EN
  let size := bits v 4 0
  let s := if !was && decide (6 ≤ size) && decide (size ≤ 16) then s.sf CH_HOST_CQ_CFG_SIZE size else s
  let s := s.sf CH_HOST_CQ_CFG_EN (bits v 63 63)
  if !was && bit v 63 then (s.wreg rCH_HOST_CQ_TAIL 0 0).wreg rCH_HOST_CQ_HEAD 0 0 else s

/-- HOST_CQ_HEAD_WRITE: ignored and logged beyond TAIL. -/
def State.hostCqHead (s : State) (a : Agent) (v : Nat) : State :=
  let lg := s.rf CH_HOST_CQ_CFG_SIZE
  let tail := ptrPos (s.reg rCH_HOST_CQ_TAIL 0) lg
  let head := ptrPos (s.reg rCH_HOST_CQ_HEAD 0) lg
  if bits v 15 0 < 2 ^ lg ∧ ptrDist head (ptrPos v lg) lg ≤ ptrDist head tail lg then s.wreg rCH_HOST_CQ_HEAD 0 (v % 2 ^ 17)
  else s.regAccess (agentOrg a) (rCH_HOST_CQ_HEAD.addr 0) 8 true

/-- COMPLETION_RETRY (R830): the completions that wait for queue d of an instance's class. -/
def State.completionRetry (s : State) (i cls d bad : Nat) : State :=
  if cls = 0 then
    match s.ch.txns.find? (fun (t : Txn) => t.state == 5 && !t.orphan && !t.host && t.inst == i && t.queue == d && decide (t.notBefore ≤ s.now) && s.firstFinal t) with
    | some t => s.completionWrite t true bad
    | none => s
  else s.cplFlush i cls d

end Sys2Proof.Machine
end

