-- ==== Sys2Proof/Machine/Inflate.lean ====
section
/-! DEFINITION. Check values and the DEFLATE, zlib and gzip decoder (09 R360). A byte source answers a byte or a reason code of R365. -/

namespace Sys2Proof.Machine

/-- CRC-32 of one byte onto a running value (RFC 1952): the reflected polynomial is 0xEDB88320. -/
def crc32Byte (c b : Nat) : Nat :=
  (List.range 8).foldl (fun x _ => if x % 2 = 1 then (x / 2) ^^^ 0xEDB88320 else x / 2) (c ^^^ (b % 256))

/-- CRC-32 of a byte list. -/
def crc32 (bs : List Nat) : Nat := (bs.foldl crc32Byte 0xFFFFFFFF) ^^^ 0xFFFFFFFF

/-- Adler-32 of one byte onto a running value (RFC 1950). -/
def adlerByte (c b : Nat) : Nat :=
  let a := (c % 65536 + b % 256) % 65521
  a + (c / 65536 + a) % 65521 * 65536

/-- The running check value of FORMAT at its start, one byte on, and as reported (R364). -/
def chkStart (fmt : Nat) : Nat := if fmt = 1 then 1 else 0xFFFFFFFF
def chkByte (fmt c b : Nat) : Nat := if fmt = 1 then adlerByte c b else if fmt = 2 then crc32Byte c b else crc32cByte c b
def chkEnd (fmt c : Nat) : Nat := if fmt = 1 then c else c ^^^ 0xFFFFFFFF

/-- A source of bytes by offset: a byte, or the reason for which there is none. -/
abbrev ByteSrc := Nat → Except Nat Nat

/-- `n` bits from bit position p, the first least significant; a failure names its bit. -/
def srcBits (rd : ByteSrc) (p : Nat) : Nat → Except (Nat × Nat) Nat
  | 0 => .ok 0
  | n + 1 =>
    match rd (p / 8) with
    | .error e => .error (e, p)
    | .ok b => (srcBits rd (p + 1) n).map (fun r => b2n (b.testBit (p % 8)) + 2 * r)

/-- Symbols of each code length 1 to 15, in increasing order. -/
def codeTab (lens : List Nat) : List (List Nat) :=
  (List.range 15).map (fun k => (List.range lens.length).filter (fun i => lens.getD i 0 == k + 1))

/-- The sum of 2^(15 - length) over the codes: 2^15 for a complete set. -/
def kraft (tab : List (List Nat)) : Nat := (List.range 15).foldl (fun a k => a + (tab.getD k []).length * 2 ^ (14 - k)) 0

/-- Decode one symbol (RFC 1951): the code so far, the first code of the length; the rest of the tables. The next bit position. -/
def srcSym (rd : ByteSrc) (p code first : Nat) : List (List Nat) → Except (Nat × Nat) (Nat × Nat)
  | [] => .error (4, p - 1)
  | l :: r =>
    match srcBits rd p 1 with
    | .error e => .error e
    | .ok b =>
      let c := code * 2 + b
      let f := first * 2
      if c < f + l.length then (if c < f then .error (4, p) else .ok (l.getD (c - f) 0, p + 1))
      else srcSym rd (p + 1) c (f + l.length) r

/-- Length and distance codes (RFC 1951): extra bits and base. -/
def lenExtra (s : Nat) : Nat := if s < 265 ∨ s = 285 then 0 else (s - 261) / 4
def lenBase (s : Nat) : Nat :=
  if s < 265 then s - 254 else if s = 285 then 258 else 3 + (4 + (s - 261) % 4) * 2 ^ ((s - 261) / 4)
def distExtra (s : Nat) : Nat := if s < 4 then 0 else s / 2 - 1
def distBase (s : Nat) : Nat := if s < 4 then s + 1 else 1 + (2 + s % 2) * 2 ^ (s / 2 - 1)

/-- The fixed code lengths of block type 1. -/
def fixedLit : List Nat := List.replicate 144 8 ++ List.replicate 112 9 ++ List.replicate 24 7 ++ List.replicate 8 8
def fixedDist : List Nat := List.replicate 32 5

/-- The order of the code-length code lengths. -/
def clOrder : List Nat := [16, 17, 18, 0, 8, 7, 9, 6, 10, 5, 11, 4, 12, 3, 13, 2, 14, 1, 15]

/-- The code lengths of a dynamic block: `n` wanted, those read so far newest first. -/
def readLens (rd : ByteSrc) (tab : List (List Nat)) (n p : Nat) (acc : List Nat) : Nat → Except (Nat × Nat) (List Nat × Nat)
  | 0 => .error (4, p)
  | fuel + 1 =>
    if n ≤ acc.length then (if acc.length = n then .ok (acc.reverse, p) else .error (4, p - 1))
    else
      match srcSym rd p 0 0 tab with
      | .error e => .error e
      | .ok (sym, p) =>
        if sym < 16 then readLens rd tab n p (sym :: acc) fuel
        else
          let x := if sym = 16 then (2, 3) else if sym = 17 then (3, 3) else (7, 11)
          match srcBits rd p x.1, sym == 16, acc with
          | .error e, _, _ => .error e
          | .ok _, true, [] => .error (4, p - 1)
          | .ok r, true, a :: t => readLens rd tab n (p + x.1) (List.replicate (r + x.2) a ++ (a :: t)) fuel
          | .ok r, false, t => readLens rd tab n (p + x.1) (List.replicate (r + x.2) 0 ++ t) fuel

/-- The code tables of a dynamic block (RFC 1951); an invalid code or code-length set is FORMAT. -/
def readDynamic (rd : ByteSrc) (p : Nat) : Except (Nat × Nat) (List (List Nat) × List (List Nat) × Nat) :=
  match srcBits rd p 14 with
  | .error e => .error e
  | .ok h =>
    let nl := h % 32 + 257
    let nd := h / 32 % 32 + 1
    let nc := h / 1024 + 4
    if 286 < nl then .error (4, p)
    else
      match (List.range nc).foldl (fun (a : Except (Nat × Nat) (List Nat)) i =>
          match a with
          | .error e => .error e
          | .ok l => (srcBits rd (p + 14 + 3 * i) 3).map (fun v => l ++ [v])) (.ok []) with
      | .error e => .error e
      | .ok cl =>
        let p := p + 14 + 3 * nc
        let tab := codeTab ((List.range 19).map (fun s => match clOrder.findIdx? (· == s) with | some i => cl.getD i 0 | none => 0))
        if kraft tab ≠ 2 ^ 15 then .error (4, p - 1)
        else
          match readLens rd tab (nl + nd) p [] (nl + nd + 1) with
          | .error e => .error e
          | .ok (lens, p) =>
            let lt := codeTab (lens.take nl)
            let dt := codeTab (lens.drop nl)
            if lens.getD 256 0 = 0 ∨ kraft lt ≠ 2 ^ 15 then .error (4, p - 1)
            else if kraft dt = 2 ^ 15 ∨ kraft dt = 0 ∨ (kraft dt = 2 ^ 14 ∧ (dt.getD 0 []).length = 1) then .ok (lt, dt, p)
            else .error (4, p - 1)

/-- A decoder at the start of a stream. -/
def Infl.start : Infl := ⟨0, false, 0, [], [], 0, 0, 0, 0, []⟩

/-- A byte joins the window. -/
def Infl.push (d : Infl) (b : Nat) : Infl := { d with size := d.size + 1, win := (b :: d.win).take 32768 }

/-- One step of a decoder at bit position p: the decoder, the position and perhaps a byte of output. -/
abbrev InflStep := Except (Nat × Nat) (Infl × Nat × Option Nat)

/-- A block header (R360). -/
def Infl.block (d : Infl) (rd : ByteSrc) (p : Nat) : InflStep :=
  match srcBits rd p 3 with
  | .error e => .error e
  | .ok h =>
    let d := { d with fin := h % 2 == 1 }
    match h / 2 with
    | 0 =>
      let q := (p + 3 + 7) / 8 * 8
      match srcBits rd q 32 with
      | .error e => .error e
      | .ok v => if v % 65536 + v / 65536 = 65535 then .ok ({ d with ph := 2, stored := v % 65536 }, q + 32, none) else .error (4, q + 16)
    | 1 => .ok ({ d with ph := 3, lit := codeTab fixedLit, dist := codeTab fixedDist, left := 0 }, p + 3, none)
    | 2 => (readDynamic rd (p + 3)).map (fun t => ({ d with ph := 3, lit := t.1, dist := t.2.1, left := 0 }, t.2.2, none))
    | _ => .error (4, p + 2)

/-- The end of a block: the next block's header, or the trailer. -/
def Infl.blockEnd (d : Infl) : Infl := { d with ph := if d.fin then 4 else 1 }

/-- A byte of a stored block. -/
def Infl.storedByte (d : Infl) (rd : ByteSrc) (p : Nat) : InflStep :=
  if d.stored = 0 then .ok (d.blockEnd, p, none)
  else match rd (p / 8) with
    | .error e => .error (e, p)
    | .ok b => .ok ({ d with stored := d.stored - 1 }.push b, p + 8, some b)

/-- A literal, a match's next byte, or an end of block. A distance beyond the member's output is FORMAT. -/
def Infl.codes (d : Infl) (rd : ByteSrc) (p : Nat) : InflStep :=
  if 0 < d.left then
    let b := d.win.getD (d.back - 1) 0
    .ok ({ d with left := d.left - 1 }.push b, p, some b)
  else match srcSym rd p 0 0 d.lit with
    | .error e => .error e
    | .ok (sym, p1) =>
      if sym < 256 then .ok (d.push sym, p1, some sym)
      else if sym = 256 then .ok (d.blockEnd, p1, none)
      else if 285 < sym then .error (4, p1 - 1)
      else match srcBits rd p1 (lenExtra sym) with
        | .error e => .error e
        | .ok x =>
          let p2 := p1 + lenExtra sym
          match srcSym rd p2 0 0 d.dist with
          | .error e => .error e
          | .ok (ds, p3) =>
            if 29 < ds then .error (4, p3 - 1)
            else match srcBits rd p3 (distExtra ds) with
              | .error e => .error e
              | .ok y =>
                let dist := distBase ds + y
                if dist ≤ d.win.length then .ok ({ d with left := lenBase sym + x, back := dist }, p3 + distExtra ds, none)
                else .error (4, p3 + distExtra ds - 1)

/-- A zlib header at a byte position (R360). -/
def zlibHeader (rd : ByteSrc) (p : Nat) : Except (Nat × Nat) Nat :=
  match srcBits rd p 16 with
  | .error e => .error e
  | .ok v =>
    let cmf := v % 256
    let flg := v / 256
    if cmf % 16 ≠ 8 ∨ 7 < cmf / 16 ∨ (cmf * 256 + flg) % 31 ≠ 0 then .error (4, p)
    else if flg.testBit 5 then .error (8, p + 13)
    else .ok (p + 16)

/-- The byte after a zero-terminated field that starts at byte i. -/
def skipName (rd : ByteSrc) (i : Nat) : Nat → Except (Nat × Nat) Nat
  | 0 => .error (7, 8 * i)
  | fuel + 1 =>
    match rd i with
    | .error e => .error (e, 8 * i)
    | .ok 0 => .ok (i + 1)
    | .ok _ => skipName rd (i + 1) fuel

/-- A gzip member header at byte i (R360): the byte after it. `n` bounds the source. -/
def gzipHeader (rd : ByteSrc) (i n : Nat) : Except (Nat × Nat) Nat :=
  match srcBits rd (8 * i) 80 with
  | .error e => .error e
  | .ok v =>
    let flg := byteOf v 3
    if v % 2 ^ 24 ≠ 0x088B1F ∨ 32 ≤ flg then .error (4, 8 * i)
    else
      let extra : Except (Nat × Nat) Nat :=
        if flg.testBit 2 then (srcBits rd (8 * (i + 10)) 16).map (fun x => i + 12 + x) else .ok (i + 10)
      match extra with
      | .error e => .error e
      | .ok j =>
        match (if flg.testBit 3 then skipName rd j (n + 1) else .ok j) with
        | .error e => .error e
        | .ok j =>
          match (if flg.testBit 4 then skipName rd j (n + 1) else .ok j) with
          | .error e => .error e
          | .ok j =>
            if flg.testBit 1 then
              match srcBits rd (8 * i) (8 * (j - i)), srcBits rd (8 * j) 16 with
              | .ok h, .ok c => if c = crc32 (toBytes h (j - i)) % 65536 then .ok (j + 2) else .error (4, 8 * j)
              | .error e, _ => .error e
              | _, .error e => .error e
            else match rd (j - 1) with
              | .error e => .error (e, 8 * (j - 1))
              | .ok _ => .ok j

/-- One step of the decoder of a FORMAT over `n` source bytes, the check value so far known (R360). Phase 5 is the end. -/
def Infl.step (d : Infl) (fmt : Nat) (multi : Bool) (rd : ByteSrc) (n p chk : Nat) : InflStep :=
  match d.ph with
  | 0 =>
    match (if fmt = 1 then zlibHeader rd p else if fmt = 2 then (gzipHeader rd (p / 8) n).map (8 * ·) else .ok p) with
    | .error e => .error e
    | .ok p => .ok ({ Infl.start with ph := 1 }, p, none)
  | 1 => d.block rd p
  | 2 => d.storedByte rd p
  | 3 => d.codes rd p
  | 4 =>
    let q := (p + 7) / 8 * 8
    if fmt = 1 then
      match srcBits rd q 32 with
      | .error e => .error e
      | .ok v =>
        if byteOf v 0 * 2 ^ 24 + byteOf v 1 * 2 ^ 16 + byteOf v 2 * 2 ^ 8 + byteOf v 3 = chk then .ok ({ d with ph := 5, ended := q / 8 + 4 }, q + 32, none)
        else .error (5, q)
    else if fmt = 2 then
      match srcBits rd q 64 with
      | .error e => .error e
      | .ok v =>
        if v % 2 ^ 32 = chkEnd 2 chk ∧ v / 2 ^ 32 = d.size % 2 ^ 32 then
          .ok ({ d with ph := if multi && decide (q / 8 + 8 < n) then 0 else 5, ended := q / 8 + 8 }, q + 64, none)
        else .error (5, q)
    else .ok ({ d with ph := 5, ended := q / 8 }, q, none)
  | _ => .ok (d, p, none)

/-- What a run of the decoder yields: the decoder, the position, the check value, the output newest first, and how it ended: still
running, at the end, or failed with a reason at a bit. -/
structure InflRes where
  d : Infl
  p : Nat
  chk : Nat
  out : List Nat
  fail : Option (Nat × Nat)

/-- Run the decoder until `room` bytes of output (`cap` left in the destination, DST_FULL above it), its end, or a failure. A member's
start begins its check value afresh. -/
def inflRun (fmt : Nat) (multi : Bool) (rd : ByteSrc) (n cap room : Nat) (r : InflRes) : Nat → InflRes
  | 0 => { r with fail := some (7, r.p) }
  | fuel + 1 =>
    if r.d.ph = 5 then r
    else
      let chk := if r.d.ph = 0 then chkStart fmt else r.chk
      match r.d.step fmt multi rd n r.p chk with
      | .error e => { r with fail := some e }
      | .ok (d, p, none) => inflRun fmt multi rd n cap room { r with d := d, p := p, chk := chk } fuel
      | .ok (d, p, some b) =>
        if room ≤ r.out.length then r
        else if cap ≤ r.out.length then { r with fail := some (6, r.p) }
        else inflRun fmt multi rd n cap room { r with d := d, p := p, chk := chkByte fmt chk b, out := b :: r.out } fuel

end Sys2Proof.Machine
end

