-- ==== Sys2Proof/Machine/Tbf.lean ====
section
/-! DEFINITION. Turigrim Block Format: the decoder (09 R356, R357) and the module's compressor (R358). -/

namespace Sys2Proof.Machine

/-- ext(): the sum of the bytes up to and including the first below 255, and the rest. -/
def tbfExt : List Nat → Option (Nat × List Nat)
  | [] => none
  | b :: r => if b < 255 then some (b, r) else (tbfExt r).map (fun x => (b + x.1, x.2))

/-- A nibble with its extension (R357). -/
def tbfLen (c : Nat) (l : List Nat) : Option (Nat × List Nat) :=
  if c = 15 then (tbfExt l).map (fun x => (15 + x.1, x.2)) else some (c, l)

/-- `n` bytes copied from `off` back, one by one; output newest first. -/
def tbfCopy (out : List Nat) (off : Nat) : Nat → List Nat
  | 0 => out
  | n + 1 => tbfCopy (out.getD (off - 1) 0 :: out) off n

/-- LZ payload decoding (R357), output newest first; `none` for a failed requirement, a match or literals past `raw` included. -/
def tbfTokens (raw : Nat) (out : List Nat) (l : List Nat) : Nat → Option (List Nat)
  | 0 => none
  | fuel + 1 =>
    match l with
    | [] => some out
    | c :: r =>
      match tbfLen (c % 16) r with
      | none => none
      | some (lit, r) =>
        if r.length < lit ∨ raw < out.length + lit then none
        else
          let out := (r.take lit).reverse ++ out
          match r.drop lit with
          | [] => if c / 16 = 0 then some out else none
          | [_] => none
          | a :: b :: r =>
            match tbfLen (c / 16) r with
            | none => none
            | some (m, r) =>
              let off := a + 256 * b
              let n := m + 4
              if 1 ≤ off ∧ off ≤ out.length ∧ out.length + n ≤ raw then tbfTokens raw (tbfCopy out off n) r fuel
              else none

/-- A block header's fields (R356). -/
structure TbfHdr where
  raw : Nat
  last : Bool
  type : Nat
  pay : Nat
  crc : Nat

/-- A block header, its reserved values checked; `only` says that no block came before it in the stream. -/
def tbfHdr (h : Nat) (only : Bool) : Option TbfHdr :=
  let w0 := bits h 31 0
  let w1 := bits h 63 32
  let raw := bits w0 16 0
  let last := bit w0 17
  let type := bits w0 19 18
  let pay := bits w1 16 0
  if bits w0 31 20 ≠ 0 ∨ bits w1 31 17 ≠ 0 ∨ 2 ≤ type ∨ 65536 < raw ∨ (raw = 0 ∧ !(last && only)) ∨ (type = 0 ∧ pay ≠ raw) then none
  else some ⟨raw, last, type, pay, bits h 95 64⟩

/-- The raw bytes of a block, in order, or the reason for failure: FORMAT or CHECK (R357, R365). -/
def tbfBlock (h : TbfHdr) (pay : List Nat) : Except Nat (List Nat) :=
  match (if h.type = 0 then some pay.reverse else tbfTokens h.raw [] pay (pay.length + 1)) with
  | none => .error 4
  | some o =>
    let o := o.reverse
    if o.length ≠ h.raw then .error 4 else if crc32c o ≠ h.crc then .error 5 else .ok o

/-! ### The compressor -/

/-- Extension bytes of a length of 15 or more: 255 repeated, then the remainder. -/
def tbfExtBytes (n : Nat) : List Nat := List.replicate (n / 255) 255 ++ [n % 255]

/-- A token of literals and, perhaps, a match (R357): length and offset. -/
def tbfToken (lits : List Nat) (m : Option (Nat × Nat)) : List Nat :=
  let n := lits.length
  let lo := if n < 15 then n else 15
  let lx := if n < 15 then [] else tbfExtBytes (n - 15)
  match m with
  | none => [lo] ++ lx ++ lits
  | some (len, off) =>
    let k := len - 4
    let hi := if k < 15 then k else 15
    [lo + 16 * hi] ++ lx ++ lits ++ [off % 256, off / 256] ++ (if k < 15 then [] else tbfExtBytes (k - 15))

/-- How far two positions agree, at most `n` bytes more. -/
def agree (rd : Nat → Nat) (a b : Nat) : Nat → Nat
  | 0 => 0
  | n + 1 => if rd a = rd b then 1 + agree rd (a + 1) (b + 1) n else 0

/-- word32(i). -/
def word32 (rd : Nat → Nat) (i : Nat) : Nat := rd i + 2 ^ 8 * rd (i + 1) + 2 ^ 16 * rd (i + 2) + 2 ^ 24 * rd (i + 3)

/-- Bytes ls to pos - 1 of a block. -/
def slice (rd : Nat → Nat) (a b : Nat) : List Nat := (List.range (b - a)).map (fun i => rd (a + i))

/-- The parse of a block of n bytes (R358): the hash table, the position, the first pending literal, and the payload so far. -/
def tbfParse (rd : Nat → Nat) (n : Nat) (table : Map Nat) (pos ls : Nat) (acc : List (List Nat)) : Nat → List Nat
  | 0 => acc.reverse.flatten
  | fuel + 1 =>
    if pos + 4 ≤ n then
      let w := word32 rd pos
      let h := bits (w * 0x9E3779B1) 31 20
      let cand := Map.find table h
      let table := Map.put table h pos
      match cand with
      | some c =>
        if word32 rd c = w then
          let len := 4 + agree rd (c + 4) (pos + 4) (n - (pos + 4))
          tbfParse rd n table (pos + len) (pos + len) (tbfToken (slice rd ls pos) (some (len, pos - c)) :: acc) fuel
        else tbfParse rd n table (pos + 1) ls acc fuel
      | none => tbfParse rd n table (pos + 1) ls acc fuel
    else (tbfToken (slice rd ls n) none :: acc).reverse.flatten

/-- A block of at most 65,536 bytes compressed (R356, R358). -/
def tbfCompress (blk : List Nat) (last : Bool) : List Nat :=
  let n := blk.length
  let v := ofBytes blk
  let lz := tbfParse (fun i => byteOf v i) n [] 0 0 [] (n + 1)
  let st := !decide (lz.length < n)
  let pay := if st then blk else lz
  toBytes (n + b2n last * 2 ^ 17 + (if st then 0 else 2 ^ 18)) 4 ++ toBytes pay.length 4 ++ toBytes (crc32c blk) 4 ++ pay

/-- The stream header (R356). -/
def tbfStream (hist : Bool) : List Nat := toBytes 0x31464254 4 ++ toBytes (b2n hist) 4

end Sys2Proof.Machine
end

