-- ==== Sys2Proof/Machine/Compress.lean ====
section
/-! DEFINITION. The compression engine (09): contexts, chunks, pipes, the historian drain. -/

namespace Sys2Proof.Machine

/-- Whether pipe n is Up (R381). -/
def State.czUp (s : State) (n : Nat) : Bool := s.rf CZ_PIPE_STAT_STATE n == 0

/-- The Up pipes. -/
def State.czUps (s : State) : List Nat := (List.range 4).filter (fun n => s.czUp n)

/-- CZ_STAT and CZ_PIPE_STAT_n follow the contexts and the pipes (R377, R381); 0x304 on each change of UP (R374). -/
def State.czSync (s : State) : State :=
  let s := s.sf CZ_STAT_CTX_USED s.cz.ctxs.length
  let s := s.each (List.range 4) (fun s n => s.sf CZ_PIPE_STAT_ACTIVE (s.cz.ctxs.filter (fun c => c.pipe == n)).length n)
  let up := s.czUps.foldl (fun a n => a + 2 ^ n) 0
  if s.rf CZ_STAT_UP = up then s else (s.sf CZ_STAT_UP up).raise 0x304

def State.setCtxs (s : State) (l : List CzCtx) : State := { s with cz := { s.cz with ctxs := l } }.czSync

def State.setCzHeld (s : State) (l : List CzCtx) : State := { s with cz := { s.cz with held := l } }.czStarve

/-- A completion entry (R364). -/
def czEntry (c : CzCtx) (status reason chk srcDone dstDone : Nat) : Nat :=
  c.tag + status * 2 ^ 16 + reason * 2 ^ 24 + chk * 2 ^ 32 + srcDone * 2 ^ 64 + dstDone * 2 ^ 128 +
  (c.ran + c.moves * 16) * 2 ^ 192 + c.gen * 2 ^ 224

/-- A request ends OK. -/
def State.czOk (s : State) (c : CzCtx) (chk srcDone dstDone : Nat) : State :=
  s.complete (org 0xA c.pipe) c.inst c.gen 1 c.queue (czEntry c 0 0 chk srcDone dstDone)

/-- A request fails (R365, R375, R380). -/
def State.czFail (s : State) (c : CzCtx) (reason chk srcDone dstDone : Nat) : State :=
  let s := s.bump rCZ_FAIL_CNT
  let s := (((s.sf CZ_ELOG_VALID 1).sf CZ_ELOG_REASON reason).sf CZ_ELOG_INSTANCE c.inst).sf CZ_ELOG_TAG c.tag
  s.complete (org 0xA c.pipe) c.inst c.gen 1 c.queue (czEntry c 1 reason chk srcDone dstDone)

/-- The check value of a context as its completion reports it: of no byte for a request that never ran. -/
def CzCtx.check (c : CzCtx) : Nat := chkEnd c.fmt c.chk

/-- SRC_DONE and DST_DONE of a request that ends between chunks (R367). -/
def CzCtx.srcDone (c : CzCtx) : Nat := if c.op = 2 ∧ c.fmt ≠ 3 then c.pos / 8 else c.pos

/-- A request that ends between its chunks for a reason of the engine. -/
def State.czAbort (s : State) (c : CzCtx) (reason : Nat) : State :=
  if c.op = 3 then s.czFail c reason 0 0 0 else s.czFail c reason c.check c.srcDone c.out

/-! ### Descriptor fetch -/

/-- A context from a descriptor (R362). -/
def czParse (inst gen queue pipe v : Nat) : CzCtx :=
  let w := bits v 31 0
  let fmt := bits w 11 8
  { inst := inst, gen := gen, queue := queue, tag := bits v 47 32, op := bits w 7 0, fmt := fmt, level := bits w 15 12, multi := bit w 16,
    src := bits v 127 64, srcLen := bits v 159 128, dst := bits v 255 192, dstLen := bits v 287 256, pipe := pipe, moves := 0,
    charged := false, pos := 0, out := 0, chk := chkStart fmt, infl := Infl.start, bits := [], chunks := 0, ran := pipe }

/-- BAD_DESC (R363). -/
def czBad (v : Nat) (c : CzCtx) : Bool :=
  let w := bits v 31 0
  let defl := decide (c.fmt < 3)
  (bits w 31 17 != 0) || (bits v 63 48 != 0) || (bits v 191 160 != 0) || (bits v 511 288 != 0) ||
  !(decide (1 ≤ c.op) && decide (c.op ≤ 3)) || decide (3 < c.fmt) ||
  (if c.op == 1 && defl then !(decide (1 ≤ c.level) && decide (c.level ≤ 4)) else c.level != 0) ||
  (c.multi && !(c.op == 2 && c.fmt == 2)) ||
  decide (2 ^ 46 ≤ c.src) || decide (2 ^ 46 ≤ c.dst) || decide (2 ^ 30 < c.srcLen) || (c.dstLen == 0) ||
  (decide (0 < c.srcLen) && decide (c.src < c.dst + c.dstLen) && decide (c.dst < c.src + c.srcLen)) ||
  (c.op == 3 && (c.fmt != 3 || c.src != 0 || c.srcLen != 0 || decide (c.dstLen < 100)))

/-- Whether a HIST_FILL comes from the enabled sink's queue (R368). -/
def State.isSink (s : State) (c : CzCtx) : Bool :=
  s.rb CZ_HIST_CFG_EN && s.rf CZ_HIST_CFG_INSTANCE == c.inst && s.rf CZ_HIST_CFG_QUEUE == c.queue

/-- COMPRESSION_DESCRIPTOR_FETCH (R350, R363, R368, R562): a free context, the arbiter's instance, its next fetchable queue from `q0` on,
the pipe from `p0` on that is Up. The grant is the request's first chunk's token. -/
def State.czFetch (s : State) (q0 p0 : Nat) : State :=
  if 16 ≤ s.cz.ctxs.length then s
  else
    match s.grant 1 ((s.qWaiting 1).map (fun i => (i, 1))) with
    | (s, none) => s
    | (s, some i) =>
      match s.qPick i 1 q0 with
      | none => s
      | some d =>
        let p := ((List.range 4).map (fun j => (p0 + j) % 4)).find? (fun n => s.czUp n)
        match s.qFetch (org 0xA (p.getD p0)) i 1 d with
        | (s, none) => s.refundToken 1 i
        | (s, some v) =>
          let c := { czParse i (s.gen i) d (p.getD p0) v with charged := true }
          if czBad v c then (s.refundToken 1 i).czFail c 1 c.check 0 0
          else if c.op = 3 ∧ s.isSink c = false then (s.refundToken 1 i).czFail c 9 0 0 0
          else if p.isNone then (s.refundToken 1 i).czFail c 0xA c.check 0 0
          else if c.op = 3 then s.setCzHeld (s.cz.held ++ [c])
          else s.setCtxs (s.cz.ctxs ++ [c])

/-! ### Pipes -/

/-- Reassign contexts of a retired pipe in turn to the remaining Up pipes (R372). -/
def czReassign (n : Nat) (ups : List Nat) : List CzCtx → Nat → List CzCtx
  | [], _ => []
  | c :: r, k =>
    if c.pipe = n then { c with pipe := ups.getD (k % ups.length) 0, moves := min 15 (c.moves + 1) } :: czReassign n ups r (k + 1)
    else c :: czReassign n ups r k

/-- A compression pipe is no longer Up: its contexts move (R372). -/
def State.czGone (s : State) (n : Nat) : State :=
  let s := s.setCtxs (czReassign n s.czUps s.cz.ctxs 0)
  { s with cz := { s.cz with held := czReassign n s.czUps s.cz.held 0 } }

/-- COMPRESSION_PIPE_RETIREMENT (R372): contexts move; with no pipe Up every fetched request fails with ENGINE_DOWN. -/
def State.czRetire (s : State) (n : Nat) : State :=
  if !s.czUp n then s
  else
    let (s, ret) := s.outOfService (org 0xA n)
    let s := (s.sf CZ_PIPE_STAT_STATE (if ret then 3 else 1) n).raise (0x300 + n)
    let s := s.report { org := org 0xA n, cause := 0x0A03, cls := ochre, react := if ret then 6 else 5 }
    match s.czUps with
    | [] =>
      let all := s.cz.ctxs ++ s.cz.held
      (((s.setCtxs []).setCzHeld []).each all (fun s c => s.czAbort c 0xA)).czSync
    | _ => s.czGone n

/-- A retired pipe returns to service (R372, 15 R635). -/
def State.czReturn (s : State) (n : Nat) : State := ((s.sf CZ_PIPE_STAT_STATE 0 n).raise (0x300 + n)).czSync

/-- Failed checks of a chunk on pipe n (R372): the first repeats it, a second retires the pipe. Whether the chunk goes on. -/
def State.czChecks (s : State) (n fails : Nat) : State × Bool :=
  if fails = 0 then (s, true)
  else
    let s := ((s.bump rCZ_PIPE_RETRY n).raise (0x300 + n)).report { org := org 0xA n, cause := 0x0A01, cls := slate, react := 2 }
    if fails = 1 then (s, true) else (s.czRetire n, false)

/-! ### Chunks -/

/-- The reason code of a refused or poisoned access (R365). DESIGN CHOICE (log 71): the reason list has no code for an address error
(01 R25), which is TRANSLATION here. -/
def czReason (e : Nat) : Nat := if e = 3 then 3 else 2

/-- Bytes of a context's source. -/
def State.czRead (s : State) (c : CzCtx) (off n : Nat) : State × Except Nat (List Nat) :=
  match s.ioRead (org 0xA c.pipe) c.inst c.gen (c.src + off) n with
  | (s, .error e) => (s, .error (czReason e))
  | (s, .ok v) => (s, .ok (toBytes v n))

/-- The decoder's byte source: each byte of the source as an access would find it, SRC_SHORT past its end. -/
def State.czSource (s : State) (c : CzCtx) : ByteSrc := fun i =>
  if c.srcLen ≤ i then .error 7
  else match (s.ioRead (org 0xA c.pipe) c.inst c.gen (c.src + i) 1).2 with
    | .ok b => .ok b
    | .error e => .error (czReason e)

/-- The end of a chunk: written and still running, ended OK, or failed with a reason; each with the context as it then stands, and the
check value, SRC_DONE and DST_DONE of the completion. -/
inductive CzEnd where
  | more (c : CzCtx)
  | ok (c : CzCtx) (chk src dst : Nat)
  | fail (c : CzCtx) (reason chk src dst : Nat)

/-- Output of one checked chunk (R366): DST_FULL when it does not fit. `k` goes on once it is written. -/
def State.czWrite (s : State) (c : CzCtx) (bs : List Nat) (srcDone : Nat) (k : CzCtx → CzEnd) : State × CzEnd :=
  if c.dstLen < c.out + bs.length then (s, .fail c 6 c.check srcDone c.out)
  else match s.ioWrite (org 0xA c.pipe) c.inst c.gen (c.dst + c.out) bs.length (ofBytes bs) with
    | (s, .error _) => (s, .fail c 2 c.check srcDone c.out)
    | (s, .ok _) => (s.bump rCZ_PIPE_OUT c.pipe bs.length, k { c with out := c.out + bs.length })

/-- The stored form of a block's source as bits after `n` pending ones (RFC 1951, R361): pieces of at most 65,535 bytes. -/
def boolBits (v n : Nat) : List Bool := (List.range n).map (fun i => v.testBit i)

def storedBits (pend : Nat) (blk : List Nat) (last : Bool) : Nat → List Bool
  | 0 => []
  | fuel + 1 =>
    let a := blk.take 65535
    let r := blk.drop 65535
    let h := boolBits (b2n (last && r.isEmpty)) 3 ++ List.replicate ((8 - (pend + 3) % 8) % 8) false ++
      boolBits (a.length + (65535 - a.length) * 65536) 32 ++ boolBits (ofBytes a) (8 * a.length)
    if r.isEmpty then h else h ++ storedBits 0 r last fuel

/-- Whole bytes of a bit list. -/
def bitBytes : List Bool → Nat → List Nat
  | _, 0 => []
  | l, n + 1 => (List.range 8).foldl (fun a i => a + b2n (l.getD i false) * 2 ^ i) 0 :: bitBytes (l.drop 8) n

/-- Whether bits are one DEFLATE block of the source after the window: type 1 at LEVEL 1, else 2 (R361). -/
def validBlock (level : Nat) (win blk : List Nat) (last : Bool) (l : List Bool) : Bool :=
  let bs := bitBytes l ((l.length + 7) / 8)
  let v := ofBytes bs
  let rd : ByteSrc := fun i => if i < bs.length then .ok (byteOf v i) else .error 7
  let d : Infl := { Infl.start with ph := 1, win := win }
  let go := (List.range (blk.length + l.length + 2)).foldl (fun (a : Option (Infl × Nat × List Nat)) _ =>
    match a with
    | none => none
    | some (d, p, o) =>
      if p ≠ 0 ∧ (d.ph = 1 ∨ d.ph = 4) then some (d, p, o)
      else match d.step 0 false rd bs.length p 0 with
        | .error _ => none
        | .ok (d, p, none) => some (d, p, o)
        | .ok (d, p, some b) => some (d, p, b :: o)) (some (d, 0, []))
  match go with
  | some (d, p, o) =>
    (d.ph == 1 || d.ph == 4) && p == l.length && o.reverse == blk && d.fin == last &&
    (l.getD 1 false == (level == 1)) && (l.getD 2 false == (level != 1))
  | none => false

/-- The bits of a block (R361): the compressor's choice where it is valid and not longer than the stored form. -/
def deflateBits (level pend : Nat) (win blk : List Nat) (last : Bool) : List Bool :=
  let st := storedBits pend blk last (blk.length / 65535 + 1)
  let cand := Config.deflateBlock level win blk last
  if cand.length ≤ st.length ∧ validBlock level win blk last cand then cand else st

/-- The bytes before the first block (R361). -/
def deflateHead (fmt level : Nat) : List Nat :=
  if fmt = 1 then [0x78, (level - 1) * 64 + (31 - (0x7800 + (level - 1) * 64) % 31) % 31]
  else if fmt = 2 then [0x1F, 0x8B, 8, 0, 0, 0, 0, 0, 0, 0xFF]
  else []

/-- The bytes after the last block. -/
def deflateTail (fmt chk len : Nat) : List Nat :=
  if fmt = 1 then (toBytes chk 4).reverse else if fmt = 2 then toBytes (chkEnd 2 chk) 4 ++ toBytes len 4 else []

/-- One chunk of a COMPRESS (R350, R358, R361, R367). -/
def State.czCompress (s : State) (c : CzCtx) : State × CzEnd :=
  let n := min 65536 (c.srcLen - c.pos)
  match s.czRead c c.pos n with
  | (s, .error e) => (s, .fail c e c.check c.pos c.out)
  | (s, .ok blk) =>
    let s := (s.bump rCZ_PIPE_IN c.pipe n).pmEvent 0x0702 c.pipe (some c.inst) ((n + 63) / 64)
    let last := c.srcLen ≤ c.pos + n
    let chk := blk.foldl (chkByte c.fmt) c.chk
    let done := fun (c : CzCtx) => if last then CzEnd.ok c c.check c.pos c.out else .more c
    if c.fmt = 3 then
      s.czWrite c ((if c.pos = 0 then tbfStream false else []) ++ tbfCompress blk last) c.pos
        (fun c => done { c with pos := c.pos + n, chk := chk })
    else
      let l := c.bits ++ deflateBits c.level c.bits.length c.infl.win blk last
      let whole := if last then (l.length + 7) / 8 else l.length / 8
      let bs := (if c.pos = 0 then deflateHead c.fmt c.level else []) ++ bitBytes l whole ++
        (if last then deflateTail c.fmt chk c.srcLen else [])
      s.czWrite c bs c.pos (fun c => done { c with pos := c.pos + n, chk := chk, bits := l.drop (8 * whole),
                                                   infl := { c.infl with win := (blk.reverse ++ c.infl.win).take 32768 } })

/-- The TBF blocks that end within the 64 KiB of output of one chunk (R350, R357): a block that runs on into the next is written with it, once its CRC has
passed (R366, R367). Position, output so far newest first, the check value. `fuel` bounds the blocks. -/
def State.czTbf (s : State) (c : CzCtx) (pos : Nat) (acc : List Nat) (chk : Nat) : Nat → State × (List Nat × Nat × Nat × Option Nat × Bool)
  | 0 => (s, (acc, pos, chk, none, false))
  | fuel + 1 =>
    let stop := fun (s : State) (e : Nat) => (s, (acc, pos, chk, some e, false))
    if c.srcLen < pos + 12 then stop s (if c.srcLen = pos then 4 else 7)
    else match s.czRead c pos 12 with
      | (s, .error e) => stop s e
      | (s, .ok hb) =>
        match tbfHdr (ofBytes hb) (pos == 8) with
        | none => stop s 4
        | some h =>
          if 65536 * (c.chunks + 1) < c.out + acc.length + h.raw then (s, (acc, pos, chk, none, false))
          else if c.srcLen < pos + 12 + h.pay then stop s 7
          else match s.czRead c (pos + 12) h.pay with
            | (s, .error e) => stop s e
            | (s, .ok pay) =>
              match tbfBlock h pay with
              | .error e => stop s e
              | .ok o =>
                if c.dstLen < c.out + acc.length + o.length then stop s 6
                else
                  let s := s.bump rCZ_PIPE_IN c.pipe (12 + h.pay)
                  let acc := o.reverse ++ acc
                  let chk := o.foldl crc32cByte chk
                  if h.last then (s, (acc, pos + 12 + h.pay, chk, none, true))
                  else s.czTbf c (pos + 12 + h.pay) acc chk fuel

/-- One chunk of a DECOMPRESS of TBF. A failure writes the whole blocks before the failing one (R367). -/
def State.czUntbf (s : State) (c : CzCtx) : State × CzEnd :=
  let head : State × Except Nat Unit :=
    if c.pos ≠ 0 then (s, .ok ())
    else if c.srcLen < 8 then (s, .error 7)
    else match s.czRead c 0 8 with
      | (s, .error e) => (s, .error e)
      | (s, .ok b) => (s.bump rCZ_PIPE_IN c.pipe 8, if bits (ofBytes b) 31 0 = 0x31464254 ∧ bits (ofBytes b) 63 33 = 0 then .ok () else .error 4)
  match head with
  | (s, .error e) => (s, .fail c e c.check 0 0)
  | (s, .ok _) =>
    let c := { c with pos := max c.pos 8 }
    match s.czTbf c c.pos [] c.chk 65537 with
    | (s, (acc, pos, chk, e, fin)) =>
      s.czWrite c acc.reverse c.pos (fun c =>
        let c := { c with pos := pos, chk := chk }
        match e with
        | some e => .fail c e c.check pos c.out
        | none => if fin then .ok c c.check pos c.out else .more c)

/-- One chunk of a DECOMPRESS of DEFLATE: bytes decoded before a failure are written (R367). The read's translations are those of the
bytes it consumed. -/
def State.czInflate (s : State) (c : CzCtx) : State × CzEnd :=
  let rd := s.czSource c
  let r := inflRun c.fmt c.multi rd c.srcLen (c.dstLen - c.out) 65536 ⟨c.infl, c.pos, c.chk, [], none⟩ (8 * c.srcLen + 65536 + 64)
  let upto := match r.fail with | some (e, p) => if e = 2 ∨ e = 3 then p / 8 + 1 else min c.srcLen (p / 8 + 1) | none => (r.p + 7) / 8
  let s := (s.czRead c (c.pos / 8) (upto - c.pos / 8)).1
  let s := s.bump rCZ_PIPE_IN c.pipe ((r.p + 7) / 8 - (c.pos + 7) / 8)
  s.czWrite c r.out.reverse (c.pos / 8) (fun c =>
    let c := { c with pos := r.p, chk := r.chk, infl := r.d }
    match r.fail with
    | some (e, p) => .fail c e c.check (if e = 7 then c.srcLen else p / 8) c.out
    | none => if r.d.ph = 5 then .ok c c.check r.d.ended c.out else .more c)

/-- The context that pipe n serves next (R350): the next of its contexts whose instance has a token. -/
def State.czNext (s : State) (n : Nat) : Option CzCtx := s.cz.ctxs.find? (fun c => c.pipe == n && (c.charged || s.eligible 1 c.inst 1))

/-- Entries that a held HIST_FILL takes at most (R369). -/
def CzCtx.cap (c : CzCtx) : Nat := min 4096 ((c.dstLen - 84) / 16)

/-- The ready lane with the greatest fill, the lower number on ties (R370): one that holds as many entries as a held buffer takes, or whose oldest has waited. -/
def State.readyLane (s : State) : Option Nat :=
  let cap := (s.cz.held.map CzCtx.cap).foldl min 4096
  ((List.range 64).filter (fun l => decide (0 < s.stageFill l) && (decide (cap ≤ s.stageFill l) || s.cz.ready.contains l))).foldl
    (fun (b : Option Nat) l => match b with
      | some x => if s.stageFill x < s.stageFill l then some l else some x
      | none => some l) none

/-- The drain's credit on pipe n: HIST_SHARE of every chunk while entries wait, a whole chunk for each segment (R350). -/
def State.creditOf (s : State) (n : Nat) : Nat := Map.getD s.cz.credit n 0
def State.czCredit (s : State) (n : Nat) (own : Bool) : State :=
  if (List.range 64).any (fun l => decide (0 < s.stageFill l)) || own then
    { s with cz := { s.cz with credit := Map.put s.cz.credit n (s.creditOf n + s.rf CZ_CFG_HIST_SHARE - (if own then 100 else 0)) } }
  else s

/-- Whether the pipe's next chunk is the drain's: a segment can be written, and its share is due or no context wants the pipe. -/
def State.drainTurn (s : State) (n : Nat) : Bool :=
  (match s.cz.held with | _ :: _ => !s.storeLost && s.readyLane.isSome | [] => false) && (decide (100 ≤ s.creditOf n) || (s.czNext n).isNone)

/-- COMPRESSION_CHUNK on pipe n (R350, R366). -/
def State.czChunk (s : State) (n fails : Nat) : State :=
  if !s.czUp n || s.drainTurn n then s
  else match s.czNext n with
    | none => s
    | some c =>
      let s := (if c.charged then s else s.chargeTokens 1 c.inst 1).czCredit n false
      let others := s.cz.ctxs.filter (fun x => x != c)
      let c := { c with ran := n }
      let s := (s.sf CZ_PIPE_STAT_INSTANCE c.inst n).pmEvent 0x0701 n (some c.inst)
      match { s with cz := { s.cz with ctxs := others ++ [{ c with charged := true }] } }.czChecks n fails with
      | (s, false) => s
      | (s, true) =>
        let c := { c with chunks := c.chunks + 1 }
        let r := if c.op = 1 then s.czCompress c else if c.fmt = 3 then s.czUntbf c else s.czInflate c
        match r with
        | (s, .more c) => s.setCtxs (others ++ [{ c with charged := false }])
        | (s, .ok c chk a b) => (s.setCtxs others).czOk c chk a b
        | (s, .fail c e chk a b) => (s.setCtxs others).czFail c e chk a b

/-! ### Historian drain -/

/-- The offset of staging entry at position p of lane l's ring. -/
def stageOff (l p : Nat) : Nat := 0x240000000 + l * 0xF000000 + 16 * (p % stageSize)

/-- Entries of a lane copied in ring order, those with a double-bit error left out; the next one copied after one carries GAP (R371).
The entries, the Signal IDs of those discarded, and whether a GAP is owed. -/
def State.drainEntries (s : State) (l tail n : Nat) (gap : Bool) : List Nat × List Nat × Bool :=
  (List.range n).foldl (fun (a : List Nat × List Nat × Bool) j =>
    let off := stageOff l (tail + j)
    if s.sg.bad.contains (off / 16) then (a.1, a.2.1 ++ [s.sgRd (off + 12) 4 % 2 ^ 21], true)
    else (a.1 ++ [setBit (s.sgRd off 16) 120 (bit (s.sgRd off 16) 120 || a.2.2)], a.2.1, false)) ([], [], gap)

/-- The segment's bytes (R369). -/
def segBytes (lane seq tail : Nat) (es : List Nat) : List Nat :=
  let raw := es.flatMap (fun e => toBytes e 16)
  let tbf := tbfStream true ++ tbfCompress raw true
  let ts := (es.map (fun e => bits e 63 0)).filter (· != 0)
  let least := ts.foldl (fun m t => min m t) (ts.headD 0)
  let most := ts.foldl (fun m t => max m t) 0
  let h := toBytes (lane + 0x100 + es.length * 2 ^ 16) 4 ++ toBytes seq 4 ++ toBytes (stageVal tail) 4 ++ toBytes 0 4 ++
    toBytes least 8 ++ toBytes most 8 ++ toBytes tbf.length 4
  h ++ toBytes (crc32c h) 4 ++ List.replicate 24 0 ++ tbf

/-- The lane's TAIL passes n entries: their granules' errors are gone, and the lane's wait begins afresh. -/
def State.stageConsume (s : State) (l tail n : Nat) : State :=
  let gone := (List.range n).map (fun j => stageOff l (tail + j) / 16)
  let s := s.wreg rSG_STAGE_TAIL l (stageVal (tail + n))
  { s with sg := { s.sg with bad := s.sg.bad.filter (fun g => !gone.contains g) },
           cz := { s.cz with ready := s.cz.ready.filter (· != l) } }.czStarve

/-- SEGMENT_WRITE on pipe n (R368-R372). A lane whose entries are all discarded gives no segment. -/
def State.segmentWrite (s : State) (n fails : Nat) : State :=
  if !s.czUp n || !s.drainTurn n then s
  else match s.cz.held with
    | [] => s
    | c :: rest =>
      match s.readyLane with
      | none => s
      | some l =>
        match s.czChecks n fails with
        | (s, false) => s
        | (s, true) =>
          let s := s.czCredit n true
          let c := { c with pipe := n, ran := n }
          let tail := stagePos (s.reg rSG_STAGE_TAIL l)
          let k := min c.cap (s.stageFill l)
          let (es, disc, gap) := s.drainEntries l tail k (s.cz.gaps.contains l)
          let discard := fun (s : State) =>
            let s := s.each disc (fun s sid => ((s.bump rCZ_STAGE_DISC).raise 0x306).sgElog 4 l sid)
            { s with cz := { s.cz with gaps := s.cz.gaps.filter (· != l) ++ (if gap then [l] else []) } }
          if es.isEmpty then (discard s).stageConsume l tail k
          else
            let bs := segBytes l (Map.getD s.cz.segs l 0) tail es
            match s.ioWrite (org 0xA n) c.inst c.gen c.dst bs.length (ofBytes bs) with
            | (s, .error _) => (s.setCzHeld rest).czFail c 2 0 0 0
            | (s, .ok _) =>
              let s := (s.bump rCZ_PIPE_IN n (16 * k)).bump rCZ_PIPE_OUT n bs.length
              let s := (discard s).bump rCZ_SEG_CNT
              let s := { s with cz := { s.cz with segs := Map.put s.cz.segs l ((Map.getD s.cz.segs l 0 + 1) % 2 ^ 32) } }
              ((s.stageConsume l tail k).setCzHeld rest).czOk c (crc32c (es.flatMap (fun e => toBytes e 16))) 0 bs.length

/-- HIST_LINGER_EXPIRY (R370). -/
def State.histLinger (s : State) (l : Nat) : State :=
  if s.stageFill l = 0 ∨ s.cz.ready.contains l then s else { s with cz := { s.cz with ready := s.cz.ready ++ [l] } }

/-- HIST_SINK_DISABLE (R368): every held HIST_FILL fails with DENIED. -/
def State.histDisable (s : State) : State :=
  let h := s.cz.held
  ((s.sf CZ_HIST_CFG_EN 0).setCzHeld []).each h (fun s c => s.czFail c 9 0 0 0)

/-- The drain of an instance (R373): its started requests and held HIST_FILLs end, their completions discarded and counted. -/
def State.czDrain (s : State) (i : Nat) : State :=
  let n := (s.cz.ctxs.filter (fun c => c.inst == i)).length + (s.cz.held.filter (fun c => c.inst == i)).length
  let s := (s.setCtxs (s.cz.ctxs.filter (fun c => c.inst != i))).setCzHeld (s.cz.held.filter (fun c => c.inst != i))
  if n = 0 then s else s.bump rTN_STALE i n

end Sys2Proof.Machine
end

