-- ==== Sys2Proof/Machine/Lease.lean ====
section
/-! DEFINITION. Key slot commands (10 R388-R393) and the Secure world's leases (10 R407-R410, 17 R708). -/

namespace Sys2Proof.Machine

/-- The device is tainted by debug level 0x3 (17 R727). -/
def State.tainted (s : State) : Bool := s.rb VT_STAT_TAINTED

/-- KEY_LOAD (R389). -/
def State.doKeyLoad (s : State) (c : Cmd) : State :=
  let k := c.p 0
  if s.rb CY_SLOT_LEASED k && !s.fromSecure c then s.finish c stLEASED
  else if s.tainted then s.finish c stDENIED
  else if s.rf CY_SLOT_STATE k ≠ 0 then s.finish c stDENIED
  else if s.ist c.inst = 0 ∨ (s.rb CY_SLOT_LEASED k && !s.rb TN_INST_SECURE c.inst) = true then s.finish c stBAD_PARAM
  else match s.takeBundle c.pay with
    | (s, none) => s.finish c stBAD_PARAM
    | (s, some b) => ((s.loadSlot k c.inst b c.pay).mirrorCmd c).finish c stOK

/-- The commands that wait for erased slots reply once those are Empty (R390, R410). -/
def State.eraseReplies (s : State) : State :=
  s.each (s.mp.cmds.filter (fun c => (c.op == 0x0503 || c.op == 0x0511) && c.phase == 2 && !c.lop.items.isEmpty &&
    c.lop.items.all (fun x => s.rf CY_SLOT_STATE (x - 1) != 3))) (fun s c => s.finish c stOK)

/-- Erase slots and reply when they are Empty. -/
def State.eraseThen (s : State) (c : Cmd) (ks : List Nat) : State :=
  let s := s.each ks (fun s k => s.eraseSlot k)
  let left := ks.filter (fun k => s.rf CY_SLOT_STATE k == 3)
  if left.isEmpty then s.finish c stOK else s.putCmd { c with lop := { c.lop with items := left.map (· + 1) } }

/-- A rotation of slot k ends as by OP_CANCEL. -/
def State.endRotation (s : State) (k : Nat) : State :=
  if s.cy.rot.any (fun r => r.slot == k) then s.rotCancel else s

/-- KEY_ERASE (R390). An Empty slot has nothing to erase; a rotation of the slot ends first (log 69). -/
def State.doKeyErase (s : State) (c : Cmd) : State :=
  if s.rb CY_SLOT_LEASED (c.p 0) && !s.fromSecure c then s.finish c stLEASED
  else ((s.endRotation (c.p 0)).mirrorCmd c).eraseThen c [c.p 0]

/-- KEY_ERASE_COMPLETE (R390): the slot's last holder has completed. -/
def State.keyEraseComplete (s : State) (k : Nat) : State :=
  if s.rf CY_SLOT_STATE k = 3 ∧ s.rf CY_SLOT_INFLIGHT k = 0 then (s.zeroSlot k).eraseReplies else s

/-- KEY_ROTATE (R393 steps 1 and 2). -/
def State.doKeyRotate (s : State) (c : Cmd) : State :=
  let k := c.p 0 % 4096
  let rew := bit (c.p 0) 16
  let alg := s.rf CY_SLOT_ALG k
  let n := match alg with | 0 => 64 | 1 => 96 | 2 => 48 | _ => 64
  let base := c.p64 1
  let len := c.p64 3
  let du := c.p 5
  if s.rb CY_SLOT_LEASED k && !s.fromSecure c then s.finish c stLEASED
  else if s.tainted then s.finish c stDENIED
  else if s.rb CY_ROTATE_BUSY then s.finish c stDENIED [s.rf CY_ROTATE_SLOT]
  else if s.rf CY_SLOT_STATE k ≠ 1 then s.finish c stDENIED
  else if c.pay.length ≠ n + (if rew then 16 else 0) ∨
      (rew ∧ (2 ≤ alg ∨ len < 16 ∨ 2 ^ 46 < base + len ∨ badDu du len = true)) then s.finish c stBAD_PARAM
  else match s.takeBundle (c.pay.take n) with
    | (s, none) => s.finish c stBAD_PARAM
    | (s, some b) =>
      if b.alg ≠ alg then s.finish c stBAD_PARAM
      else
        let s := s.mirrorCmd c
        let r : Rot := ⟨c.seq, k, base, if rew then len else 0, du, ofBytes (c.pay.drop n), c.pay.take n, false⟩
        let s := { s with cy := { s.cy with rot := some r } }
        let s := (s.sf CY_SLOT_STATE 2 k).raise 0x312
        let s := (((s.sf CY_ROTATE_BUSY 1).sf CY_ROTATE_PHASE 1).sb CY_ROTATE_REWRAP rew).sf CY_ROTATE_SLOT k
        let s := (s.sf CY_ROTATE_TOTAL (s.holders k)).sf CY_ROTATE_POS_POS 0
        s.longPhase c 2 (s.holders k) []

/-! ### Leases -/

/-- The lowest free lease index. -/
def State.leaseIdx (s : State) : Option Nat := (List.range 32).find? (fun i => !s.leases.any (fun (l : Lease) => l.idx == i))

/-- A lease's handle (17 R708). -/
def Lease.handle (l : Lease) : Nat := l.idx + l.serial * 65536

/-- A lease is taken: its index and the next serial number. -/
def State.addLease (s : State) (kind holder : Nat) (pipes slots pages : List Nat) : State × Nat :=
  let l : Lease := ⟨s.leaseIdx.getD 0, (s.leaseSerial + 1) % 65536, kind, holder, pipes, slots, pages, none, none, false⟩
  ({ s with leases := s.leases ++ [l], leaseSerial := s.leaseSerial + 1 }, l.handle)

/-- LEASE_TAKE of KIND 0x01 (R407); a KIND other than 0x01 and 0x02 is BAD_PARAM. -/
def State.doLeaseCipher (s : State) (c : Cmd) : State :=
  let n := c.p 2
  let slots := (List.range n).map (fun j => ofBytes ((c.pay.drop (2 * j)).take 2))
  let pipes := (List.range 8).filter (fun p => bit (c.p 1) (p / 2))
  let un := (s.cySide false).filter (fun p => !pipes.contains p)
  let leasedNow := ((List.range 8).filter (fun p => s.cyLeased p)).length
  if c.p 0 ≠ 1 ∨ 16 ≤ c.p 1 ∨ 2016 < n ∨ c.pay.length < 2 * n ∨ slots.any (fun k => decide (4096 ≤ k)) = true then s.finish c stBAD_PARAM
  else if s.tainted then s.finish c stDENIED
  else if slots.any (fun k => s.rf CY_SLOT_STATE k != 0 || s.rb CY_SLOT_LEASED k) then s.finish c stDENIED
  else if pipes.any (fun p => !s.cyUp p || s.cyLeased p) then s.finish c stDENIED
  else if un.length < 4 ∨ 4 < leasedNow + pipes.length ∨ 32 ≤ s.leases.length then s.finish c stNO_RESOURCE
  else
    let s := s.each pipes (fun s p => (s.pipeLease p true).raise (0x308 + p))
    let s := s.each slots (fun s k => s.sf CY_SLOT_LEASED 1 k)
    let (s, h) := s.addLease 1 c.sender pipes slots.eraseDups []
    ((((s.cyMove).raise 0x313).leaseSync).mirrorCmd c).finish c stOK [h]

/-- LEASE_TAKE of KIND 0x02 (17 R708): the lowest free pages of the leasable region. -/
def State.doLeaseSram (s : State) (c : Cmd) : State :=
  let kib := c.p 1
  let used := s.leases.flatMap (fun (l : Lease) => l.pages)
  if c.p 2 ≠ 0 ∨ kib % 4 ≠ 0 ∨ kib < 4 ∨ 1024 < kib then s.finish c stBAD_PARAM
  else if s.tainted then s.finish c stDENIED
  else if 1024 < 4 * used.length + kib ∨ 32 ≤ s.leases.length then s.finish c stNO_RESOURCE
  else
    let pages := ((List.range 256).filter (fun p => !used.contains p)).take (kib / 4)
    let (s, h) := s.addLease 2 c.sender [] [] pages
    ((s.leaseSync).mirrorCmd c).finish c stOK [h]

/-- A lease ends (R410, 17 R710): requests on its pipes fail with ENGINE_DOWN, its pipes return unleased, its slots are erased. A request
that holds a released slot on other leased pipes runs on there (R390, log 69). -/
def State.endLease (s : State) (l : Lease) : State :=
  let s := s.each l.slots (fun s k => s.endRotation k)
  let hit := s.cy.ctxs.filter (fun (x : CyCtx) => x.lease && (l.pipes.contains x.pa || l.pipes.contains x.pb))
  let s := s.setCy (s.cy.ctxs.filter (fun (x : CyCtx) => !hit.contains x))
  let s := s.each hit (fun s x => s.cyFail x true 7 x.done)
  let s := s.each l.pipes (fun s p => (s.pipeLease p false).raise (0x308 + p))
  let s := s.each l.slots (fun s k => (s.eraseSlot k).sf CY_SLOT_LEASED 0 k)
  let s := { s with leases := s.leases.filter (fun (x : Lease) => x.idx != l.idx) }
  let s := if l.kind = 1 then s.raise 0x313 else s
  ((s.cyMove).raise 0x3E1).leaseSync

/-- LEASE_RELEASE (R410, 17 R708). -/
def State.doLeaseRelease (s : State) (c : Cmd) : State :=
  match s.leases.find? (fun (l : Lease) => l.handle == c.p 0) with
  | none => s.finish c stBAD_PARAM
  | some l =>
    if l.holder ≠ c.sender ∧ c.sender ≠ 600 then s.finish c stDENIED
    else ((s.endLease l).mirrorCmd c).eraseThen c l.slots

end Sys2Proof.Machine
end

