-- ==== Sys2Proof/Machine/Cores.lean ====
section
/-! DEFINITION. Kamyon cores beside execution: placement, dispatch tables and slices (13 R549-R553), store buffers (05 R197-R199), retry
limits, check-stop, sparing and planned moves (04), quad losses (05 R193). -/

namespace Sys2Proof.Machine

/-! ### Dispatch tables -/

/-- The flattened index of TN_DISP_c_e. -/
def dispIdx (c e : Nat) : Nat := c * 64 + e

/-- The instance and virtual core of an entry in use. -/
def State.disp (s : State) (c e : Nat) : Option (Nat × Nat) :=
  if s.rb TN_DISP_VALID (dispIdx c e) then some (s.rf TN_DISP_INSTANCE (dispIdx c e), s.rf TN_DISP_VCORE (dispIdx c e)) else none

/-- The entries in use of a core, and the lowest free one. -/
def State.dispUsed (s : State) (c : Nat) : List Nat := (List.range 64).filter (fun e => s.rb TN_DISP_VALID (dispIdx c e))
def State.dispFree (s : State) (c : Nat) : Option Nat := (List.range 64).find? (fun e => !s.rb TN_DISP_VALID (dispIdx c e))

/-- Where a virtual core is placed: core and entry. -/
def State.placeOf (s : State) (i v : Nat) : Option (Nat × Nat) :=
  (List.range 64).findSome? (fun c => ((List.range 64).find? (fun e => s.disp c e == some (i, v))).map (fun e => (c, e)))

/-- The virtual core that a physical core runs. -/
def State.curVc (s : State) (c : Nat) : Option (Nat × Nat) := s.disp c (s.core c).cur

/-- The slice of an instance's entries (R550). -/
def State.sliceOf (s : State) (i : Nat) : Nat := max 1 (min 255 (s.rf TN_INST_WEIGHT i * s.rf TN_CFG_SLICE_UNIT / 16))

/-- A core's power state changes (18 R745, R767). -/
def State.setPower (s : State) (c p : Nat) : State :=
  if s.rf KC_PCS_POWER c = p then s
  else
    let s := (s.sf KC_PCS_POWER p c).when (s.rb IS_CFG_CORE_PWR_EVT) (fun s => s.raise (2 * c + 1))
    if p = 3 then (s.coreTlbClear c).l1Clear c else s

/-- Whether a core is leased to a secure instance (13 R571). -/
def State.coreLeased (s : State) (c : Nat) : Bool := (s.dispUsed c).any (fun e => s.rb TN_INST_SECURE (s.rf TN_DISP_INSTANCE (dispIdx c e)))

/-- The deepest state that a latency permits. -/
def deepest (l : Nat) : Nat := if 400000 ≤ l then 3 else if 8000 ≤ l then 2 else if 20 ≤ l then 1 else 0

/-- The declaration of a scope: 1 + v for a virtual core, 0x80 for memory, by default that of the class (R744). -/
def State.declOf (s : State) (i scope : Nat) : Nat :=
  match Map.find (s.inst i).decl scope with
  | some l => l
  | none => if scope = 0x80 then 0 else match s.rf TN_INST_CLASS i with | 0 => 20 | 1 => 20000 | _ => 1000000

/-- The limit of a core (R745). -/
def State.coreLimit (s : State) (c : Nat) : Nat :=
  if s.coreLeased c then 0
  else (s.dispUsed c).foldl (fun m e => match s.disp c e with | some (i, v) => min m (deepest (s.declOf i (1 + v))) | none => m) 3

/-- A core in a state deeper than its limit allows wakes at once (18 R745, R747). -/
def State.limitWake (s : State) (c : Nat) : State :=
  if s.rf KC_PCS_ROLE c = 0 ∧ (s.dispUsed c).isEmpty = false ∧ s.coreLimit c < s.rf KC_PCS_POWER c then s.setPower c 0 else s

/-- KC_PCS_c follows the dispatch table (04 R169, R549), a leased core's event sources are the secure world's (01 R37), and the power states that R745 of 18 fixes: an Active core with no entry is Dark, a leased one
in Run. -/
def State.pcsSync (s : State) (c : Nat) : State :=
  let es := s.dispUsed c
  let s := s.sf KC_PCS_DISP_USED es.length c
  let s := if s.rf KC_PCS_ROLE c = 0 then (if es.isEmpty then s.setPower c 3 else s.limitWake c) else s
  let one : Option (Nat × Nat) := match es with
    | [e] => (s.disp c e).bind (fun (p : Nat × Nat) => if p.2 < (s.inst p.1).dedicated then some p else none)
    | _ => none
  let p := one.getD (0, 0)
  let s := (s.secSource (2 * c) (s.coreLeased c)).secSource (2 * c + 1) (s.coreLeased c)
  ((s.sf KC_PCS_DEDICATED (b2n one.isSome) c).sf KC_PCS_INSTANCE p.1 c).sf KC_PCS_VCORE p.2 c

/-- An entry is taken for a virtual core (R549, R550). -/
def State.putDisp (s : State) (c e i v : Nat) : State :=
  let x := dispIdx c e
  ((((s.sf TN_DISP_VALID 1 x).sf TN_DISP_INSTANCE i x).sf TN_DISP_VCORE v x).sf TN_DISP_SLICE (s.sliceOf i) x).pcsSync c

/-- An entry is free again. -/
def State.delDisp (s : State) (c e : Nat) : State :=
  ((s.wreg rTN_DISP (dispIdx c e) 0).setCore c (fun k => { k with used := k.used.filter (· != e), back := if k.back = some e then none else k.back })).pcsSync c

/-- KC_IPEND as it reads: TIMER compares device time with TIMECMP (02 R69). -/
def State.ipend (s : State) (k : Nat) : Nat := setBit ((s.vc k).getCr 0x11) 0 (decide ((s.vc k).getCr 0x12 ≤ s.now))

/-- Whether a pending interrupt of a virtual core is enabled. -/
def State.irqReady (s : State) (k : Nat) : Bool := bits (s.ipend k) 2 0 &&& bits ((s.vc k).getCr 0x10) 2 0 != 0

/-- Whether an instance's virtual cores may run on this module: it is Running, and the module is neither standby, yielded nor halted. -/
def State.instRuns (s : State) (i : Nat) : Bool := s.ist i == 2 && !s.isSable && !s.isStandby && !s.isYielded

/-- Whether a virtual core may run a bundle, WFI apart. -/
def State.vcRuns (s : State) (i v : Nat) : Bool := s.instRuns i && !s.isParked i v && !s.kc.lost.contains (vkey i v)

/-- Whether an entry is runnable (R551). -/
def State.runnable (s : State) (c e : Nat) : Bool :=
  match s.disp c e with
  | some (i, v) => s.vcRuns i v && (!(s.vc (vkey i v)).wfi || s.irqReady (vkey i v))
  | none => false

/-- Whether an entry belongs to a Control instance. -/
def State.isControl (s : State) (c e : Nat) : Bool := match s.disp c e with | some (i, _) => s.rf TN_INST_CLASS i == 0 | none => false

/-- Whether a core is between bundles: nothing of the current virtual core waits for a response. -/
def State.between (s : State) (c : Nat) : Bool :=
  match s.curVc c with
  | some (i, v) => (s.vc (vkey i v)).wait.isNone
  | none => true

/-- The next runnable entry after the current one, in entry order (R551). -/
def State.nextEntry (s : State) (c : Nat) : Option Nat :=
  ((List.range 64).map (fun k => ((s.core c).cur + 1 + k) % 64)).find? (fun e => s.runnable c e)

/-- The rotation reaches entry e: the entries that it passes may preempt again (R552). -/
def State.rotateTo (s : State) (c e : Nat) : State :=
  s.setCore c (fun k =>
    let passed := fun (x : Nat) => decide ((x + 63 - k.cur) % 64 ≤ (e + 63 - k.cur) % 64)
    { k with cur := e, back := none, used := k.used.filter (fun x => !passed x) })

/-- The running entry gives way: to the one that it preempted, else to the next in the rotation. -/
def State.giveWay (s : State) (c : Nat) : State :=
  match (s.core c).back with
  | some b => if s.runnable c b then s.setCore c (fun k => { k with cur := b, back := none })
              else match s.nextEntry c with | some e => s.rotateTo c e | none => s.setCore c (fun k => { k with back := none })
  | none => match s.nextEntry c with | some e => s.rotateTo c e | none => s

/-- DISPATCH_SWITCH (R551): the current entry is not runnable, and the core switches to the next that is. -/
def State.dispatchSwitch (s : State) (c : Nat) : State :=
  if s.between c && !s.runnable c (s.core c).cur then s.giveWay c else s

/-- SLICE_EXPIRY (R551, R552): the running entry has used its slice. -/
def State.sliceEnd (s : State) (c : Nat) : State :=
  if s.between c then
    let e := (s.core c).cur
    let s := if s.isControl c e && !(s.core c).used.contains e then s.setCore c (fun k => { k with used := k.used ++ [e] }) else s
    s.giveWay c
  else s

/-- CONTROL_PREEMPT (R552): a Control entry that is runnable and has not used its slice preempts one that is not Control. -/
def State.controlPreempt (s : State) (c : Nat) : State :=
  let cur := (s.core c).cur
  if s.between c && s.runnable c cur && !s.isControl c cur then
    match (List.range 64).find? (fun e => s.isControl c e && s.runnable c e && !(s.core c).used.contains e) with
    | some e => s.setCore c (fun k => { k with cur := e, back := some cur })
    | none => s
  else s

/-! ### Roles and the spare pool -/

/-- POOL_NOW and CORES_UP follow the roles (04 R172, 05 R216). -/
def State.roleSync (s : State) : State :=
  let r := fun (s : State) (c : Nat) => s.rf KC_PCS_ROLE c
  let s := s.sf KC_SPARE_CFG_POOL_NOW ((List.range 64).filter (fun c => r s c == 1 || r s c == 2)).length
  s.each (List.range 16) (fun s q =>
    s.sf QD_STAT_CORES_UP ((List.range 4).foldl (fun n k => n + b2n (r s (4 * q + k) != 7) * 2 ^ k) 0) q)

/-- The power state of a role that takes none from declarations (18 R745). -/
def rolePower (r : Nat) : Nat :=
  match r with
  | 1 => 2
  | 6 => 3
  | 7 => 3
  | _ => 0

/-- A core's role changes (R143, R157), and its power state with it. -/
def State.setCoreRole (s : State) (c r : Nat) : State := (((s.sf KC_PCS_ROLE r c).raise (2 * c + 1)).roleSync).setPower c (rolePower r)

/-- Whether a core is eligible for sparing (R143, R145). -/
def State.eligibleSpare (s : State) (c : Nat) : Bool := (s.rf KC_PCS_ROLE c == 1 || s.rf KC_PCS_ROLE c == 2) && s.rb KC_ST_LAST_OK c

/-- The order of preference of R147, counted from the source. -/
def coreRank (src c : Nat) : Nat := if c / 4 = src / 4 then 0 else if c / 16 = src / 16 then 1 else 2 + (c / 16 + 4 - src / 16) % 4

/-- The core of a list that comes first in that order. -/
def pickCore (src : Nat) (l : List Nat) : Option Nat :=
  l.foldl (fun (b : Option Nat) c => match b with
    | some x => if coreRank src c * 64 + c < coreRank src x * 64 + x then some c else some x
    | none => some c) none

/-- The target of a sparing (R147). -/
def State.pickSpare (s : State) (src : Nat) : Option Nat := pickCore src ((List.range 64).filter (fun c => s.eligibleSpare c))

/-! ### Store buffers -/

/-- A store-buffer entry becomes visible (05 R198): in the quad's L2 with the line in M and in the core's own L1 data cache alone, or, for a dead quad (R193) and a
store made at level F (R184), at the home slice; or in the Signal Store (08 R326). -/
def State.sbVisible (s : State) (c : Nat) (e : SbEnt) : State :=
  if e.sig then s.pendStore (e.line * 64 - 0x400000000000) e.data e.mask
  else
    let s := if e.pr then s.recordLine e.line else s
    if bit s.coh.deadQuads (c / 4) || e.inst == 512 then s.coWrite e.line e.data e.mask e.inst
    else ((s.acquireM (c / 4) e.line e.inst).l2Store (c / 4) e.line e.data e.mask).l1Stored c e.line

/-- STORE_BUFFER_DRAIN (R198): the oldest entry drains, and the port record takes its number. -/
def State.sbDrainOne (s : State) (c : Nat) : State :=
  match (s.core c).sb with
  | [] => s
  | e :: r =>
    if !e.sig && s.heldWrite e.pr e.line then s
    else (s.setCore c (fun k => { k with sb := r, portSeq := e.seq })).sbVisible c e

/-- The oldest n entries drain in order; an entry held at its home holds those behind it. -/
def State.sbDrainN (s : State) (c : Nat) : Nat → State
  | 0 => s
  | n + 1 => (s.sbDrainOne c).sbDrainN c n

/-- The store buffer drains. -/
def State.sbDrain (s : State) (c : Nat) : State := s.sbDrainN c (s.core c).sb.length

/-- The store buffer's entries are made visible whatever the epoch does (04 R150). -/
def State.sbFlush (s : State) (c : Nat) : State :=
  let l := (s.core c).sb
  let last := match l.getLast? with | some e => e.seq | none => (s.core c).portSeq
  (s.setCore c (fun k => { k with sb := [], portSeq := last })).each l (fun s e => s.sbVisible c e)

/-- The stores to system memory of the instances that `p` names drain from every core's buffer, as far as none is held (06 R248). -/
def State.drainInsts (s : State) (p : Nat → Bool) : State :=
  s.each (List.range 64) (fun s c => if (s.core c).sb.any (fun e => !e.sig && p e.inst) then s.sbDrain c else s)

/-- Whether such a store is left in a buffer. -/
def State.storesLeft (s : State) (p : Nat → Bool) : Bool := (List.range 64).any (fun c => (s.core c).sb.any (fun e => !e.sig && p e.inst))

/-- A committed store enters the buffer (05 R197): merged into the youngest entry of the same line, else a new entry; with all 32 taken it waits
until one drains. -/
def State.sbPut (s : State) (c : Nat) (sig : Bool) (line : Nat) (data : Line) (mask : BitVec 64) (inst : Nat) (pr : Bool) : State :=
  let youngest := (s.core c).sb.getLast?
  match youngest with
  | some y =>
    if y.sig = sig ∧ y.line = line ∧ y.inst = inst then
      s.setCore c (fun k => { k with sb := k.sb.dropLast ++ [{ y with data := mergeLine y.data data mask, mask := y.mask ||| mask, pr := y.pr || pr }] })
    else
      let s := if 32 ≤ (s.core c).sb.length then s.sbDrainOne c else s
      s.setCore c (fun k => { k with sb := k.sb ++ [⟨sig, line, data, mask, k.seq, inst, pr⟩], seq := (k.seq + 1) % 65536 })
  | none => s.setCore c (fun k => { k with sb := [⟨sig, line, data, mask, k.seq, inst, pr⟩], seq := (k.seq + 1) % 65536 })

/-- The bytes of an n-byte access at `pa` that a line's mask covers. -/
def sbCover (e : SbEnt) (sig : Bool) (pa n : Nat) : Nat :=
  if e.sig = sig then
    ((List.range n).filter (fun k => (pa + k) / 64 == e.line && bit e.mask.toNat ((pa + k) % 64))).length
  else 0

/-- How a load meets the store buffer (05 R199): nothing covers it, the youngest covering entry forwards all its bytes, or a partial overlap. -/
inductive SbHit where
  | none
  | forward (v : Nat)
  | partialOverlap
  deriving DecidableEq, Repr

def State.sbLookup (s : State) (c : Nat) (sig : Bool) (pa n : Nat) : SbHit :=
  match ((s.core c).sb.filter (fun e => sbCover e sig pa n != 0)).getLast? with
  | none => .none
  | some e => if sbCover e sig pa n = n then .forward (e.data.toNat / 256 ^ (pa % 64) % 256 ^ n) else .partialOverlap

/-- A partial overlap waits until every entry that covers a byte of the load has drained, and every older one (R199, R200). -/
def State.sbDrainOver (s : State) (c : Nat) (sig : Bool) (pa n : Nat) : State :=
  let l := (s.core c).sb
  let keep := (l.reverse.takeWhile (fun e => sbCover e sig pa n == 0)).length
  s.sbDrainN c (l.length - keep)

/-! ### Degraded and parked virtual cores -/

/-- TN_INST_n.PARKED and KC_SPARE_CFG.DEGRADED follow (R577, R172). -/
def State.degrSync (s : State) (i : Nat) : State :=
  (s.sf TN_INST_PARKED (popCount (s.rf IP_PARKED_VALUE i) 64) i).sf KC_SPARE_CFG_DEGRADED (b2n (!s.kc.degr.isEmpty))

def State.setDegr (s : State) (l : List Nat) : State := { s with kc := { s.kc with degr := l } }

/-- A virtual core is degraded or parked from now on (R160). -/
def State.addDegr (s : State) (k : Nat) : State := if s.kc.degr.contains k then s else s.setDegr (s.kc.degr ++ [k])

def State.setParked (s : State) (i v : Nat) (b : Bool) : State := s.sf IP_PARKED_VALUE (setBit (s.rf IP_PARKED_VALUE i) v b) i

/-- The core that hosts a virtual core without a spare (R158): an active one with another virtual core of the instance, else the first by R147's order.
A secure instance's cores take no other instance's virtual core, nor its virtual core another's cores (13 R571). -/
def State.hostFor (s : State) (src i : Nat) : Option Nat :=
  let insts := fun (c : Nat) => (s.dispUsed c).map (fun e => s.rf TN_DISP_INSTANCE (dispIdx c e))
  let act := (List.range 64).filter (fun c => c != src && s.rf KC_PCS_ROLE c == 0 && (s.dispFree c).isSome &&
    (insts c).all (fun j => j == i || !(s.rb TN_INST_SECURE i || s.rb TN_INST_SECURE j)))
  match act.find? (fun c => (insts c).contains i) with
  | some c => some c
  | none => pickCore src act

/-- Placed on a host's free entry. -/
def State.placeOn (s : State) (c i v : Nat) : State := match s.dispFree c with | some e => s.putDisp c e i v | none => s

/-- A virtual core of a vacated core goes on without a spare: degraded on a host, or parked (R158, R159, 13 R553). -/
def State.degrade (s : State) (src e : Nat) : State :=
  match s.disp src e with
  | none => s
  | some (i, v) =>
    let s := (s.delDisp src e).addDegr (vkey i v)
    let rep := fun (s : State) (flag : Nat) =>
      s.report { org := org 1 src, cause := 0x0108, cls := ochre, subj := some (i, s.gen i), d0 := v, d1 := flag, react := 4 }
    match s.hostFor src i with
    | some h => ((rep (s.placeOn h i v) 0).notice i 3 v 0).degrSync i
    | none => (((rep (s.setParked i v true) 1).degrSync i).notice i 1 v 0)

/-- Parked virtual cores are placed, oldest first, while a dispatch-table entry is free (R159). -/
def State.placeParked (s : State) : State :=
  s.each s.kc.degr (fun s k =>
    let i := k / 64
    let v := k % 64
    if s.isParked i v then
      match s.hostFor 64 i with
      | some h => (((s.setParked i v false).placeOn h i v).degrSync i).notice i 2 v 0
      | none => s
    else s)

/-- A virtual core has left its instance's list of degraded ones. -/
def State.undegrade (s : State) (k : Nat) : State := (s.setDegr (s.kc.degr.filter (· != k))).degrSync (k / 64)

/-! ### Check-stop and sparing -/

/-- The requests that wait at a tile's controller, in its register (R173). -/
def State.setSpareQ (s : State) (t : Nat) (q : List (Nat × Nat)) : State :=
  { s with kc := { s.kc with queues := if q.isEmpty then Map.del s.kc.queues t else Map.put s.kc.queues t q } }.sf KC_SPARE_STAT_QUEUED (min 15 q.length) t
def State.spareQ (s : State) (t : Nat) : List (Nat × Nat) := Map.getD s.kc.queues t []

/-- A controller begins with a request: step 1 of R148. -/
def State.startSparing (s : State) (t src kind : Nat) : State :=
  ((((s.sf KC_SPARE_STAT_BUSY 1 t).sf KC_SPARE_STAT_STEP 1 t).sf KC_SPARE_STAT_KIND kind t).sf KC_SPARE_STAT_SRC src t)

/-- A PARK or UNPARK of an island ends with RESULT r (18 R750, R767). -/
def State.parkEnds (s : State) (i r : Nat) : State := (s.sf IS_ISL_CTL_RESULT r i).raise 0x372

/-- An island's unit is out of service and its island Dark (18 R750). -/
def State.parkDone (s : State) (i o : Nat) : State :=
  let s := (s.setUnit o (fun u => { u with st := 1 })).sf IS_ISL_STAT_PARKED 1 i
  (if i < 64 then s.setPower i 3 else s).parkEnds i 2

/-- A core to be vacated becomes Source, and its tile's controller takes the request or queues it (R146, R148, R153, R173). -/
def State.askSparing (s : State) (c : Nat) : State :=
  let s := (s.setCoreRole c 3).setCore c (fun k => { k with stopAt := s.now })
  let s := if (s.spareQ (c / 16)).contains (c, 2) then s.parkEnds c 6 else s
  if s.rb KC_SPARE_STAT_BUSY (c / 16) then s.setSpareQ (c / 16) ((s.spareQ (c / 16)).filter (fun x => x.1 != c) ++ [(c, 0)])
  else (s.setSpareQ (c / 16) ((s.spareQ (c / 16)).filter (fun x => x.1 != c))).startSparing (c / 16) c 0

/-- CHECK_STOP (R146, R157): an Ochre fault against the core; sparing follows. -/
def State.checkStop (s : State) (c : Nat) : State :=
  if s.rf KC_PCS_ROLE c ≠ 0 then s
  else
    let (s, ret) := s.outOfService (org 1 c)
    ((s.raise (2 * c)).report { org := org 1 c, cause := 0x0104, cls := ochre, react := if ret then 6 else 4 }).askSparing c

/-- A planned move is requested (R161); the request is kept until a spare is eligible. -/
def State.askMove (s : State) (c : Nat) : State :=
  if s.rf KC_PCS_ROLE c ≠ 0 ∨ (s.spareQ (c / 16)).contains (c, 1) then s
  else s.setSpareQ (c / 16) (s.spareQ (c / 16) ++ [(c, 1)])

/-- Whether some one-second window holds more retries than the limit in force when it began (R138, R172): a window begins at each retry of the list, oldest
first. -/
def overRetried : List (Nat × Nat) → Bool
  | [] => false
  | e :: r => (e.2 != 0 && decide (e.2 < r.length + 1)) || overRetried r

/-- A successful retry is counted, and a crossing of the retry limit asks for a planned move (R138, R157, R161, R172). -/
def State.countRetry (s : State) (c : Nat) : State :=
  let s := ((s.bump rKC_RETRY_CNT c).pmEvent 0x0104 c ((s.curVc c).map Prod.fst)).report { org := org 1 c, cause := 0x0102, cls := slate, react := 2 }
  let l := (s.core c).retries.filter (fun e => decide (s.now < e.1 + 1000000000)) ++ [(s.now, s.rf KC_SPARE_CFG_RETRY_LIMIT)]
  let was := (s.core c).overLim
  let s := s.setCore c (fun k => { k with retries := l, overLim := overRetried l })
  if overRetried l && !was then
    ((s.raise (2 * c)).report { org := org 1 c, cause := 0x0103, cls := ochre, react := 4 }).askMove c
  else s

/-- A chosen target fails to come up, or fails a check (R153). -/
def State.targetFails (s : State) (d : Nat) : State :=
  let (s, ret) := s.outOfService (org 1 d)
  (s.setCoreRole d 5).report { org := org 1 d, cause := 0x0107, cls := ochre, react := if ret then 6 else 5 }

/-- Targets fail one after the other (R153): within step 2 (`false`), or in steps 3 to 6, as Target (`true`). -/
def State.failTargets (s : State) (src : Nat) : List Bool → State
  | [] => s
  | late :: r => match s.pickSpare src with
    | some d => ((if late then s.setCoreRole d 4 else s).targetFails d).failTargets src r
    | none => s

/-- A virtual core runs no more until its instance starts anew. -/
def State.loseVc (s : State) (i v : Nat) : State := { s with kc := { s.kc with lost := s.kc.lost.filter (· != vkey i v) ++ [vkey i v] } }

/-- A virtual core's state is lost (R140, R193): Russet against its instance. -/
def State.vcLost (s : State) (c i v : Nat) : State :=
  (s.loseVc i v).report { org := org 1 c, cause := 0x0106, cls := russet, subj := some (i, s.gen i), d0 := v }

/-- A double-bit error in the source's Checkpoint Array loses the virtual core that it runs (R140, R148). -/
def State.loseCur (s : State) (c : Nat) (lost : Bool) : State :=
  if lost then (match s.curVc c with | some (i, v) => s.vcLost c i v | none => s) else s

/-- Steps 3 to 6 towards a target (R148, R150-R152, R155): stores drained, every entry of the table and the core's own state moved. -/
def State.moveCore (s : State) (src dst : Nat) : State :=
  let s := s.sbFlush src
  let s := s.each (s.dispUsed src) (fun s e => match s.disp src e with | some (i, v) => (s.delDisp src e).putDisp dst e i v | none => s)
  ((s.setCore dst (fun k => { s.core src with sb := [], ucode := k.ucode, ucodeBad := k.ucodeBad })).coreTlbClear dst).l1Clear dst

/-- A core's registers, store buffer, L1 arrays and TLBs are zeroed; its control stores stay (R156, R166). -/
def State.zeroCore (s : State) (c : Nat) : State :=
  ((s.setCore c (fun k => { CoreSt.empty with ucode := k.ucode, ucodeBad := k.ucodeBad, stopAt := k.stopAt })).coreTlbClear c).l1Clear c

/-- UNIT_RESET (R156): the source is zeroed and begins its extended self-test. -/
def State.unitReset (s : State) (c : Nat) : State := (s.zeroCore c).setCoreRole c 5

/-- ELAPSED of a tile's controller (R173): ns since the check-stop or the start of the move, `more` ns from now. -/
def State.sinceStop (s : State) (t more : Nat) : Nat := satN 32 (s.now - (s.core (s.rf KC_SPARE_STAT_SRC t)).stopAt + more)

/-- The controller is idle again (R173), `elapsed` ns from now. -/
def State.endSparing (s : State) (t elapsed : Nat) : State :=
  ((s.sf KC_SPARE_STAT_BUSY 0 t).sf KC_SPARE_STAT_STEP 0 t).sf KC_SPARE_STAT_ELAPSED (s.sinceStop t elapsed) t

/-- The response of an AMO that the core's port has performed, in the issue record of the virtual core that waits for it (R151). -/
def State.settleAmo (s : State) (c : Nat) : State :=
  match s.curVc c with
  | some (i, v) =>
    let k := s.core c
    s.setVc (vkey i v) (fun (x : VCore) => { x with wait := x.wait.map (fun w => { w with accs := w.accs.map (fun a =>
      match a with
      | .amo tag p _ _ _ => if tag = k.amoTag ∧ p.pa = k.amoAddr then .done k.amoOld else a
      | a => a) }) })
  | none => s

/-- Virtual cores that were degraded on a core have one of their own again when their table holds them alone (R160). -/
def State.ownCore (s : State) (c : Nat) : State :=
  match s.dispUsed c with
  | [e] => match s.disp c e with | some (i, v) => if s.kc.degr.contains (vkey i v) then s.undegrade (vkey i v) else s | none => s
  | _ => s

/-- SPARING (R147-R160): the tile's request. `fails` targets fail; `lost`: the source's Checkpoint Array meets a double-bit error. -/
def State.spare (s : State) (t : Nat) (fails : List Bool) (lost : Bool) (elapsed : Nat) : State :=
  if !s.rb KC_SPARE_STAT_BUSY t then s
  else
    let src := s.rf KC_SPARE_STAT_SRC t
    let s := s.failTargets src fails
    let s := s.loseCur src lost
    match s.pickSpare src with
    | some d =>
      let s := ((s.sf KC_SPARE_STAT_DST d t).setCoreRole d 4).moveCore src d
      ((s.unitReset src).setCoreRole d 0).endSparing t elapsed
    | none =>
      let s := s.sf KC_SPARE_STAT_KIND 2 t
      let s := match (s.dispUsed src).head? with
        | some e => (match s.disp src e with
          | some (i, _) => (match s.hostFor src i with | some h => s.sf KC_SPARE_STAT_DST h t | none => s)
          | none => s)
        | none => s
      let s := ((s.settleAmo src).sbFlush src).each (s.dispUsed src) (fun s e => s.degrade src e)
      (s.unitReset src).endSparing t elapsed

/-- QUEUED_SPARING_START (R153): the controller is idle and takes the oldest check-stop that waits. -/
def State.queuedSparing (s : State) (t : Nat) : State :=
  if s.rb KC_SPARE_STAT_BUSY t then s
  else match (s.spareQ t).find? (fun x => x.2 == 0) with
    | some (c, _) => (s.setSpareQ t ((s.spareQ t).filter (fun x => x.1 != c))).startSparing t c 0
    | none => s

/-- The planned move of R160: the virtual core degraded or parked longest goes to an eligible spare. SRC is its host, and for a parked one, which vacates no core, the
target (DESIGN CHOICE, log 66). -/
def State.moveDegraded (s : State) (t k d : Nat) (elapsed : Nat) : State :=
  let i := k / 64
  let v := k % 64
  let from_ := s.placeOf i v
  let src := match from_ with | some p => p.1 | none => d
  let s := s.setCore src (fun x => { x with stopAt := s.now })
  let s := ((s.startSparing t src 1).sf KC_SPARE_STAT_DST d t).setCoreRole d 4
  let s := match from_ with
    | some (c, e) => ((s.report { org := org 1 c, cause := 0x0109, cls := slate, subj := some (i, s.gen i), d0 := v, react := 4 }).sbFlush c).delDisp c e
    | none => (s.setParked i v false).notice i 2 v 0
  let s := (s.zeroCore d).putDisp d 0 i v
  (((s.setCoreRole d 0).undegrade k).placeParked).endSparing t elapsed

/-- Whether a degraded virtual core is at a bundle boundary (R161), or parked. -/
def State.atBoundary (s : State) (k : Nat) : Bool := (s.vc k).wait.isNone || s.isParked (k / 64) (k % 64)

/-- PLANNED_MOVE (R160, R161): with the controller idle, the source between bundles and a spare eligible, R160's placement comes first, then the oldest kept
request. A PARK's move (kind 2) that finds no spare is refused, and its core ends Dark with no test (18 R750). -/
def State.plannedMove (s : State) (t : Nat) (fails : List Bool) (lost : Bool) (elapsed : Nat) : State :=
  if s.rb KC_SPARE_STAT_BUSY t then s
  else match s.kc.degr with
    | k :: _ =>
      let src := match s.placeOf (k / 64) (k % 64) with | some p => p.1 | none => 16 * t
      if !s.atBoundary k then s
      else (match (s.failTargets src fails).pickSpare src with
       | some d => (s.failTargets src fails).moveDegraded t k d elapsed
       | none => s.failTargets src fails)
    | [] =>
      match (s.spareQ t).find? (fun x => x.2 != 0) with
      | none => s
      | some (c, kd) =>
        let drop := fun (s : State) => (s.setSpareQ t ((s.spareQ t).filter (fun x => x.1 != c))).parkEnds c 5
        if (s.pickSpare c).isNone then (if kd = 2 then drop s else s)
        else if !s.between c then s
        else
          let s := s.failTargets c fails
          match s.pickSpare c with
          | none => if kd = 2 then drop s else s
          | some d =>
            let s := s.setSpareQ t ((s.spareQ t).filter (fun x => x.1 != c))
            let s := if kd = 2 then s else (s.outOfService (org 1 c)).1
            let s := (((s.setCoreRole c 3).setCore c (fun k => { k with stopAt := s.now })).startSparing t c 1).sf KC_SPARE_STAT_DST d t
            let s := ((s.loseCur c lost).setCoreRole d 4).moveCore c d
            let s := ((s.unitReset c).setCoreRole d 0).endSparing t elapsed
            if kd = 2 then s.parkDone c (org 1 c) else s

/-- MOVE (R169): device firmware asks for a planned move; the Operator Host may only read the block. -/
def State.moveWrite (s : State) (a : Agent) (c : Nat) : State :=
  match a with
  | .host => s.regAccess (agentOrg a) (rKC_PCS.addr c) 8 true
  | _ => if s.rf KC_PCS_ROLE c = 0 then (s.report { org := org 1 c, cause := 0x0109, cls := slate, react := 4 }).askMove c else s

/-! ### Self-tests -/

/-- A self-test pass of a core ends (R171). -/
def State.countPass (s : State) (c : Nat) (pass : Bool) : State :=
  let s := (s.sf KC_ST_PASSES (s.rf KC_ST_PASSES c + 1) c).sb KC_ST_LAST_OK pass c
  if pass then s else s.incSat KC_ST_FAILS c

/-- A failed test (15 R829). -/
def State.testFailed (s : State) (o : Nat) (react : Nat) : State := s.report { org := o, cause := 0x000A, cls := ochre, react := react }

/-- A unit passes to Quiet (15 R633). -/
def State.toQuiet (s : State) (o : Nat) : State :=
  s.setUnit o (fun u => { u with st := 2, quietEnd := s.now + s.rf FC_CFG_QUIET_MS * 1000000 })

/-- A unit is retired until power-on (15 R633, R654). -/
def State.retireUnit (s : State) (o : Nat) : State := if (s.unit o).st = 3 then s else (s.setUnit o (fun u => { u with st := 3 })).raise 0x388

/-- A quad's state changes (05 R214). -/
def State.setQuad (s : State) (q st : Nat) : State := (s.sf QD_STAT_STATE st q).raise (0x081 + 2 * q)

/-- EXTENDED_SELF_TEST_END (R156, 05 R193): a quarantined core, or a lost quad's four cores as a group. -/
def State.extTestEnd (s : State) (c : Nat) (pass : Bool) : State :=
  let q := c / 4
  let four := [4 * q, 4 * q + 1, 4 * q + 2, 4 * q + 3]
  if s.rf QD_STAT_STATE q = 2 then
    if four.any (fun k => s.rf KC_PCS_ROLE k == 3) then s
    else
      let ok := pass && (s.unit (org 2 q)).st != 3
      let up := four.filter (fun k => s.rf KC_PCS_ROLE k == 5)
      let s := s.each four (fun s k => s.countPass k pass)
      let s := if pass then s else s.testFailed (org 2 q) 6
      if ok then
        let s := { s with coh := { s.coh with deadQuads := setBit s.coh.deadQuads q false } }
        (((s.sf QD_STAT_CKPT_OK 1 q).setQuad q 0).toQuiet (org 2 q)).each up (fun s k => (s.setCoreRole k 6).toQuiet (org 1 k))
      else ((s.setQuad q 3).retireUnit (org 2 q)).each up (fun s k => s.setCoreRole k 7)
  else if s.rf KC_PCS_ROLE c ≠ 5 ∨ s.rb IS_ISL_STAT_PARKED c = true then s
  else
    let s := s.countPass c pass
    if pass && (s.unit (org 1 c)).st != 3 then (s.setCoreRole c 6).toQuiet (org 1 c)
    else
      let s := if pass then s else s.testFailed (org 1 c) 6
      (s.retireUnit (org 1 c)).setCoreRole c 7

/-- A spare that fails its test is quarantined (R145). -/
def State.quarantine (s : State) (c : Nat) : State :=
  ((s.outOfService (org 1 c)).1.setCoreRole c 5).testFailed (org 1 c) (if (s.outOfService (org 1 c)).2 then 6 else 5)

/-- What follows the test of a spare: it returns to the pool, or is quarantined (R144, R145). -/
def State.spareResult (s : State) (c : Nat) (pass : Bool) : State := if pass then s.setCoreRole c 1 else s.quarantine c

/-- SPARE_SELF_TEST (R144, R145; 16 R682): one pass of a spare, or of any core of a standby. -/
def State.spareTest (s : State) (c : Nat) (pass : Bool) : State :=
  if s.rf KC_PCS_ROLE c = 1 then ((s.setCoreRole c 2).countPass c pass).spareResult c pass
  else if s.isStandby && s.rf KC_PCS_ROLE c == 0 then
    if pass then s.countPass c pass else ((s.countPass c pass).testFailed (org 1 c) 5).checkStop c
  else s

/-! ### Small errors -/

/-- A single-bit error of a core is corrected (R131, R140). -/
def State.coreCorrected (s : State) (c : Nat) : State :=
  (s.bump rKC_CORR_CNT c).report { org := org 1 c, cause := 0x0101, cls := slate, react := 1 }

/-- CHECKPOINT_SCRUB (R140): what the scrub of one Checkpoint Array finds. -/
def State.ckptScrub (s : State) (c : Nat) (e : BitErr) : State :=
  match e with
  | .clean => s
  | .single => s.coreCorrected c
  | .double => s.report { org := org 1 c, cause := 0x0105, cls := ochre, react := 3 }

/-- UCODE_RELOAD (R167): a double-bit error in the core's copy is found, and its microcoded instructions wait; at the end of the rewrite the copy is the Patch
RAM's again. -/
def State.ucodeReload (s : State) (c : Nat) (ends : Bool) : State :=
  if ends then (s.sf KC_UCODE_RELOAD_CORE (setBit (s.rf KC_UCODE_RELOAD_CORE) c true)).setCore c (fun k => { k with ucode := s.vt.patchRam, ucodeBad := false })
  else (s.setCore c (fun k => { k with ucodeBad := true })).report { org := org 1 c, cause := 0x010A, cls := ochre, react := 3 }

/-- NO_COMMIT_TIMEOUT (R146): the core runs a virtual core that is in no recognised wait. -/
def State.noCommit (s : State) (c : Nat) : State :=
  match s.curVc c with
  | some (i, v) =>
    if s.rf KC_PCS_POWER c = 0 ∧ s.vcRuns i v = true ∧ (s.vc (vkey i v)).wfi = false ∧ (s.vc (vkey i v)).wait.isNone = true ∧ (s.core c).stalled = false then
      s.checkStop c
    else s
  | none => s

/-- Whether the oldest store of a core is held at its home slice (16 R677). -/
def State.headHeld (s : State) (c : Nat) : Bool := match (s.core c).sb with | e :: _ => !e.sig && s.heldWrite e.pr e.line | [] => false

/-- PORT_REQUEST_TIMEOUT (R146): a failed check in the port on traffic of this core alone; a store that its home slice holds is none. -/
def State.portTimeout (s : State) (c : Nat) (store : Bool) : State := if store && s.headHeld c then s else s.checkStop c

/-! ### Quad loss -/

/-- Step 1 of a quad loss (05 R192): the quad is fenced and reported. -/
def State.quadFence (s : State) (q : Nat) : State :=
  let (s, ret) := s.outOfService (org 2 q)
  let s := (s.setQuad q 1).fenceQuad q
  (s.report { org := org 2 q, cause := 0x0204, cls := ochre, react := if ret then 6 else 5 }).reclaimStart 0 q

/-- What becomes of a core of a lost quad (05 R193): its virtual cores are spared, or lost with the checkpoint island; those of a writer that lost a dirty line run no more. -/
def State.coreOfLost (s : State) (c : Nat) (ckpt : Bool) (writers : List Nat) : State :=
  let vs := (s.dispUsed c).filterMap (fun e => s.disp c e)
  let s := if ckpt then s else s.setCore c (fun k => { k with sb := [] })
  let s := s.each vs (fun s p => if !ckpt then s.vcLost c p.1 p.2 else if writers.contains p.1 then s.loseVc p.1 p.2 else s)
  match s.rf KC_PCS_ROLE c with
  | 0 => if vs.isEmpty then s.unitReset c else s.askSparing c
  | 1 => s.unitReset c
  | 2 => s.unitReset c
  | 6 => s.unitReset c
  | _ => s

/-- Steps 2 and 3 of a quad loss (05 R192, R193): its lines are reclaimed, the writers that lost a dirty line are recorded, and its cores follow. -/
def State.quadReclaim (s : State) (q : Nat) : State :=
  let s := s.reclaimQuad q
  let writers := s.lostWriters q
  let s := s.each writers (fun s w => s.report { org := org 2 q, cause := 0x0203, cls := russet, subj := s.charge w })
  let ckpt := s.rb QD_STAT_CKPT_OK q
  let s := s.each [4 * q, 4 * q + 1, 4 * q + 2, 4 * q + 3] (fun s c => s.coreOfLost c ckpt writers)
  (s.setQuad q 2).reclaimEnd q

/-- QUAD_LOSS (05 R192, R193), from the loss to the end of the reclaim, one command each. CKPT_OK falls with the checkpoint island in every state (05 R216). -/
def State.quadLoss (s : State) (q : Nat) (ckpt : Bool) : State :=
  let s := if ckpt then s else s.sf QD_STAT_CKPT_OK 0 q
  match s.rf QD_STAT_STATE q with
  | 0 => s.quadFence q
  | 1 => s.quadReclaim q
  | _ => s

end Sys2Proof.Machine
end

