-- ==== Sys2Proof/Machine/Stage2.lean ====
section
/-! DEFINITION. Stage-2 tables as device firmware builds them (06 R229, R241; 13 R540-R543; 08 R315), and secure granules (17 R705-R707). -/

namespace Sys2Proof.Machine

/-- The base of the region of 01 R26. -/
def State.fwBase (s : State) : Nat := s.topMem - 2 ^ 32

/-- Whether n 4 KiB pages from device physical page d touch a secure granule (17 R705). -/
def State.touchesSecure (s : State) (d n : Nat) : Bool := s.secGran.any (fun g => decide (g * 512 < d + n) && decide (d < g * 512 + 512))

/-- Every page that holds a stage-2 table. -/
def State.tablePages (s : State) : List Nat := s.tn.insts.flatMap (fun (e : Nat × InstSt) => e.2.s2pages)

/-- A free page for a secure instance's table: the highest of the secure granules that neither holds a table nor lies in a mapping (17 R707). -/
def State.secPage (s : State) : Option Nat :=
  let used := s.tablePages
  let maps := s.tn.insts.flatMap (fun (e : Nat × InstSt) => e.2.maps)
  s.secGran.reverse.findSome? (fun g => ((List.range 512).map (fun k => g * 512 + 511 - k)).find? (fun p =>
    !used.contains (p * 4096) && !maps.any (fun (m : Mapping) => decide (m.dpage ≤ p) && decide (p < m.dpage + m.pages))))

/-- A zeroed page for a table of an instance: from the region of 01 R26, or for a secure instance from its granules. -/
def State.s2Alloc (s : State) (i : Nat) : Option (State × Nat) :=
  let take := fun (s : State) (p : Nat) => ((s.coWriteN p 4096 0).setInst i (fun r => { r with s2pages := p :: r.s2pages }), p)
  if s.rb TN_INST_SECURE i then s.secPage.map (fun p => take s (p * 4096))
  else match s.tn.s2free with
    | p :: r => some (take { s with tn := { s.tn with s2free := r } } p)
    | [] =>
      if s.tn.s2next < 2 ^ 20 then
        some (take { s with tn := { s.tn with s2next := s.tn.s2next + 1 } } (s.fwBase + 4096 * s.tn.s2next))
      else none

/-- The table `fuel` levels below `tbl` towards an input address, tables that are missing made on the way. -/
def State.s2Table (s : State) (i tpa tbl level : Nat) : Nat → Option (State × Nat)
  | 0 => some (s, tbl)
  | fuel + 1 =>
    let a := tbl + 8 * walkIndex level tpa
    let e := s.coRead a 8
    if bit e 0 then s.s2Table i tpa (bits e 51 12 * 4096) (level + 1) fuel
    else match s.s2Alloc i with
      | none => none
      | some (s, p) => (s.coWriteN a 8 (p + 1)).s2Table i tpa p (level + 1) fuel

/-- An entry of an instance's tables at a level is written; 0 removes the leaf. -/
def State.s2Put (s : State) (i level tpa ent : Nat) : Option State :=
  (s.s2Table i tpa (s.inst i).s2root 0 level).map (fun x => x.1.coWriteN (x.2 + 8 * walkIndex level tpa) 8 ent)

/-- A leaf (06 R229): permissions R, W, X, IO, PR at bits 0 to 4 of `perm`; CH; A. -/
def s2Leaf (pa perm : Nat) (ch a : Bool) : Nat :=
  pa + 3 + b2n (bit perm 0) * 4 + b2n (bit perm 1) * 8 + b2n (bit perm 2) * 16 + b2n (bit perm 4) * 32 + b2n (bit perm 3) * 64 +
  b2n a * 128 + b2n ch * 512

/-- The level of a mapping's leaves: the largest page that both bases and the length allow (13 R542). -/
def mapLevel (t d n : Nat) : Nat :=
  if t % 2 ^ 18 = 0 ∧ d % 2 ^ 18 = 0 ∧ n % 2 ^ 18 = 0 then 1
  else if t % 512 = 0 ∧ d % 512 = 0 ∧ n % 512 = 0 then 2 else 3

/-- 4 KiB pages of a leaf at a level. -/
def levelPages (level : Nat) : Nat := 2 ^ (pageBits level - 12)

/-- The leaves of n pages from tenant page t to device page d; CH on every contiguity group that they can form (06 R241).
`lv` is their level. -/
def State.s2Map (s : State) (i t d n perm lv : Nat) (a : Bool) : Option State :=
  let ps := levelPages lv
  let cnt := n / ps
  let t0 := t / ps
  let ok := fun (k : Nat) =>
    let g := (t0 + k) / 16 * 16
    t0 % 16 == d / ps % 16 && decide (t0 ≤ g) && decide (g + 16 ≤ t0 + cnt)
  (List.range cnt).foldl (fun (o : Option State) k => o.bind (fun (s : State) =>
    s.s2Put i lv ((t + k * ps) * 4096) (s2Leaf ((d + k * ps) * 4096) perm (ok k) a))) (some s)

/-- The leaves of n pages from tenant page t are removed, and their translations with them, the instance's stores drained as far as none is held (13 R543, 06 R248).
`lv` is their level. -/
def State.s2Unmap (s : State) (i t n lv : Nat) : State :=
  let s := s.drainInsts (· == i)
  let ps := levelPages lv
  let cnt := n / ps
  let s := s.each (List.range cnt) (fun s k => match s.s2Put i lv ((t + k * ps) * 4096) 0 with | some s => s | none => s)
  if 512 < cnt then s.tlbiS2Inst i else s.each (List.range cnt) (fun s k => s.tlbiS2Tpa i (t + k * ps))

/-! ### What an instance's address space holds -/

/-- The pages of a Signal Store mapping (08 R315): one per 64 records, one per signal's history, one of output slots. -/
def SigMap.pages (m : SigMap) : Nat := if m.kind = 0 then m.count / 64 else if m.kind = 1 then m.count else 1

/-- Whether two page ranges meet. -/
def rangesMeet (a n b m : Nat) : Bool := decide (a < b + m) && decide (b < a + n)

/-- Whether tenant pages [t, t + n) meet what an instance has mapped: its page, a mapping or a Signal Store mapping. -/
def State.tenantBusy (s : State) (i t n : Nat) : Bool :=
  let r := s.inst i
  rangesMeet t n r.ipage 16 || r.maps.any (fun (m : Mapping) => rangesMeet t n m.tpage m.pages) ||
  r.sigMaps.any (fun (m : SigMap) => rangesMeet t n m.tpage m.pages)

/-- Whether another instance's writable mapping meets device pages [d, d + n) and the two are not both SHARE (13 R542). -/
def State.writeClash (s : State) (i d n : Nat) (share : Bool) : Bool :=
  s.tn.insts.any (fun (e : Nat × InstSt) => e.1 != i && e.2.maps.any (fun (m : Mapping) =>
    bit m.perm 1 && rangesMeet d n m.dpage m.pages && !(share && bit m.perm 5)))

/-- Memory pages [d, d + n) lie in usable memory below the region of 01 R26. -/
def State.plainPages (s : State) (d n : Nat) : Bool := decide ((d + n) * 4096 ≤ s.fwBase)

/-! ### Secure granules -/

/-- VT_SECMEM.GRANULES follows (17 R705). -/
def State.granSync (s : State) : State := s.sf VT_SECMEM_GRANULES s.secGran.length

/-- Every line of a granule is recalled, and the granule is written with zeros (17 R706). -/
def State.granZero (s : State) (g : Nat) : State :=
  let mine := fun (l : Nat) => decide (l / 32768 = g)
  let s := { s with coh := { s.coh with
    l2 := s.coh.l2.filter (fun (e : Nat × L2Line) => !mine (e.1 % 2 ^ 46)), mesh := s.coh.mesh.filter (fun (e : Nat × MeshLine) => !mine e.1),
    dir := s.coh.dir.filter (fun (e : Nat × DirEnt) => !mine e.1) } }
  s.each (List.range 32768) (fun s k => s.arrayPut (g * 32768 + k) 0 (BitVec.allOnes 64) false)

/-- A granule becomes secure. -/
def State.granAdd (s : State) (g : Nat) : State :=
  ({ s.granZero g with secGran := s.secGran.filter (· < g) ++ g :: s.secGran.filter (g < ·) }).granSync

/-- A granule returns to the Normal world. -/
def State.granDel (s : State) (g : Nat) : State := ({ s.granZero g with secGran := s.secGran.filter (· != g) }).granSync

/-- Whether a stage-2 leaf of a Normal-world instance maps a page of a granule. -/
def State.granMapped (s : State) (g : Nat) : Bool :=
  s.tn.insts.any (fun (e : Nat × InstSt) => !s.rb TN_INST_SECURE e.1 &&
    e.2.maps.any (fun (m : Mapping) => rangesMeet (g * 512) 512 m.dpage m.pages))

/-- The granules that hold an instance's mapped memory and tables. -/
def State.granOf (s : State) (i : Nat) : List Nat :=
  let r := s.inst i
  s.secGran.filter (fun g => r.maps.any (fun (m : Mapping) => rangesMeet (g * 512) 512 m.dpage m.pages) ||
    r.s2pages.any (fun p => p / 2 ^ 21 == g))

end Sys2Proof.Machine
end

