-- ==== Sys2Proof/Machine/Tenants.lean ====
section
/-! DEFINITION. The lifecycle of tenant instances (13): creation and placement, start, reset, freeze, destroy, mappings, mailboxes, queues. -/

namespace Sys2Proof.Machine

/-! ### Commands for an instance -/

/-- A long operation's row for commands that the Secure world may give (R539). -/
def State.onLongVia (s : State) (v : Via) (op : Nat) (begin_ next : State → Cmd → State) : State :=
  match v with
  | .packet => s.onLong op begin_ next
  | .vault _ _ _ => s.onVia v op (fun _ => true) begin_

/-- Whether the secure world names an instance that is not secure, or the Normal world one that is (R539, R571). The second check at the
start covers an ID that changed hands meanwhile. -/
def State.wrongWorld (s : State) (c : Cmd) : Bool := s.ist c.inst != 0 && (s.fromSecure c != s.rb TN_INST_SECURE c.inst) && decide (c.sender = 0 ∨ 512 < c.sender)

/-- An instance's page registers return to their reset values (R554). -/
def State.pageReset (s : State) (i : Nat) : State :=
  let lo := 0x7F0000000000 + i * 0x10000
  { s with regs := s.regs.filter (fun (e : Nat × Word) => !(decide (lo ≤ e.1) && decide (e.1 < lo + 0x10000))) }

/-- The images of an instance's virtual cores are gone (R565). -/
def State.dropImages (s : State) (i : Nat) : State :=
  { s with kc := { s.kc with vc := s.kc.vc.filter (fun (e : Nat × VCore) => e.1 / 64 != i), lost := s.kc.lost.filter (fun k => k / 64 != i) } }

/-- The buckets are full (R561). -/
def State.fillBuckets (s : State) (i : Nat) : State :=
  s.each (List.range 5) (fun s k => s.sf TN_BUCKET_LEVEL (s.rf TN_BUCKET_BURST (bucketIdx i k)) (bucketIdx i k))

/-! ### Placement (R549) -/

/-- Whether a core's table holds a dedicated virtual core, or one of a secure instance (R549, R571). -/
def State.holdsDedicated (s : State) (c : Nat) : Bool :=
  (s.dispUsed c).any (fun e => match s.disp c e with | some (i, v) => decide (v < (s.inst i).dedicated) || s.rb TN_INST_SECURE i | none => false)

/-- The active core that a virtual core takes at creation. -/
def State.placeFor (s : State) (i v : Nat) : Option Nat :=
  let act := (List.range 64).filter (fun c => s.rf KC_PCS_ROLE c == 0)
  if v < (s.inst i).dedicated then act.find? (fun c => (s.dispUsed c).isEmpty)
  else
    let ok := act.filter (fun c => (s.dispFree c).isSome && !s.holdsDedicated c &&
      (s.dispUsed c).all (fun e => s.rf TN_DISP_INSTANCE (dispIdx c e) != i))
    ok.foldl (fun (b : Option Nat) c => match b with
      | some x => if (s.dispUsed c).length < (s.dispUsed x).length then some c else some x
      | none => some c) none

/-- Every virtual core is placed, in order; `none` when one cannot be. -/
def State.placeAll (s : State) (i n : Nat) : Option State :=
  (List.range n).foldl (fun (o : Option State) v => o.bind (fun (s : State) =>
    match s.placeFor i v with
    | none => none
    | some c => match s.dispFree c with | some e => some (s.putDisp c e i v) | none => none)) (some s)

/-- An instance's dispatch-table entries are freed (R546). -/
def State.freeEntries (s : State) (i : Nat) : State :=
  let s := s.each (List.range 64) (fun s c => s.each (s.dispUsed c) (fun s e =>
    match s.disp c e with | some p => if p.1 = i then s.delDisp c e else s | none => s))
  ((s.setDegr (s.kc.degr.filter (fun k => k / 64 != i))).degrSync i).placeParked

/-! ### Creation and start -/

/-- The parameters of INSTANCE_CREATE in range (R540). -/
def createOk (c : Cmd) : Bool :=
  let p := c.p 0
  let vc := bits p 22 16
  decide (bits p 5 4 < 3) && decide (1 ≤ bits p 15 8) && decide (1 ≤ vc) && decide (vc ≤ 64) && decide (bits p 30 24 ≤ vc) &&
  !(bit p 0 && bits p 30 24 != vc) && c.p64 2 % 4096 == 0 && decide (c.p64 2 < 2 ^ 46) && decide (6 ≤ c.p 4) && decide (c.p 4 ≤ 16)

/-- The record of a new instance, before placement and tables (R540). -/
def State.newInst (s : State) (c : Cmd) : State :=
  let i := c.inst
  let p := c.p 0
  let s := (s.pageReset i).dropImages i
  let s := s.setInst i (fun _ => { InstSt.empty with dedicated := bits p 30 24, ipage := c.p 1 * 16, eqBase := c.p64 2 / 4096, eqLog2 := c.p 4 })
  let s := ((((s.sf TN_INST_STATE 1 i).sf TN_INST_SECURE (bits p 0 0) i).sf TN_INST_PROTECTED (bits p 1 1) i).sf TN_INST_CLASS (bits p 5 4) i)
  let s := ((s.sf TN_INST_WEIGHT (bits p 15 8) i).sf TN_INST_VCORES (bits p 22 16) i).sf TN_INST_PARKED 0 i
  let s := s.sf TN_INST_AUTO_RESTART (bits p 2 2) i
  ((s.sf IP_EQ_CFG_BASE (c.p64 2 / 4096) i).sf IP_EQ_CFG_LOG2 (c.p 4) i).fillBuckets i

/-- The stage-2 root and the instance page's sixteen leaves (01 R32). -/
def State.newTables (s : State) (i : Nat) : Option State :=
  match s.s2Alloc i with
  | none => none
  | some (s, root) =>
    let s := s.setInst i (fun r => { r with s2root := root })
    (List.range 16).foldl (fun (o : Option State) k => o.bind (fun (s : State) =>
      s.s2Put i 3 (((s.inst i).ipage + k) * 4096) (s2Leaf (0x7F0000000000 + i * 0x10000 + k * 4096) 3 true true))) (some s)

/-- INSTANCE_CREATE (R540); of a secure instance, not while TAINTED is set (17 R727). -/
def State.doCreate (s : State) (c : Cmd) : State :=
  let i := c.inst
  let sec := bit (c.p 0) 0
  if s.ist i ≠ 0 ∨ s.fromSecure c ≠ sec ∨ (sec && s.tainted) = true then s.finish c stDENIED
  else if !createOk c then s.finish c stBAD_PARAM
  else match ((s.newInst c).newTables i).bind (fun (t : State) => t.placeAll i (bits (c.p 0) 22 16)) with
    | none => s.finish c stNO_RESOURCE
    | some t => (t.mirrorCmd c).finish c stOK [t.gen i]

/-- Every virtual core at its start (R547). -/
def State.startCores (s : State) (i entry arg : Nat) : State :=
  let n := s.vcores i
  let s := (s.dropImages i).each (List.range n) (fun s v =>
    s.setVc (vkey i v) (fun _ => ((({ VCore.empty with pc := BitVec.ofNat 64 entry } : VCore).setG 1 v).setG 2 n).setG 3 arg))
  (s.setInst i (fun r => { r with started := true })).sf TN_INST_STATE 2 i

/-- The ENTRY and ARG of the last INSTANCE_START that started the instance; `none` where none has (R565, R572). -/
def State.lastStart (s : State) (i : Nat) : Option (Nat × Nat) :=
  if (s.inst i).boots then some ((s.inst i).entry, (s.inst i).arg) else none

/-- The stream entries of an instance are held disabled, or freed again (R567, 19 R823). -/
def State.holdStreams (s : State) (i : Nat) (b : Bool) : State :=
  let a := rPX_STREAM.base
  (s.regs.filter (fun (e : Nat × Word) => decide (a ≤ e.1) && decide (e.1 < a + 0x2000))).foldl (fun (s : State) e =>
    let k := (e.1 - a) / 8
    if s.rf PX_STREAM_INSTANCE k = i then s.sb PX_STREAM_HELD b k else s) s

/-- A Frozen or Freezing instance resumes from its saved state (R567, R568). -/
def State.resumeInst (s : State) (i : Nat) : State :=
  let n := (s.inst i).frozenDrop
  (((s.sf TN_INST_STATE 2 i).setInst i (fun r => { r with frozenDrop := 0, freeze := none, started := true })).holdStreams i false).notice i 4 0 n

/-- INSTANCE_START. -/
def State.doStart (s : State) (c : Cmd) : State :=
  let i := c.inst
  if s.wrongWorld c then s.finish c stDENIED
  else if s.ist i = 5 then ((s.resumeInst i).mirrorCmd c).finish c stOK
  else if s.ist i ≠ 1 then s.finish c stDENIED
  else if c.p64 0 % 4 ≠ 0 then s.finish c stBAD_PARAM
  else
    let s := s.setInst i (fun r => { r with entry := c.p64 0, arg := c.p64 2, boots := true })
    ((s.startCores i (c.p64 0) (c.p64 2)).mirrorCmd c).finish c stOK

/-! ### Resets (R563-R566) -/

/-- Requests and transactions outstanding of an instance (R556). -/
def State.instOutstanding (s : State) (i : Nat) : Nat :=
  (List.range 48).foldl (fun n x => n + s.rf IP_Q_STAT_OUTSTANDING (qIdx i (x / 16) 0 (x % 16))) 0

/-- The completions of an instance that wait are discarded and counted (R563, R830). -/
def State.dropWaiting (s : State) (i : Nat) : State :=
  let mine := s.tn.waiting.filter (fun (w : WaitCpl) => w.inst == i)
  { s with tn := { s.tn with waiting := s.tn.waiting.filter (fun (w : WaitCpl) => w.inst != i) } }.each mine (fun s w =>
    (s.bump rTN_STALE i).cyRelease w.note)

/-- Step 4: queues, the event queue, mailboxes and IP_QCTL (R565). -/
def State.resetQueues (s : State) (i : Nat) : State :=
  let s := s.each (List.range 96) (fun s x => s.sf IP_Q_CFG_EN 0 (i * 96 + x))
  let s := s.each (List.range 48) (fun s x => s.sf IP_Q_STAT_OUTSTANDING 0 (qIdx i (x / 16) 0 (x % 16)))
  let s := (((s.sf IP_CMD_CFG_EN 0 i).wreg rIP_EQ_TAIL i 0).wreg rIP_EQ_HEAD i 0).wreg rIP_QCTL i 0
  ((s.wreg rIP_MBX_IN i 0).wreg rIP_MBX_OUT i 0).setInst i (fun r => { r with mbxIn := [], mbxOut := [], outSeq := 0, outPosted := false })

/-- Each physical core that holds committed stores of an instance drains them (R565 step 2). -/
def State.flushInst (s : State) (i : Nat) : State :=
  s.each (List.range 64) (fun s c => if (s.core c).sb.any (fun (e : SbEnt) => e.inst == i) then s.sbFlush c else s)

/-- Save and restore show that none runs (R575). -/
def State.opIdle (s : State) : State := s.sf TN_OP_BUSY 0

/-- A freeze, save or restore under way ends ABORTED (R545). -/
def State.abortOps (s : State) (i : Nat) : State :=
  let out := s.instOutstanding i
  let s := match s.longCmd 0x0104 (fun c => c.inst == i) with
    | some c => if s.ist i = 4 then s.finish c stABORTED [out] else s
    | none => s
  if s.ist i = 6 ∨ s.ist i = 7 then
    match s.mp.cmds.find? (fun c => (c.op == 0x0105 || c.op == 0x0106) && c.phase == 3 && c.inst == i) with
    | some c => (s.opIdle).finish c stABORTED
    | none => s.opIdle
  else s

/-- Every subscription entry of an instance is removed (R564). -/
def State.dropSubs (s : State) (i : Nat) : State :=
  let keep := fun (m : Map (List Sub)) => m.map (fun (e : Nat × List Sub) => (e.1, e.2.filter (fun (x : Sub) => x.inst != i)))
  let s := { s with sg := { s.sg with cycSubs := keep s.sg.cycSubs } }
  s.each s.sg.subs (fun s (e : Nat × List Sub) => s.setSubs e.1 (e.2.filter (fun (x : Sub) => x.inst != i)))

/-- Steps 1 to 4 of a reset: the state while it lasts is `st`. The transactions cancelled, those still to end, and the old generation. -/
def State.resetCore (s : State) (i cause st : Nat) : State × Nat × Nat × Nat :=
  let g := s.gen i
  let n := (g + 1) % 0xFFF
  let s := (((s.sf TN_INST_STATE st i).sf TN_INST_GENERATION n i).sf TN_INST_DRAIN 0 i).incSat IP_RESET_INFO_RESETS i
  let s := ((s.sf IP_RESET_INFO_CAUSE cause i).seqStart i n).setInst i (fun r => { r with freeze := none, frozenDrop := 0, started := false })
  let s := (((s.flushInst i).dropImages i).sgDrain i).holdStreams i false
  let s := ((s.czDrain i).cyDrain i).dropWaiting i
  let (s, cancelled, left) := s.chDrain i g
  let s := (s.resetQueues i).sf TN_INST_DRAIN 0x7F i
  let s := if n = 0 then (s.dropSubs i).tlbiS2Inst i else s
  (s, cancelled, left, g)

/-- Steps 5 and 6 of a reset: Created, the summary, and the start if one is asked for. -/
def State.resetEnd (s : State) (i cancelled left g : Nat) (restart : Option (Nat × Nat)) : State :=
  let s := (s.sf TN_INST_STATE 1 i).eqPost i (s.gen i) (resetSummary cancelled left g)
  match restart with
  | some (e, a) => s.startCores i e a
  | none => s

/-- A whole reset at once: by a Russet fault (R545, R565) or by the instance itself (R572). -/
def State.resetNow (s : State) (i cause : Nat) (restart : Option (Nat × Nat)) : State :=
  match (s.abortOps i).resetCore i cause 3 with
  | (s, a, b, g) => s.resetEnd i a b g restart

/-- The reset that a Russet fault causes: not in Free, Resetting or Destroying (R545). Whether it ran. -/
def State.russetReset (s : State) (i : Nat) : State × Bool :=
  if s.ist i = 0 ∨ s.ist i = 3 ∨ s.ist i = 8 then (s, false)
  else
    (s.resetNow i 2 (if s.rb TN_INST_AUTO_RESTART i then s.lastStart i else none), true)

/-- INSTANCE_RESET: its items are 0, cancelled, left, the old generation; or 1 for one that has joined. -/
def State.resetBegin (s : State) (c : Cmd) : State :=
  let i := c.inst
  if s.wrongWorld c || s.ist i == 0 || s.ist i == 8 then s.finish c stDENIED
  else if bit (c.p 0) 0 && c.p64 1 % 4 != 0 then s.finish c stBAD_PARAM
  else if s.ist i = 3 then s.longPhase c 2 7 [1]
  else
    match (s.abortOps i).resetCore i (if c.sender = i + 1 then 3 else 1) 3 with
    | (s, a, b, g) => s.longPhase (s.curCmd c) 2 7 [0, a, b, g]

/-- The commands that have joined a reset reply with it. -/
def State.resetReplies (s : State) (i : Nat) : State :=
  s.each (s.mp.cmds.filter (fun (c : Cmd) => c.op == 0x0103 && c.phase == 3 && c.inst == i)) (fun s c =>
    let c := s.curCmd c
    s.finish { c with lop := { c.lop with pos := 7 } } stOK [s.gen i])

/-- INSTANCE_RESET goes on: steps 5 and 6, and the replies. -/
def State.resetNext (s : State) (c : Cmd) : State :=
  let i := c.inst
  match c.lop.items with
  | [_, a, b, g] =>
    if s.ist i = 3 then
      ((s.mirrorCmd c).resetEnd i a b g (if bit (c.p 0) 0 then some (c.p64 1, c.p64 3) else none)).resetReplies i
    else s
  | _ => s

/-! ### Freeze (R567, R568) -/

/-- A wait that nothing can end is over when the instance freezes (03 R125). -/
def State.endIdleWaits (s : State) (i : Nat) : State :=
  s.each (List.range (s.vcores i)) (fun s v =>
    if (s.vc (vkey i v)).wfi && bits ((s.vc (vkey i v)).getCr 0x10) 2 0 == 0 then s.setVc (vkey i v) (fun k => { k with wfi := false }) else s)

/-- INSTANCE_FREEZE, step 1. -/
def State.freezeBegin (s : State) (c : Cmd) : State :=
  let i := c.inst
  if s.wrongWorld c then s.finish c stDENIED
  else if c.p 0 = 0 ∨ 60000 < c.p 0 then s.finish c stBAD_PARAM
  else if s.ist i = 5 then s.finish c stOK
  else if s.ist i ≠ 2 then s.finish c stDENIED
  else
    let n := s.instOutstanding i
    let s := ((s.flushInst i).endIdleWaits i).sgDrain i
    let s := (s.sf TN_INST_STATE 4 i).setInst i (fun r => { r with freeze := some (s.now + c.p 0 * 1000000, n) })
    let s := s.holdStreams i true
    (s.mirrorCmd c).longPhase c 2 n []

/-- INSTANCE_FREEZE goes on: its progress. -/
def State.freezeNext (s : State) (c : Cmd) : State := s.longPos c (c.lop.total - s.instOutstanding c.inst)

/-- The command that freezes an instance, answered. -/
def State.freezeReply (s : State) (i status : Nat) (results : List Nat) : State :=
  match s.longCmd 0x0104 (fun c => c.inst == i) with
  | some c => s.finish { c with lop := { c.lop with pos := c.lop.total - s.instOutstanding i } } status results
  | none => s

/-- FREEZE_COMPLETE: nothing is outstanding, and every virtual core is between bundles; a wait that a bundle began meanwhile ends (03 R125). -/
def State.freezeComplete (s : State) (i : Nat) : State :=
  if s.ist i = 4 ∧ s.instOutstanding i = 0 ∧ (List.range (s.vcores i)).all (fun v => (s.vc (vkey i v)).wait.isNone) = true then
    (((s.endIdleWaits i).sf TN_INST_STATE 5 i).setInst i (fun r => { r with freeze := none })).freezeReply i stOK []
  else s

/-- FREEZE_TIMEOUT: the instance resumes. -/
def State.freezeTimeout (s : State) (i : Nat) : State :=
  if s.ist i = 4 then (s.resumeInst i).freezeReply i stABORTED [s.instOutstanding i] else s

/-! ### Destroy (R546) -/

/-- Transactions of an instance that are not retired, orphans included. -/
def State.instTxns (s : State) (i : Nat) : Nat := (s.ch.txns.filter (fun (t : Txn) => !t.host && t.inst == i)).length

/-- The channels that an instance owns. -/
def State.ownedChans (s : State) (i : Nat) : List Nat :=
  (Map.keys s.ch.defs).filter (fun n => s.rf CH_CHAN_STATE n != 0 && !s.rb CH_CHAN_HOST n && s.rf CH_CHAN_OWNER n == i)

/-- What of an instance's channels is not done: its own transactions, and any of its channels. -/
def State.destroyLeft (s : State) (i : Nat) : Nat :=
  (s.ch.txns.filter (fun (t : Txn) => (!t.host && t.inst == i) || (s.ownedChans i).contains t.chan)).length

/-- INSTANCE_DESTROY begins: a reset in progress ends first, then its own runs; the channels close. -/
def State.destroyBegin (s : State) (c : Cmd) : State :=
  let i := c.inst
  if s.wrongWorld c || s.ist i == 0 || s.ist i == 8 then s.finish c stDENIED
  else
    let s := match s.longCmd 0x0103 (fun d => d.inst == i && d.lop.items.length == 4) with
      | some d => s.resetNext d
      | none => s
    match (s.abortOps i).resetCore i 1 8 with
    | (s, _, _, _) =>
      let s := s.chTargetGone i
      let s := (s.each (s.ownedChans i) (fun s n => s.setChanState n 2)).chSync
      (s.mirrorCmd c).longPhase (s.curCmd c) 2 (s.destroyLeft i) []

/-- Key slots of an instance (10 R391): a rotation of one of them is ended first. -/
def State.eraseOwned (s : State) (i : Nat) : State :=
  let s := match s.cy.rot with
    | some r => if s.rf CY_SLOT_OWNER r.slot = i then s.rotCancel else s
    | none => s
  s.each ((List.range 4096).filter (fun k => s.rf CY_SLOT_STATE k != 0 && s.rf CY_SLOT_OWNER k == i)) (fun s k => s.eraseSlot k)

/-- The instance's leases end, when it is secure (17 R711). -/
def State.endLeasesOf (s : State) (i : Nat) : State :=
  s.each (s.leases.filter (fun (l : Lease) => l.holder == i + 1)) (fun s l => s.endLease l)

/-- The output slot pages of a destroyed instance: those with signals stay theirs until the last slot is freed (R546, 08 R325). -/
def State.leavePages (s : State) (i : Nat) : State :=
  let used := fun (p : Nat) => s.sg.slots.any (fun (e : Nat × Nat) => e.1 / 256 == p)
  { s with sg := { s.sg with pages := s.sg.pages.filterMap (fun (e : Nat × Nat) =>
      if e.2 ≠ i then some e else if used e.1 then some (e.1, 512) else none) } }

/-- The instance is Free: its mappings, tables, entries and granules are given back. -/
def State.instGone (s : State) (i : Nat) : State :=
  let sec := s.rb TN_INST_SECURE i
  let pages := (s.inst i).s2pages
  let others := (Map.keys s.tn.insts).filter (· != i)
  let gr := (s.granOf i).filter (fun g => !others.any (fun j => (s.granOf j).contains g))
  let s := ((s.tlbiS2Inst i).freeEntries i).leavePages i
  let s := { s with tn := { s.tn with insts := Map.del s.tn.insts i, s2free := if sec then s.tn.s2free else pages ++ s.tn.s2free } }
  let keep := s.rf TN_INST_GENERATION i * 2 ^ 9 + s.rf TN_INST_DRAIN i * 2 ^ 25
  let s := s.wreg rTN_INST i keep
  if sec then s.each gr (fun s g => s.granDel g) else s

/-- INSTANCE_DESTROY goes on: OK once no transaction is left. -/
def State.destroyNext (s : State) (c : Cmd) : State :=
  let i := c.inst
  let left := s.destroyLeft i
  if left ≠ 0 then s.longPos c (c.lop.total - left)
  else
    let s := s.each (s.ownedChans i) (fun s n => s.chanGone n)
    let s := ((s.eraseOwned i).endLeasesOf i).instGone i
    s.finish { c with lop := { c.lop with pos := c.lop.total } } stOK

/-! ### Mappings (R542, R543) -/

/-- Whether the state lets mappings change (R545). -/
def State.mapState (s : State) (i : Nat) : Bool := [1, 2, 5].contains (s.ist i)

/-- INSTANCE_MAP. -/
def State.doMap (s : State) (c : Cmd) : State :=
  let i := c.inst
  let t := c.p64 0
  let d := c.p64 2
  let n := c.p64 4
  let f := c.p 6
  let bad := t % 4096 != 0 || d % 4096 != 0 || n % 4096 != 0 || n == 0 || decide (2 ^ 46 < t + n) || s.tenantBusy i (t / 4096) (n / 4096) ||
    !s.plainPages (d / 4096) (n / 4096) || (bit f 1 && !bit f 0) || (s.rb TN_INST_PROTECTED i && bit f 1 && !bit f 4)
  if s.wrongWorld c || !s.mapState i then s.finish c stDENIED
  else if bad then s.finish c stBAD_PARAM
  else if (bit f 1 && s.writeClash i (d / 4096) (n / 4096) (bit f 5)) || (!s.fromSecure c && s.touchesSecure (d / 4096) (n / 4096)) then s.finish c stDENIED
  else match s.s2Map i (t / 4096) (d / 4096) (n / 4096) (f % 32) (mapLevel (t / 4096) (d / 4096) (n / 4096)) false with
    | none => s.finish c stNO_RESOURCE
    | some s =>
      let s := s.setInst i (fun r => { r with maps := r.maps ++ [⟨t / 4096, d / 4096, n / 4096, f % 64⟩] })
      (s.mirrorCmd c).finish c stOK

/-- INSTANCE_UNMAP. -/
def State.doUnmap (s : State) (c : Cmd) : State :=
  let i := c.inst
  if s.wrongWorld c || !s.mapState i then s.finish c stDENIED
  else match (s.inst i).maps.find? (fun (m : Mapping) => m.tpage * 4096 == c.p64 0 && m.pages * 4096 == c.p64 2) with
    | none => s.finish c stBAD_PARAM
    | some m =>
      let s := s.s2Unmap i m.tpage m.pages (mapLevel m.tpage m.dpage m.pages)
      let s := s.setInst i (fun r => { r with maps := r.maps.filter (fun (x : Mapping) => !(x == m)) })
      (s.mirrorCmd c).finish c stOK

/-- A record of the range table (R569). -/
def Mapping.record (m : Mapping) : List Nat := toBytes (m.tpage * 4096 + m.perm % 32) 8 ++ toBytes m.pages 8

/-- TN_INST_n as INSTANCE_QUERY answers it. -/
def State.doInstQuery (s : State) (c : Cmd) : State :=
  let i := c.inst
  if s.wrongWorld c then s.finish c stDENIED
  else
    let ms := (s.inst i).maps
    let k := min ms.length (c.p 2 / 16)
    match s.bufWrite c (c.p64 0) ((ms.take k).flatMap Mapping.record) with
    | (s, true) => s.finish c stOK [s.reg rTN_INST i % 2 ^ 32, s.reg rTN_INST i / 2 ^ 32, ms.length, k]
    | (s, false) => s.finish c stBAD_PARAM

/-! ### Mailboxes (R558, R576; 17 R707) -/

/-- Whether the Normal world's windows reach an instance. -/
def State.mbxReach (s : State) (i : Nat) : Bool := s.ist i != 0 && !s.rb TN_INST_SECURE i

/-- The inbound mailbox still holds a message that is not acknowledged. -/
def State.mbxInBusy (s : State) (i : Nat) : Bool := s.rf IP_MBX_IN_ACK i != s.rf IP_MBX_IN_SEQ i

/-- A post to an instance's inbound mailbox. -/
def State.mbxPost (s : State) (i len : Nat) : State :=
  (((s.sf IP_MBX_IN_SEQ (s.rf IP_MBX_IN_SEQ i + 1) i).sf IP_MBX_IN_LEN len i)).setIpend i (s.irqVcore i) 2

/-- A write or a post through TN_MBX is ignored. -/
def State.mbxRefused (s : State) : State := s.sf TN_MBX_CTL_REFUSED 1

/-- POST_IN of the Operator Host or device firmware (R576). -/
def State.postIn (s : State) (len : Nat) : State :=
  let i := s.rf TN_MBX_SEL_INSTANCE
  if !s.mbxReach i || s.mbxInBusy i || decide (4096 < len) then s.mbxRefused else s.mbxPost i len

/-- A message of the Vault firmware to a secure instance: written and posted; whether it was (17 R707). -/
def State.vaultPost (s : State) (i : Nat) (msg : List Nat) : State × Bool :=
  if s.ist i = 0 ∨ s.rb TN_INST_SECURE i = false ∨ s.mbxInBusy i = true ∨ 4096 < msg.length then (s, false)
  else
    let s := s.setInst i (fun r => { r with mbxIn := msg.zipIdx.foldl (fun (m : Bytes) (x : Nat × Nat) => Bytes.wr m x.2 (BitVec.ofNat 8 x.1)) r.mbxIn })
    (s.mbxPost i msg.length, true)

/-- An acknowledgement of the outbound message (R576). -/
def State.mbxAck (s : State) (i : Nat) : State :=
  (s.sf IP_MBX_OUT_ACK (s.inst i).outSeq i).setInst i (fun r => { r with outPosted := false })

/-- ACK_OUT. -/
def State.ackOut (s : State) (sec : Option Nat) : State :=
  match sec with
  | some i => if s.ist i ≠ 0 ∧ s.rb TN_INST_SECURE i = true then s.mbxAck i else s
  | none =>
    let i := s.rf TN_MBX_SEL_INSTANCE
    if s.mbxReach i then s.mbxAck i else s.mbxRefused

/-- POST: an instance's write of IP_MBX_OUT. LEN and POST take effect while no posted message waits; a LEN above 4,096 is reserved. -/
def State.mbxOutWrite (s : State) (i v : Nat) : State :=
  if s.ist i = 0 ∨ (s.inst i).outPosted = true then s
  else
    let s := if bits v 44 32 ≤ 4096 then s.sf IP_MBX_OUT_LEN (bits v 44 32) i else s
    if bit v 0 then
      let s := s.setInst i (fun r => { r with outSeq := (r.outSeq + 1) % 65536, outPosted := true })
      if s.rb TN_INST_SECURE i then s else s.raise 0x3C3
    else s

/-! ### Queue registers (R555, R556) -/

/-- Whether an instance's queue registers may be written: the instance runs. -/
def State.pageLive (s : State) (i : Nat) : Bool := s.ist i != 0

/-- The completions that wait for a queue that can take them (R830). -/
def State.queueReady (s : State) (i cls d : Nat) : State := s.cplFlush i cls d

/-- QUEUE_ENABLE: a write of IP_Q_CFG. BASE and LOG2 only while EN was 0; a reserved LOG2 is not taken. -/
def State.queueCfg (s : State) (i cls kind d v : Nat) : State :=
  let q := qIdx i cls kind d
  let was := s.rb IP_Q_CFG_EN q
  if !s.pageLive i then s
  else
    let s := if was then s else
      let s := s.sf IP_Q_CFG_BASE (bits v 45 12) q
      if 4 ≤ bits v 4 0 ∧ bits v 4 0 ≤ 16 then s.sf IP_Q_CFG_LOG2 (bits v 4 0) q else s
    let s := if kind = 1 then s.sf IP_Q_CFG_NOTIFY (bits v 62 62) q else s
    if bit v 63 && !was then
      let s := ((s.wreg rIP_Q_TAIL q 0).wreg rIP_Q_HEAD q 0).sf IP_Q_CFG_EN 1 q
      if kind = 1 then s.queueReady i cls d else s
    else if !bit v 63 && was then
      if kind = 1 ∧ s.rf IP_Q_STAT_OUTSTANDING (qIdx i cls 0 d) ≠ 0 then s else s.sf IP_Q_CFG_EN 0 q
    else s

/-- A pointer write is ignored (R556). -/
def State.ptrIgnored (s : State) (q : Nat) : State := s.sf IP_Q_STAT_ERROR 1 q

/-- SUBMISSION_TAIL_WRITE: a compression or cipher queue's doorbell. -/
def State.subTail (s : State) (i cls d v : Nat) : State :=
  let q := qIdx i cls 0 d
  let lg := s.rf IP_Q_CFG_LOG2 q
  if !s.pageLive i || cls == 0 then s
  else if bits v 15 0 < 2 ^ lg ∧ ptrDist (s.qHead q) (ptrPos v lg) lg ≤ 2 ^ lg then s.wreg rIP_Q_TAIL q (v % 2 ^ 17)
  else s.ptrIgnored q

/-- CONSUMER_HEAD_WRITE of a completion queue. -/
def State.cplHead (s : State) (i cls d v : Nat) : State :=
  let q := qIdx i cls 1 d
  let lg := s.rf IP_Q_CFG_LOG2 q
  if !s.pageLive i then s
  else if bits v 15 0 < 2 ^ lg ∧ ptrDist (s.qHead q) (ptrPos v lg) lg ≤ s.qFill q then
    (s.wreg rIP_Q_HEAD q (v % 2 ^ 17)).queueReady i cls d
  else s.ptrIgnored q

/-- CONSUMER_HEAD_WRITE of the event queue. -/
def State.eqHeadWrite (s : State) (i v : Nat) : State :=
  let lg := s.rf IP_EQ_CFG_LOG2 i
  let head := ptrPos (s.reg rIP_EQ_HEAD i) lg
  let tail := ptrPos (s.reg rIP_EQ_TAIL i) lg
  if !s.pageLive i then s
  else if bits v 15 0 < 2 ^ lg ∧ ptrDist head (ptrPos v lg) lg ≤ ptrDist head tail lg then s.wreg rIP_EQ_HEAD i (v % 2 ^ 17)
  else s.sf IP_EQ_STAT_ERROR 1 i

end Sys2Proof.Machine
end

