-- ==== Sys2Proof/Machine/Faults.lean ====
section
/-! DEFINITION. The fault collector (15): records, folding, reactions, the Sable halt, the FLT pins, reporting paths, returns to service. -/

namespace Sys2Proof.Machine

/-! ### Records -/

/-- A record's 64 bytes (R622). -/
def FRec.bytes (r : FRec) : List Nat :=
  let b := toBytes r.first 8 ++ toBytes r.last 8 ++ toBytes r.seq 4 ++ toBytes r.org 4 ++
    toBytes (r.cause + r.cls * 2 ^ 16 + b2n r.subsys * 2 ^ 18 + b2n r.cleared * 2 ^ 19 + b2n r.subj.isSome * 2 ^ 20 + b2n r.noPoint * 2 ^ 21) 4 ++
    toBytes (r.folds + r.point * 2 ^ 16) 4 ++ toBytes ((r.subj.map (fun p => p.1 + p.2 * 2 ^ 9)).getD 0) 4 ++ toBytes (r.react + r.recov * 256) 4 ++
    toBytes r.d0 8 ++ toBytes r.d1 8 ++ toBytes r.powerOn 4
  b ++ toBytes (crc32c b) 4

/-- The module has reached READY (17 R718). -/
def State.isReady (s : State) : Bool := s.rf VT_BOOT_STATE == 1

/-- Whether a fault is asserting (R641). -/
def State.faultAsserts (s : State) : Bool :=
  s.isSable || s.fc.log.any (fun (e : Nat × FRec) => !e.2.cleared && decide (s.rf FC_CFG_FLT_CLASS ≤ e.2.cls)) ||
  (s.rb FC_STAT_LOST && decide (s.rf FC_CFG_FLT_CLASS ≤ s.rf FC_STAT_LOST_CLASS))

/-- The FLT pins are driven (R642, R643): low until READY, while a fault asserts, in Sable and after a self-check failure. -/
def State.setFlt (s : State) (a b : Bool) : State := { s with fc := { s.fc with fltA := a, fltB := b } }

/-- FLT_ASSERT and the pins follow (R641, R642). The pair waveform begins with FLT_A high. -/
def State.fltSync (s : State) : State :=
  let on := !s.isReady || s.faultAsserts
  let was := s.rb FC_STAT_FLT_ASSERT
  let s := if on == was then s else (s.sb FC_STAT_FLT_ASSERT on).raise 0x384
  if on || s.fc.selfCheck then s.setFlt false false
  else if s.rb FC_STAT_FLT_MODE then (if was then s.setFlt true false else s)
  else s.setFlt true true

/-- The collector's status registers follow the log and the fold table (R657, R658). -/
def State.fcSync (s : State) : State :=
  let n := fun (k : Nat) => min 65535 (s.fc.log.filter (fun (e : Nat × FRec) => e.2.cls == k && !e.2.cleared)).length
  let kind := s.fc.wins.any (fun (w : FoldWin) => w.kindWin)
  let s := if s.rb FC_STAT_SUBSYS_FOLD == kind then s else (s.sb FC_STAT_SUBSYS_FOLD kind).raise 0x386
  let s := (s.sf FC_STAT_OPEN (s.fc.wins.filter (fun (w : FoldWin) => !w.kindWin)).length).sf FC_STAT_LOG_USED s.fc.log.length
  ((((s.sf FC_UNCLEARED_SLATE (n 0)).sf FC_UNCLEARED_OCHRE (n 1)).sf FC_UNCLEARED_RUSSET (n 2)).sf FC_UNCLEARED_SABLE (n 3)).fltSync

/-- A record in the fault journal (R627), at FC_FJ.INDEX. A Sable record of METADATA_CORRUPT is not written. -/
def State.fjWrite (s : State) (r : FRec) : State :=
  if r.cls < 2 ∨ (r.cls = 3 ∧ r.cause = 0x0906) then s
  else
    let k := s.rf FC_FJ_INDEX
    let s := { s with fc := { s.fc with fj := Map.put s.fc.fj k r } }
    let s := s.sf FC_FJ_INDEX (k + 1)
    if k = 4095 then s.sf FC_FJ_WRAP (1 - s.rf FC_FJ_WRAP) else s

/-- The event of a record opened at, or raised to, a class (R654). -/
def State.classEvent (s : State) (cls : Nat) : State := if cls = 0 then s.raiseMs 0x380 else s.raise (0x380 + cls)

/-- Whether a slot's record has an open window (R624). -/
def State.slotOpen (s : State) (k : Nat) : Bool := s.fc.wins.any (fun (w : FoldWin) => w.slot == some k)

/-- Of the log's entries that satisfy a test, the slot with the lowest SEQ. -/
def lowestSeq (l : Map FRec) (p : Nat × FRec → Bool) : Option Nat :=
  ((l.filter p).foldl (fun (b : Option (Nat × FRec)) e => match b with
    | some x => if e.2.seq < x.2.seq then some e else some x
    | none => some e) none).map Prod.fst

/-- The slot of a new record (R624). -/
def State.logSlot (s : State) : Option Nat :=
  if s.fc.log.length < 8192 then (List.range 8192).find? (fun k => (Map.find s.fc.log k).isNone)
  else (lowestSeq s.fc.log (fun e => e.2.cleared && !s.slotOpen e.1)).orElse
    (fun _ => lowestSeq s.fc.log (fun e => !e.2.cleared && e.2.cls == 0 && !s.slotOpen e.1))

/-- A record is not logged (R624). -/
def State.logLost (s : State) (cls : Nat) : State :=
  ((((s.bump rFC_LOST_CNT).sf FC_STAT_LOST 1).sf FC_STAT_LOST_CLASS (max cls (s.rf FC_STAT_LOST_CLASS))).raiseMs 0x385)

/-- LAST_CLASS of a unit (R661). -/
def State.lastClass (s : State) (o cls : Nat) : State := s.setUnit o (fun u => { u with lastClass := cls })

/-- The record that a report opens. -/
def State.newRec (s : State) (r : Report) (point : Option Nat) (kindWin : Bool) : FRec :=
  ⟨s.now, s.now, s.rf FC_LOG_NEXT_SEQ, if kindWin then r.org / 65536 * 65536 + 0xFFFF else r.org, r.cause, r.cls, kindWin, false, r.subj,
   point.isNone, satN 16 r.cnt, point.getD 0, r.react, min 255 (s.recoveries r.org), r.d0, r.d1, s.rf FC_FJ_POWER_ON⟩

/-- A window and a record are opened (R624, R627, R629). -/
def State.openRec (s : State) (r : Report) (point : Option Nat) (kindWin resv : Bool) : State :=
  let rec_ := s.newRec r point kindWin
  let s := (s.bump rFC_RECORD_CNT).sf FC_LOG_NEXT_SEQ (rec_.seq + 1)
  let slot := s.logSlot
  let s := match slot with
    | some k => { s with fc := { s.fc with log := Map.put s.fc.log k rec_ } }
    | none => s.logLost r.cls
  let w : FoldWin := ⟨rec_.org, if kindWin then none else r.subj, kindWin, slot, s.now + s.rf FC_CFG_FOLD_US * 1000,
    if 2 ≤ r.cls then some (rec_.folds, rec_.cls) else none, resv, rec_, slot.isNone⟩
  let s := { s with fc := { s.fc with wins := s.fc.wins ++ [w] } }
  ((s.fjWrite rec_).lastClass rec_.org r.cls).classEvent r.cls

/-- A record into which a report folds (R622, R625). -/
def FRec.fold (x : FRec) (r : Report) (now : Nat) : FRec :=
  let y := { x with last := now, folds := satN 16 (x.folds + r.cnt), cleared := false }
  if x.cls < r.cls then { y with cls := r.cls, cause := r.cause, d0 := r.d0, d1 := r.d1, react := r.react, subj := r.subj } else y

/-- A report folds into the record of an open window (R622, R625, R629), logged or not (R624). -/
def State.foldRec (s : State) (r : Report) (w : FoldWin) : State :=
  let y := w.rcd.fold r s.now
  let w' := { w with rcd := y, fjWritten := if w.rcd.cls < r.cls ∧ 2 ≤ r.cls then some (y.folds, y.cls) else w.fjWritten }
  let s := { s with fc := { s.fc with wins := s.fc.wins.map (fun (v : FoldWin) => if v == w then w' else v),
                                      log := match w.slot with | some k => Map.put s.fc.log k y | none => s.fc.log } }
  if w.rcd.cls < r.cls then
    let s := (s.fjWrite y).when (w.unlogged && s.rb FC_STAT_LOST) (fun s => s.sf FC_STAT_LOST_CLASS (max r.cls (s.rf FC_STAT_LOST_CLASS)))
    (s.lastClass y.org r.cls).classEvent r.cls
  else s

/-- The second fault journal entry, when a window closes (R627). -/
def State.closeWin (s : State) (w : FoldWin) : State :=
  let s := { s with fc := { s.fc with wins := s.fc.wins.filter (fun (v : FoldWin) => !(v == w)) } }
  match w.fjWritten with
  | some f => if f = (w.rcd.folds, w.rcd.cls) then s else s.fjWrite w.rcd
  | none => s

/-- Windows whose time has passed close before a report is looked at. -/
def State.closeDue (s : State) : State :=
  s.each (s.fc.wins.filter (fun (w : FoldWin) => decide (w.endAt ≤ s.now))) (fun s w => s.closeWin w)

/-- The entries of the fold table that a new key may take: of the 32 for Russet and Sable (true), or of the 224 (false) (R630). Russet and Sable take the
32 first (DESIGN CHOICE, log 32). -/
def State.foldEntry (s : State) (cls : Nat) : Option Bool :=
  let n := fun (b : Bool) => (s.fc.wins.filter (fun (w : FoldWin) => !w.kindWin && w.resv == b)).length
  if 2 ≤ cls ∧ n true < 32 then some true else if n false < 224 then some false else none

/-- A report is recorded: folded, or logged (R629, R630). -/
def State.recordReport (s : State) (r : Report) (point : Option Nat) : State :=
  let s := s.closeDue
  match s.fc.wins.find? (fun (w : FoldWin) => !w.kindWin && w.org == r.org && w.subj == r.subj) with
  | some w => s.foldRec r w
  | none =>
    match s.foldEntry r.cls with
    | some b => s.openRec r point false b
    | none =>
      match s.fc.wins.find? (fun (w : FoldWin) => w.kindWin && w.org / 65536 == r.org / 65536) with
      | some w => s.foldRec r w
      | none => s.openRec r point true false

/-! ### Reactions -/

/-- SABLE_HALT (R638): outputs, claims, virtual cores and dispatch all look at FC_STAT.SABLE. -/
def State.sableHalt (s : State) : State :=
  let s := ({ s with tw := { s.tw with train := false, want := false } }).sf TW_STAT_CLAIM 0
  ((s.when s.tw.strap (fun s => s.sf TW_STAT_GATE 0)).sf FC_STAT_SABLE 1).fltSync

/-- RUSSET_REACTION (R636; 16 R684): the reaction and its code. -/
def State.russetReaction (s : State) (i g : Nat) : State × Nat :=
  if s.gen i ≠ g ∨ s.ist i = 0 ∨ s.ist i = 3 ∨ s.ist i = 8 then (s, 0xB)
  else if s.rb TN_INST_PROTECTED i && s.canYield then (s.askTakeoverFor (some (i, g)), 9)
  else ((s.russetReset i).1, 8)

/-- The collector takes a report: reaction and record (R629, R632). -/
def State.classify (s : State) (r : Report) (point : Option Nat) : State :=
  let (s, react) := if r.cls = 2 then (match r.subj with | some (i, g) => s.russetReaction i g | none => (s, r.react))
    else if r.cls = 3 then (s.sableHalt, 0xA) else (s, r.react)
  (s.recordReport { r with react := react } point).fcSync

/-! ### Reporting paths (R618, R619) -/

/-- The unit of a point. -/
def State.ptUnit (s : State) (n : Nat) : Nat := s.rf FC_PT_UNIT n

/-- Whether the collector can take a unit out of service without architectural effect (R618). -/
def canRemove (o : Nat) : Bool := [1, 6, 8, 0xA, 0xB].contains (o / 65536)

/-- The unit whose path is lost is taken out of service (R618). -/
def State.removeUnit (s : State) (o : Nat) : State :=
  let k := o % 65536
  match o / 65536 with
  | 1 =>
    match s.rf KC_PCS_ROLE k with
    | 0 => s.askMove k
    | 1 => ((s.outOfService (org 1 k)).1).setCoreRole k 5
    | 2 => ((s.outOfService (org 1 k)).1).setCoreRole k 5
    | _ => s
  | 6 => s.retireLane k
  | 8 => s.procRetire k
  | 0xA => s.czRetire k
  | 0xB => s.cyRetire k
  | _ => s

/-- FC_STAT.BLIND (R657). -/
def State.blindSync (s : State) : State :=
  s.sb FC_STAT_BLIND ((List.range 2048).any (fun n => s.rf FC_PT_STATE n != 0 && !canRemove (s.ptUnit n)))

/-- A path is Broken (1) or Test-failed (2): counted, recorded, its unit removed (R618, R619, R662). A Test-failed path can still break. -/
def State.pathLost (s : State) (n st : Nat) : State :=
  if s.ptUnit n = 0 ∨ s.rf FC_PT_STATE n = 1 ∨ (s.rf FC_PT_STATE n = 2 ∧ st = 2) then s
  else if s.rf FC_PT_STATE n = 2 then
    (((((s.sf FC_PT_STATE st n).incSat FC_PT_BREAKS n).bump rFC_PATH_CNT).raise 0x387).classify
      { org := org 0x16 n, cause := 0x1600 + st, cls := ochre, react := if (s.unit (org 0x16 n)).st = 3 then 6 else 5 } (some n)).blindSync
  else
    let (s, ret) := s.outOfService (org 0x16 n)
    let s := (((s.sf FC_PT_STATE st n).incSat FC_PT_BREAKS n).bump rFC_PATH_CNT).raise 0x387
    let s := s.classify { org := org 0x16 n, cause := 0x1600 + st, cls := ochre, react := if ret then 6 else 5 } (some n)
    (s.removeUnit (s.ptUnit n)).blindSync

/-- A path is Good again (R618). -/
def State.pathBack (s : State) (n : Nat) : State :=
  if (s.unit (org 0x16 n)).st = 3 then s
  else
    let s := ((s.sf FC_PT_STATE 0 n).raise 0x387).returned (org 0x16 n)
    (s.classify { org := org 0x16 n, cause := 0x1603, cls := slate, react := 7 } (some n)).blindSync

/-- PATH_TEST: `good`: the pair has read opposite values for 10 ms; `answers`: the point answers the test. A path out of service is tested again, a Broken
one only when its pair is good, and each failed test counts (R655). -/
def State.pathTest (s : State) (n : Nat) (good answers : Bool) : State :=
  if s.ptUnit n = 0 then s
  else if s.rf FC_PT_STATE n = 0 then (if answers then s else s.pathLost n 2)
  else if good && answers then s.pathBack n
  else if !answers && (good || s.rf FC_PT_STATE n == 2) then s.bump rFC_PATH_CNT
  else s

/-- FAULT_REPORT: the report pending at a point; `bad`: all four reads of it fail its CRC (R616). -/
def State.takeReport (s : State) (n : Nat) (bad : Bool) : State :=
  match Map.getD s.fc.held n [] with
  | [] => s
  | r :: q =>
    if s.rf FC_PT_STATE n ≠ 0 then s
    else if bad then s.pathLost n 1
    else
      let s := { s with fc := { s.fc with held := if q.isEmpty then Map.del s.fc.held n else Map.put s.fc.held n q } }
      (s.bump rFC_REPORT_CNT 0 r.cnt).classify r (some n)

/-- What the collector's own memories meet while it takes a report (R631). -/
def State.collectorError (s : State) (e : ColErr) : State :=
  let own := fun (s : State) (cause cls d0 : Nat) => s.classify { org := org 0x15 0, cause := cause, cls := cls, d0 := d0, react := if cause = 0x1502 then 1 else 0 } none
  match e with
  | .single => own s 0x1502 slate 0
  | .slot k =>
    match Map.find s.fc.log k.toNat with
    | none => s
    | some _ =>
      let s := { s with fc := { s.fc with log := Map.del s.fc.log k.toNat,
                                          wins := s.fc.wins.map (fun (w : FoldWin) => if w.slot = some k.toNat then { w with slot := none } else w) } }
      own s 0x1503 ochre k.toNat
  | .window k =>
    match s.fc.wins[k.toNat]? with
    | none => s
    | some w => own (s.closeWin w) 0x1504 slate 0

/-- FOLD_WINDOW_EXPIRY: the window that ends first (R629). -/
def State.foldExpiry (s : State) : State :=
  match s.fc.wins.foldl (fun (b : Option FoldWin) w => match b with | some x => if w.endAt < x.endAt then some w else some x | none => some w) none with
  | some w => (s.closeWin w).fcSync
  | none => s

/-- SELF_CHECK (R640): the comparator's own doing. -/
def State.selfCheckFail (s : State) : State :=
  let s := { s with fc := { s.fc with selfCheck := true } }.setFlt false false
  s.classify { org := org 0x15 0, cause := 0x1501, cls := sable } none

/-- FLT_PAIR_EDGE (R643). -/
def State.pairEdge (s : State) : State :=
  if s.rb FC_STAT_FLT_MODE && !s.rb FC_STAT_FLT_ASSERT && !s.fc.selfCheck then s.setFlt (!s.fc.fltA) s.fc.fltA else s

/-! ### Return to service (R633-R635) -/

/-- The state register of a lane, processor or pipe, with its event. -/
def State.unitReg (s : State) (o st : Nat) : State :=
  let k := o % 65536
  match o / 65536 with
  | 6 => ((s.sf SG_LANE_STAT_STATE st k).raise (0x100 + k)).countLanes
  | 8 => (s.sf CH_PROC_STAT_STATE st k).raise (0x280 + k)
  | 0xA => (s.sf CZ_PIPE_STAT_STATE st k).raise (0x300 + k)
  | 0xB => (s.sf CY_PIPE_STAT_STATE st k).raise (0x308 + k)
  | _ => s

/-- Whether a unit is a lane, a processor or a pipe that exists. -/
def quickUnit (o : Nat) : Bool :=
  let k := o % 65536
  match o / 65536 with
  | 6 => decide (k < 64)
  | 8 => decide (k < 16)
  | 0xA => decide (k < 4)
  | 0xB => decide (k < 8)
  | _ => false

/-- A SELF_TEST ends (R644, R660): its result 1 passed, 2 failed, 3 cancelled. -/
def State.testEnd (s : State) (result : Nat) : State :=
  let s := ((((s.sf FC_TEST_BUSY 0).sf FC_TEST_RESULT result).when (result != 3) (fun s => s.sf FC_TEST_PROGRESS 10000))).raise 0x38A
  match s.longCmd 0x0711 with
  | some c =>
    if result = 3 then s.finish c stCANCELLED
    else s.finish { c with lop := { c.lop with pos := 10000 } } stOK [if result = 1 then 1 else 0]
  | none => s

/-- The origin of SELF_TEST's unit. -/
def testOrg (kind idx : Nat) : Nat :=
  match kind with
  | 1 => org 1 idx
  | 2 => org 2 idx
  | 3 => org 8 idx
  | 4 => org 0xA idx
  | 5 => org 0xB idx
  | _ => org 6 idx

/-- The unit under SELF_TEST. -/
def State.testUnit (s : State) : Option Nat := if s.rb FC_TEST_BUSY then some (testOrg (s.rf FC_TEST_KIND) (s.rf FC_TEST_INDEX)) else none

/-- A SELF_TEST of a unit whose automatic test ends has joined it (R644). -/
def State.joinTest (s : State) (o : Nat) (pass : Bool) : State := if s.testUnit = some o then s.testEnd (if pass then 1 else 2) else s

/-- UNIT_TEST_END: the automatic test of a lane, processor or pipe in state 0x1 (R633, R635). -/
def State.unitTestEnd (s : State) (o : Nat) (pass : Bool) : State :=
  if !quickUnit o || (s.unit o).st != 1 then s
  else
    let s := if pass then (s.toQuiet o).unitReg o 2
      else ((s.testFailed o 6).retireUnit o).unitReg o 3
    s.joinTest o pass

/-- QUIET_PERIOD_EXPIRY: the unit returns, and one recovery is counted; a lost quad's cores return with it (R635). -/
def State.quietEnd (s : State) (o : Nat) : State :=
  let k := o % 65536
  if (s.unit o).st ≠ 2 then s
  else match o / 65536 with
    | 1 => if (s.unit (org 2 (k / 4))).st = 2 then s else (s.returned o).setCoreRole k 1
    | 2 =>
      (s.returned o).each ([4 * k, 4 * k + 1, 4 * k + 2, 4 * k + 3].filter (fun c => s.rf KC_PCS_ROLE c == 6)) (fun s c =>
        (s.setUnit (org 1 c) (fun u => { u with st := 0 })).setCoreRole c 1)
    | 6 => (s.returned o).laneReturn k
    | 8 => (s.returned o).procReturn k
    | 0xA => (s.returned o).unitReg o 0
    | 0xB => ((s.returned o).sf CY_PIPE_STAT_LEASED 0 k).unitReg o 0
    | _ => s

/-- RECOVERY_COUNTER_AGE (R634). -/
def State.ageReturns (s : State) (o : Nat) : State :=
  if (Map.find s.fc.units o).isNone then s
  else
    let s := s.setUnit o (fun u => { u with returns := u.returns.filter (fun t => decide (s.now < t)) })
    s.when (o / 65536 == 4) (fun s => s.sf MA_CH_STAT_RECOVERIES (satN 4 (s.recoveries o)) (o % 65536))

/-! ### Commands -/

/-- FAULT_QUERY (R626). -/
def State.doFaultQuery (s : State) (c : Cmd) : State :=
  let fj := bit (c.p 0) 16
  let first := c.p 0 % 2 ^ 13
  if (if fj then 4096 else 8192) < first + c.p 1 then s.finish c stBAD_PARAM
  else
    let m := if fj then s.fc.fj else s.fc.log
    let l := m.filter (fun (e : Nat × FRec) => decide (first ≤ e.1) && decide (e.1 < first + c.p 1))
    match s.bufWrite c (c.p64 2) (l.flatMap (fun (e : Nat × FRec) => e.2.bytes)) with
    | (s, true) => s.finish c stOK [l.length, s.rf FC_STAT_LOG_USED]
    | (s, false) => s.finish c stBAD_PARAM

/-- FAULT_CLEAR (R625). -/
def State.doFaultClear (s : State) (c : Cmd) : State :=
  if 8192 < c.p 0 + c.p 1 then s.finish c stBAD_PARAM
  else
    let hit := fun (e : Nat × FRec) => decide (c.p 0 ≤ e.1) && decide (e.1 < c.p 0 + c.p 1) && e.2.cls != 3 && !e.2.cleared
    let n := (s.fc.log.filter hit).length
    let s := { s with fc := { s.fc with log := s.fc.log.map (fun (e : Nat × FRec) => if hit e then (e.1, { e.2 with cleared := true }) else e) } }
    s.fcSync.finish c stOK [n]

/-- Whether SELF_TEST's unit exists, and whether it is out of service (R644). -/
def testRange (kind idx : Nat) : Bool :=
  match kind with
  | 1 => decide (idx < 64)
  | 2 => decide (idx < 16)
  | 3 => decide (idx < 16)
  | 4 => decide (idx < 4)
  | 5 => decide (idx < 8)
  | 6 => decide (idx < 64)
  | _ => false

def State.testable (s : State) (kind idx : Nat) : Bool :=
  let core := fun (c : Nat) => [1, 5, 6, 7].contains (s.rf KC_PCS_ROLE c)
  match kind with
  | 1 => core idx
  | 2 => [4 * idx, 4 * idx + 1, 4 * idx + 2, 4 * idx + 3].all core
  | _ => (s.unit (testOrg kind idx)).st != 0

/-- SELF_TEST begins; while another runs it waits (R590). -/
def State.selfTestBegin (s : State) (c : Cmd) : State :=
  if !testRange (c.p 0) (c.p 1) then s.finish c stBAD_PARAM
  else if !s.testable (c.p 0) (c.p 1) then s.finish c stDENIED
  else if s.rb FC_TEST_BUSY then s
  else
    let s := ((((s.sf FC_TEST_BUSY 1).sf FC_TEST_RESULT 0).sf FC_TEST_KIND (c.p 0)).sf FC_TEST_INDEX (c.p 1)).sf FC_TEST_PROGRESS 0
    s.longPhase c 1 0 []

/-- The end of a test that no automatic test carries (R644): a Spare's pass, a Quiet unit, or a retired one. -/
def State.ownTestEnd (s : State) (kind idx : Nat) (pass : Bool) : State :=
  let o := testOrg kind idx
  let fail := fun (s : State) => (s.testFailed o 6).retireUnit o
  match kind with
  | 1 =>
    (match s.rf KC_PCS_ROLE idx with
     | 1 => s.spareTest idx pass
     | 6 => let s := s.countPass idx pass; if pass then s else (fail s).setCoreRole idx 7
     | _ => s.countPass idx pass)
  | 2 => if pass || (s.unit o).st != 2 then s else fail s
  | _ => if pass || (s.unit o).st != 2 then s else (fail s).unitReg o 3

/-- SELF_TEST goes on: its progress in hundredths of a percent, and its result when it ends. A unit in state 0x1 takes the result of its automatic test. -/
def State.selfTestNext (s : State) (c : Cmd) (progress : Nat) (result : Option Bool) : State :=
  if c.lop.cancel then s.testEnd 3
  else
    let o := testOrg (c.p 0) (c.p 1)
    match result with
    | some p => if (s.unit o).st = 1 then s else (s.ownTestEnd (c.p 0) (c.p 1) p).testEnd (if p then 1 else 2)
    | none => (s.sf FC_TEST_PROGRESS (max progress (s.rf FC_TEST_PROGRESS))).longPos c progress

/-! ### The rows -/

/-- FAULT_REPORT (R616, R617, R629-R638): `err` is what the collector's memories meet (R631). -/
def execFaultReport (point : Fin 2048) (bad : Bool) (err : Option ColErr) (s : State) : Host.Outcome State Fault Refusal :=
  run (fun s => (match err with | some e => s.collectorError e | none => s).takeReport point.val bad) s

/-- BROKEN (R618). -/
def execBroken (point : Fin 2048) (s : State) : Host.Outcome State Fault Refusal := run (fun s => s.pathLost point.val 1) s

/-- PATH_TEST (R618, R619). -/
def execPathTest (point : Fin 2048) (good answers : Bool) (s : State) : Host.Outcome State Fault Refusal :=
  run (fun s => s.pathTest point.val good answers) s

def execFoldWindowExpiry (s : State) : Host.Outcome State Fault Refusal := run State.foldExpiry s
def execSelfCheck (s : State) : Host.Outcome State Fault Refusal := run State.selfCheckFail s
def execFltPairEdge (s : State) : Host.Outcome State Fault Refusal := run State.pairEdge s

/-- QUIET_PERIOD_EXPIRY of a unit (R633). -/
def execQuietPeriodExpiry (unit : BitVec 24) (s : State) : Host.Outcome State Fault Refusal := run (fun s => s.quietEnd unit.toNat) s

def execRecoveryCounterAge (unit : BitVec 24) (s : State) : Host.Outcome State Fault Refusal := run (fun s => s.ageReturns unit.toNat) s

def execUnitTestEnd (unit : BitVec 24) (pass : Bool) (s : State) : Host.Outcome State Fault Refusal := run (fun s => s.unitTestEnd unit.toNat pass) s

def execFaultQuery (s : State) : Host.Outcome State Fault Refusal := run (fun s => s.onCmd 0x0701 (fun _ => true) State.doFaultQuery) s
def execFaultClear (s : State) : Host.Outcome State Fault Refusal := run (fun s => s.onCmd 0x0702 (fun _ => true) State.doFaultClear) s

/-- SELF_TEST (R644): begins when none runs, else goes on. -/
def State.doSelfTest (s : State) (progress : Nat) (result : Option Bool) : State :=
  match s.longCmd 0x0711 with
  | some c => s.selfTestNext c progress result
  | none => s.onCmd 0x0711 (fun _ => true) State.selfTestBegin

def execSelfTest (progress : Fin 10001) (result : Option Bool) (s : State) : Host.Outcome State Fault Refusal :=
  run (fun s => s.doSelfTest progress.val result) s

end Sys2Proof.Machine
end

