-- ==== Sys2Proof/Machine/Secure.lean ====
section
/-! DEFINITION. Gating requests and recalls of leases, granule changes, the Vault's own errors, debug authorisation (17). -/

namespace Sys2Proof.Machine

/-! ### Gating requests and recalls (R709-R711) -/

/-- A recall message (R710). -/
def Lease.message (l : Lease) : List Nat := toBytes 1 4 ++ toBytes l.handle 4 ++ toBytes (l.deadline.getD 0) 8

def State.putLease (s : State) (l : Lease) : State := { s with leases := s.leases.map (fun (x : Lease) => if x.idx == l.idx then l else x) }

/-- A recall's message goes to the holder's mailbox; it waits while that holds an unacknowledged message. -/
def State.recallPost (s : State) (l : Lease) : State :=
  if l.posted || l.deadline.isNone || decide (512 < l.holder) || l.holder == 0 then s
  else match s.vaultPost (l.holder - 1) l.message with
    | (s, true) => s.putLease { l with posted := true }
    | (_, false) => s

/-- The messages that wait for an instance's mailbox. -/
def State.recallWaiting (s : State) (i : Nat) : State :=
  match s.leases.find? (fun (l : Lease) => l.holder == i + 1 && l.deadline.isSome && !l.posted) with
  | some l => s.recallPost l
  | none => s

/-- A recall starts, unless one is pending or one began within the last second. -/
def State.recallStart (s : State) (l : Lease) : State :=
  let soon := match l.lastRecall with | some t => decide (s.now < t + 1000000000) | none => false
  if l.deadline.isSome || soon then s
  else
    let l := { l with deadline := some (s.now + 10000000), lastRecall := some s.now, posted := false }
    (((s.putLease l).recallPost l).raise 0x3F0).leaseSync

/-- The lease that holds a cipher pipe, and whether its release is under way. -/
def State.leaseOfPipe (s : State) (p : Nat) : Option Lease := s.leases.find? (fun (l : Lease) => l.pipes.contains p)
def State.releasing (s : State) (l : Lease) : Bool := s.mp.cmds.any (fun (c : Cmd) => c.op == 0x0511 && c.phase == 2 && c.p 0 == l.handle)

/-- A gating request for a leased block is refused (R709): event 0x3E1, and a recall of the lease that holds it. -/
def State.gatingRefused (s : State) (l : Option Lease) : State :=
  let s := s.raise 0x3E1
  match l with
  | some l => if s.releasing l then s else s.recallStart l
  | none => s

/-- RECALL_DEADLINE (R710): the lease is still held. -/
def State.recallDeadline (s : State) (k : Nat) : State :=
  match s.leases.find? (fun (l : Lease) => l.idx == k && l.deadline.isSome) with
  | none => s
  | some l =>
    let sub := if 0 < l.holder ∧ l.holder ≤ 512 then some (l.holder - 1, s.gen (l.holder - 1)) else none
    let s := (s.putLease { l with deadline := none, posted := false }).raise 0x3F1
    (s.report { org := org 0x14 0, cause := 0x1404, cls := slate, subj := sub, d0 := l.handle }).leaseSync

/-! ### Granules (R706) -/

/-- GRANULE_CHANGE: into the Secure world under R706's conditions, or back. -/
def State.granuleChange (s : State) (g : Nat) (secure : Bool) : State :=
  if secure then
    if s.granMapped g || s.secGran.contains g || decide (s.fwBase < (g + 1) * 2 ^ 21) then s else s.granAdd g
  else if s.secGran.contains g then s.granDel g else s

/-! ### The Vault's errors (R703, 04 R167) -/

def State.vaultError (s : State) (e : VaultErr) : State :=
  match e with
  | .integrity => (s.sf VT_STAT_INTEGRITY 0).report { org := org 0x14 0, cause := 0x1401, cls := sable }
  | .patch => s.report { org := org 0x14 0, cause := 0x1403, cls := sable }
  | .corrected true => s.report { org := org 0x14 0, cause := 0x1402, cls := slate }
  | .corrected false =>
    let (c, s) := s.fresh 16
    s.report { org := org 0x14 0, cause := c, cls := slate }

/-! ### Debug authorisation (R725-R727) -/

/-- A new challenge (R726): its nonce is the entropy source's. -/
def State.dbgChallenge (s : State) : State :=
  if s.rb VT_DEBUG_LOCKED then s
  else
    let (n, s) := s.fresh 256
    let b := toBytes (s.reg rVT_UID_LO 0) 8 ++ toBytes (s.reg rVT_UID_HI 0) 8 ++ toBytes n 32 ++
      toBytes (s.rf FC_FJ_POWER_ON + s.rf VT_STAT_LIFECYCLE * 2 ^ 16) 16
    ({ s with vt := { s.vt with challenge := some b } }).emit (.challenge b)

/-- What the Vault does before it grants level 0x3 (R727). -/
def State.taint (s : State) : State :=
  let s := s.each (Map.keys s.cy.slots) (fun s k => (s.endRotation k).eraseSlot k)
  let s := s.each s.leases (fun s l => s.endLease l)
  let s := s.each (Map.keys s.tn.insts) (fun s i =>
    if s.rb TN_INST_SECURE i && s.ist i != 0 && s.ist i != 3 && s.ist i != 8 then s.resetNow i 1 none else s)
  s.sf VT_STAT_TAINTED 1

def State.dbgReject (s : State) : State :=
  let n := s.rf VT_DEBUG_FAILS + 1
  ((s.sf VT_DEBUG_FAILS n).when (n == 4) (fun s => s.sf VT_DEBUG_LOCKED 1)).raise 0x3E2

/-- A token (R726). -/
def State.dbgToken (s : State) (b : List Nat) : State :=
  let at_ := fun (o n : Nat) => (b.drop o).take n
  let level := b.getD 0 0 % 16
  let key := bit (b.getD 1 0) 0
  let grant := fun (s : State) =>
    ((((s.sf VT_DEBUG_LEVEL level).sb VT_DEBUG_KEY key).sf VT_DEBUG_FAILS 0).incSat VT_DEBUG_GRANTS).raise 0x3E2
  if s.rb VT_DEBUG_LOCKED ∨ b.length ≠ 224 then s
  else
    let ch := s.vt.challenge
    let s := { s with vt := { s.vt with challenge := none } }
    if level = 0 then (s.when (s.rf VT_DEBUG_LEVEL != 0) (fun s => s.raise 0x3E2)).sf VT_DEBUG_LEVEL 0 |>.sf VT_DEBUG_FAILS 0
    else match ch with
      | none => s.dbgReject
      | some c =>
        let present := if key then s.rb VT_KEYS_DBG_OLINEL else s.rb VT_KEYS_DBG_OWNER
        if present ∧ sha384 (at_ 0x20 96) = (Config.debugHash key).toNat ∧ level ≤ (Config.debugMax key).toNat ∧
            ecdsaOk (ofBytes (at_ 0x20 48)) (ofBytes (at_ 0x50 48)) (ofBytes (at_ 0x80 48)) (ofBytes (at_ 0xB0 48)) (sha384 (c ++ at_ 0 0x80)) = true then
          grant (if level = 3 then s.taint else s)
        else s.dbgReject

end Sys2Proof.Machine
end

