-- ==== Sys2Proof/Machine/SaveImage.lean ====
section
/-! DEFINITION. Save images of instances, INSTANCE_SAVE and INSTANCE_RESTORE (13 R569, R570). -/

namespace Sys2Proof.Machine

/-! ### Virtual core states: 4 KiB each, internal to the module (DESIGN CHOICE of the layout, log 21) -/

/-- The stored control registers of an image (02 R65). -/
def crSaved : List Nat := [0, 1, 2, 3, 4, 8, 9, 0xA, 0xB, 0x10, 0x11, 0x12, 0x20, 0x40, 0x102, 0x103, 0x104, 0x105]

/-- The doublewords of a virtual core's state. -/
def VCore.save (c : VCore) : List Nat :=
  [c.pc.toNat, c.p.toNat + 65536 * b2n c.wfi] ++ (List.range 5).map (fun k => (Map.getD c.sr k (0 : Word)).toNat) ++ [0] ++
  (List.range 64).map (fun k => c.getG k) ++ (List.range 128).map (fun k => (Map.getD c.v (k / 4) (0 : Vec)).toNat / 2 ^ (64 * (k % 4)) % 2 ^ 64) ++
  crSaved.map (fun k => c.getCr k) ++ (List.range 16).map (fun k => (Map.getD c.acks k (0 : Word)).toNat)

/-- A list of doublewords as 4 KiB. -/
def pad4k (l : List Nat) : List Nat := (l ++ List.replicate (512 - l.length) 0).flatMap (fun d => toBytes d 8)

/-- The doublewords of 8-byte groups. -/
def dwords (bs : List Nat) (n : Nat) : List Nat := (List.range n).map (fun k => ofBytes ((bs.drop (8 * k)).take 8))

/-- A virtual core from its saved doublewords. -/
def VCore.load (d : List Nat) : VCore :=
  let g := fun (k : Nat) => d.getD k 0
  let c : VCore := ⟨[], [], BitVec.ofNat 16 (g 1 ||| 1), [], [], BitVec.ofNat 64 (g 0), bit (g 1) 16, [], none⟩
  let c := { c with sr := (List.range 5).foldl (fun m k => Map.set m 0 k (BitVec.ofNat 64 (g (2 + k)))) ([] : Map Word) }
  let c := (List.range 64).foldl (fun (c : VCore) k => c.setG k (g (8 + k))) c
  let c := { c with v := (List.range 32).foldl (fun m k =>
    Map.set m 0 k (BitVec.ofNat 256 (g (72 + 4 * k) + g (73 + 4 * k) * 2 ^ 64 + g (74 + 4 * k) * 2 ^ 128 + g (75 + 4 * k) * 2 ^ 192))) ([] : Map Vec) }
  let c := crSaved.zipIdx.foldl (fun (c : VCore) x => c.setCr x.1 (g (200 + x.2))) c
  { c with acks := (List.range 16).foldl (fun m k => Map.set m 0 k (BitVec.ofNat 64 (g (200 + crSaved.length + k)))) ([] : Map Word) }

/-! ### Instance page state: 4 KiB -/

/-- The bytes of each mailbox that the 4 KiB keep (DESIGN CHOICE, log 21). -/
def mbxKept : Nat := 456

/-- The instance page's registers: the queue control blocks, the event queue's, IP_QCTL, the mailbox registers and the outbound SEQ. -/
def State.pageWords (s : State) (i : Nat) : List Nat :=
  (List.range 96).flatMap (fun x => [s.reg rIP_Q_CFG (i * 96 + x), s.reg rIP_Q_TAIL (i * 96 + x), s.reg rIP_Q_HEAD (i * 96 + x), s.reg rIP_Q_STAT (i * 96 + x)]) ++
  [s.reg rIP_EQ_CFG i, s.reg rIP_EQ_TAIL i, s.reg rIP_EQ_HEAD i, s.reg rIP_EQ_STAT i, s.reg rIP_QCTL i, s.reg rIP_MBX_IN i, s.reg rIP_MBX_OUT i,
   (s.inst i).outSeq + 65536 * b2n (s.inst i).outPosted]

def State.pageSave (s : State) (i : Nat) : List Nat :=
  pad4k (s.pageWords i ++ dwords (toBytes (Bytes.rdN (s.inst i).mbxIn 0 mbxKept) mbxKept) (mbxKept / 8) ++
    dwords (toBytes (Bytes.rdN (s.inst i).mbxOut 0 mbxKept) mbxKept) (mbxKept / 8))

/-- The page's state from its doublewords; the mailbox bytes that the image does not keep are free values. -/
def State.pageLoad (s : State) (i : Nat) (d : List Nat) : State :=
  let g := fun (k : Nat) => d.getD k 0
  let s := s.each (List.range 96) (fun s x =>
    (((s.wreg rIP_Q_CFG (i * 96 + x) (g (4 * x))).wreg rIP_Q_TAIL (i * 96 + x) (g (4 * x + 1))).wreg rIP_Q_HEAD (i * 96 + x) (g (4 * x + 2))).wreg
      rIP_Q_STAT (i * 96 + x) (g (4 * x + 3)))
  let s := (((s.wreg rIP_EQ_CFG i (g 384)).wreg rIP_EQ_TAIL i (g 385)).wreg rIP_EQ_HEAD i (g 386)).wreg rIP_EQ_STAT i (g 387)
  let s := ((s.wreg rIP_QCTL i (g 388)).wreg rIP_MBX_IN i (g 389)).wreg rIP_MBX_OUT i (g 390)
  let w := fun (k : Nat) => ofBytes ((List.range (mbxKept / 8)).flatMap (fun j => toBytes (g (392 + k * (mbxKept / 8) + j)) 8))
  let rest := 4096 - mbxKept
  let (a, s) := s.fresh (8 * rest)
  let (b, s) := s.fresh (8 * rest)
  s.setInst i (fun r => { r with
    outSeq := g 391 % 65536, outPosted := bit (g 391) 16,
    mbxIn := Bytes.wrN (Bytes.wrN [] 0 mbxKept (w 0)) mbxKept rest a, mbxOut := Bytes.wrN (Bytes.wrN [] 0 mbxKept (w 1)) mbxKept rest b })

/-! ### The image -/

/-- The mappings whose contents are part of the image. -/
def State.contentMaps (s : State) (i : Nat) : List Mapping := (s.inst i).maps.filter (fun (m : Mapping) => !bit m.perm 5)

/-- Bytes of the image before the contents and after the header. -/
def State.imgStates (s : State) (i : Nat) : Nat := 16 * (s.inst i).maps.length + 4096 * (s.vcores i + 1)

/-- Bytes of the image between header and trailer, its 64 KiB blocks, and its length. -/
def State.imgBody (s : State) (i : Nat) : Nat :=
  s.imgStates i + (s.contentMaps i).foldl (fun n (m : Mapping) => n + 4096 * m.pages) 0
def State.imgBlocks (s : State) (i : Nat) : Nat := (s.imgBody i + 65535) / 65536
def State.imgLen (s : State) (i : Nat) : Nat := 64 + s.imgBody i + 132 * s.imgBlocks i

/-- The header. -/
def State.imgHeader (s : State) (i : Nat) : List Nat :=
  let h := toBytes 0x31495354 4 ++ toBytes (1 + s.vcores i * 2 ^ 8 + s.rf TN_INST_CLASS i * 2 ^ 16 + s.rf TN_INST_PROTECTED i * 2 ^ 18) 4 ++
    toBytes (i + s.gen i * 2 ^ 9) 4 ++ toBytes (s.inst i).maps.length 4 ++ toBytes (s.imgLen i) 8 ++ toBytes 0xB1 4 ++ List.replicate 32 0
  h ++ toBytes (crc32c h) 4

/-- The device physical address of byte n of the contents of a list of mappings. -/
def contentAddr : List Mapping → Nat → Option Nat
  | [], _ => none
  | m :: r, n => if n < 4096 * m.pages then some (m.dpage * 4096 + n) else contentAddr r (n - 4096 * m.pages)

/-- The bytes before the contents. -/
def State.imgHead (s : State) (i : Nat) : List Nat :=
  (s.inst i).maps.flatMap Mapping.record ++ (List.range (s.vcores i)).flatMap (fun v => pad4k (s.vc (vkey i v)).save) ++ s.pageSave i

/-- Block k of the body. -/
def State.imgBlock (s : State) (i k : Nat) : List Nat :=
  let head := s.imgHead i
  let ms := s.contentMaps i
  (List.range (min 65536 (s.imgBody i - 65536 * k))).map (fun j =>
    let o := 65536 * k + j
    if o < head.length then head.getD o 0
    else match contentAddr ms (o - head.length) with | some a => s.coRead a 1 | none => 0)

/-- The memory lines whose first byte lies in block k, with the block's line that holds it. -/
def State.blockLines (s : State) (i k : Nat) : List (Nat × Nat) :=
  let n := s.imgStates i
  let ms := s.contentMaps i
  (List.range (min 65536 (s.imgBody i - 65536 * k))).filterMap (fun j =>
    let o := 65536 * k + j
    if o < n then none
    else match contentAddr ms (o - n) with | some a => if a % 64 = 0 then some (j / 64, a / 64) else none | none => none)

/-- The map of poisoned lines of block k. -/
def State.blockPoison (s : State) (i k : Nat) : Nat :=
  (s.blockLines i k).foldl (fun m x => if s.coPoison (x.2 * 64) 64 then setBit m x.1 true else m) 0

/-! ### INSTANCE_SAVE -/

/-- Where a save or restore goes: PCIe link 0 to 15, or 0x1F the Management Port. -/
def sinkOk (c : Cmd) : Bool := decide (c.p 0 < 16) || c.p 0 == 0x1F

/-- Whether the port can carry it. -/
def State.sinkUp (s : State) (c : Cmd) : Bool := if c.p 0 = 0x1F then s.mp.busMaster else s.rf PX_LINK_STAT_STATE (c.p 0) == 4

/-- Bytes go out at an offset of the destination. -/
def State.sinkWrite (s : State) (c : Cmd) (off : Nat) (bs : List Nat) : State :=
  if c.p 0 = 0x1F then (s.hostWrite (c.p64 1 + off) bs).1 else s.emit (.pcie (c.p 0) true (c.p64 1 + off) bs)

/-- TN_OP and TN_OP_POS (R575). -/
def State.opShow (s : State) (kind i total : Nat) : State :=
  ((((s.sf TN_OP_BUSY 1).sf TN_OP_KIND kind).sf TN_OP_INSTANCE i).sf TN_OP_POS_TOTAL total).sf TN_OP_POS_POS 0

/-- INSTANCE_SAVE begins. -/
def State.saveBegin (s : State) (c : Cmd) : State :=
  let i := c.inst
  if s.wrongWorld c || s.rb TN_INST_SECURE i || s.ist i != 5 then s.finish c stDENIED
  else if s.rb TN_OP_BUSY then s.finish c stDENIED [s.rf TN_OP_INSTANCE]
  else if !sinkOk c then s.finish c stBAD_PARAM
  else if c.p64 3 < s.imgLen i then s.finish c stBAD_PARAM [s.imgLen i % 2 ^ 32, s.imgLen i / 2 ^ 32]
  else if !s.sinkUp c then s.finish c stFAULTED
  else
    let n := s.imgBlocks i
    ((((s.sf TN_INST_STATE 6 i).opShow 0 i n).sinkWrite c 0 (s.imgHeader i)).mirrorCmd c).longPhase c 2 n []

/-- INSTANCE_SAVE goes on, one block at a time; the items keep each block's CRC and map. -/
def State.saveNext (s : State) (c : Cmd) : State :=
  let i := c.inst
  let k := c.lop.items.length / 2
  if s.ist i ≠ 6 then s
  else if c.lop.cancel then ((s.sf TN_INST_STATE 5 i).opIdle).finish c stCANCELLED
  else if !s.sinkUp c then ((s.sf TN_INST_STATE 5 i).opIdle).finish c stFAULTED
  else if k < s.imgBlocks i then
    let b := s.imgBlock i k
    let items := c.lop.items ++ [crc32c b, s.blockPoison i k]
    ((s.sinkWrite c (64 + 65536 * k) b).sf TN_OP_POS_POS (k + 1)).longPos { c with lop := { c.lop with items := items } } (k + 1)
  else
    let t := (List.range k).flatMap (fun j => toBytes (c.lop.items.getD (2 * j) 0) 4 ++ toBytes (c.lop.items.getD (2 * j + 1) 0) 128)
    let n := s.imgLen i
    (((s.sinkWrite c (64 + s.imgBody i) t).sf TN_INST_STATE 5 i).opIdle).finish c stOK [n % 2 ^ 32, n / 2 ^ 32]

/-! ### INSTANCE_RESTORE -/

/-- The target's mappings in the order of an image's range table; `none` when they do not match. -/
def matchMaps (ms : List Mapping) (recs : List (Nat × Nat)) : Option (List Mapping) :=
  recs.foldl (fun (o : Option (List Mapping)) r => o.bind (fun l =>
    (ms.find? (fun (m : Mapping) => m.tpage * 4096 + m.perm % 32 == r.1 && m.pages == r.2)).map (fun m => l ++ [m]))) (some [])

/-- The range table's records. -/
def imgRecs (img : List Nat) (n : Nat) : List (Nat × Nat) :=
  (List.range n).map (fun k => (ofBytes ((img.drop (64 + 16 * k)).take 8), ofBytes ((img.drop (72 + 16 * k)).take 8)))

/-- Whether an image's header is good for an instance; its mappings, in the image's order. -/
def State.imgMatch (s : State) (i : Nat) (img : List Nat) (len : Nat) : Option (List Mapping) :=
  let h := ofBytes (img.take 64)
  let n := bits h 127 96
  let ms := (s.inst i).maps
  if img.length < 64 ∨ bits h 31 0 ≠ 0x31495354 ∨ bits h 39 32 ≠ 1 ∨ bits h 46 40 ≠ s.vcores i ∨ bits h 63 51 ≠ 0 ∨ bit h 47 = true ∨
     bits h 95 85 ≠ 0 ∨ bits h 199 192 ≠ 0xB1 ∨ bits h 479 200 ≠ 0 ∨
     crc32c (img.take 60) ≠ bits h 511 480 ∨ n ≠ ms.length ∨ bits h 191 128 ≠ s.imgLen i ∨ len < s.imgLen i then none
  else match matchMaps ms (imgRecs img n) with
    | some l => if l.eraseDups.length = ms.length then some l else none
    | none => none

/-- INSTANCE_RESTORE begins: `img` is what the source holds. -/
def State.restoreBegin (s : State) (c : Cmd) (img : List Nat) : State :=
  let i := c.inst
  if s.wrongWorld c || s.ist i != 1 || (s.inst i).started then s.finish c stDENIED
  else if s.rb TN_OP_BUSY then s.finish c stDENIED [s.rf TN_OP_INSTANCE]
  else if !sinkOk c || (s.imgMatch i img (c.p64 3)).isNone then s.finish c stBAD_PARAM
  else
    let n := s.imgBlocks i
    (((s.sf TN_INST_STATE 7 i).opShow 1 i n).mirrorCmd c).longPhase c 2 n []

/-- The mapped memory that an image holds is unpredictable (00 R6): free values. -/
def State.scramble (s : State) (i : Nat) : State :=
  s.each (s.contentMaps i) (fun s (m : Mapping) => s.each (List.range (64 * m.pages)) (fun s k =>
    let (v, s) := s.fresh 512
    (s.recordAt ((m.dpage * 64 + k) * 64) 64).coWrite (m.dpage * 64 + k) (BitVec.ofNat 512 v) (BitVec.allOnes 64)))

/-- A line of memory becomes poisoned, as it was when saved (R570, 05 R179). -/
def State.makePoisoned (s : State) (line : Nat) : State :=
  let d := (s.lineNow line).1
  ((s.recordAt (line * 64) 64).dropAll line).homePut line d true 512

/-- The contents of block k of an image are written, its poisoned lines as poisoned. `ms` are the mappings with contents, in order. -/
def State.loadBlock (s : State) (ms : List Mapping) (st k : Nat) (b : List Nat) (pmap : Nat) : State :=
  let s := s.each b.zipIdx (fun s x =>
    let o := 65536 * k + x.2
    if o < st then s else match contentAddr ms (o - st) with | some a => (s.recordAt a 1).coWriteN a 1 x.1 | none => s)
  s.each (List.range b.length) (fun s j =>
    let o := 65536 * k + j
    if o < st then s
    else match contentAddr ms (o - st) with
      | some a => if a % 64 = 0 ∧ bit pmap (j / 64) = true then s.makePoisoned (a / 64) else s
      | none => s)

/-- The end of a restore: the virtual cores and the page, the notice, and Frozen. `st` is the image before the contents. -/
def State.restoreEnd (s : State) (i : Nat) (st : List Nat) : State :=
  let m := 16 * (s.inst i).maps.length
  let s := s.each (List.range (s.vcores i)) (fun s v =>
    s.setVc (vkey i v) (fun _ => VCore.load (dwords ((st.drop (m + 4096 * v)).take 4096) 512)))
  let s := s.pageLoad i (dwords ((st.drop (m + 4096 * s.vcores i)).take 4096) 512)
  (s.notice i 5 0 0).sf TN_INST_STATE 5 i

/-- INSTANCE_RESTORE goes on, one block at a time: its CRC is checked, then it is written; the items keep the states. -/
def State.restoreNext (s : State) (c : Cmd) (img : List Nat) : State :=
  let i := c.inst
  let k := c.lop.pos
  let body := s.imgBody i
  let stop := fun (s : State) (status : Nat) (r : List Nat) => (((s.scramble i).sf TN_INST_STATE 1 i).opIdle).finish c status r
  if s.ist i ≠ 7 then s
  else if c.lop.cancel then stop s stCANCELLED []
  else if k < c.lop.total then
    let b := (img.drop (64 + 65536 * k)).take (min 65536 (body - 65536 * k))
    let t := (img.drop (64 + body + 132 * k)).take 132
    match s.imgMatch i img (c.p64 3) with
    | none => stop s stFAULTED [k % 2 ^ 32, k / 2 ^ 32]
    | some ms =>
      if crc32c b ≠ ofBytes (t.take 4) ∨ !s.sinkUp c then stop s stFAULTED [k % 2 ^ 32, k / 2 ^ 32]
      else
        let st := s.imgStates i
        let s := s.loadBlock (ms.filter (fun (m : Mapping) => !bit m.perm 5)) st k b (ofBytes (t.drop 4))
        let items := (c.lop.items ++ b).take st
        (s.sf TN_OP_POS_POS (k + 1)).longPos { c with lop := { c.lop with items := items } } (k + 1)
  else ((s.restoreEnd i c.lop.items).opIdle).finish c stOK

end Sys2Proof.Machine
end

