-- ==== Sys2Proof/Machine/ExecSignal.lean ====
section
/-! DEFINITION. The commands of the signal lanes and the fan-out units (08). -/

namespace Sys2Proof.Machine

/-- Whether a field sample or void for a signal is an update: one for an undefined or an output signal is discarded (R302, R309). -/
def State.takesInput (s : State) (sid : Nat) : Bool := recDef (s.sigRec sid) && !recOut (s.sigRec sid)

/-- What a lane's step does around its update: repetitions, an ECC outcome, the count of the updates that it applies (R335, R336, R340). -/
def State.laneStep (s : State) (l : Nat) (e : LaneEnv) (isUpd : State → Bool) (f : State → State) : State :=
  let s := s.laneRepeats l e.repeats.val
  let s := match e.err with | some x => s.storeError l x | none => s
  if s.storeLost then s else (f s).when (isUpd s) (fun s => s.laneCount l)

/-- Whether lane l takes updates. -/
def State.laneUp (s : State) (l : Nat) : Bool := s.rf SG_LANE_STAT_STATE l == 0

/-- INPUT_SAMPLE: the next entry of the lane's queue, a sample (R293, R303). -/
def State.doSample (s : State) (l : Nat) (e : LaneEnv) : State :=
  match s.laneUp l, s.laneNext l with
  | true, some (.sample sid w t c) => (s.popLane l).laneStep l e (fun s => s.takesInput sid) (fun s => s.sampleUpdate sid w t c)
  | _, _ => s

/-- VOID_UPDATE: the next entry of the lane's queue, a void (R309). -/
def State.doVoid (s : State) (l : Nat) (e : LaneEnv) : State :=
  match s.laneUp l, s.laneNext l with
  | true, some (.void sid t c) => (s.popLane l).laneStep l e (fun s => s.takesInput sid) (fun s => s.voidUpdate sid t c)
  | _, _ => s

/-- Whether the lanes take output updates on this module (R332, 15 R638). -/
def State.takesOuts (s : State) : Bool := !s.isStandby && !s.isSable

/-- Whether an output update of a signal is at the front of a lane's queue, ahead of the signal's definition (R293). -/
def State.outAhead (s : State) (l sid : Nat) : Bool :=
  s.takesOuts && (s.frontOuts l).any (fun u => match u with | .output n => Map.find s.sg.slots n == some sid | _ => false)

/-- DEFINITION_UPDATE: the next entry of the lane's queue, a definition (R312); an output update of its signal ahead of it goes first (R293). -/
def State.doDefinition (s : State) (l : Nat) (e : LaneEnv) : State :=
  match s.laneUp l, s.laneNext l with
  | true, some (.define sid cfg) =>
    if s.outAhead l sid then s else (s.popLane l).laneStep l e (fun _ => true) (fun s => s.defineUpdate sid cfg)
  | _, _ => s

/-- CYCLE_MARKER: the next entry of the lane's queue, a marker (R331, R335). -/
def State.doMarker (s : State) (l : Nat) (e : LaneEnv) : State :=
  match s.laneUp l, s.laneNext l with
  | true, some (.marker p c x) => (s.popLane l).laneStep l e (fun _ => false) (fun s => s.takeMarker p c x)
  | _, _ => s

/-- Whether an update is a field sample's (R293). -/
def Upd.isField : Upd → Bool
  | .sample _ _ _ _ => true
  | .void _ _ _ => true
  | _ => false

def Upd.isSample : Upd → Bool
  | .sample _ _ _ _ => true
  | _ => false

/-- Whether a field sample takes the lane's cycle (R293). -/
def State.fieldNext (s : State) (l : Nat) : Bool := (s.laneNext l).any Upd.isField

/-- The slots whose updates are at the front of a lane's queue. -/
def State.outSlots (s : State) (l : Nat) : List Nat := (s.frontOuts l).filterMap (fun u => match u with | .output n => some n | _ => none)

/-- The instances whose updates wait there, in queue order, with the cost of one token (R326). -/
def State.outReqs (s : State) (l : Nat) : List (Nat × Nat) := ((s.outSlots l).map (fun n => (s.slotOwner n, 1))).eraseDups

/-- OUTPUT_UPDATE: in lane cycles that field samples leave free, the slot of the instance that the arbiter grants (R293, R326, R332). -/
def State.doOutput (s : State) (l : Nat) (e : LaneEnv) : State :=
  if !s.laneUp l || !s.takesOuts || s.fieldNext l then s
  else
    match s.grant 4 (s.outReqs l) with
    | (s, none) => s
    | (s, some i) =>
      match (s.outSlots l).find? (fun n => s.slotOwner n == i) with
      | none => s
      | some n =>
        ((s.setLaneQ l ((s.laneQ l).erase (.output n))).refillLane l).laneStep l e (fun _ => true) (fun s => s.outputUpdate n (Map.getD s.sg.slots n 0))

/-- SAMPLE_HOLD_TIMEOUT (R295): the first sample held in front of the lane's queue is dropped. -/
def State.holdTimeout (s : State) (l : Nat) : State :=
  let w := s.laneHeld l
  match w.find? Upd.isSample with
  | none => s
  | some u =>
    let s := s.setLaneHeld l (w.erase u)
    (((s.bump rSG_DROP).raise (0x100 + l)).report { org := org 6 l, cause := 0x0603, cls := slate })

/-- FAN_OUT with an ECC outcome on the subscription list (R321, R336). -/
def State.doFanOut (s : State) (i : Nat) (e : Option StoreErr) : State :=
  let s := match e with
    | some (.subscriptions sid b) => s.storeError (laneOf sid.toNat) (.subscriptions sid b)
    | some x => s.storeError (8 * i) x
    | none => s
  s.fanOut i

def execInputSample (lane : Fin 64) (env : LaneEnv) (s : State) : Host.Outcome State Fault Refusal :=
  run (fun s => s.doSample lane.val env) s

def execSampleHoldTimeout (lane : Fin 64) (s : State) : Host.Outcome State Fault Refusal := run (fun s => s.holdTimeout lane.val) s

def execVoidUpdate (lane : Fin 64) (env : LaneEnv) (s : State) : Host.Outcome State Fault Refusal :=
  run (fun s => s.doVoid lane.val env) s

def execDefinitionUpdate (lane : Fin 64) (env : LaneEnv) (s : State) : Host.Outcome State Fault Refusal :=
  run (fun s => s.doDefinition lane.val env) s

def execOutputUpdate (lane : Fin 64) (env : LaneEnv) (s : State) : Host.Outcome State Fault Refusal :=
  run (fun s => s.doOutput lane.val env) s

def execCycleMarker (lane : LaneAt) (s : State) : Host.Outcome State Fault Refusal := run (fun s => s.doMarker lane.lane.val lane.env) s

def execFanOut (island : Fin 8) (err : Option StoreErr) (s : State) : Host.Outcome State Fault Refusal :=
  run (fun s => s.doFanOut island.val err) s

def execLaneRetirement (lane : Fin 64) (s : State) : Host.Outcome State Fault Refusal := run (fun s => s.retireLane lane.val) s

def execSignalStoreLoss (s : State) : Host.Outcome State Fault Refusal := run State.storeLoss s

end Sys2Proof.Machine
end

