-- ==== Sys2Proof/Machine/SignalCmd.lean ====
section
/-! DEFINITION. The commands that define, map, subscribe to and reprocess signals (08 R311-R320, R334; 14 R607). -/

namespace Sys2Proof.Machine

/-! ### SIGNAL_DEFINE -/

/-- Whether the 36 configuration bytes of an entry are legal (R300, R313); `tables` are the tables loaded so far. -/
def cfgOk (cfg : Nat) (tables : List Nat) : Bool :=
  let out := bit cfg 28
  if !bit cfg 9 then cfg == 0
  else bits cfg 8 0 == 0 && bits cfg 31 30 != 3 && (bits cfg 31 30 != 2 || tables.contains (bits cfg 23 12)) &&
    (!out || (bits cfg 31 30 == 0 && !bit cfg 26 && bits cfg 63 49 == 0 && bits cfg 87 73 == 0)) && (!bit cfg 27 || out) &&
    !bit cfg 247 && bits cfg 255 248 == 0

/-- Whether a new input would raise its lane's load above the budget (R294). -/
def State.defineOver (s : State) (sid cfg : Nat) : Bool :=
  let r := s.sigRec sid
  if !bit cfg 9 || bit cfg 28 || (recDef r && !recOut r) then false
  else
    let tbl := fun (p : Nat) => (s.port p).tbl
    let mine := s.definedSids.filter (fun i => laneOf i == laneOf sid && !recOut (s.sigRec i))
    ((tbl (bits sid 20 16)).map (fun t => t.rate sid)).getD 0 != 0 && s.overBudget (mine ++ [sid]) tbl

/-- The lowest free output slot of an instance's pages (R313, R325). -/
def State.slotFor (s : State) (i : Nat) : Option Nat :=
  (s.sg.pages.filter (fun (e : Nat × Nat) => e.2 == i)).findSome? (fun (e : Nat × Nat) =>
    ((List.range 256).map (fun k => e.1 * 256 + k)).find? (fun n => (Map.find s.sg.slots n).isNone))

/-- An entry is checked, an output's slot assigned, and the definition enters its lane's queue; or the status that refuses it. The module
assigns the slot, whatever GAIN holds (DEDUCED, log 30). -/
def State.defineEntry (s : State) (sid cfg : Nat) : State × Option Nat :=
  if !cfgOk cfg s.sg.tables then (s, some stBAD_PARAM)
  else if s.defineOver sid cfg then (s, some stNO_RESOURCE)
  else if bit cfg 9 && bit cfg 28 then
    let r := s.sigRec sid
    let i := bits cfg 72 64
    if recDef r && recOut r && recOwner r == i then (s.toLane (laneOf sid) (.define sid (setBits cfg 48 32 (recSlot r))), none)
    else match s.slotFor i with
      | none => (s, some stNO_RESOURCE)
      | some n =>
        let s := { s with sg := { s.sg with slots := Map.put s.sg.slots n sid } }
        let s := s.sf SG_OUT_STAT_ASSIGNED s.sg.slots.length
        (s.toLane (laneOf sid) (.define sid (setBits cfg 48 32 n)), none)
  else (s.toLane (laneOf sid) (.define sid cfg), none)

/-- Whether a definition of a signal still waits in its lane. -/
def State.defineWaits (s : State) (sid : Nat) : Bool :=
  let has := fun (e : Nat × List Upd) => e.2.any (fun (u : Upd) => match u with | .define x _ => x == sid | _ => false)
  s.sg.queue.any has || s.sg.held.any has

/-- Entry k of the payload: Signal ID word and configuration bytes. -/
def defEntry (c : Cmd) (k : Nat) : Nat × Nat := (ofBytes ((c.pay.drop (40 * k)).take 4), ofBytes ((c.pay.drop (40 * k + 4)).take 36))

/-- SIGNAL_DEFINE begins. -/
def State.defineBegin (s : State) (c : Cmd) : State :=
  if c.pay.length % 40 ≠ 0 then s.finish c stBAD_PARAM [0, 0]
  else (s.mirrorCmd c).longPhase c 2 (c.pay.length / 40) []

/-- SIGNAL_DEFINE goes on: an entry enters its lane; once the lane has applied it, the next follows. The items hold 1 while one waits. -/
def State.defineNext (s : State) (c : Cmd) : State :=
  let k := c.lop.pos
  let e := defEntry c k
  if c.lop.items.isEmpty then
    if c.lop.total ≤ k then s.finish c stOK [k, 0]
    else if 2 ^ 21 ≤ e.1 then s.finish c stBAD_PARAM [k, k]
    else match s.defineEntry e.1 e.2 with
      | (s, some st) => s.finish c st [k, k]
      | (s, none) => s.putCmd { c with lop := { c.lop with items := [1] } }
  else if s.defineWaits e.1 then s
  else s.longPos { c with lop := { c.lop with items := [] } } (k + 1)

/-! ### SIGNAL_MAP, SIGNAL_UNMAP, SIGNAL_QUERY -/

/-- Where a Signal Store mapping begins, as a device physical page. -/
def SigMap.dpage (m : SigMap) : Nat :=
  0x400000000 + (if m.kind = 0 then m.first / 64 else if m.kind = 1 then 0x40000 + m.first else 0x12000 + m.first)

/-- Whether a mapping overlaps one that the instance holds (R315). -/
def State.sigClash (s : State) (i : Nat) (m : SigMap) : Bool :=
  (s.inst i).sigMaps.any (fun (x : SigMap) => x.kind == m.kind && rangesMeet m.first m.count x.first x.count)

/-- SIGNAL_MAP (R315); a page of output slots is the lowest that has no owner. -/
def State.doSignalMap (s : State) (c : Cmd) : State :=
  let i := c.inst
  let kind := c.p 0
  let t := c.p64 3
  let page := (List.range 512).find? (fun g => (Map.find s.sg.pages g).isNone)
  let m : SigMap := ⟨kind, if kind = 2 then page.getD 0 else c.p 1, c.p 2, t / 4096⟩
  let badArgs := if kind = 2 then c.p 1 != 0 || c.p 2 != 0
    else c.p 2 == 0 || decide (2 ^ 21 < c.p 1 + c.p 2) || (kind == 0 && (c.p 1 % 64 != 0 || c.p 2 % 64 != 0)) || s.sigClash i m
  if s.wrongWorld c || !s.mapState i then s.finish c stDENIED
  else if 3 ≤ kind ∨ badArgs ∨ t % 4096 ≠ 0 ∨ 2 ^ 46 < t + 4096 * m.pages ∨ s.tenantBusy i (t / 4096) m.pages = true then s.finish c stBAD_PARAM
  else if kind = 2 ∧ page.isNone = true then s.finish c stNO_RESOURCE
  else match s.s2Map i m.tpage m.dpage m.pages (if kind = 2 then 3 else 1) 3 false with
    | none => s.finish c stNO_RESOURCE
    | some s =>
      let s := s.setInst i (fun r => { r with sigMaps := r.sigMaps ++ [m] })
      let s := if kind = 2 then { s with sg := { s.sg with pages := Map.put s.sg.pages m.first i } } else s
      (s.mirrorCmd c).finish c stOK (if kind = 2 then [m.first] else [])

/-- SIGNAL_UNMAP: of one mapping exactly. -/
def State.doSignalUnmap (s : State) (c : Cmd) : State :=
  let i := c.inst
  if s.wrongWorld c || !s.mapState i then s.finish c stDENIED
  else match (s.inst i).sigMaps.find? (fun (x : SigMap) => x.kind == c.p 0 && x.first == c.p 1 && x.count == c.p 2) with
    | none => s.finish c stBAD_PARAM
    | some m =>
      if m.kind = 2 ∧ s.sg.slots.any (fun (e : Nat × Nat) => e.1 / 256 == m.first) = true then s.finish c stDENIED
      else
        let s := s.s2Unmap i m.tpage m.pages 3
        let s := s.setInst i (fun r => { r with sigMaps := r.sigMaps.filter (fun (x : SigMap) => !(x == m)) })
        let s := if m.kind = 2 then { s with sg := { s.sg with pages := Map.del s.sg.pages m.first } } else s
        (s.mirrorCmd c).finish c stOK

/-- SIGNAL_QUERY: the configuration mirror's form, and the lane with its home. -/
def State.doSignalQuery (s : State) (c : Cmd) : State :=
  let sid := c.p 0
  match s.bufWrite c (c.p64 1) (toBytes (s.sgRd (0x08000000 + 64 * sid) 64) 64) with
  | (s, true) => s.finish c stOK [laneOf sid + s.rf SG_LANE_STAT_HOME (laneOf sid) * 256]
  | (s, false) => s.finish c stBAD_PARAM

/-! ### Subscriptions (R319, R320) -/

/-- Whether an instance has the record pages of a range mapped. -/
def State.recsMapped (s : State) (i first n : Nat) : Bool :=
  (List.range n).all (fun k => (s.inst i).sigMaps.any (fun (m : SigMap) => m.kind == 0 && decide (m.first ≤ first + k) && decide (first + k < m.first + m.count)))

/-- A list with an instance's entry: its class set replaced, or added. -/
def withSub (l : List Sub) (x : Sub) : List Sub := l.filter (fun (y : Sub) => y.inst != x.inst) ++ [x]

/-- SUBSCRIBE. -/
def State.doSubscribe (s : State) (c : Cmd) : State :=
  let i := c.inst
  let first := c.p 1
  let n := c.p 2
  let x : Sub := ⟨i, s.gen i, bits (c.p 0) 3 1⟩
  if s.ist i = 0 ∨ s.wrongWorld c = true then s.finish c stDENIED [0]
  else if bit (c.p 0) 0 then
    if 32 ≤ first ∨ n ≠ 0 then s.finish c stBAD_PARAM [0]
    else
      let s := { s with sg := { s.sg with cycSubs := Map.put s.sg.cycSubs first (withSub (Map.getD s.sg.cycSubs first []) x) } }
      (s.mirrorCmd c).finish c stOK [1]
  else if n = 0 ∨ 2 ^ 21 < first + n then s.finish c stBAD_PARAM [0]
  else if c.sender ≠ 0 ∧ s.recsMapped i first n = false then s.finish c stDENIED [0]
  else
    let t := s.each (List.range n) (fun s k => s.setSubs (first + k) (withSub (Map.getD s.sg.subs (first + k) []) x))
    if 11272192 < t.sg.blocks.foldl (fun a (e : Nat × List Nat) => a + e.2.length) 0 then s.finish c stNO_RESOURCE [0]
    else (t.mirrorCmd c).finish c stOK [n]

/-- A subscription list without an instance's entry, and how many that removes. -/
def dropSub (m : Map (List Sub)) (k i : Nat) : Map (List Sub) × Nat :=
  let l := Map.getD m k []
  let r := l.filter (fun (x : Sub) => x.inst != i)
  if r.length = l.length then (m, 0) else (if r.isEmpty then Map.del m k else Map.put m k r, 1)

/-- UNSUBSCRIBE. -/
def State.doUnsubscribe (s : State) (c : Cmd) : State :=
  let i := c.inst
  let first := c.p 1
  let n := c.p 2
  if s.ist i = 0 ∨ s.wrongWorld c = true then s.finish c stDENIED [0]
  else if bit (c.p 0) 0 then
    if 32 ≤ first ∨ n ≠ 0 then s.finish c stBAD_PARAM [0]
    else
      let r := dropSub s.sg.cycSubs first i
      (({ s with sg := { s.sg with cycSubs := r.1 } }).mirrorCmd c).finish c stOK [r.2]
  else if n = 0 ∨ 2 ^ 21 < first + n then s.finish c stBAD_PARAM [0]
  else
    let r := (List.range n).foldl (fun (a : State × Nat) k =>
      let l := Map.getD a.1.sg.subs (first + k) []
      let l' := l.filter (fun (x : Sub) => x.inst != i)
      if l'.length = l.length then a else (a.1.setSubs (first + k) l', a.2 + 1)) (s, 0)
    (r.1.mirrorCmd c).finish c stOK [r.2]

/-! ### HISTORIAN_REPROCESS (R334) and TABLE_LOAD (R304, R314) -/

/-- It goes on: its end, or its cancellation after the current signal. -/
def State.reprocNext (s : State) (c : Cmd) : State :=
  if c.lop.cancel then ((({ s with sg := { s.sg with reproc := [] } }).sf SG_REPROC_BUSY 0).raise 0x146).finish c stCANCELLED
  else if s.sg.reproc.isEmpty then ((s.sf SG_REPROC_BUSY 0).raise 0x146).finish c stOK
  else s

/-- HISTORIAN_REPROCESS begins; one runs at a time, and the next waits while it goes on (DESIGN CHOICE, log 31). -/
def State.reprocBegin (s : State) (c : Cmd) : State :=
  if c.p 1 = 0 ∨ 2 ^ 21 < c.p 0 + c.p 1 then s.finish c stBAD_PARAM
  else if s.rb SG_REPROC_BUSY then (match s.longCmd 0x0420 with | some x => s.reprocNext x | none => s)
  else
    let l := ((List.range (c.p 1)).map (c.p 0 + ·)).filter (fun i => recDef (s.sigRec i) && recCorr (s.sigRec i))
    let s := { s with sg := { s.sg with reproc := l } }
    (((s.sf SG_REPROC_BUSY 1).sf SG_REPROC_TOTAL l.length).sf SG_REPROC_POS 0).mirrorCmd c |>.longPhase c 2 l.length []

/-- A signal of the operation is done and `r` are left: the progress advances (R334), and each further 1 % short of the end raises 0x146 (R339). -/
def State.reprocDone (s : State) (r : List Nat) : State :=
  let p := s.rf SG_REPROC_POS
  let n := s.rf SG_REPROC_TOTAL
  let s := { s with sg := { s.sg with reproc := r } }.sf SG_REPROC_POS (p + 1)
  let s := s.when (decide (p * 100 / n < (p + 1) * 100 / n ∧ p + 1 < n)) (fun s => s.raise 0x146)
  match s.longCmd 0x0420 with
  | some c => s.longPos c (s.rf SG_REPROC_POS)
  | none => s

/-- REPROCESS_SIGNAL: between samples, the next signal's lane runs the corridor test over its history (R334). None
runs after a cancellation, nor in a lane that is not Up. How many of the lane's checks fail before the one that passes (R335) is a free value (DESIGN CHOICE, log 68). -/
def State.reprocSignal (s : State) : State :=
  match s.sg.reproc with
  | [] => s
  | sid :: r =>
    let l := s.rf SG_LANE_STAT_HOME (laneOf sid)
    if (s.longCmd 0x0420 (fun c => c.lop.cancel)).isSome || !s.laneUp l then s else
    let s := if recDef (s.sigRec sid) && recCorr (s.sigRec sid) then
        (fun (r : Nat × State) => r.2.laneStep l ⟨⟨r.1 % 3, Nat.mod_lt _ (by decide)⟩, none⟩ (fun _ => true) (fun s => s.reprocessOne sid)) (s.fresh 2)
      else s
    s.reprocDone r

/-- Whether a conversion table is legal (R304). -/
def tableOk (b : List Nat) : Bool :=
  let w := fun (k : Nat) => ofBytes ((b.drop (8 * k)).take 8)
  (List.range 17).all (fun k => bits (w k) 31 24 == 0 && bits (w k) 63 56 == 0) && (b.drop 136).all (· == 0) &&
  (List.range 16).all (fun k => decide (sextInt 24 (w k) < sextInt 24 (w (k + 1))))

/-- TABLE_LOAD. -/
def State.doTableLoad (s : State) (c : Cmd) : State :=
  let t := c.p 0
  let n := (s.definedSids.filter (fun i => recMode (s.sigRec i) == 2 && recTable (s.sigRec i) == t)).length
  if c.pay.length ≠ 256 ∨ tableOk c.pay = false then s.finish c stBAD_PARAM
  else if n ≠ 0 then s.finish c stDENIED [n]
  else
    let s := s.sgWr (0x12200000 + 256 * t) 256 (ofBytes c.pay)
    let s := { s with sg := { s.sg with tables := if s.sg.tables.contains t then s.sg.tables else s.sg.tables ++ [t] } }
    (s.mirrorCmd c).finish c stOK

/-! ### The rows -/

def execSignalDefine (s : State) : Host.Outcome State Fault Refusal := run (fun s => s.onLong 0x0401 State.defineBegin State.defineNext) s
def execSignalMap (s : State) : Host.Outcome State Fault Refusal := run (fun s => s.onCmd 0x0402 (fun _ => true) State.doSignalMap) s
def execSignalUnmap (s : State) : Host.Outcome State Fault Refusal := run (fun s => s.onCmd 0x0403 (fun _ => true) State.doSignalUnmap) s
def execSignalQuery (s : State) : Host.Outcome State Fault Refusal := run (fun s => s.onCmd 0x0404 (fun _ => true) State.doSignalQuery) s
def execSubscribe (s : State) : Host.Outcome State Fault Refusal := run (fun s => s.onCmd 0x0410 (fun _ => true) State.doSubscribe) s
def execUnsubscribe (s : State) : Host.Outcome State Fault Refusal := run (fun s => s.onCmd 0x0411 (fun _ => true) State.doUnsubscribe) s
def execHistorianReprocess (s : State) : Host.Outcome State Fault Refusal := run (fun s => s.onLong 0x0420 State.reprocBegin State.reprocNext) s
def execReprocessSignal (s : State) : Host.Outcome State Fault Refusal := run (fun s => s.reprocSignal) s
def execTableLoad (s : State) : Host.Outcome State Fault Refusal := run (fun s => s.onCmd 0x0430 (fun _ => true) State.doTableLoad) s

end Sys2Proof.Machine
end

