-- ==== Sys2Proof/Machine/Twin.lean ====
section
/-! DEFINITION. Twin operation (16): states, pairing, Goose frames, the claim interlock, epochs, the mirror, digests. -/

namespace Sys2Proof.Machine

def State.twRec (s : State) (cause cls d0 : Nat) : State := s.report { org := org 0x11 0, cause := cause, cls := cls, d0 := d0 }

/-- A command or notice to the partner over the link. -/
def State.twTell (s : State) (what : List Nat) : State := s.emit (.twin 7 what)

def State.protecteds (s : State) : List Nat := (Map.keys s.tn.insts).filter (fun i => s.ist i != 0 && s.rb TN_INST_PROTECTED i)

/-! ### Fitness and states (R665, R682) -/

/-- What R682 asks of a standby, the pair's state apart. -/
def State.fitNow (s : State) : Bool :=
  s.isRunning && !s.tw.unfit && !s.isSable && s.rf SG_STAT_STORE == 0 && s.tw.streak.all (fun (e : Nat × Nat) => decide (e.2 < s.rf TW_CFG_DIGEST_LIMIT))

def State.fitCheck (s : State) : State := if s.isStandby && !s.fitNow then s.loseFit else s

/-- The state and the role change (R665, R691); an active that leaves Running for Suspended or Alone releases what is staged (08 R328). -/
def State.twTo (s : State) (st role : Nat) : State :=
  let left := s.isActiveRunning && st != 2
  let same := s.rf TW_STAT_STATE == st && s.rf TW_STAT_ROLE == role
  let s := (s.sf TW_STAT_STATE st).sf TW_STAT_ROLE role
  let s := { s with tw := { s.tw with stretch := s.tw.stretch && st == 2, jrnPaired := s.tw.jrnPaired || st == 2 } }
  let s := s.when (!same) (fun s => s.raise 0x340)
  let s := if st = 2 then s else if role = 2 then s.loseFit else s.when (s.rb TW_STAT_FIT) (fun s => (s.sf TW_STAT_FIT 0).raise 0x343)
  s.when (left && (st == 3 || st == 4) && !s.isSable) (fun s => s.releaseStaged (fun _ => true))

/-! ### Discarding (R688, R666) -/

/-- Every instance, output slot content and transaction is discarded, with no replay and no orphan. -/
def State.discardInsts (s : State) : State :=
  let n := s.ch.ring.length
  let s := { s with ch := { s.ch with txns := [], ring := [], tail := (s.ch.tail + n) % ringSize } }
  let s := (s.sf CH_ORPHAN_COUNT 0).jrnSync
  let s := s.each (Map.keys s.tn.insts) (fun s i =>
    if s.ist i = 0 then s else
      let s := ((s.abortOps i).resetCore i 2 8).1
      ((s.eraseOwned i).endLeasesOf i).instGone i)
  s.each (s.sg.slots.map Prod.fst) (fun s k => (s.setStaged k false).sgWr (slotAddr k) 16 0)

/-- A standby discards its channels, signal definitions and ring tables too, and its ports are Off. -/
def State.discardAll (s : State) : State :=
  let s := s.discardInsts
  let s := s.each (Map.keys s.ch.defs) (fun s c => s.chanGone c)
  let s := s.each s.definedSids (fun s i => s.defineUpdate i 0)
  let s := { s with sg := { s.sg with subs := [], blocks := [], cycSubs := [] } }
  s.each (List.range 32) (fun s p => if s.rf FR_STAT_ROLE p = 0 then s else s.portOff p)

/-- Into Yielded: gate closed, claim stopped, everything discarded (R684, R688). -/
def State.enterYielded (s : State) : State :=
  let s := { s with tw := { s.tw with train := false, want := false, took := false, taking := false, switch := none } }
  (((s.sf TW_STAT_GATE 0).sf TW_STAT_CLAIM 0).discardInsts).twTo 5 2

/-! ### Pairing (R663-R667) -/

/-- The number of the first condition of R663 that fails; 0 for none. -/
def State.pairFails (s : State) (f : PeerFacts) (us : Nat) : Nat :=
  let frg := (Map.keys s.ch.defs).filter (fun c => s.rf CH_CHAN_STATE c != 0 && s.chanKind c == 0)
  if !(s.tw.strap && f.strapped) then 1
  else if !f.same then 2
  else if s.rf TW_STAT_LANES = 0 then 3
  else if !f.idle then 4
  else if s.isSable || s.rf SG_STAT_STORE != 0 || !f.able then 5
  else if frg.any (fun c => decide (dfld (s.cdef c) 8 15 0 * 1000 ≤ us + 1920)) then 6
  else 0

/-- The module to become standby stops its claim and closes its gate; the one to become active claims (R671, R672). -/
def State.syncClaim (s : State) (role : Nat) : State :=
  if !s.tw.strap then s
  else if role = 1 then { s with tw := { s.tw with want := !s.tw.train } }
  else (({ s with tw := { s.tw with train := false, want := false } }).sf TW_STAT_CLAIM 0).sf TW_STAT_GATE 0

/-- Steps of R667 begin at `phase` in a role; what the module returns to if they fail is kept. -/
def State.syncStart (s : State) (phase role : Nat) : State :=
  let s := { s with tw := { s.tw with before := (s.rf TW_STAT_STATE, s.rf TW_STAT_ROLE), unfit := false, streak := [], byLoss := false, asked := false,
                                      cuts := [], peerYield := false, yielding := false, switch := none } }
  let s := s.syncClaim role
  let s := (((s.sf TW_SYNC_BUSY 1).sf TW_SYNC_PHASE phase).sf TW_SYNC_TOTAL 0).sf TW_SYNC_POS 0
  s.twTo 1 role

/-- The steps end: event 0x346 (R691). -/
def State.syncIdle (s : State) : State := ((s.sf TW_SYNC_BUSY 0).sf TW_SYNC_PHASE 0).raise 0x346

/-- The pair runs (R667 step 6, R682). -/
def State.syncDone (s : State) : State :=
  let s := s.syncIdle.twTo 2 (s.rf TW_STAT_ROLE)
  s.when (s.isStandby && s.fitNow) (fun s => (s.sf TW_STAT_FIT 1).raise 0x343)

/-- The steps fail: both modules return to their state before the command. -/
def State.syncFail (s : State) : State :=
  if s.rf TW_STAT_STATE ≠ 1 then s
  else
    let b := s.tw.before
    let s := s.when (s.isStandby && b.1 == 0) State.discardAll
    s.syncIdle.twTo b.1 b.2

/-- The configuration that step 2 applies on the standby: created instances with their mappings, channels, signals, tables, subscriptions, key slots with
their bundles (17 R728). -/
def State.configBytes (s : State) : List Nat :=
  let insts := (Map.keys s.tn.insts).filter (fun i => s.ist i != 0)
  (insts.flatMap (fun i => toBytes i 2 ++ toBytes (s.reg rTN_INST i) 8 ++ (s.inst i).maps.flatMap (fun (m : Mapping) => m.record))) ++
  ((Map.keys s.ch.defs).flatMap (fun c => toBytes c 2 ++ toBytes (s.reg rCH_CHAN c) 8 ++ toBytes (s.cdef c) 64)) ++
  (s.definedSids.flatMap (fun i => toBytes i 4 ++ toBytes (s.sigRec i / 2 ^ 224) 36)) ++
  (s.sg.tables.flatMap (fun t => toBytes t 2)) ++
  (s.sg.subs.flatMap (fun (e : Nat × List Sub) => e.2.flatMap (fun (x : Sub) => toBytes e.1 4 ++ toBytes x.inst 2 ++ toBytes x.gen 2 ++ [x.classes]))) ++
  (s.cy.slots.flatMap (fun (e : Nat × Slot) => if s.rf CY_SLOT_STATE e.1 = 0 then [] else toBytes e.1 2 ++ toBytes (s.reg rCY_SLOT e.1) 8 ++ e.2.bundle ++ e.2.prev))

/-- The Journal that step 3 copies: live entries, the sequence area, the sessions. -/
def State.jrnBytes (s : State) : List Nat :=
  (s.ch.ring.flatMap (fun (e : JEnt) => toBytes e.jsn 6 ++ [e.kind] ++ toBytes e.tid 8)) ++
  (s.ch.tops.flatMap (fun (e : Nat × Nat) => toBytes e.1 4 ++ toBytes e.2 8)) ++
  (s.ch.sess.flatMap (fun (e : Nat × List Nat) => toBytes e.1 2 ++ e.2.flatMap (fun x => toBytes x 8)))

/-- Pages of Protected instances that step 4 copies: those of mappings with PR. -/
def State.protPages (s : State) : List Nat :=
  s.protecteds.flatMap (fun i => (s.inst i).maps.flatMap (fun (m : Mapping) => if bit m.perm 4 then (List.range m.pages).map (fun k => m.dpage + k) else []))

/-- The active's work as a step begins. -/
def State.syncWork (s : State) (phase : Nat) : State :=
  match phase with
  | 2 => s.emit (.twin 2 s.configBytes)
  | 3 => s.emit (.twin 5 s.jrnBytes)
  | 4 =>
    let ps := s.protPages
    let s := ({ s with recorded := [] }).sf TW_SYNC_TOTAL ((ps.length + 15) / 16)
    s.emit (.twin 1 (ps.flatMap (fun p => (List.range 64).flatMap (fun k => toBytes (p * 64 + k) 8 ++ toBytes (s.lineNow (p * 64 + k)).1.toNat 64))))
  | 5 =>
    s.each ((List.range 32).filter (fun p => s.rf FR_STAT_ROLE p == 2)) (fun s p =>
      let c := s.rf FR_CYCLE_CYCLE p
      let s := { (s.wreg rSG_RD p 0) with sg := { s.sg with pairs := Map.put s.sg.pairs p [(c, 0)] }, tw := { s.tw with cmp := Map.put s.tw.cmp p c } }
      s.emit (.twin 9 (toBytes p 1 ++ toBytes (s.rf FR_STAT_SOURCE p) 2 ++ toBytes (s.rf FR_STAT_SCHED_VER p) 2 ++ toBytes (s.rf FR_STAT_CYC p) 1)))
  | _ => s

/-- A step of R667 ends and the next begins; step 6 ends with an acknowledged epoch. -/
def State.syncStep (s : State) : State :=
  let ph := s.rf TW_SYNC_PHASE
  if s.rf TW_STAT_STATE ≠ 1 ∨ 6 ≤ ph then s
  else
    let s := s.when (ph == 4) (fun s => s.sf TW_SYNC_POS (s.rf TW_SYNC_TOTAL))
    let s := s.sf TW_SYNC_PHASE (ph + 1)
    let s := s.when (s.rf TW_STAT_ROLE == 1) (fun s => s.syncWork (ph + 1))
    s.when (ph == 5) (fun s => { ((s.sf TW_EPOCH_NUMBER 1).sf TW_ACKED_EPOCH 0) with tw := { s.tw with cuts := [], hold := none } })

/-- Step 4's progress: event 0x346 at each further 1 % (R691). -/
def State.syncPos (s : State) (pos total : Nat) : State :=
  if s.rf TW_STAT_STATE ≠ 1 ∨ s.rf TW_SYNC_PHASE ≠ 4 then s
  else
    let was := s.rf TW_SYNC_POS
    let tot := max total 1
    let s := (s.sf TW_SYNC_TOTAL total).sf TW_SYNC_POS (max was pos)
    s.each (List.range (max was pos * 100 / tot - was * 100 / tot)) (fun s _ => s.raise 0x346)

/-- Lines of the active's memory written on the standby; a poisoned one makes it unfit (R682). -/
def State.standbyLines (s : State) (ls : List (BitVec 46 × Line × Bool)) : State :=
  s.each ls (fun s x =>
    let s := (s.dropAll x.1.toNat).homePut x.1.toNat x.2.1 x.2.2 512
    s.when x.2.2 (fun s => { s with tw := { s.tw with unfit := true } }))

/-- TWIN_PAIR ACTION 0 (R663, R666, R667). -/
def State.doPair (s : State) (c : Cmd) (f : PeerFacts) : State :=
  if s.rf TW_STAT_STATE ≠ 0 then s.finish c stDENIED
  else if c.p 1 < 250 ∨ 10000 < c.p 1 then s.finish c stBAD_PARAM [0, 0]
  else
    let k := s.pairFails f (c.p 1)
    if k ≠ 0 then s.finish c stBAD_PARAM [0, k]
    else
      let s := (s.sf TW_EPOCH_EPOCH_US (c.p 1)).sb TW_STAT_INDEX f.lower
      ((s.syncStart 1 1).twTell (0 :: toBytes (c.p 1) 2)).finish c stOK [1]

/-- What happens in a pairing. -/
def State.pairEv (s : State) (e : PairEv) : State :=
  match e with
  | .command f => s.onCmd 0x0901 (fun c => c.p 0 % 4 == 0) (fun s c => s.doPair c f)
  | .asked us idx =>
    if s.rf TW_STAT_STATE = 0 ∧ s.tw.strap = true then ((s.sf TW_EPOCH_EPOCH_US us.toNat).sb TW_STAT_INDEX idx).syncStart 1 2 else s
  | .lines ls => if s.isStandby ∧ s.rf TW_STAT_STATE = 1 ∧ s.rf TW_SYNC_PHASE = 4 then s.standbyLines ls else s
  | .ring p ver table =>
    if s.isStandby ∧ s.rf TW_STAT_STATE = 1 ∧ s.rf TW_SYNC_PHASE = 5 then
      match parseTable (table.map (·.toNat)) with
      | some t => s.listenerPort p.val ver.toNat t
      | none => s
    else s
  | .progress pos total => s.syncPos pos.toNat total.toNat
  | .step => s.syncStep
  | .failed => s.syncFail

/-- TWIN_PAIR ACTION 1 (R666). -/
def State.suspend (s : State) : State :=
  let st := s.rf TW_STAT_STATE
  if st = 1 then s.syncIdle.twTo 3 (s.rf TW_STAT_ROLE) else if st = 2 then s.twTo 3 (s.rf TW_STAT_ROLE) else s

def State.twinSuspend (s : State) (asked : Bool) : State :=
  if asked then s.suspend
  else s.onCmd 0x0901 (fun c => c.p 0 % 4 == 1) (fun s c =>
    if s.rf TW_STAT_STATE = 1 ∨ s.rf TW_STAT_STATE = 2 then (s.suspend.twTell [1]).finish c stOK [s.rf TW_STAT_ROLE] else s.finish c stDENIED)

/-- TWIN_PAIR ACTION 2 (R666), or a rejoining partner (R688): steps 2 to 6. -/
def State.resumeSync (s : State) : State :=
  let s := s.syncStart 2 (if s.rf TW_STAT_ROLE = 1 then 1 else 2)
  s.when (s.rf TW_STAT_ROLE == 1) (fun s => s.syncWork 2)

def State.twinResume (s : State) (asked reach : Bool) : State :=
  let st := s.rf TW_STAT_STATE
  if asked then (if st = 3 ∨ st = 4 ∨ st = 5 then s.resumeSync else s)
  else s.onCmd 0x0901 (fun c => c.p 0 % 4 == 2) (fun s c =>
    if st = 3 ∨ (st = 4 ∧ reach = true) then (s.resumeSync.twTell [2]).finish c stOK [s.rf TW_STAT_ROLE] else s.finish c stDENIED)

/-- TWIN_PAIR ACTION 3 (R666). -/
def State.unpair (s : State) : State :=
  let s := s.when (s.rf TW_STAT_STATE == 1) State.syncIdle
  let s := s.when (s.isStandby) State.discardAll
  ({ s with tw := { s.tw with hold := none, took := false, taking := false, want := false, peerYield := false, yielding := false, switch := none, byLoss := false } }).twTo 0 0

def State.twinUnpair (s : State) (asked : Bool) : State :=
  if asked then (if s.rf TW_STAT_STATE = 0 then s else s.unpair)
  else s.onCmd 0x0901 (fun c => c.p 0 % 4 == 3) (fun s c =>
    if s.rf TW_STAT_STATE = 0 then s.finish c stDENIED else (s.unpair.twTell [3]).finish c stOK [0])

/-! ### Goose (R669, R670) -/

/-- The module's frame with a SEQ. -/
def State.gooseBytes (s : State) (seq : Nat) : List Nat :=
  let role := s.rf TW_STAT_ROLE
  let w := 1 + role * 2 ^ 8 + s.rf TW_STAT_STATE * 2 ^ 10 + b2n s.tw.yielding * 2 ^ 14 + b2n (role == 2 && s.rb TW_STAT_FIT) * 2 ^ 15 + b2n s.isSable * 2 ^ 16
  let ochres := satN 16 (s.fc.log.filter (fun (e : Nat × FRec) => e.2.cls == 1 && !e.2.cleared)).length
  let b := toBytes w 4 ++ toBytes seq 4 ++ toBytes (if role = 1 then s.rf TW_EPOCH_NUMBER - 1 else s.rf TW_ACKED_EPOCH) 8 ++
    toBytes (if role = 2 then s.rf TW_DIGEST_MISMATCH else 0) 4 ++ toBytes (ochres + s.rf KC_SPARE_CFG_POOL_NOW * 2 ^ 16) 4 ++ toBytes 0 4
  b ++ toBytes (crc32c b) 4

def State.gooseSend (s : State) : State :=
  if s.rf TW_STAT_STATE = 0 then s
  else
    let s := s.fitCheck
    let q := (s.tw.seqOut + 1) % 2 ^ 32
    let s := { s with tw := { s.tw with seqOut := q } }
    let b := s.gooseBytes q
    (s.when (s.rf TW_STAT_LANES != 0) (fun s => s.emit (.goose true b))).emit (.goose false b)

/-- TW_PEER from a frame (R699). -/
def State.setPeer (s : State) (w0 mis w5 : Nat) : State :=
  let s := (((s.sf TW_PEER_ROLE (bits w0 9 8)).sf TW_PEER_STATE (bits w0 13 10)).sf TW_PEER_FIT (bits w0 15 15)).sf TW_PEER_SABLE (bits w0 16 16)
  ((s.sf TW_PEER_MISMATCH mis).sf TW_PEER_OCHRE (bits w5 15 0)).sf TW_PEER_POOL_NOW (bits w5 20 16)

/-- What a valid frame of the partner causes (R682, R683, R688). -/
def State.peerSays (s : State) (yield fit : Bool) : State :=
  let st := s.rf TW_STAT_STATE
  let peerTook := s.rf TW_PEER_ROLE == 1 && s.rf TW_PEER_STATE == 4
  let s := s.when (s.rf TW_STAT_ROLE == 1 && s.rb TW_STAT_FIT != fit) (fun s => (s.sb TW_STAT_FIT fit).raise 0x343)
  let s := s.when (s.tw.yielding && peerTook) (fun s => { s with tw := { s.tw with yielding := false } })
  if s.rf TW_STAT_ROLE = 2 ∧ st = 2 ∧ yield = true then { s with tw := { s.tw with peerYield := true } }
  else if s.rf TW_STAT_ROLE = 1 ∧ peerTook = true ∧ s.tw.took = false ∧ 2 ≤ st then s.enterYielded
  else if st = 5 ∧ peerTook = true ∧ s.rb TW_CFG_REJOIN = true then s.resumeSync.twTell [2]
  else s

/-- GOOSE_RECEIVE (R669, R670): in band or on the sideband. -/
def State.gooseReceive (s : State) (inBand : Bool) (b : List Nat) : State :=
  let w := fun (o : Nat) => ofBytes ((b.drop o).take 4)
  let key := b2n inBand
  let last := Map.find s.tw.seqIn key
  let gap := match last with | some q => (w 4 + 2 ^ 32 - q) % 2 ^ 32 | none => 1
  if s.rf TW_STAT_STATE = 0 ∨ b.length ≠ 32 ∨ crc32c (b.take 28) ≠ w 0x1C ∨ gap = 0 ∨ 2 ^ 31 ≤ gap then s
  else
    let f := if inBand then TW_STAT_GOOSE_LINK else TW_STAT_GOOSE_SB
    let s := { s with tw := { s.tw with seqIn := Map.put s.tw.seqIn key (w 4) } }
    let s := s.when (decide (1 < gap)) (fun s => s.bump rTW_GOOSE_MISS 0 (gap - 1))
    let s := s.when (!s.rb f) (fun s => (s.sf f 1).raise 0x341)
    (s.setPeer (w 0) (w 0x10) (w 0x14)).peerSays (bit (w 0) 14) (bit (w 0) 15)

/-- GOOSE_PATH_DOWN (R670, R683): both down, the partner is lost. -/
def State.goosePathDown (s : State) (inBand : Bool) : State :=
  let f := if inBand then TW_STAT_GOOSE_LINK else TW_STAT_GOOSE_SB
  if s.rf TW_STAT_STATE = 0 ∨ s.rb f = false then s
  else
    let s := (((s.sf f 0).raise 0x341).bump rTW_GOOSE_MISS 0 2).twRec 0x1103 ochre (b2n inBand)
    let s := { s with tw := { s.tw with seqIn := Map.del s.tw.seqIn (b2n inBand) } }
    if s.rb TW_STAT_GOOSE_LINK || s.rb TW_STAT_GOOSE_SB then s
    else
      let s := s.twRec 0x1104 ochre 0
      let st := s.rf TW_STAT_STATE
      if s.rf TW_STAT_ROLE = 1 then (if st = 1 then s.syncFail else if st = 2 ∨ st = 3 then s.twTo 4 1 else s)
      else if st = 1 then (s.syncIdle.discardAll).twTo 0 0
      else s

/-! ### The claim interlock (R671-R674) -/

/-- PEER_CLAIM_EDGE (R672-R674). -/
def State.peerEdge (s : State) : State :=
  if !s.tw.strap then s
  else
    let own := s.rb TW_STAT_CLAIM
    let s := { (s.sf TW_STAT_GATE 0).sf TW_STAT_PEER_EDGE 1 with tw := { s.tw with edgeAt := s.now } }
    if own then (s.raise 0x345).twRec 0x1109 sable 0
    else s.when s.tw.train (fun s => { s with tw := { s.tw with train := false, want := s.tw.want || s.tw.taking || s.rf TW_STAT_ROLE == 1 } })

/-- CLAIM_RETRY (R673; R685 step 2): no peer edge for 20 us, and the module starts its train. -/
def State.claimRetry (s : State) : State :=
  if s.tw.strap && !s.tw.train && !s.isSable && ((s.rf TW_STAT_STATE == 0 && s.takesPackets) || s.tw.want) then
    (({ s with tw := { s.tw with train := true, want := false } }).sf TW_STAT_PEER_EDGE 0)
  else s

/-- The new active's ports and announcements (R685 step 5, 12 R521, 19 R812). -/
def State.takeOutputs (s : State) : State :=
  let s := s.releaseStaged (fun _ => true)
  let s := s.each ((List.range 32).filter (fun p => s.rf FR_STAT_ROLE p == 3)) (fun s p => s.setRole p 2)
  let nets := (Map.keys s.ch.defs).filter (fun c => s.rf CH_CHAN_STATE c != 0 && s.chanKind c == 2)
  let s := s.each nets (fun s c => s.ethOut (dfld (s.cdef c) 4 1 0) (.eth (dfld (s.cdef c) 4 1 0) 3 ((s.arpBytes c).take 16)) 16)
  ({ s with tw := { s.tw with taking := false } }).raise 0x344

/-- GATE_OPEN (R672): the train has run for 20 us with no peer edge. -/
def State.gateOpen (s : State) : State :=
  if s.tw.strap && s.tw.train && !s.isStandby && !s.isSable then
    let s := ((s.sf TW_STAT_PEER_EDGE 0).sf TW_STAT_CLAIM 1).sf TW_STAT_GATE 1
    s.when s.tw.taking State.takeOutputs
  else s

/-! ### Epochs (R675-R678) -/

/-- Whether epochs are taken: Running, or step 6 of R667. -/
def State.epochsOn (s : State) : Bool := s.isRunning || (s.rf TW_STAT_STATE == 1 && s.rf TW_SYNC_PHASE == 6)

/-- What the link carries in 20 us, in lines: 240,000 bytes a lane (R668, R677). -/
def State.linkLines (s : State) : Nat := s.rf TW_STAT_LANES * 3750

/-- EPOCH_STRETCH (R677): at the end of the set length the owed data is above what the link carries in 20 us. A recorded line counts as owed until
the barrier (DESIGN CHOICE, log 33). -/
def State.epochStretch (s : State) : State :=
  if s.isActiveRunning && !s.tw.stretch && decide (s.linkLines < s.recorded.length) then
    let s := { s with tw := { s.tw with stretch := true } }
    ((s.raiseMs 0x342).twRec 0x1105 slate (64 * s.recorded.length)).bump rTW_STRETCH_CNT
  else s

/-- The entries of an instance's virtual core in the store buffers. -/
def State.imageSb (s : State) (i v : Nat) : List SbEnt :=
  match s.placeOf i v with
  | some (c, _) => (s.core c).sb.filter (fun (e : SbEnt) => e.inst == i)
  | none => []

def SbEnt.bytes (e : SbEnt) : List Nat := [b2n e.sig] ++ toBytes e.line 8 ++ toBytes e.data.toNat 64 ++ toBytes e.mask.toNat 8 ++ toBytes e.seq 8

/-- The cut's data (R675 step 2, R676). -/
def State.cutBytes (s : State) : List (List Nat) :=
  let ps := s.protecteds
  [ s.recorded.flatMap (fun l => let d := s.lineNow l; toBytes l 8 ++ toBytes d.1.toNat 64 ++ [b2n d.2]),
    ps.flatMap (fun i => (List.range (s.vcores i)).flatMap (fun v =>
      toBytes (vkey i v) 2 ++ (s.vc (vkey i v)).save.flatMap (fun d => toBytes d 8) ++ (s.imageSb i v).flatMap SbEnt.bytes)),
    ps.flatMap (fun i => toBytes i 2 ++ s.pageSave i),
    s.sg.slots.flatMap (fun (e : Nat × Nat) => if ps.contains (recOwner (s.sigRec e.2)) then
      toBytes e.1 4 ++ (List.range 4).flatMap (fun k => toBytes (s.slotWord e.1 k) 4) ++ toBytes (s.sigRec e.2) 64 else []),
    s.cy.slots.flatMap (fun (e : Nat × Slot) => toBytes e.1 2 ++ toBytes e.2.ctr 8),
    (s.cz.ctxs ++ s.cz.held).flatMap (fun (c : CzCtx) => if ps.contains c.inst then [1] ++ toBytes c.inst 2 ++ toBytes c.queue 1 ++ toBytes c.tag 2 else []) ++
    s.cy.ctxs.flatMap (fun (c : CyCtx) => if ps.contains c.inst then [2] ++ toBytes c.inst 2 ++ toBytes c.queue 1 ++ toBytes c.tag 2 else []) ]

/-- The span digests of R681: for each Master port, the latest completed cycle against the one last compared. -/
def State.sendDigests (s : State) : State :=
  s.each ((List.range 32).filter (fun p => s.rf FR_STAT_ROLE p == 2)) (fun s p =>
    match Map.getD s.sg.pairs p [] with
    | [] => s
    | (c, d) :: r =>
      let c0 := Map.getD s.tw.cmp p 0
      let s' := { s with tw := { s.tw with cmp := Map.put s.tw.cmp p c } }
      match r.find? (fun (x : Nat × Nat) => x.1 == c0) with
      | some (_, d0) => s'.emit (.twin 3 (toBytes p 1 ++ toBytes c 8 ++ toBytes (c - c0) 2 ++ toBytes ((d + 2 ^ 64 - d0) % 2 ^ 64) 8))
      | none => if c = c0 then s else s')

/-- EPOCH_BARRIER (R675, R676, R681): between bundles, so that the pause needs no state of its own. -/
def State.epochBarrier (s : State) : State :=
  if s.rf TW_STAT_ROLE = 1 ∧ s.epochsOn = true ∧ s.isSable = false then
    let e := s.rf TW_EPOCH_NUMBER
    let data := s.cutBytes
    let all := data.flatten
    let s := (s.each data.zipIdx (fun s x => s.emit (.twin 1 (x.2 :: x.1)))).pmEvent 0x0A01 0 none ((all.length + 63) / 64)
    let s := s.bwBytes 0x30 all.length
    let s := s.sendDigests
    let s := s.emit (.twin 1 ([0xFF] ++ toBytes e 8 ++ toBytes all.length 8 ++ toBytes (crc32c all) 4))
    let s := (s.sf TW_STREAM_LAST_KIB (s.recorded.length / 16)).sf TW_EPOCH_NUMBER ((e + 1) % 2 ^ 48)
    { s with recorded := [], tw := { s.tw with stretch := false, cuts := s.tw.cuts ++ [(e, s.now, s.cy.slots.map (fun (x : Nat × Slot) => (x.1, x.2.ctr)))] } }
  else s

/-- EPOCH_ACKNOWLEDGE (R676, R678) on the standby: the next epoch, whole or not. -/
def State.epochAck (s : State) (ep : Epoch) (whole : Bool) : State :=
  if s.isStandby = false ∨ s.epochsOn = false ∨ ep.number ≠ s.rf TW_ACKED_EPOCH + 1 then s
  else if !whole then
    let s := s.twRec 0x110A slate ep.number
    if s.tw.asked then s else ({ s with tw := { s.tw with asked := true } }).emit (.twin 8 (toBytes ep.number 8))
  else
    let s := (s.standbyLines ep.lines).bwBytes 0x31 (73 * ep.lines.length)
    let s := s.each ep.ctrs (fun s x => s.setSlot x.1.toNat (fun k => { k with ctr := x.2, acked := x.2 }))
    let s := { s with tw := { s.tw with hold := some { ep with lines := [] }, asked := false } }
    let s := ((s.sf TW_ACKED_EPOCH ep.number).sf TW_EPOCH_NUMBER (ep.number + 1)).emit (.twin 4 (toBytes ep.number 8))
    (if s.isRunning then s else s.syncDone).fitCheck

/-- Link frames retransmitted (R668, R692). -/
def State.linkFrames (s : State) (n : Nat) : State := s.when (decide (n ≠ 0)) (fun s => s.bump rTW_LINK_RETRY 0 n)

/-- EPOCH_ACK_RECEIVE (R678, 08 R328, 10 R400; 11 R458 through TW_ACKED). -/
def State.epochAcked (s : State) (n : Nat) : State :=
  if s.rf TW_STAT_ROLE ≠ 1 ∨ s.epochsOn = false ∨ n ≤ s.rf TW_ACKED_EPOCH then s
  else match s.tw.cuts.find? (fun (x : Nat × Nat × List (Nat × Nat)) => x.1 == n) with
    | none => s
    | some (_, t, ctrs) =>
      let s := (s.sf TW_ACKED_EPOCH n).sf TW_ACKED_ACK_US (satN 16 ((s.now - t) / 1000))
      let s := s.each ctrs (fun s x => s.setSlot x.1 (fun k => { k with acked := x.2 }))
      let s := { s with tw := { s.tw with cuts := s.tw.cuts.filter (fun (x : Nat × Nat × List (Nat × Nat)) => decide (n < x.1)) } }
      let s := s.when (!s.isSable) (fun s => s.releaseStaged (fun x => decide ((n % 65536 + 65536 - x) % 65536 < 32768)))
      if s.isRunning then s else s.syncDone

/-! ### The mirror (R679, R680, 17 R728) -/

/-- Commands that act on transactions: their effect reaches the standby through the Journal (log 34). -/
def viaJournal : List Nat := [0x0305, 0x0306, 0x0307, 0x0308]

/-- A key slot that the active's Vault carries over (17 R728). -/
def State.carryKey (s : State) (k reg : Nat) (bundle prev : List Nat) : State :=
  match (s.openBundle bundle).1 with
  | none => (s.zeroSlot k).mirrorFailed 0x0501
  | some b =>
    let cur := bits reg 58 58
    let old := if bit reg 57 then ((s.openBundle prev).1.map (fun (x : KeyBundle) => x.key)).getD [] else []
    let s := (s.loadSlot k (bits reg 40 32) b bundle).setSlot k (fun x =>
      if cur = 0 then { x with k0 := b.key, k1 := old, prev := prev } else { x with k0 := old, k1 := b.key, prev := prev })
    s.wreg rCY_SLOT k (setBits reg 15 0 0)

/-- MIRROR_COMMIT (R679): on the standby; `bad` writes fail their read-back first (11 R448). -/
def State.mirrorCommit (s : State) (m : Mirror) (bad : Nat) : State :=
  if !s.isStandby then s
  else match m with
  | .entry e =>
    let s := s.each (List.range bad) (fun s _ => s.jrnFill)
    let txns := match e.txn with
      | some t => if e.kind = 7 then s.ch.txns.filter (fun (x : Txn) => x.tid != e.tid)
                  else if s.ch.txns.any (fun (x : Txn) => x.tid == e.tid) then s.ch.txns.map (fun (x : Txn) => if x.tid == e.tid then t else x)
                  else s.ch.txns ++ [t]
      | none => s.ch.txns
    let s := { s with ch := { s.ch with txns := txns, jsn := e.jsn % 2 ^ 48 } }
    (s.jrnPush e.kind e.tid e.txn).emit (.twin 10 (toBytes e.jsn 6))
  | .area key top => { s with ch := { s.ch with tops := Map.put s.ch.tops key (if 1024 ≤ key then top % 65536 else max top (Map.getD s.ch.tops key 0)) } }
  | .session c ids => { s with ch := { s.ch with sess := Map.put s.ch.sess c.toNat ids } }
  | .command src op inst ps pay =>
    if viaJournal.contains op.toNat then s
    else
      let c : Cmd := ⟨1000 + src.toNat, 0, op.toNat, 0, inst.toNat, s.gen inst.toNat, false, ps.map (·.toNat), pay.map (·.toNat), 0, s.mp.seq, s.now, false, 0, 2, false, false, .none⟩
      { s with mp := { s.mp with seq := s.mp.seq + 1, cmds := s.mp.cmds ++ [c] } }
  | .key k reg b prev => s.carryKey k.toNat reg.toNat (b.map (·.toNat)) (prev.map (·.toNat))

/-! ### Digests (R681, R682) -/

/-- DIGEST_COMPARE: a span of `k` cycles that ends with cycle c of port p. -/
def State.digestCompare (s : State) (p c k delta : Nat) : State :=
  let ps := Map.getD s.sg.pairs p []
  let at_ := fun (x : Nat) => (ps.find? (fun (y : Nat × Nat) => y.1 == x)).map (fun (y : Nat × Nat) => y.2)
  if s.isStandby = false ∨ s.isRunning = false then s
  else match at_ c, at_ (c - k) with
    | some d, some d0 =>
      let mis := s.rf TW_DIGEST_MISMATCH
      let run := Map.getD s.tw.streak p 0
      let put := fun (s : State) (n : Nat) (b : Bool) =>
        let s := { s with tw := { s.tw with streak := Map.set s.tw.streak 0 p n } }
        let s := s.sf TW_DIGEST_MISMATCH (setBit mis p b)
        s.sf TW_DIGEST_STREAK (satN 8 (s.tw.streak.foldl (fun m (e : Nat × Nat) => max m e.2) 0))
      if (d + 2 ^ 64 - d0) % 2 ^ 64 = delta then put s 0 false
      else
        let s := ((put s (run + 1) true).twRec 0x1106 slate p).bump rTW_MISMATCH_CNT
        (s.when (run == 0) (fun s => s.raise 0x343)).fitCheck
    | _, _ => s

/-! ### The link (R668, R679) -/

def lanesOf (m : Nat) : Nat := (List.range 4).foldl (fun n k => n + b2n (bit m k)) 0

def State.setLanes (s : State) (m : Nat) : State :=
  if s.tw.lanes = m then s
  else (({ s with tw := { s.tw with lanes := m } }).sf TW_STAT_LANES (lanesOf m)).raise 0x341

/-- No lane carries traffic any more: commits no longer wait, and a running pair is Suspended (R667, R679). -/
def State.linkGone (s : State) : State :=
  let s := s.twRec 0x1102 ochre 0
  if s.rf TW_STAT_STATE = 1 then s.syncFail
  else if s.isRunning then ({ s with tw := { s.tw with byLoss := true } }).twTo 3 (s.rf TW_STAT_ROLE)
  else s

/-- The link carries traffic again (R666). -/
def State.linkBack (s : State) : State :=
  if s.rf TW_STAT_STATE = 3 ∧ s.tw.byLoss = true ∧ s.rb TW_CFG_AUTO_RESUME = true then s.resumeSync else s

/-- LANE_DOWN: a lane is dropped, or has trained again; the link goes with its last lane and returns with its first. -/
def State.laneChange (s : State) (l : Nat) (up : Bool) : State :=
  if bit s.tw.lanes l = up then s
  else
    let was := s.tw.lanes
    let s := (s.setLanes (setBit s.tw.lanes l up)).when (!up) (fun s => s.twRec 0x1101 ochre l)
    if s.tw.lanes = 0 then s.linkGone else if was = 0 then s.linkBack else s

/-- TWIN_LINK_LOSS: what carried traffic carries none. -/
def State.linkLoss (s : State) : State := if s.tw.lanes = 0 then s else (s.setLanes 0).linkGone

/-- TWIN_LINK_RETURN on n lanes. -/
def State.linkReturn (s : State) (n : Nat) : State :=
  if s.tw.lanes ≠ 0 ∨ n = 0 then s else (s.setLanes (2 ^ n - 1)).linkBack

/-! ### Yield and switch (R684) -/

/-- The active yields: gate, claim, then YIELD in its next Goose. -/
def State.yieldNow (s : State) : State := { s.enterYielded with tw := { s.enterYielded.tw with yielding := true } }

/-- What a fault does whose takeover is refused: the reset of R636, or the loss of the Signal Store as on a solo module. -/
def State.soloPath (s : State) (w : Option (Nat × Nat)) : State :=
  match w with
  | none => s.storeEvents
  | some (i, g) => if s.gen i = g ∧ s.ist i ≠ 0 ∧ s.ist i ≠ 3 ∧ s.ist i ≠ 8 then (s.russetReset i).1 else s

/-- YIELD_REQUEST. -/
def State.yieldRequest (s : State) : State :=
  if !s.yieldReq then s
  else
    let why := s.yieldFor
    let s := { s with yieldReq := false, yieldFor := [] }
    if s.canYield then s.yieldNow else s.each why State.soloPath

/-- TWIN_SWITCH: one further barrier, its acknowledgement, then the yield. -/
def State.twinSwitch (s : State) (asked : Bool) : State :=
  let reply := fun (s : State) => s.onCmd 0x0902 (fun _ => true) (fun s c => s.finish c stOK [s.rf TW_STAT_ROLE])
  match s.tw.switch with
  | none =>
    if asked then s.when s.canYield (fun s => { s with tw := { s.tw with switch := some (s.rf TW_EPOCH_NUMBER) } })
    else s.onCmd 0x0902 (fun _ => true) (fun s c =>
      if s.isRunning ∧ s.rb TW_STAT_FIT = true then
        if s.isStandby then ({ s with tw := { s.tw with switch := some 0 } }).twTell [9]
        else { s with tw := { s.tw with switch := some (s.rf TW_EPOCH_NUMBER) } }
      else s.finish c stDENIED)
  | some e =>
    if s.isActiveRunning then
      if !s.canYield then ({ s with tw := { s.tw with switch := none } }).onCmd 0x0902 (fun _ => true) (fun s c => s.finish c stDENIED)
      else if e ≤ s.rf TW_ACKED_EPOCH then reply s.yieldNow
      else s
    else if s.isRunning then s
    else reply { s with tw := { s.tw with switch := none } }

/-! ### Takeover (R683, R685, R686) -/

/-- The trigger of R683 that is met: 0 loss (and no peer edge for 20 us), 1 yield, 2 switch, 3 cold. -/
def State.takeKind (s : State) (switched : Bool) : Option Nat :=
  let lost := !s.rb TW_STAT_GOOSE_LINK && !s.rb TW_STAT_GOOSE_SB
  if s.isStandby = false ∨ s.isSable = true then none
  else if s.isRunning then (if s.tw.peerYield then some (if switched then 2 else 1) else if lost && !s.peerRecent then some 0 else none)
  else if s.rf TW_STAT_STATE = 3 ∧ lost = true ∧ s.rb TW_CFG_COLD_TAKE = true then some 3
  else none

/-- A request run again from its start (R686). -/
def CzCtx.again (c : CzCtx) : CzCtx :=
  { c with charged := false, pos := 0, out := 0, chk := chkStart c.fmt, infl := Infl.start, bits := [], chunks := 0 }

def State.cyAgain (s : State) (c : CyCtx) : State :=
  let side := s.cySide c.lease
  let n := if c.auto then (s.slot c.slot).ctr else 0
  let s := if c.auto then s.takeAuto c.slot else s
  let c := { c with pa := side.getD 0 0, pb := side.getD 1 0, n := n, pos := 0, tw := 0, j0 := 0, y := 0, begun := false, pass := 1, arbs := 0, charged := false }
  (s.sf CY_SLOT_INFLIGHT (satN 16 (s.rf CY_SLOT_INFLIGHT c.slot + 1)) c.slot).setCy (s.cy.ctxs ++ [c])

/-- Steps 3 and 4 of R685: the last acknowledged epoch. -/
def State.takeEpoch (s : State) (ep : Epoch) : State :=
  let s := s.each ep.images (fun s x =>
    let k := x.1.toNat
    let s := { s with kc := { s.kc with vc := Map.put s.kc.vc k x.2.1 } }
    let c := ((s.placeOf (k / 64) (k % 64)).map Prod.fst).getD 0
    s.each x.2.2 (fun s e => s.sbVisible c e))
  let s := s.each ep.pages (fun s x => s.pageLoad x.1.toNat x.2)
  let s := s.each ep.slots (fun s x =>
    let n := x.1.toNat
    let s := s.setStaged n (bit x.2.1.toNat 62)
    let s := s.sgWr (slotAddr n) 16 x.2.1.toNat
    match Map.find s.sg.slots n with
    | some sid => s.setRec sid x.2.2.toNat
    | none => s)
  let s := s.each ep.ctrs (fun s x => s.setSlot x.1.toNat (fun k => { k with ctr := x.2 + 2 ^ 20 }))
  let s := (s.setCtxs (s.cz.ctxs ++ ep.cz.zipIdx.map (fun x => { x.1.again with pipe := s.czUps.getD (x.2 % max 1 s.czUps.length) 0 }))).czSync
  let s := s.each ep.cy State.cyAgain
  ({ s with tn := { s.tn with waiting := s.tn.waiting ++ ep.waits } }).requeueOuts

/-- Whether a transaction's ACCEPT or INTENT entry was committed after the cut (R686). -/
def State.afterCut (s : State) (t : Txn) (jsn : Nat) : Bool :=
  s.ch.ring.any (fun (e : JEnt) => e.tid == t.tid && (e.kind == 1 || e.kind == 2) && decide (jsn ≤ e.jsn))

/-- A transaction retired with no completion (R686). -/
def State.dropTxn (s : State) (t : Txn) : State :=
  let t := { t with state := 5, fin := 1, reason := 0xF, begun := false, flush := false, slot := none, finJsn := s.ch.jsn }
  ((s.jrn t 6 0).bump rCH_FAIL_CNT).retire t 0

/-- The replay of a takeover (11 R469, R470, R472). -/
def State.takeTxns (s : State) (keep : Nat → Bool) (jsn : Option Nat) : State :=
  let late := match jsn with
    | some j => s.ch.txns.filter (fun (t : Txn) => !t.host && keep t.inst && s.afterCut t j)
    | none => []
  let s := s.each late State.dropTxn
  let s := s.sf TW_TAKE_DROPPED_TXN (satN 16 late.length)
  let l := s.ch.txns.filter (fun (t : Txn) => t.host || keep t.inst)
  let s := s.sf CH_STAT_JOURNAL 1
  let s := (s.replayStart 3 0 l.length).each l (fun s t => s.replayTxn 3 t)
  (s.sf CH_STAT_JOURNAL 0).jrnSync.replayEnd.chSync

/-- TAKEOVER (R683-R686): the decision and steps 1 to 4 and 6; step 5 is GATE_OPEN's. The claim starts at once, or by CLAIM_RETRY after a peer edge. -/
def State.takeover (s : State) (switched : Bool) (resumeUs : Nat) : State :=
  match s.takeKind switched with
  | none => s
  | some k =>
    let cold := k == 3
    let hold := if cold then none else s.tw.hold
    let s := ((s.twTo 4 1).raise 0x344).twRec 0x1108 ochre k
    let s := { s with tw := { s.tw with took := true, taking := true, peerYield := false, train := s.tw.strap && !s.peerRecent, want := s.tw.strap && s.peerRecent, cuts := [] } }
    let s := ((s.bump rTW_TAKEOVER_CNT).sf TW_TAKE_KIND k).sf TW_TAKE_RESUME_US resumeUs
    let s := s.sf TW_TAKE_ROLLBACK_US (match s.tw.hold with | some ep => satN 16 ((s.now - ep.cutAt) / 1000) | none => 0)
    let s := if cold then s.each (s.cy.slots.filter (fun (e : Nat × Slot) => s.rb CY_SLOT_AUTO e.1)) (fun s e => s.setSlot e.1 (fun x => { x with closed := true })) else s
    let s := match hold with | some ep => s.takeEpoch ep | none => s
    let s := { s with leases := s.leases.map (fun (l : Lease) => { l with deadline := none }) }.leaseSync
    let ps := s.protecteds
    let s := s.takeTxns (fun i => !cold && ps.contains i) (hold.map (fun (ep : Epoch) => ep.jsn))
    s.each (Map.keys s.tn.insts) (fun s i => if !cold && ps.contains i then s else (s.russetReset i).1)

end Sys2Proof.Machine
end

