-- ==== Sys2Proof/Machine/Boot.lean ====
section
/-! DEFINITION. Images in BOOT_SPI, the boot steps, firmware staging (17 R712-R724) and the resets (19 R788-R796). -/

namespace Sys2Proof.Machine

/-! ### Slots and sections (R712-R714) -/

/-- n bytes of a slot; what is not written reads as zero. -/
def slotBytes (l : List (BitVec 8)) (off n : Nat) : List Nat :=
  let b := ((l.drop off).take n).map (·.toNat)
  b ++ List.replicate (n - b.length) 0

/-- A slot header. -/
structure SlotHead where
  seq : Nat
  s1off : Nat
  s1len : Nat
  poff : Nat
  plen : Nat

/-- A header with its magic and CRC right (R712). -/
def slotHead (l : List (BitVec 8)) : Option SlotHead :=
  let w := fun (o : Nat) => ofBytes (slotBytes l o 4)
  if w 0 = 0x31544F42 ∧ crc32c (slotBytes l 0 0x3C) = w 0x3C then some ⟨w 4, w 8, w 0xC, w 0x10, w 0x14⟩ else none

/-- Both sections lie within the slot. -/
def SlotHead.inside (h : SlotHead) : Bool :=
  h.s1off % 4096 == 0 && decide (4096 ≤ h.s1off) && decide (h.s1off + h.s1len ≤ 2 ^ 24) && h.poff % 4096 == 0 &&
  (h.plen == 0 || (decide (4096 ≤ h.poff) && decide (h.poff + h.plen ≤ 2 ^ 24)))

/-- What a loaded section gives (R713): ID, SVN, key index, COMMIT_SVN, the payload. -/
structure Section where
  id : Nat
  svn : Nat
  key : Nat
  commit : Bool
  payload : List Nat

/-- The fields of a section header that have fixed values (R713, step 2 of R714). -/
def sectionForm (b : List Nat) (ty : Nat) : Bool :=
  let w := fun (o n : Nat) => ofBytes ((b.drop o).take n)
  let len := w 0x10 8
  w 0 4 == 0x31434553 && b.getD 4 0 == ty && decide (b.getD 5 0 < 4) && w 6 2 == 0 && decide (w 8 4 ≤ 64) && decide (w 0xC 4 ≤ 1) &&
  decide (len ≤ (if ty = 1 then 5242368 else 65024)) && len + 512 == b.length && w 0x1A 6 == 0 && w 0x2C 4 == 0 && w 0xA0 0x100 == 0 &&
  (ty == 1 || w 0x18 2 != 0)

/-- SECTION_LOAD (R714): the section, or the code of R720. -/
def State.loadSection (s : State) (b : List Nat) (ty : Nat) : Except Nat Section :=
  let at_ := fun (o n : Nat) => (b.drop o).take n
  let key := b.getD 5 0
  let svn := ofBytes (at_ 8 4)
  let pay := b.drop 512
  if !sectionForm b ty then .error 2
  else if !(bit (s.rf VT_KEYS_SIGN_PRESENT) key && !bit (s.rf VT_KEYS_SIGN_REVOKED) key && sha384 (at_ 0x40 96) == (Config.signHash key).toNat) then .error 3
  else if !ecdsaOk (ofBytes (at_ 0x40 48)) (ofBytes (at_ 0x70 48)) (ofBytes (at_ 0x1A0 48)) (ofBytes (at_ 0x1D0 48)) (sha384 (at_ 0 0x1A0 ++ pay)) then .error 4
  else if svn < (if ty = 1 then s.rf VT_SVN_STAGE1_FUSE else s.rf VT_SVN_PATCH_FUSE) then .error 5
  else
    let ks := aesKeys (toBytes Config.imageKey.toNat 32)
    let h := gcmH ks
    let j0 := gcmJ0 h (at_ 0x20 12)
    if gcmTag ks h j0 (ghash h (ghash h 0 (at_ 0 32)) pay) 32 pay.length ≠ at_ 0x30 16 then .error 6
    else .ok ⟨ofBytes (at_ 0x18 2), svn, key, bit (b.getD 0xC 0) 0, gcmCtr ks j0 0 pay⟩

/-- The sections of a slot under a header. -/
def State.loadSlotSections (s : State) (l : List (BitVec 8)) (h : SlotHead) : Except Nat (Section × Option Section) :=
  match s.loadSection (slotBytes l h.s1off h.s1len) 1 with
  | .error e => .error e
  | .ok a =>
    if h.plen = 0 then .ok (a, none)
    else match s.loadSection (slotBytes l h.poff h.plen) 2 with
      | .error _ => .error 7
      | .ok p => .ok (a, some p)

def State.flash (s : State) (k : Nat) : List (BitVec 8) := if k = 0 then s.vt.slotA else s.vt.slotB
def State.setFlash (s : State) (k : Nat) (l : List (BitVec 8)) : State :=
  if k = 0 then { s with vt := { s.vt with slotA := l } } else { s with vt := { s.vt with slotB := l } }

/-- One slot tried (R716): its sections, or a code. -/
def State.trySlot (s : State) (k : Nat) : Except Nat (Section × Option Section) :=
  match slotHead (s.flash k) with
  | none => .error 1
  | some h => if h.inside then s.loadSlotSections (s.flash k) h else .error 2

/-- The slot that boots (R716, R720): slot, whether it is a fallback, and what it gives; or the code, and whether the other slot was tried. Where the slot
tried second has no valid header, the code is that of the first (DESIGN CHOICE, log 69). -/
def State.pickSlot (s : State) : Except (Nat × Bool) (Nat × Bool × Section × Option Section) :=
  let only := fun (k : Nat) (fb : Bool) => match s.trySlot k with | .ok r => Except.ok (k, false, r.1, r.2) | .error e => .error (e, fb)
  let valid := fun (k : Nat) => match slotHead (s.flash k) with | some h => if h.inside then some h.seq else none | none => none
  match s.rf VT_BOOT_BOOT_SRC with
  | 1 => only 0 false
  | 2 => only 1 false
  | _ =>
    match valid 0, valid 1 with
    | none, none => .error (1, false)
    | some _, none => only 0 true
    | none, some _ => only 1 true
    | some a, some b =>
      let d := (b + 2 ^ 32 - a) % 2 ^ 32
      let first := if 1 ≤ d ∧ d < 2 ^ 31 then 1 else 0
      match s.trySlot first with
      | .ok r => .ok (first, false, r.1, r.2)
      | .error _ => match s.trySlot (1 - first) with
        | .ok r => .ok (1 - first, true, r.1, r.2)
        | .error e => .error (e, true)

/-! ### The spare pool (04 R141, R142) -/

/-- The highest-numbered core of a tile at or below a bound that is healthy and not taken. -/
def topCore (tile bound : Nat) (bad : Nat) (taken : List Nat) : Option Nat :=
  (((List.range 16).map (fun j => 16 * tile + j)).filter (fun c => decide (c ≤ bound) && !bit bad c && !taken.contains c)).getLast?

/-- Spare k (R142). -/
def pickSpareCore (k bad : Nat) (taken : List Nat) : Option Nat :=
  let t := k % 4
  (topCore t (16 * t + 15 - k / 4) bad taken).orElse (fun _ =>
    [1, 2, 3].findSome? (fun j => topCore ((t + j) % 4) 63 bad taken))

def spareCores (n bad : Nat) : List Nat :=
  (List.range n).foldl (fun l k => match pickSpareCore k bad l with | some c => l ++ [c] | none => l) []

/-- Step 6: the cores' self-test passes counted (04 R171), failed cores retired, the pool filled. -/
def State.bootCores (s : State) (env : BootEnv) : State :=
  let size := max (s.rf KC_SPARE_CFG_POOL_MIN) (min 16 ((env.pool.map (·.toNat)).getD 4))
  let failed := env.cores.toNat
  let bad := (List.range 64).foldl (fun m c => if (s.unit (org 1 c)).st = 3 then setBit m c true else m) failed
  let s := s.sf KC_SPARE_CFG_POOL_CFG size
  let s := s.each ((List.range 64).filter (fun c => bit failed c)) (fun s c => s.retireUnit (org 1 c) |>.testFailed (org 1 c) 6)
  let sp := spareCores size bad
  let s := s.each (List.range 64) (fun s c =>
    let r := if bit bad c then 7 else if sp.contains c then 1 else 0
    (s.sf KC_PCS_ROLE r c).sf KC_PCS_POWER (if r = 1 then 2 else 3) c)
  let s := (s.each ((List.range 64).filter (fun c => bit failed c || !bit bad c)) (fun s c => s.countPass c (!bit failed c))).roleSync
  let act := ((List.range 64).filter (fun c => s.rf KC_PCS_ROLE c == 0)).length
  if act < 48 then
    (s.sf KC_SPARE_CFG_SHORT 1).report { org := org 1 ((lowestBit bad 64).getD 0), cause := 0x010B, cls := ochre, d0 := act, d1 := bad }
  else s

/-- Units that stay retired over a module reset show it. -/
def State.keepRetired (s : State) : State :=
  s.each s.fc.units (fun s u => if u.2.st = 3 then s.unitReg u.1 3 else s)

/-! ### Boot (R717-R722) -/

/-- VT_BOOT.STATE changes (R729). -/
def State.bootTo (s : State) (st code : Nat) : State := ((s.sf VT_BOOT_STATE st).sf VT_BOOT_CODE code).raise 0x3E0

def payloadBytes (a : Section) : List (BitVec 8) := a.payload.map (fun b => BitVec.ofNat 8 b)

/-- Steps 1 to 3: the sections are in use from their destinations, Vault SRAM and the Patch RAM, which is zeroed without a patch, and every core's copy of it (04 R166, R714). -/
def State.useSections (s : State) (slot : Nat) (fb : Bool) (a : Section) (p : Option Section) : State :=
  let s := { s with vt := { s.vt with stage1 := payloadBytes a, patchRam := (p.map payloadBytes).getD [] } }
  let s := (s.sf VT_BOOT_SLOT slot).sb VT_BOOT_FALLBACK fb
  let s := ((s.sf VT_STAT_FW_REV a.id).sf MP_STAT_FW_REV a.id).sf VT_SVN_STAGE1_RUN a.svn
  let s := ((s.sf VT_KEYS_KEY_STAGE1 a.key).sf VT_STAGE_TARGET (1 - slot)).sf VT_STAGE_PENDING 0
  let s := (s.sf VT_STAT_PATCH_LOCKED 1).sf KC_UCODE_ID_LOCKED 1
  match p with
  | none => s
  | some p =>
    let s := s.each (List.range 64) (fun s c => s.setCore c (fun k => { k with ucode := s.vt.patchRam }))
    let (n, s) := s.fresh 12
    let (r, s) := s.fresh 7
    let s := (((s.sf VT_STAT_PATCH_ID p.id).sf KC_UCODE_ID_PATCH_ID p.id).sf VT_SVN_PATCH_RUN p.svn).sf VT_KEYS_KEY_PATCH p.key
    (s.sf KC_UCODE_ID_PATCH_WORDS (n % 2049)).sf KC_UCODE_ID_REDIRECTS (r % 65)

/-- SVN_COMMIT (R715). -/
def State.svnCommit (s : State) (a : Section) (p : Option Section) : State :=
  let up := fun (s : State) (f : RF) (x : Section) => if x.commit ∧ s.rf f < x.svn then (s.sf f x.svn).raise 0x3E4 else s
  let s := up s VT_SVN_STAGE1_FUSE a
  match p with | some p => up s VT_SVN_PATCH_FUSE p | none => s

/-- Step 4: every channel's DIMMs are powered and read; the population, the memory that it gives, and the channels that do not join it (07 R257, R258). -/
def State.bootMemory (s : State) (env : BootEnv) (p : Population) : State :=
  let c := p.dimms * p.gib
  let s := (s.sf MA_CAP_USABLE_GIB (8 * c)).sf MA_CAP_STRIPES (c * 2 ^ 24)
  let s := { s with ma := { s.ma with pwrEn := 1023, pmic := 1023, pop := some p } }
  s.each (List.range 10) (fun s m =>
    let ds := env.dimms.getD m []
    let s := (s.spdRead m ds).sf MA_CH_STAT_RECOVERIES (satN 4 (s.recoveries (org 4 m))) m
    if (s.unit (org 4 m)).st = 3 then s.setChan m 5
    else if popOf ds ≠ some p then s.loseChan m 6
    else if ds.any (fun d => !d.fast) then s.loseChan m 7
    else if bit env.trains.toNat m then s else s.loseChan m 2)

/-- The staging size (11 R476, R477): the boot configuration's after a power-on, 256 KiB where it gives none; a size in the register at a module reset
takes effect (log 63). -/
def State.bootStaging (s : State) (size : Option (Fin 5)) : State :=
  let n := if s.rf CH_REPLAY_TRIGGER = 0 then (match size with | some x => x.val | none => 2) else s.rf CH_CFG_STAGE
  (s.sf CH_CFG_STAGE n).sf CH_STAT_STAGE_NOW n

/-- Step 7 (R689, 11 R472): whether this module replays its ring. -/
def State.bootReplays (s : State) (p : PeerBoot) : Bool :=
  if !s.tw.jrnPaired then true
  else match p with
    | .silent => true
    | .working => false
    | .booting j idx => decide (j.toNat < s.ch.jsn) || (j.toNat == s.ch.jsn && idx)

def State.bootJournal (s : State) (env : BootEnv) (finds : List JrnFinding) : State :=
  let paired := s.tw.jrnPaired
  let s := if s.bootReplays env.partner then s.replay finds
    else
      let n := s.ch.ring.length
      let s := { s with ch := { s.ch with txns := [], ring := [], tail := (s.ch.tail + n) % ringSize } }
      ((s.sf CH_STAT_JOURNAL 0).sf CH_ORPHAN_COUNT 0).jrnSync
  let s := s.when (paired && env.partner == .silent) (fun s => s.raise 0x340)
  { s with tw := { s.tw with jrnPaired := false } }

/-- The values that boot finds for the islands: clocks other than the cores', and margins (18 R773, R775): no value is given, so they are
free (log 3); a margin that the last ageing sample gave stays. -/
def State.bootIsles (s : State) : State :=
  s.each (List.range 167) (fun s i =>
    let s := if isleKind i = 1 then s else (fun (p : Nat × State) => p.2.sf IS_ISL_STAT_MHZ p.1 i) (s.fresh 16)
    match Map.getD s.pw.samples i [] with
    | m :: _ => s.sf IS_AGE_MARGIN_PS m i
    | [] => (fun (p : Nat × State) => p.2.sf IS_AGE_MARGIN_PS p.1 i) (s.fresh 16))

/-- Whether link k of a root port exists under its bifurcation, and its width (19 R801): 0 for an absent link. -/
def linkWidth (bifur k : Nat) : Nat :=
  match bifur with
  | 0 => if k = 0 then 16 else 0
  | 1 => if k % 2 = 0 then 8 else 0
  | _ => 4

/-- The PCIe links as the boot configuration sets them (19 R801, R820-R822): one with EN = 1 detects, another is disabled. -/
def State.bootLinks (s : State) (env : BootEnv) : State :=
  s.each (List.range 16) (fun s l =>
    let w := linkWidth ((env.bifur.map (·.val)).getD (l / 4) 0) (l % 4)
    let b := env.links.getD l ⟨false, false, 0, 0, 0⟩
    if w = 0 then s
    else
      let s := ((s.sb PX_LINK_CFG_EN b.en l).sb PX_LINK_CFG_SRIS b.sris l).sf PX_LINK_CFG_MAX_GEN (b.gen.val + 1) l
      let s := (s.sf PX_LINK_STAT_STATE (if b.en then 2 else 1) l).sf PX_LINK_STAT_MAX_WIDTH w l
      (s.sf PX_LINK_BASE_ADDR b.base.toNat l).sf PX_LINK_LIMIT_ADDR b.limit.toNat l)

/-- BOOT (R717-R722). -/
def State.boot (s : State) (env : BootEnv) (finds : List JrnFinding) : State :=
  if s.rf VT_BOOT_STATE ≠ 0 then s
  else
    let s := match env.spi with | some (a, b) => { s with vt := { s.vt with slotA := a, slotB := b } } | none => s
    let s := s.sf VT_BOOT_ELAPSED_MS env.elapsedMs.toNat
    let step := fun (s : State) (n : Nat) => s.sf VT_BOOT_STEP n
    if !env.vaultOk then (((s.sf VT_STAT_INTEGRITY 0).report { org := org 0x14 0, cause := 0x1401, cls := sable })).bootTo 2 0x0A
    else if s.rf VT_STAT_LIFECYCLE = 0 then s.bootTo 2 8
    else if s.rf VT_STAT_LIFECYCLE ≠ 1 then s.bootTo 2 9
    else if s.rf VT_BOOT_BOOT_SRC = 3 then (step s 1).bootTo 4 0
    else match s.pickSlot with
      | .error (e, fb) =>
        (((step s (if e = 7 then 3 else 1)).sb VT_BOOT_FALLBACK fb).when (e == 7) (fun s => (s.sf VT_STAT_PATCH_LOCKED 1).sf KC_UCODE_ID_LOCKED 1)).bootTo 2 e
      | .ok (slot, fb, a, p) =>
        let s := step ((s.useSections slot fb a p).bootStaging env.stage) 4
        match sharedPop env.dimms with
        | none => s.bootTo 2 0x0B
        | some pop =>
          let s := s.bootMemory env pop
          if 2 < s.notUp || !env.hbm then s.bootTo 2 0x0C
          else
            let s := (step ((s.bootCores env).bootIsles.bootLinks env) 6).keepRetired
            let s := if s.isSable then s else (step s 7).bootJournal env finds
            let s := step s 8
            if s.isSable then s.bootTo 3 0
            else
              let s := ((s.bootTo 1 0).sf MP_STAT_STATE 0).svnCommit a p
              let s := s.when (s.tw.strap && !s.peerRecent) (fun s => { s with tw := { s.tw with train := true } })
              s.fltSync.chSync

/-! ### Firmware staging (R723, R724) -/

def State.stageEnd (s : State) (c : Cmd) (status result : Nat) : State :=
  let s := { s with vt := { s.vt with staged := [] } }
  let s := ((s.sf VT_STAGE_BUSY 0).sf VT_STAGE_RESULT result).raise 0x3E3
  (s.sb VT_STAGE_PENDING (result == 1)).finish c status

/-- Step 1 and 2: the length, and the target's header erased. -/
def State.stageBegin (s : State) (c : Cmd) : State :=
  let img := c.p 0 % 16
  let len := c.p 3
  let t := s.rf VT_STAGE_TARGET
  if img ≠ 1 ∧ img ≠ 2 ∨ len = 0 ∨ (if img = 1 then 2 ^ 24 else 65536) < len then s.finish c stBAD_PARAM
  else if s.rb VT_STAGE_BUSY then s.finish c stDENIED
  else
    -- The pending image's Stage-1 section is the source of a patch's copy, so that its offset and length are kept in the items.
    let src := if s.rb VT_STAGE_PENDING then t else 1 - t
    let h := slotHead (s.flash src)
    let body := slotBytes (s.flash src) ((h.map (fun h => h.s1off)).getD 0) ((h.map (fun h => h.s1len)).getD 0)
    let s := (s.sf VT_STAGE_BUSY 1).sf VT_STAGE_IMAGE img
    let s := if img = 1 then s.setFlash t (List.replicate 4096 0 ++ (s.flash t).drop 4096)
      else s.setFlash t (List.replicate 4096 0 ++ body.map (fun b => BitVec.ofNat 8 b))
    ({ s with vt := { s.vt with staged := [] } }).longPhase c 2 len [body.length]

/-- The header that the Vault writes (step 5). -/
def stageHeader (seq : Nat) (h : SlotHead) : List Nat :=
  let b := toBytes 0x31544F42 4 ++ toBytes seq 4 ++ toBytes h.s1off 4 ++ toBytes h.s1len 4 ++ toBytes h.poff 4 ++ toBytes h.plen 4 ++ toBytes 0 36
  b ++ toBytes (crc32c b) 4

/-- Steps 3 to 5 once the whole image is read. -/
def State.stageFinish (s : State) (c : Cmd) : State :=
  let t := s.rf VT_STAGE_TARGET
  let img := s.vt.staged
  let n := c.lop.items.getD 0 0
  let pat := 4096 + (n + 4095) / 4096 * 4096
  let (lay, h) : List (BitVec 8) × Option SlotHead :=
    if c.p 0 % 16 = 1 then (List.replicate 4096 0 ++ img.drop 4096, slotHead img)
    else
      let body := ((s.flash t).drop 4096).take n
      (List.replicate 4096 0 ++ body ++ List.replicate (pat - 4096 - body.length) 0 ++ img, some ⟨0, 4096, n, pat, img.length⟩)
  let s := s.setFlash t lay
  match h with
  | none => s.stageEnd c stFAULTED 2
  | some h =>
    if !h.inside then s.stageEnd c stFAULTED 2
    else
      let one := s.loadSection (slotBytes lay h.s1off h.s1len) 1
      let two := if h.plen = 0 then none else some (s.loadSection (slotBytes lay h.poff h.plen) 2)
      match one, two with
      | .error e, _ => s.stageEnd c stFAULTED e
      | _, some (.error e) => s.stageEnd c stFAULTED e
      | _, _ =>
        let seq := (((slotHead (s.flash (1 - t))).map (fun h => h.seq)).getD 0 + 1) % 2 ^ 32
        let s := s.setFlash t ((stageHeader seq h).map (fun b => BitVec.ofNat 8 b) ++ lay.drop 64)
        (s.sf VT_STAGE_SEQ seq).stageEnd { c with lop := { c.lop with pos := c.lop.total } } stOK 1

/-- FW_STAGE goes on with the next 64 KiB block: what the bus read answers, and whether the flash takes it. -/
def State.stageNext (s : State) (c : Cmd) (block : Option (List (BitVec 8))) (flashOk : Bool) : State :=
  if c.lop.cancel then s.stageEnd c stCANCELLED 9
  else match block with
    | none => s.stageEnd c stFAULTED 7
    | some b =>
      if !flashOk then s.stageEnd c stFAULTED 8
      else
        let want := min 65536 (c.lop.total - s.vt.staged.length)
        let b := b.take want
        let s := { s with vt := { s.vt with staged := s.vt.staged ++ b ++ List.replicate (want - b.length) 0 } }
        let s := s.longPos c s.vt.staged.length
        if c.lop.total ≤ s.vt.staged.length then s.stageFinish (s.curCmd c) else s

/-! ### Resets (19 R788-R796) -/

/-- What a power-on (`on`) or a module reset leaves (R796): everything at its reset value but what that table keeps. -/
def State.rebooted (s : State) (on : Bool) (x : Straps) : State :=
  let z := State.reset
  let units := if on then [] else s.fc.units.map (fun (u : Nat × UnitSt) =>
    (u.1, { u.2 with st := if u.2.st = 3 ∧ u.1 ≠ org 0x13 0 then 3 else 0, quietEnd := 0,
                     returns := (u.2.returns.filter (fun t => s.now < t)).map (fun t => t - s.now) }))
  let z := { z with
    ch := { z.ch with txns := s.ch.txns, ring := s.ch.ring, tail := s.ch.tail, jsn := s.ch.jsn, supA := s.ch.supA, supB := s.ch.supB, tops := s.ch.tops },
    fc := { z.fc with fj := s.fc.fj, units := units },
    fr := { z.fr with nodes := s.fr.nodes },
    tw := { z.tw with strap := x.twinEn, jrnPaired := s.tw.jrnPaired, lanes := 0 },
    vt := { z.vt with slotA := s.vt.slotA, slotB := s.vt.slotB, pwrFail := s.vt.pwrFail },
    pw := { z.pw with samples := if on then [] else s.pw.samples },
    leaseSerial := if on then 0 else s.leaseSerial, outs := s.outs, freeCtr := s.freeCtr, pending := s.pending }
  let z := ((z.wreg rFC_FJ 0 (s.reg rFC_FJ 0)).sf VT_SVN_STAGE1_FUSE (s.rf VT_SVN_STAGE1_FUSE)).sf VT_SVN_PATCH_FUSE (s.rf VT_SVN_PATCH_FUSE)
  let z := if on then z.sf FC_FJ_POWER_ON ((s.rf FC_FJ_POWER_ON + 1) % 65536)
    else
      let z := ((z.sf FC_STAT_SABLE (s.rf FC_STAT_SABLE)).sf VT_STAT_TAINTED (s.rf VT_STAT_TAINTED)).sf VT_DEBUG_FAILS (s.rf VT_DEBUG_FAILS)
      (z.sf VT_DEBUG_LOCKED (s.rf VT_DEBUG_LOCKED)).sf VT_DEBUG_GRANTS (s.rf VT_DEBUG_GRANTS)
  let z := z.each (List.range 167) (fun z i => (z.sf IS_AGE_HOURS (s.rf IS_AGE_HOURS i) i).sf IS_AGE_STATE (if on then 0 else s.rf IS_AGE_STATE i) i)
  let z := (z.sf VT_BOOT_BOOT_SRC x.bootSrc.val).sb FC_STAT_FLT_MODE x.fltMode
  let z := z.sf KC_SPARE_CFG_POOL_MIN (2 ^ (x.spareMin.val + 1))
  let z := z.when (!on) (fun z => z.sf CH_CFG_STAGE (s.rf CH_CFG_STAGE))
  let z := (z.sf CH_STAT_JOURNAL 1).sf CH_REPLAY_TRIGGER (if on then 0 else 1)
  z.when x.twinEn (fun z => z.sf TW_STAT_GATE 0)

/-- A command of the Operator Host that a warm device reset ends with no reply (R795 step 1): one that must run to its end keeps running. The Management
Port's configuration, slots and MSI-X table go back to their reset values (R796). -/
def State.dropHostCmds (s : State) : State :=
  let s := { s with mp := { s.mp with
    cmds := (s.mp.cmds.filter (fun (c : Cmd) => c.src != 0 || decide (2 ≤ c.phase))).map (fun (c : Cmd) =>
      if c.src = 0 then { c with src := 700, slotHeld := false, lop := { c.lop with cancel := true } } else c),
    asms := s.mp.asms.filter (fun (a : Asm) => a.cmd.src != 0), bar2 := [],
    busMaster := false, msixEn := false, msixMask := false, msix := [], msixPend := [] } }
  let s := (s.sf MP_HQ_FREE_FREE (2 ^ 64 - 1)).mpSync
  s.each (s.mp.cmds.filter (fun (c : Cmd) => c.src == 700 && c.phase == 3)) (fun s c =>
    if c.op = 0x0502 then s.rotCancel else if c.op = 0x0310 then s.commCancel c else s)

/-- WARM_DEVICE_RESET (R795), with FLR's record (R809). -/
def State.warmReset (s : State) : State :=
  if s.rf VT_BOOT_STATE ≠ 1 ∧ s.rf VT_BOOT_STATE ≠ 3 then s
  else
    let s := (s.report { org := org 0x10 0, cause := 0x1004, cls := slate }).dropHostCmds
    let s := ((s.wreg rCH_HOST_CQ_CFG 0 (rCH_HOST_CQ_CFG.resetVal 0)).wreg rCH_HOST_CQ_TAIL 0 0).wreg rCH_HOST_CQ_HEAD 0 0
    let s := if s.isSable then s else ((s.sf CH_STAT_JOURNAL 1).sf CH_REPLAY_TRIGGER 2).replay []
    if s.rf MP_STAT_STATE = 2 then s
    else (((s.sf MP_STAT_STATE 1).raise 0x3C0).restartCmds.sf MP_STAT_STATE 0).raise 0x3C0

/-- POWER_LOSS (R790, 11 R447): an entry that is being written is left invalid. -/
def State.powerLoss (s : State) (torn : Bool) : State :=
  let s := s.when (torn && decide (s.ch.ring.length < ringSize)) (fun s =>
    { s with ch := { s.ch with ring := s.ch.ring ++ [⟨s.ch.jsn, 0, 0, none, false⟩], jsn := (s.ch.jsn + 1) % 2 ^ 48 } })
  ({ s with powered := false }).setFlt false false

/-- PWR_FAIL_N low for 1 us, or high again (R793). -/
def State.pwrFailPin (s : State) (low : Bool) : State :=
  if s.vt.pwrFail = low then s
  else
    let s := { s with vt := { s.vt with pwrFail := low } }
    if low then (((s.report { org := org 0x18 164, cause := 0x0008, cls := slate }).raise 0x3C6)).askTakeover else s

end Sys2Proof.Machine
end

