-- ==== Sys2Proof/Machine/ExecChannel.lean ====
section
/-! DEFINITION. The commands of the channel subsystem and the Journal (11). The channel registers follow each of them (R483, R486). -/

namespace Sys2Proof.Machine

/-- A channel command's effect, the registers of channels and processors following. -/
def runCh (f : State → State) (s : State) : Host.Outcome State Fault Refusal := run (fun s => (f s).chSync) s

/-- The bytes of an operand. -/
def byteNats (l : List Byte) : List Nat := l.map (fun (b : Byte) => b.toNat)

/-- A step of the processor that acts for a transaction, its repetition first (R473). -/
def State.txnStep (s : State) (tid : Nat) (e : ProcEnv) (f : State → State) : State := f (s.procRetry (s.txnProc tid) e.again)

/-- DOORBELL_WRITE: by virtual core `vcore` of an instance (R430). -/
def execDoorbellWrite (inst : BitVec 9) (vcore : Fin 64) (d : Fin 16) (value : Word) (bad : Fin 4) (s : State) : Host.Outcome State Fault Refusal :=
  runCh (fun s =>
    let r := s.doorbell inst.toNat d.val value.toNat bad.val
    r.1.setVc (vkey inst.toNat vcore.val) (fun c => { c with acks := Map.put c.acks d.val (BitVec.ofNat 64 r.2) })) s

/-- CHAIN_CHECK: a processor takes a transaction (R428). `host` holds the lists read through the Management Port. -/
def execChainCheck (proc : Fin 16) (host : List (List Byte)) (env : ProcEnv) (s : State) : Host.Outcome State Fault Refusal :=
  runCh (fun s => (s.procRetry proc.val env.again).chainCheck proc.val (host.map byteNats) env.bad.val) s

/-- DISPATCH (R448). -/
def execDispatch (tid : Word) (env : ProcEnv) (s : State) : Host.Outcome State Fault Refusal :=
  runCh (fun s => s.txnStep tid.toNat env (fun s => s.dispatch tid.toNat env.bad.val)) s

/-- CCE_OUTCOME (R437). -/
def execCceOutcome (tid : Word) (far : FarEnd) (env : ProcEnv) (s : State) : Host.Outcome State Fault Refusal :=
  runCh (fun s => s.txnStep tid.toNat env (fun s => s.cceOutcome tid.toNat far env.bad.val)) s

/-- DATA_CHUNK (R464): `host` holds the Operator Host's bytes of the chunk, `far` the far end's answer to a read. -/
def execDataChunk (tid : Word) (host : List Byte) (far : FarEnd) (env : ProcEnv) (s : State) : Host.Outcome State Fault Refusal :=
  runCh (fun s => s.txnStep tid.toNat env (fun s => s.dataChunk tid.toNat (byteNats host) far env.bad.val)) s

/-- COMMIT_REPEAT (R461). -/
def execCommitRepeat (tid : Word) (env : ProcEnv) (s : State) : Host.Outcome State Fault Refusal :=
  runCh (fun s => s.txnStep tid.toNat env (fun s => s.commitRepeat tid.toNat env.bad.val)) s

/-- COMPLETION_WRITE (R441, R442). -/
def execCompletionWrite (tid : Word) (env : ProcEnv) (s : State) : Host.Outcome State Fault Refusal :=
  runCh (fun s => s.txnStep tid.toNat env (fun s =>
    match s.txn tid.toNat with
    | some t => s.completionWrite t false env.bad.val
    | none => s)) s

/-- COMPLETION_RETRY (R830). -/
def execCompletionRetry (inst : BitVec 9) (cls : Fin 3) (d : Fin 16) (bad : Fin 4) (s : State) : Host.Outcome State Fault Refusal :=
  runCh (fun s => s.completionRetry inst.toNat cls.val d.val bad.val) s

/-- CARRY (R450). -/
def execCarry (bad : Fin 4) (s : State) : Host.Outcome State Fault Refusal := runCh (fun s => s.carry bad.val) s

/-- SUPERBLOCK_REWRITE (R449). -/
def execSuperblockRewrite (s : State) : Host.Outcome State Fault Refusal := run State.superWrite s

/-- REPLAY (R470). -/
def execReplay (finds : List JrnFinding) (s : State) : Host.Outcome State Fault Refusal := run (fun s => s.replay finds) s

/-- CHANNEL_PROCESSOR_RETIREMENT (R473). -/
def execChannelProcessorRetirement (proc : Fin 16) (s : State) : Host.Outcome State Fault Refusal := runCh (fun s => s.procRetire proc.val) s

/-- LOOP_CHUNK (R459). -/
def execLoopChunk (tid : Word) (env : ProcEnv) (s : State) : Host.Outcome State Fault Refusal :=
  runCh (fun s => s.txnStep tid.toNat env (fun s => s.loopChunk tid.toNat env.bad.val)) s

/-- DATAGRAM_RECEIVE (R457). -/
def execDatagramReceive (env : ProcEnv) (s : State) : Host.Outcome State Fault Refusal :=
  runCh (fun s => ((s.procRetry (s.rf CH_CHAN_PROC ((s.ch.inbox.headD ⟨0, []⟩).chan)) env.again)).dgramReceive env.bad.val) s

/-- ACK_RECEIVE (R456). -/
def execAckReceive (env : ProcEnv) (s : State) : Host.Outcome State Fault Refusal :=
  runCh (fun s => ((s.procRetry (s.rf CH_CHAN_PROC ((s.ch.inbox.headD ⟨0, []⟩).chan)) env.again)).ackReceive env.bad.val) s

/-- RTO_EXPIRY (R456). -/
def execRtoExpiry (tid : Word) (env : ProcEnv) (s : State) : Host.Outcome State Fault Refusal :=
  runCh (fun s => s.txnStep tid.toNat env (fun s => s.rtoExpiry tid.toNat env.bad.val)) s

/-- HOST_CQ_ENABLE: a write of CH_HOST_CQ_CFG (R484, R485). -/
def execHostCqEnable (value : Word) (s : State) : Host.Outcome State Fault Refusal := run (fun s => s.hostCqEnable value.toNat) s

/-- HOST_CQ_HEAD_WRITE (R485). -/
def execHostCqHeadWrite (agent : Agent) (value : Word) (s : State) : Host.Outcome State Fault Refusal :=
  run (fun s => s.hostCqHead agent value.toNat) s

/-- CHANNEL_DEFINE (R423). -/
def execChannelDefine (s : State) : Host.Outcome State Fault Refusal := run (fun s => s.onCmd 0x0301 (fun _ => true) State.doChanDefine) s

/-- CHANNEL_UNDEFINE (R425). -/
def execChannelUndefine (s : State) : Host.Outcome State Fault Refusal := run (fun s => s.onLong 0x0302 State.undefBegin State.undefNext) s

/-- CHANNEL_QUERY (R421). -/
def execChannelQuery (s : State) : Host.Outcome State Fault Refusal := run (fun s => s.onCmd 0x0303 (fun _ => true) State.doChanQuery) s

/-- TXN_QUERY (R436). -/
def execTxnQuery (s : State) : Host.Outcome State Fault Refusal := run (fun s => s.onCmd 0x0304 (fun _ => true) State.doTxnQuery) s

/-- TXN_CANCEL (R466): not one whose outcome is awaited. -/
def execTxnCancel (s : State) : Host.Outcome State Fault Refusal :=
  runCh (fun s => s.onCmd 0x0305 (fun c => c.lop.items.isEmpty) State.doTxnCancel) s

/-- JOURNAL_REPORT (R471). -/
def execJournalReport (s : State) : Host.Outcome State Fault Refusal := run (fun s => s.onLong 0x0306 State.reportBegin State.reportNext) s

/-- JOURNAL_ACK (R471). -/
def execJournalAck (bad : Fin 4) (s : State) : Host.Outcome State Fault Refusal :=
  run (fun s => s.onCmd 0x0307 (fun _ => true) (fun s c => s.doJournalAck c bad.val)) s

/-- CHANNEL_SUBMIT (R434). -/
def execChannelSubmit (bad : Fin 4) (s : State) : Host.Outcome State Fault Refusal :=
  runCh (fun s => s.onLong 0x0308 State.submitBegin (fun s c => s.submitNext c bad.val)) s

end Sys2Proof.Machine
end

