-- ==== Sys2Proof/Machine/ExecCommand.lean ====
section
/-! DEFINITION. The commands of the front end and Sheepdog (14). -/

namespace Sys2Proof.Machine

/-- MP_HQ_SUBMIT: the Operator Host's write of the register (R581). -/
def execMpHqSubmit (slot : Fin 64) (s : State) : Host.Outcome State Fault Refusal := run (fun s => s.hqSubmit slot.val) s

/-- IP_CMD_SUBMIT: an instance's write of the register (R582). -/
def execIpCmdSubmit (inst : BitVec 9) (slot : Fin 4) (s : State) : Host.Outcome State Fault Refusal :=
  run (fun s => s.ipSubmit inst.toNat slot.val) s

/-- URGENT_ADMISSION (R589). -/
def execUrgentAdmission (s : State) : Host.Outcome State Fault Refusal := run (fun s => s.urgentAdmit) s

/-- COMMAND_START (R589). -/
def execCommandStart (s : State) : Host.Outcome State Fault Refusal := run (fun s => s.startCmd) s

/-- BULK_PROMOTION (R589). -/
def execBulkPromotion (s : State) : Host.Outcome State Fault Refusal := run (fun s => s.promoteBulk) s

/-- PROGRESS_REPLY (R594). -/
def execProgressReply (s : State) : Host.Outcome State Fault Refusal := run (fun s => s.progressReply) s

/-- SEGMENT_TIMEOUT (R596). -/
def execSegmentTimeout (s : State) : Host.Outcome State Fault Refusal := run (fun s => s.segmentTimeout) s

/-- LOAD_MEASUREMENT: the measured utilisation in percent is an operand (R597). -/
def execLoadMeasurement (util : Fin 101) (s : State) : Host.Outcome State Fault Refusal := run (fun s => s.loadMeasure util.val) s

/-- SHEEPDOG_RESTART: its cause is an operand (R599, R612). -/
def execSheepdogRestart (cause : RestartCause) (s : State) : Host.Outcome State Fault Refusal :=
  run (fun s => s.sheepRestart (match cause with | .lockstep => 1 | .sram => 3 | .firmware => 4)) s

/-- WATCHDOG_EXPIRY (R599). -/
def execWatchdogExpiry (s : State) : Host.Outcome State Fault Refusal := run (fun s => s.sheepRestart 2) s

/-- NOP (R603). -/
def State.doNop (s : State) : State :=
  s.onCmd 0x0000 (fun _ => true) (fun s c => s.finish c stOK [s.rf MP_STAT_FW_REV, s.rf MP_LOAD_UTIL])

def execNop (s : State) : Host.Outcome State Fault Refusal := run (fun s => s.doNop) s

/-- The segmented command under assembly whose TAG a command names: it is open from its first packet (R584, R596). -/
def State.assembling (s : State) (c : Cmd) : Option Asm := s.mp.asms.find? (fun a => a.cmd.src == c.src && a.cmd.tag == c.p 0)

/-- OP_STATUS (R603). -/
def State.doOpStatus (s : State) : State :=
  s.onCmd 0x0001 (fun _ => true) (fun s c =>
    if bit (c.p 1) 0 then
      let go := fun (busy pos total : Nat) =>
        s.finish { c with lop := { c.lop with pfmt := 2, pos := pos, total := total } } stOK [busy]
      match bits (c.p 1) 15 8 with
      | 1 => go (s.rf MA_REBUILD_BUSY) (s.rf MA_REBUILD_POS) (s.rf MA_CAP_STRIPES)
      | 2 => go 1 (s.rf MA_SCRUB_POS) (s.rf MA_CAP_STRIPES)
      | 3 => go (s.rf CH_REPLAY_BUSY) (s.rf CH_REPLAY_POS) (s.rf CH_REPLAY_TOTAL)
      | _ => s.finish c stBAD_PARAM
    else
      match s.mp.cmds.find? (fun d => d.src == c.src && d.tag == c.p 0 && !d.same c) with
      | some d => s.finish { c with lop := d.lop } stIN_PROGRESS [d.op]
      | none => match s.assembling c with
        | some a => s.finish c stIN_PROGRESS [a.cmd.op]
        | none => s.finish c stBAD_PARAM)

def execOpStatus (s : State) : Host.Outcome State Fault Refusal := run (fun s => s.doOpStatus) s

end Sys2Proof.Machine
end

