-- ==== Sys2Proof/Machine/ExecBoot.lean ====
section
/-! DEFINITION. The rows of the Vault, the boot and the resets (17, 19), and OP_CANCEL (14). -/

namespace Sys2Proof.Machine

/-- BOOT (R717). -/
def execBoot (env : BootEnv) (finds : List JrnFinding) (s : State) : Host.Outcome State Fault Refusal := runCh (fun s => s.boot env finds) s

/-- VAULT_INTEGRITY (R703). -/
def execVaultIntegrity (err : VaultErr) (s : State) : Host.Outcome State Fault Refusal := run (fun s => s.vaultError err) s

/-- GRANULE_CHANGE (R706). -/
def execGranuleChange (granule : BitVec 21) (secure : Bool) (s : State) : Host.Outcome State Fault Refusal :=
  run (fun s => s.granuleChange granule.toNat secure) s

/-- RECALL_DEADLINE (R710) of a lease index. -/
def execRecallDeadline (lease : Fin 32) (s : State) : Host.Outcome State Fault Refusal := run (fun s => s.recallDeadline lease.val) s

/-- DBG_AUTH_CHALLENGE and DBG_AUTH_TOKEN (R726). -/
def execDbgAuthChallenge (s : State) : Host.Outcome State Fault Refusal := run (fun s => s.dbgChallenge) s
def execDbgAuthToken (token : List Byte) (s : State) : Host.Outcome State Fault Refusal := run (fun s => s.dbgToken (byteNats token)) s

/-- FW_STAGE (R723): the command starts, or its next block arrives. -/
def execFwStage (block : Option (List Byte)) (flashOk : Bool) (s : State) : Host.Outcome State Fault Refusal :=
  run (fun s => s.onLong 0x0A01 State.stageBegin (fun s c => s.stageNext c block flashOk)) s

/-- Which long operations OP_CANCEL ends (R594). -/
def canCancel (op : Nat) : Bool := [0x0105, 0x0106, 0x0306, 0x0310, 0x0420, 0x0502, 0x0711, 0x0A01].contains op

/-- OP_CANCEL (R603). -/
def State.doOpCancel (s : State) (c : Cmd) : State :=
  match s.mp.cmds.find? (fun (d : Cmd) => d.src == c.src && d.tag == c.p 0 && !d.same c) with
  | none => match s.assembling c with
    | some a => (((s.dropAsm a.cmd).refuseCmd a.cmd stCANCELLED []).finish c stOK [0])
    | none => s.finish c stOK [2]
  | some d =>
    if d.phase < 2 then (s.finish d stCANCELLED).finish c stOK [0]
    else if !canCancel d.op || (d.op == 0x0310 && d.phase == 3 && decide (5 ≤ s.rf FR_COMM_STEP (d.p 0 % 32))) then s.finish c stOK [1]
    else
      let s := if d.phase = 2 then s.finish d stCANCELLED
        else if d.op = 0x0502 then s.rotCancel
        else if d.op = 0x0310 then s.commCancel d
        else if d.op = 0x0711 then s.testEnd 3
        else s.putCmd { d with lop := { d.lop with cancel := true } }
      s.finish c stOK [0]

def execOpCancel (s : State) : Host.Outcome State Fault Refusal := run (fun s => s.onCmd 0x0002 (fun _ => true) State.doOpCancel) s

/-- POWER_ON (R790, R791): with the straps of the board. -/
def execPowerOn (straps : Straps) (s : State) : Host.Outcome State Fault Refusal := .next ((s.rebooted true straps).settle s.pending)

/-- MODULE_RESET (R794): a pulse on RESET_N. -/
def execModuleReset (straps : Straps) (s : State) : Host.Outcome State Fault Refusal := run (fun s => s.rebooted false straps) s

/-- WARM_DEVICE_RESET (R795). -/
def execWarmDeviceReset (s : State) : Host.Outcome State Fault Refusal := runCh (fun s => s.warmReset) s

/-- POWER_LOSS (R790). -/
def execPowerLoss (torn : Bool) (s : State) : Host.Outcome State Fault Refusal := run (fun s => s.powerLoss torn) s

/-- PWR_FAIL_N (R793). -/
def execPwrFailN (low : Bool) (s : State) : Host.Outcome State Fault Refusal := run (fun s => s.pwrFailPin low) s

end Sys2Proof.Machine
end

