-- ==== Sys2Proof/Machine/ExecCipher.lean ====
section
/-! DEFINITION. The commands of the cipher engine and of leases (10, 17). -/

namespace Sys2Proof.Machine

/-- CIPHER_DESCRIPTOR_FETCH: the engine's choice among an instance's queues is an operand (R385). -/
def execCipherDescriptorFetch (queue : Fin 16) (s : State) : Host.Outcome State Fault Refusal := run (fun s => s.cyFetch queue.val) s

/-- CIPHER_CHUNK on a primary and a checker, with how its checks end (R383, R404, R405). -/
def execCipherChunk (primary checker : Fin 8) (result : CheckEnd) (s : State) : Host.Outcome State Fault Refusal :=
  run (fun s => s.cyChunk primary.val checker.val result) s

/-- CIPHER_PIPE_RETIREMENT (R406). -/
def execCipherPipeRetirement (pipe : Fin 8) (s : State) : Host.Outcome State Fault Refusal := run (fun s => s.cyRetire pipe.val) s

/-- ROTATION_DRAIN_END (R393). -/
def execRotationDrainEnd (s : State) : Host.Outcome State Fault Refusal := run (fun s => s.rotDrainEnd) s

/-- REWRAP_UNIT (R394). -/
def execRewrapUnit (primary checker : Fin 8) (result : CheckEnd) (s : State) : Host.Outcome State Fault Refusal :=
  run (fun s => s.rewrapUnit primary.val checker.val result) s

/-- KEY_ERASE_COMPLETE (R390). -/
def execKeyEraseComplete (slot : BitVec 12) (s : State) : Host.Outcome State Fault Refusal := run (fun s => s.keyEraseComplete slot.toNat) s

/-- KEY_LOAD (R389). -/
def execKeyLoad (via : Via) (s : State) : Host.Outcome State Fault Refusal :=
  run (fun s => s.onVia via 0x0501 (fun _ => true) State.doKeyLoad) s

/-- KEY_ROTATE (R393). -/
def execKeyRotate (via : Via) (s : State) : Host.Outcome State Fault Refusal :=
  run (fun s => s.onVia via 0x0502 (fun _ => true) State.doKeyRotate) s

/-- KEY_ERASE (R390): not one that waits already. -/
def execKeyErase (via : Via) (s : State) : Host.Outcome State Fault Refusal :=
  run (fun s => s.onVia via 0x0503 (fun c => c.lop.items.isEmpty) State.doKeyErase) s

/-- LEASE_TAKE of cipher resources (R407). -/
def execLeaseTakeCipher (via : Via) (s : State) : Host.Outcome State Fault Refusal :=
  run (fun s => s.onVia via 0x0510 (fun c => c.p 0 != 2) State.doLeaseCipher) s

/-- LEASE_TAKE of Vault SRAM (17 R708). -/
def execLeaseTakeVaultSram (via : Via) (s : State) : Host.Outcome State Fault Refusal :=
  run (fun s => s.onVia via 0x0510 (fun c => c.p 0 == 2) State.doLeaseSram) s

/-- LEASE_RELEASE (R410): not one that waits already. -/
def execLeaseRelease (via : Via) (s : State) : Host.Outcome State Fault Refusal :=
  run (fun s => s.onVia via 0x0511 (fun c => c.lop.items.isEmpty) State.doLeaseRelease) s

end Sys2Proof.Machine
end

