-- ==== Sys2Proof/Machine/ExecCompress.lean ====
section
/-! DEFINITION. The commands of the compression engine (09). -/

namespace Sys2Proof.Machine

/-- COMPRESSION_DESCRIPTOR_FETCH: the engine's choice of queue and pipe are operands (R350). -/
def execCompressionDescriptorFetch (queue : Fin 16) (pipe : Fin 4) (s : State) : Host.Outcome State Fault Refusal :=
  run (fun s => s.czFetch queue.val pipe.val) s

/-- COMPRESSION_CHUNK on a pipe, with how many of its attempts fail their check (R366, R372). -/
def execCompressionChunk (pipe : Fin 4) (fails : Fin 3) (s : State) : Host.Outcome State Fault Refusal :=
  run (fun s => s.czChunk pipe.val fails.val) s

/-- COMPRESSION_PIPE_RETIREMENT (R372). -/
def execCompressionPipeRetirement (pipe : Fin 4) (s : State) : Host.Outcome State Fault Refusal :=
  run (fun s => s.czRetire pipe.val) s

/-- SEGMENT_WRITE on a pipe (R370). -/
def execSegmentWrite (pipe : Fin 4) (fails : Fin 3) (s : State) : Host.Outcome State Fault Refusal :=
  run (fun s => s.segmentWrite pipe.val fails.val) s

/-- HIST_LINGER_EXPIRY (R370). -/
def execHistLingerExpiry (lane : Fin 64) (s : State) : Host.Outcome State Fault Refusal :=
  run (fun s => s.histLinger lane.val) s

/-- HIST_SINK_DISABLE (R368). -/
def execHistSinkDisable (s : State) : Host.Outcome State Fault Refusal := run (fun s => s.histDisable) s

end Sys2Proof.Machine
end

