-- ==== Sys2Proof/Machine/ExecCores.lean ====
section
/-! DEFINITION. The rows of core sparing, store buffers and time-slicing (04, 05, 13): one meaning each. -/

namespace Sys2Proof.Machine

/-- NO_COMMIT_TIMEOUT (04 R146). -/
def execNoCommitTimeout (core : Fin 64) (s : State) : Host.Outcome State Fault Refusal := run (fun s => s.noCommit core.val) s

/-- PORT_REQUEST_TIMEOUT (04 R146): a failed check in the port on traffic of this core alone. -/
def execPortRequestTimeout (req : PortRequest) (s : State) : Host.Outcome State Fault Refusal := run (fun s => s.portTimeout req.core.val req.store) s

/-- STORE_BUFFER_DRAIN (05 R198). -/
def execStoreBufferDrain (core : Fin 64) (s : State) : Host.Outcome State Fault Refusal := run (fun s => s.sbDrainOne core.val) s

/-- SPARING (04 R148). -/
def execSparing (tile : Fin 4) (env : SpareEnv) (s : State) : Host.Outcome State Fault Refusal :=
  run (fun s => s.spare tile.val env.fails env.lost env.elapsed.toNat) s

/-- QUEUED_SPARING_START (04 R153). -/
def execQueuedSparingStart (tile : Fin 4) (s : State) : Host.Outcome State Fault Refusal := run (fun s => s.queuedSparing tile.val) s

/-- PLANNED_MOVE (04 R160, R161). -/
def execPlannedMove (tile : Fin 4) (env : SpareEnv) (s : State) : Host.Outcome State Fault Refusal :=
  run (fun s => s.plannedMove tile.val env.fails env.lost env.elapsed.toNat) s

/-- MOVE (04 R169). -/
def execMove (core : Fin 64) (agent : Agent) (s : State) : Host.Outcome State Fault Refusal := run (fun s => s.moveWrite agent core.val) s

/-- The end of a unit's automatic test answers a SELF_TEST that has joined it (15 R644). -/
def State.joinIfEnded (old s : State) (o : Nat) (pass : Bool) : State :=
  if (old.unit o).st = 1 ∧ (s.unit o).st ≠ 1 then s.joinTest o pass else s

/-- EXTENDED_SELF_TEST_END (04 R156). -/
def execExtendedSelfTestEnd (core : Fin 64) (pass : Bool) (s : State) : Host.Outcome State Fault Refusal :=
  run (fun s =>
    let t := s.extTestEnd core.val pass
    s.joinIfEnded (s.joinIfEnded t (org 1 core.val) pass) (org 2 (core.val / 4)) pass) s

/-- SPARE_SELF_TEST (04 R144, R145). -/
def execSpareSelfTest (core : Fin 64) (pass : Bool) (s : State) : Host.Outcome State Fault Refusal := run (fun s => s.spareTest core.val pass) s

/-- CHECKPOINT_SCRUB (04 R140). -/
def execCheckpointScrub (core : Fin 64) (err : BitErr) (s : State) : Host.Outcome State Fault Refusal := run (fun s => s.ckptScrub core.val err) s

/-- UCODE_RELOAD (04 R167). -/
def execUcodeReload (reload : Reload) (s : State) : Host.Outcome State Fault Refusal := run (fun s => s.ucodeReload reload.core.val reload.ends) s

/-- QUAD_LOSS (05 R193). -/
def execQuadLoss (quad : Fin 16) (ckpt : Bool) (s : State) : Host.Outcome State Fault Refusal := run (fun s => s.quadLoss quad.val ckpt) s

/-- DISPATCH_SWITCH (13 R551). -/
def execDispatchSwitch (core : Fin 64) (s : State) : Host.Outcome State Fault Refusal := run (fun s => s.dispatchSwitch core.val) s

/-- SLICE_EXPIRY (13 R551). -/
def execSliceExpiry (core : Fin 64) (s : State) : Host.Outcome State Fault Refusal := run (fun s => s.sliceEnd core.val) s

/-- CONTROL_PREEMPT (13 R552). -/
def execControlPreempt (core : Fin 64) (s : State) : Host.Outcome State Fault Refusal := run (fun s => s.controlPreempt core.val) s

end Sys2Proof.Machine
end

