-- ==== Sys2Proof/Machine/Micro.lean ====
section
/-! DEFINITION. The micro-sequencer of a core (04 R162-R167): microwords, redirection, next-address control and waits. -/

namespace Sys2Proof.Machine

/-- The patch address that a core's redirect table gives a ROM microword address (R162, R165): that of the first valid entry which names it. -/
def redirectOf (copy : List Byte) (a : Nat) : Option Nat :=
  if copy.isEmpty then none
  else (List.range 64).findSome? (fun k =>
    let e := (Config.redirect copy k).toNat
    if bit e 25 && bits e 24 11 == a then some (0x4000 + bits e 10 0) else none)

/-- Where the microword of an address is fetched from (R165). -/
def fetchAddr (copy : List Byte) (a : Nat) : Nat := if a < 0x4000 then (redirectOf copy a).getD a else a

/-- The microword and the nano-word at an address of a core's stores (R162). -/
def microWord (copy : List Byte) (a : Nat) : Nat := if a < 0x4000 then (Config.microRom a).toNat else (Config.patchWord copy (a - 0x4000)).toNat
def nanoWord (copy : List Byte) (n : Nat) : Nat := if n < 0x300 then (Config.nanoRom n).toNat else (Config.patchNano copy (n - 0x300)).toNat

/-- The fields of a microword (R163), and TARGET of a nano-word. -/
def mwNano (w : Nat) : Nat := bits w 19 10
def mwNxt (w : Nat) : Nat := bits w 9 6
def mwWait (w : Nat) : Nat := bits w 5 0
def nwTarget (n : Nat) : Nat := bits n 191 177

/-- Next-address control (R163): `seq` is the next address in sequence, `cond` the condition that the nano-word tests. NXT 6 and 7 end the instruction, and so do the
reserved encodings (DESIGN CHOICE, log 61). -/
def Useq.next (u : Useq) (nxt target seq : Nat) (cond : Bool) : Useq :=
  match nxt with
  | 0 => { u with addr := seq }
  | 1 => { u with addr := target }
  | 2 => { u with addr := if cond then target else seq }
  | 3 => { u with addr := target, ret := seq }
  | 4 => { u with addr := u.ret }
  | 5 => if u.loop = 0 then { u with addr := seq } else { u with loop := u.loop - 1 }
  | _ => { u with busy := false }

/-- Whether an access of a bundle has no response yet, by kind: a read or an AMO (0x03), a CSUB (0x04). -/
def Wait.lacks (w : Wait) (csub : Bool) : Bool :=
  (w.accs.drop w.resp.length).any (fun a => match a with
    | .csub _ _ => csub
    | .done _ | .pcie _ _ _ | .amo _ _ _ _ _ => !csub
    | _ => false)

/-- Whether a WAIT condition holds on core c (R164). Loads of system memory have returned; whether the iteration unit is ready is a free value; a reserved code waits for
nothing (DESIGN CHOICE, log 61). -/
def State.waitHolds (s : State) (c wait : Nat) : Bool :=
  let w := (s.curVc c).bind (fun p => (s.vc (vkey p.1 p.2)).wait)
  match wait with
  | 1 | 3 => !(match w with | some w => w.lacks false | none => false)
  | 2 => (s.core c).sb.isEmpty
  | 4 => !(match w with | some w => w.lacks true | none => false)
  | 5 => (s.fresh 1).1 == 1
  | _ => true

def State.setUseq (s : State) (c : Nat) (u : Useq) : State := s.setCore c (fun k => { k with useq := u })

/-- One microword of core c acts (R163-R165), unless its WAIT condition keeps it. A patch word is followed by the next patch word (DEDUCED, log 61). -/
def State.useqStep (s : State) (c : Nat) : State :=
  let k := s.core c
  if !k.useq.busy then s
  else
    let a := fetchAddr k.ucode k.useq.addr
    let w := microWord k.ucode a
    let n := nanoWord k.ucode (mwNano w)
    if !s.waitHolds c (mwWait w) then s
    else
      let (cond, s) := s.fresh 1
      let u := match Config.loopLoad (BitVec.ofNat 192 n) with | some l => { k.useq with loop := l } | none => k.useq
      s.setUseq c (u.next (mwNxt w) (nwTarget n) (a + 1) (cond == 1))

/-- n microwords in succession. -/
def State.useqRun (s : State) (c : Nat) : Nat → State
  | 0 => s
  | n + 1 => (s.useqStep c).useqRun c n

/-- The entry of a microcoded instruction (R165). -/
def State.useqEnter (s : State) (c k : Nat) : State := s.setUseq c { (s.core c).useq with addr := (Config.microEntry k).toNat, busy := true }

/-- The instruction has finished. -/
def State.useqDone (s : State) (c : Nat) : State := if (s.core c).useq.busy then s.setUseq c { (s.core c).useq with busy := false } else s

/-- The instructions that the micro-sequencer runs, numbered in the order of chapter 04: BMOV, BFIL, CASP, CSUB, VSQRTS, VRECS, VLOG2S, VEXP2S. -/
def microOf (o : Op) : Option Nat :=
  match o with
  | .bmov => some 0
  | .bfil => some 1
  | .casp _ _ _ => some 2
  | .csub _ _ _ => some 3
  | .vec .sqrts _ _ _ _ => some 4
  | .vec .recs _ _ _ _ => some 5
  | .vec .log2s _ _ _ _ => some 6
  | .vec .exp2s _ _ _ _ => some 7
  | _ => none

end Sys2Proof.Machine
end

