-- ==== Sys2Proof/Machine/ExecMem.lean ====
section
/-! DEFINITION. The commands of the caches and the directory (05), of I/O translation (06) and of the memory array (07). -/

namespace Sys2Proof.Machine

/-- Whether a line number is usable system memory (07 R258) and its sender is not fenced (05 R192). -/
def State.lineOk (s : State) (line : Nat) (quad : Option Nat) : Bool :=
  decide (line < s.usableLines) && (match quad with | some q => !bit s.coh.deadQuads q | none => true)

/-- The world of a request (17 R705): that of the instance it acts for, else Normal but for the Vault's own. -/
def State.secureAgent (s : State) (agent : Nat) (inst : Option Nat) : Bool :=
  match inst with
  | some i => s.rb TN_INST_SECURE i
  | none => if agent / 65536 = 0x17 then s.rb TN_INST_SECURE (agent % 65536) else agent / 65536 == 0x14

/-- A request at its home slice: one beyond usable memory, or of the Normal world to a secure granule, ends as an access to an unmapped address (01 R25,
17 R705); a rank set in self-refresh leaves it (18 R748). -/
def State.atHome (s : State) (agent line : Nat) (inst : Option Nat) (f : State → State) : State :=
  if !decide (line < s.usableLines) || (s.secGran.contains (line / 32768) && !s.secureAgent agent inst) then
    s.report { org := (inst.map (org 0x17)).getD agent, cause := 0x0001, cls := slate, subj := inst.map (fun i => (i, s.gen i)),
               d0 := line * 64, via := some agent }
  else f (s.srTouch line)

/-- The writer of a line: an instance, or 512 for none (05 R183). -/
def writerOf (w : Option (BitVec 9)) : Nat := match w with | some i => i.toNat | none => 512

/-- The longest latencies observed (05 R221). -/
def State.noteLat (s : State) (h : HomeSide) : State :=
  (s.sf MX_LAT_MAX_MEM_NS (max (s.rf MX_LAT_MAX_MEM_NS) h.latMem.toNat)).sf MX_LAT_MAX_STOP_NS
    (max (s.rf MX_LAT_MAX_STOP_NS) h.latStop.toNat)

/-- A quad's request at the home slice, for the instance of the requesting core (05 R183). -/
def State.quadRequest (s : State) (k : ReqKind) (q w line : Nat) (fs : List ChanFinding) : State :=
  if bit s.coh.deadQuads q then s
  else s.atHome (org 2 q) line (if w < 512 then some w else none) (fun s => s.request ⟨k, line, some q, org 2 q, w⟩ fs)

def State.doReadShared (s : State) (q r line : Nat) (h : HomeSide) : State :=
  (((s.noteLat h).homeSide h).pmEvent 0x0202 q (if r < 512 then some r else none)).quadRequest .readShared q r line h.finds

def State.doReadOwn (s : State) (q w line : Nat) (h : HomeSide) : State :=
  (((s.noteLat h).homeSide h).pmEvent 0x0202 q (if w < 512 then some w else none)).quadRequest .readOwn q w line h.finds

/-- UPGRADE, and WRITER_CHANGE of a live quad (05 R182, R183). -/
def State.doUpgrade (s : State) (q w line : Nat) (h : HomeSide) : State := ((s.noteLat h).homeSide h).quadRequest .upgrade q w line h.finds
def State.doWriterChange (s : State) (q w line : Nat) (h : HomeSide) : State := ((s.noteLat h).homeSide h).quadRequest .writerChange q w line h.finds

/-- The instance that an agent acts for, as a line's writer: 512 for none (05 R183, 15 R620). -/
def agentWriter (a : Nat) : Nat := if a / 65536 = 0x17 ∧ a % 65536 < 512 then a % 65536 else 512

def State.doReadSnoop (s : State) (a line : Nat) (h : HomeSide) : State :=
  ((s.noteLat h).homeSide h).atHome a line none (fun s => s.request ⟨.readSnoop, line, none, a, 512⟩ h.finds)

/-- WRITE_LINE (05 R187), recorded when its page is protected (06 R250). -/
def State.doWriteLine (s : State) (a line : Nat) (data : Line) (mask : BitVec 64) (pr : Bool) (h : HomeSide) : State :=
  if s.heldWrite pr line then s
  else ((s.noteLat h).homeSide h).atHome a line none (fun s => (if pr then s.recordLine line else s).request ⟨.writeLine data mask, line, none, a, agentWriter a⟩ h.finds)

/-- RECALL with the error that makes the home ask for it (05 R189). -/
def State.doRecall (s : State) (q line : Nat) (e : Option CacheErr) : State :=
  let s := match e with | some e => s.cacheError e | none => s
  if s.lineOk line (some q) then s.recall q line else s

/-- ARRAY_READ (07 R263, R265): the error rules, then the line returned. -/
def State.doArrayRead (s : State) (line : Nat) (fs : List ChanFinding) : State :=
  if line < s.usableLines then
    let s := (s.srTouch line).readMeets line fs
    let r := s.arrayLine line
    { s with ma := { s.ma with lastRead := (line, r.1, r.2) } }
  else s

/-- ARRAY_WRITE (07 R263, R265): the error rules on the stripe it reads, then each line's write. -/
def State.doArrayWrite (s : State) (ws : List LineWrite) (fs : List ChanFinding) : State :=
  let ws := ws.filter (fun w => decide (w.line.toNat < s.usableLines))
  let k := match ws with | w :: _ => w.line.toNat / 8 | [] => 0
  let s := if ws.isEmpty then s else (s.srTouch (k * 8)).codeFindings k (s.liveFinds k fs) false
  let s := s.each ((ws.map (fun w => w.line.toNat / 8)).eraseDups) (fun s k =>
    let of := ws.filter (fun w => w.line.toNat / 8 == k)
    s.writeTransfers k ((of.map (fun w => w.line.toNat % 8)).eraseDups) ((of.filter (fun w => w.mask != BitVec.allOnes 64)).map (fun w => w.line.toNat % 8)))
  s.each ws (fun s w => s.arrayPut w.line.toNat w.data w.mask w.poison)

/-- The condition and the cause of a loss (07 R267): LINK takes more successive retries than MA_CFG.LINK_RETRY. -/
def State.lossCause (s : State) (c : LossCause) : Option Nat :=
  match c with
  | .link n => if s.rf MA_CFG_LINK_RETRY < n.toNat then some 1 else none
  | .training => some 2
  | .dimm => some 3

/-- CHANNEL_LOST (07 R267-R271): from Up, Training or Rebuilding. -/
def State.doChannelLost (s : State) (m : Nat) (c : LossCause) : State :=
  match s.lossCause c with
  | some n => if s.rf MA_CH_STAT_STATE m = 0 ∨ s.rf MA_CH_STAT_STATE m = 3 ∨ s.rf MA_CH_STAT_STATE m = 4 then s.loseChan m n else s
  | none => s

/-- The power of a channel's DIMMs: the outputs of their power management ICs, and their supply (07 R273, 19 R799). -/
def State.dimmPower (s : State) (m : Nat) (on : Bool) : State :=
  { s with ma := { s.ma with pwrEn := setBit s.ma.pwrEn m on, pmic := setBit s.ma.pmic m on } }

/-- A channel enters Isolated and its DIMMs lose power (07 R273). -/
def State.toIsolated (s : State) (m : Nat) : State := (s.setChan m 2).dimmPower m false

/-- MA_CH_CTL_m commands (07 R272), with the writer that an ignored one is logged against. -/
def State.chanCtl (s : State) (m cmd : Nat) (a : Agent) : State :=
  let st := s.rf MA_CH_STAT_STATE m
  let ign := s.cmdIgnored a (rMA_CH_CTL.addr m) cmd
  match cmd with
  | 1 =>
    if st = 0 then
      (if 2 ≤ s.notUp then ign
       else
         let s := s.loseChan m 8
         if s.rf MA_CH_STAT_STATE m = 1 then s.toIsolated m else s)
    else if st = 1 then s.toIsolated m
    else if st = 4 then (s.leaveRebuild m).toIsolated m
    else ign
  | 2 =>
    if st = 1 ∨ st = 2 then (s.setChan m 3).dimmPower m true
    else ign
  | 3 => if st = 0 ∧ s.notUp < 2 then s.loseChan m 8 else ign
  | _ => s

/-- A channel trains afresh: its marks and its error windows end (07 R266). -/
def State.clearMarks (s : State) (m : Nat) : State :=
  let s := s.sf MA_CH_STAT_MARKED 0 m
  { s with ma := { s.ma with marks := s.ma.marks.filter (fun e => e.1 / 8 != m), devWin := s.ma.devWin.filter (fun e => e.1 / 512 != m) } }

/-- A trained channel becomes Rebuilding; behind a running pass it is queued. Without one, a pass starts with the next REBUILD_STRIPE, for every channel that is Rebuilding by then (07
R274, R276; DESIGN CHOICE, log 67). -/
def State.joinRebuild (s : State) (m : Nat) : State :=
  let s := s.setChan m 4
  if s.rb MA_REBUILD_BUSY then s.sf MA_REBUILD_QUEUED (setBit (s.rf MA_REBUILD_QUEUED) m true) else s

/-- CHANNEL_TRAINING_END (07 R274): what the SPD of the channel's DIMMs says, checked against the population, then the training. A DIMM rated too low is
cause SPEED (DESIGN CHOICE, log 67). -/
def State.doTrainingEnd (s : State) (m : Nat) (ds : List Dimm) (trains : Bool) : State :=
  if s.rf MA_CH_STAT_STATE m = 3 then
    let s := (s.clearMarks m).spdRead m ds
    if popOf ds = none ∨ popOf ds ≠ s.ma.pop then s.loseChan m 6
    else if ds.any (fun d => !d.fast) then s.loseChan m 7
    else if trains then s.joinRebuild m else s.loseChan m 2
  else s

/-- A rebuilt channel is Up (07 R271, R274 step 4). -/
def State.channelUp (s : State) (m : Nat) : State :=
  let s := (s.setChan m 0).returned (org 4 m)
  s.sf MA_CH_STAT_RECOVERIES (satN 4 (s.recoveries (org 4 m))) m

/-- The pass ends: its channels are Up, and queued channels start a pass of their own (07 R276). -/
def State.endPass (s : State) : State :=
  let chs := s.rf MA_REBUILD_CHANNELS
  let s := (s.sf MA_REBUILD_BUSY 0).raise 0x0EA
  let s := s.each (List.range 10) (fun s m => if bit chs m then s.channelUp m else s)
  s.nextPass

/-- Rebuild the line of channel m in stripe k from the other slots; one that cannot be rebuilt is poisoned (07 R274, R277). -/
def State.rebuildSlotLine (s : State) (k m : Nat) : State :=
  match (List.range 10).find? (fun i => slotChan i k == m) with
  | none => s
  | some i =>
    let vals := (List.range 64).map (fun b => rebuildSlot (s.stripeByte k b [i]) i)
    let s := if vals.all Option.isSome then s.each (List.range 64) (fun s b => s.putCell i k b ((vals.getD b none).getD 0)) else s
    let s := (s.readSlots k (s.survivors k)).writeSlots k [i]
    if 8 ≤ i then s.setMask i k (s.maskNow k)
    else if vals.all Option.isSome then s.setSig i k (s.poisoned (k * 8 + i))
    else if s.poisoned (k * 8 + i) then s.setSig i k true
    else s.arrayPoison (k * 8 + i) 0x0501 1

/-- REBUILD_STRIPE (07 R274-R277). -/
def State.doRebuildStripe (s : State) (fs : List ChanFinding) : State :=
  let n := s.rf MA_CAP_STRIPES
  let s := if s.rb MA_REBUILD_BUSY || s.rf MA_STAT_REBUILDING == 0 then s else s.startPass (s.rf MA_STAT_REBUILDING)
  let k := s.rf MA_REBUILD_POS
  if s.rb MA_REBUILD_BUSY ∧ k < n then
    let s := s.codeFindings k (s.liveFinds k fs) s.exhausted
    let s := s.each (List.range 10) (fun s m => if bit (s.rf MA_REBUILD_CHANNELS) m then s.rebuildSlotLine k m else s)
    let s := s.sf MA_REBUILD_POS (k + 1)
    let s := if k * 100 / n < (k + 1) * 100 / n then s.raise 0x0EA else s
    if k + 1 = n then s.endPass else s
  else s

/-- The differences between the stored check bytes of stripe k and those of its data: (P, Q) per byte, a check line that is not served counting as right; `none` unless
all eight data lines are served. -/
def State.syndromes (s : State) (k : Nat) : Option (List (Nat × Nat)) :=
  let l := (List.range 64).map (fun b =>
    let v := s.stripeByte k b []
    if (List.range 8).all (fun i => (v i).isSome) then
      let z := fun i => (v i).getD 0
      some (((v 8).map (fun p => codeP z ^^^ p)).getD 0, ((v 9).map (fun q => codeQ z ^^^ q)).getD 0)
    else none)
  if l.all Option.isSome then some (l.map (fun x => x.getD (0, 0))) else none

/-- Recompute a check line of stripe k. -/
def State.fixCheck (s : State) (k i : Nat) : State :=
  s.each (List.range 64) (fun s b =>
    let z := fun j => (s.stripeByte k b [] j).getD 0
    s.putCell i k b (if i = 8 then codeP z else codeQ z))

/-- The comparison of P and Q with the data (07 R279). With one check line alone a disagreement is taken to fit that line (DESIGN CHOICE, log 67). -/
def State.scrubCompare (s : State) (k : Nat) : State :=
  match s.syndromes k with
  | none => s
  | some l =>
    if l.all (fun x => x.1 == 0 && x.2 == 0) then s
    else if l.all (fun x => x.2 == 0) then (s.fixCheck k 8).reconstructed (slotChan 8 k) (k * 8)
    else if l.all (fun x => x.1 == 0) then (s.fixCheck k 9).reconstructed (slotChan 9 k) (k * 8)
    else match (List.range 8).find? (fun i => l.all (fun x => x.2 == gfMul (gfPow i) x.1)) with
      | some i =>
        let s := s.each (List.range 64) (fun s b =>
          s.putCell i k b ((s.stripeByte k b [] i).getD 0 ^^^ (l.getD b (0, 0)).1))
        s.reconstructed (slotChan i k) (k * 8 + i)
      | none =>
        let s := ((s.fixCheck k 8).fixCheck k 9).each (List.range 8) (fun s i =>
          ((s.setPoison (k * 8 + i) true).bump rMA_POISON_CNT).raise 0x0EA)
        (s.maElog 2 (slotChan 0 k) (k * 8)).report { org := org 5 0, cause := 0x0502, cls := ochre, d0 := k * 512 }

/-- SCRUB_STRIPE (07 R278, R279). -/
def State.doScrubStripe (s : State) (fs : List ChanFinding) : State :=
  let n := s.rf MA_CAP_STRIPES
  let k := s.rf MA_SCRUB_POS
  if k < n then
    let live := s.liveFinds k fs
    let s := (s.srTouch (k * 8)).readSlots k ((List.range 10).filter (fun i => s.chReads (slotChan i k) k))
    let clean := (s.findingErasures k live).isEmpty
    let s := s.codeFindings k live s.exhausted
    let s := if clean then s.scrubCompare k else s
    if k + 1 = n then
      (((s.sf MA_SCRUB_POS 0).sf MA_SCRUB_FAST 0).sf MA_SCRUB_PASSES ((s.rf MA_SCRUB_PASSES + 1) % 2 ^ 14)).raise 0x0EA
    else s.sf MA_SCRUB_POS (k + 1)
  else s

/-- DEMAND (07 R278, R287). -/
def State.doDemand (s : State) : State := s.sf MA_SCRUB_FAST 1

/-! ### The commands -/

def execReadShared (quad : Fin 16) (reader : Option (BitVec 9)) (line : LineNo) (side : HomeSide) (s : State) : Host.Outcome State Fault Refusal :=
  run (fun s => s.doReadShared quad.val (writerOf reader) line.toNat side) s

def execReadOwn (quad : Fin 16) (writer : Option (BitVec 9)) (line : LineNo) (side : HomeSide) (s : State) :
    Host.Outcome State Fault Refusal :=
  run (fun s => s.doReadOwn quad.val (writerOf writer) line.toNat side) s

def execUpgrade (quad : Fin 16) (writer : Option (BitVec 9)) (dest : AtHome) (s : State) : Host.Outcome State Fault Refusal :=
  run (fun s => s.doUpgrade quad.val (writerOf writer) dest.line.toNat dest.side) s

def execWriterChange (quad : Fin 16) (writer : Option (BitVec 9)) (dest : AtHome) (s : State) : Host.Outcome State Fault Refusal :=
  run (fun s => s.doWriterChange quad.val (writerOf writer) dest.line.toNat dest.side) s

def execWriteback (quad : Fin 16) (line : LineNo) (s : State) : Host.Outcome State Fault Refusal :=
  run (fun s => s.writeback quad.val line.toNat) s

def execEvictClean (quad : Fin 16) (line : LineNo) (s : State) : Host.Outcome State Fault Refusal :=
  run (fun s => s.evictClean quad.val line.toNat) s

def execReadSnoop (agent : BitVec 24) (dest : AtHome) (s : State) : Host.Outcome State Fault Refusal :=
  run (fun s => s.doReadSnoop agent.toNat dest.line.toNat dest.side) s

def execWriteLine (agent : BitVec 24) (dest : AtHome) (data : Line) (mask : BitVec 64) (pr : Bool) (s : State) : Host.Outcome State Fault Refusal :=
  run (fun s => s.doWriteLine agent.toNat dest.line.toNat data mask pr dest.side) s

def execFwdShared (line : LineNo) (s : State) : Host.Outcome State Fault Refusal := run (fun s => s.fwdShared line.toNat) s

def execFwdOwn (line : LineNo) (s : State) : Host.Outcome State Fault Refusal := run (fun s => s.fwdOwn line.toNat) s

def execSnoop (line : LineNo) (s : State) : Host.Outcome State Fault Refusal := run (fun s => s.snoop line.toNat) s

def execInvalidate (quad : Fin 16) (line : LineNo) (s : State) : Host.Outcome State Fault Refusal :=
  run (fun s => s.invalidate quad.val line.toNat) s

def execRecall (quad : Fin 16) (line : LineNo) (err : Option CacheErr) (s : State) : Host.Outcome State Fault Refusal :=
  run (fun s => s.doRecall quad.val line.toNat err) s

def execNack (line : LineNo) (quad : Option (Fin 16)) (age : BitVec 8) (s : State) : Host.Outcome State Fault Refusal :=
  run (fun s => s.nackSchedule line.toNat (quad.map Fin.val) age.toNat) s

def execNackRetry (line : LineNo) (quad : Option (Fin 16)) (s : State) : Host.Outcome State Fault Refusal :=
  run (fun s => s.nackRetry line.toNat (quad.map Fin.val)) s

def execSliceLoss (slice : Fin 64) (s : State) : Host.Outcome State Fault Refusal := run (fun s => s.doSliceLoss slice.val) s

def execIoTranslation (unit : Fin 5) (agent : BitVec 24) (inst : BitVec 9) (gen : BitVec 12) (tpa : Word) (write : Bool) (s : State) :
    Host.Outcome State Fault Refusal :=
  run (fun s => (s.ioXlat (64 + unit.val) agent.toNat inst.toNat gen.toNat tpa.toNat write).1) s

def execArrayRead (line : LineNo) (finds : List ChanFinding) (s : State) : Host.Outcome State Fault Refusal :=
  run (fun s => s.doArrayRead line.toNat finds) s

def execArrayWrite (writes : List LineWrite) (finds : List ChanFinding) (s : State) : Host.Outcome State Fault Refusal :=
  run (fun s => s.doArrayWrite writes finds) s

def execChannelLost (channel : Fin 10) (cause : LossCause) (s : State) : Host.Outcome State Fault Refusal :=
  run (fun s => s.doChannelLost channel.val cause) s

def execIsolate (channel : Fin 10) (agent : Agent) (s : State) : Host.Outcome State Fault Refusal :=
  run (fun s => s.chanCtl channel.val 1 agent) s

def execInsert (channel : Fin 10) (agent : Agent) (s : State) : Host.Outcome State Fault Refusal :=
  run (fun s => s.chanCtl channel.val 2 agent) s

def execFail (channel : Fin 10) (agent : Agent) (s : State) : Host.Outcome State Fault Refusal :=
  run (fun s => s.chanCtl channel.val 3 agent) s

def execChannelTrainingEnd (channel : Fin 10) (found : Training) (s : State) : Host.Outcome State Fault Refusal :=
  run (fun s => s.doTrainingEnd channel.val found.dimms found.trains) s

def execRebuildStripe (finds : List ChanFinding) (s : State) : Host.Outcome State Fault Refusal :=
  run (fun s => s.doRebuildStripe finds) s

def execScrubStripe (finds : List ChanFinding) (s : State) : Host.Outcome State Fault Refusal :=
  run (fun s => s.doScrubStripe finds) s

def execDemand (s : State) : Host.Outcome State Fault Refusal := run State.doDemand s

end Sys2Proof.Machine
end

