-- ==== Sys2Proof/Machine/Power.lean ====
section
/-! DEFINITION. Clock islands, power states, self-refresh, throttling, parking, ageing (18 R740-R752). -/

namespace Sys2Proof.Machine

/-! ### Islands (R740) -/

/-- The units of R620 that an island carries; an island without one stands for itself. -/
def isleUnits (i : Nat) : List Nat :=
  let four := fun (k j : Nat) => (List.range 4).map (fun n => org k (4 * j + n))
  match isleKind i with
  | 1 => [org 1 i]
  | 2 => [org 2 (i - 64)]
  | 3 => [org 2 (i - 80)]
  | 4 => (List.range 16).map (fun n => org 3 (16 * (i - 96) + n))
  | 6 => [org 4 (i - 101)]
  | 7 => (List.range 8).map (fun n => org 6 (8 * (i - 111) + n))
  | 8 => [org 7 0]
  | 9 => four 8 (i - 120)
  | 0xA => [org 9 0]
  | 0xB => [org 0xA (i - 125)]
  | 0xC => [org 0xB (i - 129)]
  | 0xE => four 0xC (i - 138)
  | 0xF => [org 0xE (i - 146)]
  | 0x10 => [org 0xF (i - 150)]
  | 0x11 => [org 0x10 0]
  | 0x12 => [org 0x11 0]
  | 0x13 => [org 0x12 0]
  | 0x14 => [org 0x13 0]
  | 0x17 => [org 0x14 0]
  | 0x18 => [org 0x15 0]
  | 0x19 => [org 0x15 0]
  | _ => [org 0x18 i]

/-- Whether an island carries a leased block (R773). -/
def State.isleLeased (s : State) (i : Nat) : Bool :=
  match isleKind i with
  | 1 => s.coreLeased i
  | 0xC => s.cyLeased (i - 129)
  | _ => false

/-- Whether an Ethernet port is at work (R741, R743): a transaction of one of its channels is in progress, or a datagram waits. -/
def State.netBusy (s : State) (e : Nat) : Bool :=
  let mine := fun (c : Nat) => s.chanKind c == 2 && dfld (s.cdef c) 4 1 0 == e
  s.ch.txns.any (fun (t : Txn) => (t.state == 3 || t.state == 4) && mine t.chan) || s.ch.inbox.any (fun (d : Dgram) => mine d.chan)

/-- Whether a PCIe root port is at work: a link trains, a transaction of one of its channels is in progress, or a core's read is on its way. -/
def State.pxBusy (s : State) (r : Nat) : Bool :=
  (List.range 4).any (fun k => s.rf PX_LINK_STAT_STATE (4 * r + k) == 3) ||
  s.ch.txns.any (fun (t : Txn) => (t.state == 3 || t.state == 4) && s.chanKind t.chan == 1 && dfld (s.cdef t.chan) 4 3 0 / 4 == r) ||
  s.kc.vc.any (fun (e : Nat × VCore) => match e.2.wait with
    | some w => (w.accs.drop w.resp.length).any (fun a => match a with | .pcie l _ _ => l / 4 == r | _ => false)
    | none => false)

/-- The power state of an island (R743): 0 Run, 1 Gate, 2 Nap, 3 Dark. -/
def State.islePower (s : State) (i : Nat) : Nat :=
  let off := s.rb IS_ISL_STAT_PARKED i || (isleUnits i).all (fun o => (s.unit o).st == 3)
  let idle := fun (b : Bool) => if b then 1 else 0
  match isleKind i with
  | 1 => s.rf KC_PCS_POWER i
  | 7 => if off then 3 else idle (s.rf SG_STAT_DEFINED == 0)
  | 9 => if off then 3 else idle ((List.range 4).all (fun k => s.rf CH_PROC_STAT_ACTIVE (4 * (i - 120) + k) == 0))
  | 0xB => if off then 3 else idle (s.rf CZ_PIPE_STAT_ACTIVE (i - 125) == 0)
  | 0xC => if off then 3 else if s.isleLeased i then 0 else idle (s.rf CY_PIPE_STAT_ACTIVE (i - 129) == 0)
  | 0xE => if (List.range 4).all (fun k => s.rf FR_STAT_ROLE (4 * (i - 138) + k) == 0) then 3 else 0
  | 0xF => if s.rb NT_CFG_EN (i - 146) && !off then idle (!s.netBusy (i - 146)) else 3
  | 0x10 => if !off && (List.range 4).any (fun k => s.rb PX_LINK_CFG_EN (4 * (i - 150) + k)) then idle (!s.pxBusy (i - 150)) else 3
  | 0x12 => if s.tw.strap then 0 else 3
  | _ => if off then 3 else 0

/-- The clock reduction of an island in 100 MHz steps (R749, R752). -/
def State.isleSteps (s : State) (i : Nat) : Nat := Map.getD s.pw.steps i 0 + Map.getD s.pw.ageSteps i 0

/-- IS_ISL_STAT_i as it reads (R773). -/
def State.isleStat (s : State) (i : Nat) : Nat :=
  let p := s.islePower i
  let mhz := if p = 0 ∧ isleKind i = 1 then 4600 - 100 * s.isleSteps i else if p = 0 then s.rf IS_ISL_STAT_MHZ i - 100 * s.isleSteps i else 0
  let v := setBits (setBits (s.reg rIS_ISL_STAT i) 63 60 p) 59 59 (b2n (s.isleLeased i))
  setBits (setBits v 56 56 (b2n (s.isleSteps i != 0))) 47 32 mhz

/-! ### Core power states (R744-R747) -/

/-- The wake latency of a state in ns (R743). -/
def wakeLat (p : Nat) : Nat :=
  match p with
  | 0 => 0
  | 1 => 20
  | 2 => 8000
  | _ => 400000

/-- Whether a core is idle (R746). A bundle that waits for a response is under way. -/
def State.coreIdle (s : State) (c : Nat) : Bool :=
  s.rf KC_PCS_ROLE c == 0 && s.between c && !(List.range 64).any (fun e => s.runnable c e) && !(s.rb KC_SPARE_STAT_BUSY (c / 16) && s.rf KC_SPARE_STAT_SRC (c / 16) == c)

/-- IDLE_GATE, NAP_ENTRY and DARK_ENTRY: an idle core enters a deeper state that its limit allows (R746). -/
def State.enterPower (s : State) (c p : Nat) : State :=
  if s.coreIdle c && decide (p ≤ s.coreLimit c) && decide (s.rf KC_PCS_POWER c < p) then s.setPower c p else s

/-- A core's wake to Run. -/
def State.wakeCore (s : State) (c : Nat) : State := if s.rf KC_PCS_ROLE c = 0 then s.setPower c 0 else s

/-- CORE_WAKE: an entry is runnable (R746). -/
def State.coreWake (s : State) (c : Nat) : State := if (List.range 64).any (fun e => s.runnable c e) then s.wakeCore c else s

/-- TIMER_WAKE: an entry that waits only on TIMER is due within the core's wake latency (R746). -/
def State.timerWake (s : State) (c : Nat) : State :=
  let due := fun (e : Nat) => match s.disp c e with
    | some (i, v) =>
      let k := s.vc (vkey i v)
      s.vcRuns i v && k.wfi && bit (k.getCr 0x10) 0 && decide (k.getCr 0x12 ≤ s.now + wakeLat (s.rf KC_PCS_POWER c))
    | none => false
  if (List.range 64).any due then s.wakeCore c else s

/-- LATENCY_SET (R744, R747): cores in a state deeper than the new limit wake. -/
def State.doLatencySet (s : State) (c : Cmd) : State :=
  let i := c.inst
  let sc := c.p 0
  let n := s.rf TN_INST_VCORES i
  if s.wrongWorld c || s.ist i == 0 || s.ist i == 8 then s.finish c stDENIED
  else if sc ≠ 0x80 ∧ n < sc then s.finish c stBAD_PARAM
  else
    let keys := if sc = 0 then (List.range n).map (· + 1) else [sc]
    let s := s.mirrorCmd c
    let s := s.setInst i (fun x => { x with decl := keys.foldl (fun d k => Map.put d k (c.p 1)) x.decl })
    if sc = 0x80 then s.finish c stOK [if 3000 ≤ c.p 1 then 1 else 0]
    else
      let cores := (keys.filterMap (fun k => (s.placeOf i (k - 1)).map Prod.fst)).eraseDups
      let s := s.each cores State.limitWake
      s.finish c stOK [cores.foldl (fun m k => min m (s.coreLimit k)) (deepest (c.p 1))]

/-- POWER_QUERY (14 R605). -/
def State.doPowerQuery (s : State) (c : Cmd) : State :=
  let map := fun (t : Nat → Bool) => (List.range (s.rf TN_INST_VCORES c.inst)).foldl (fun m v =>
    match s.placeOf c.inst v with
    | some (k, _) => if t (s.rf KC_PCS_POWER k) then setBit m v true else m
    | none => m) 0
  if (c.p 0 = 0 ∨ c.p 0 = 2) ∧ c.sender ≠ 0 then s.finish c stDENIED
  else match c.p 0 with
    | 0 => s.finish c stOK [s.rf IS_STAT_POWER_MW]
    | 1 =>
      if s.wrongWorld c then s.finish c stDENIED
      else
        let r := map (fun p => p == 0)
        let d := map (fun p => decide (2 ≤ p))
        s.finish c stOK [r % 2 ^ 32, r / 2 ^ 32, d % 2 ^ 32, d / 2 ^ 32]
    | 2 => s.finish c stOK [s.rf KC_PCS_POWER (c.p 1)]
    | _ => s.finish c stBAD_PARAM

/-! ### Memory self-refresh (R748) -/

/-- The rank sets of a range of device physical addresses. -/
def State.rankRange (s : State) (r : Nat) : Nat × Nat :=
  let u := s.usableLines * 64
  let n := s.rf MA_CH_STAT_RANKS 0
  (r * u / n, u / n)

/-- Every condition of R748 but idleness. -/
def State.srPermit (s : State) (r : Nat) : Bool :=
  let (a, n) := s.rankRange r
  let p := a / 4096
  let m := (n + 4095) / 4096
  decide (r < s.rf MA_CH_STAT_RANKS 0) &&
  (Map.keys s.tn.insts).all (fun i => s.ist i == 0 || decide (3000 ≤ s.declOf i 0x80) ||
    (s.inst i).maps.all (fun (x : Mapping) => !rangesMeet p m x.dpage x.pages)) &&
  !s.touchesSecure p m && decide (a + n ≤ s.fwBase) && !s.rb MA_REBUILD_BUSY

/-- SELF_REFRESH_ENTRY: rank set r has received no request for SR_IDLE. -/
def State.srEnter (s : State) (r : Nat) : State :=
  if s.srPermit r && !bit (s.rf IS_MEM_SR_ACTIVE) r then (s.sf IS_MEM_SR_ACTIVE (setBit (s.rf IS_MEM_SR_ACTIVE) r true)).raiseMs 0x375 else s

/-! ### Throttling (R749) -/

/-- Whether power or a junction is above its limit, as IS_STAT.LEVEL names them. -/
def State.hotLevel (s : State) : Nat :=
  b2n (decide (s.rf IS_CFG_PWR_LIMIT_W * 1000 < s.rf IS_STAT_POWER_MW)) +
  2 * b2n ([IS_THERM_HUB, IS_THERM_CT0, IS_THERM_CT1, IS_THERM_CT2, IS_THERM_CT3].any (fun f => decide (105 * 16 < s.rf f)))

/-- IS_STAT shows throttling; each change is counted (R749, R767). -/
def State.setLevel (s : State) (l : Nat) : State :=
  let was := s.rf IS_STAT_LEVEL
  if was = l then s
  else
    let s := ((s.sf IS_STAT_LEVEL l).bump rIS_THROTTLE_CNT).raise 0x370
    if was = 0 then s.report { org := org 0x18 165, cause := 0x1805, cls := slate } else s

/-- IS_STAT.STEPS. -/
def State.stepSync (s : State) : State :=
  let m := s.pw.steps.foldl (fun (m : Nat) (e : Nat × Nat) => max m e.2) 0
  if s.rf IS_STAT_STEPS = m then s else (s.sf IS_STAT_STEPS m).bump rIS_THROTTLE_CNT

/-- POWER_ESTIMATE: module power in mW, the tiles' junctions in 1/16 degrees, the rails in mW. -/
def State.powerEstimate (s : State) (mw : Nat) (temps rails : List Nat) : State :=
  let t := fun (k : Nat) => temps.getD k 0
  let s := ((((((s.sf IS_STAT_POWER_MW mw).sf IS_THERM_CT0 (t 0)).sf IS_THERM_CT1 (t 1)).sf IS_THERM_CT2 (t 2)).sf IS_THERM_CT3 (t 3)).sf IS_THERM_HUB (t 4))
  let calm := decide (mw * 100 ≤ s.rf IS_CFG_PWR_LIMIT_W * 95000) && (List.range 5).all (fun k => decide (t k < 100 * 16))
  let s := { s with pw := { s.pw with rails := rails, cool := if calm then s.pw.cool + 1 else 0 } }
  let h := s.hotLevel
  if h ≠ 0 then s.setLevel h else if s.pw.steps.isEmpty then s.setLevel 0 else s

/-- The class by which a core is throttled: that of its most urgent entry. -/
def State.coreClass (s : State) (c : Nat) : Option Nat :=
  (s.dispUsed c).foldl (fun (b : Option Nat) e =>
    let k := s.rf TN_INST_CLASS (s.rf TN_DISP_INSTANCE (dispIdx c e))
    some (match b with | some x => min x k | none => k)) none

/-- THROTTLE_STEP: the clocks of the first class that can go lower fall by one step, Batch first; after 10 ms (100 estimates) of calm they rise by one,
Control first (the order of restoring is a DESIGN CHOICE, log 35). -/
def State.throttleStep (s : State) : State :=
  let setSteps := fun (s : State) (l : List Nat) (f : Nat → Nat) =>
    ({ s with pw := { s.pw with steps := l.foldl (fun m c => Map.set m 0 c (f (Map.getD m c 0))) s.pw.steps } }).stepSync
  if s.hotLevel ≠ 0 then
    let lowers := fun (k : Nat) => (List.range 64).filter (fun c => s.coreClass c == some k && decide (s.isleSteps c < 26))
    match [lowers 2, lowers 1, lowers 0].find? (fun l => !l.isEmpty) with
    | some l => setSteps s l (· + 1)
    | none => s
  else if 100 ≤ s.pw.cool then
    let rises := fun (k : Nat) => (List.range 64).filter (fun c => (s.coreClass c).getD 2 == k && Map.getD s.pw.steps c 0 != 0)
    match [rises 0, rises 1, rises 2].find? (fun l => !l.isEmpty) with
    | some l =>
      let s := setSteps s l (· - 1)
      if s.pw.steps.isEmpty then s.setLevel 0 else s
    | none => s
  else s

/-! ### Parking (R750) -/

/-- A retirement's effect without its fault: a compression or cipher pipe leaves service. -/
def State.pipeOff (s : State) (o : Nat) : State :=
  let k := o % 65536
  if o / 65536 = 0xA then ((s.unitReg o 1).czSync).czGone k else (s.unitReg o 1).cyMove

/-- PARK. -/
def State.park (s : State) (i : Nat) : State :=
  if s.rf IS_ISL_CTL_RESULT i = 1 then s
  else
    let s := s.report { org := org 0x18 i, cause := 0x1806, cls := slate }
    let o := (isleUnits i).headD 0
    let lease := if isleKind i = 0xC then s.leaseOfPipe (i - 129) else none
    if s.isleLeased i then (s.parkEnds i 3).gatingRefused lease
    else match isleKind i with
      | 1 =>
        if s.rb IS_ISL_STAT_PARKED i || (s.unit o).st == 3 then s.parkEnds i 6
        else (match s.rf KC_PCS_ROLE i with
          | 0 =>
            if (s.pickSpare i).isNone then s.parkEnds i 5
            else (s.sf IS_ISL_CTL_RESULT 1 i).setSpareQ (i / 16) ((s.spareQ (i / 16)).filter (fun x => x.1 != i) ++ [(i, 2)])
          | 1 => (s.setCoreRole i 5).parkDone i o
          | 2 => (s.setCoreRole i 5).parkDone i o
          | _ => s.parkEnds i 6)
      | 0xB =>
        if s.rb IS_ISL_STAT_PARKED i || (s.unit o).st != 0 then s.parkEnds i 6
        else if s.czUps.length < 3 then s.parkEnds i 5
        else (s.pipeOff o).parkDone i o
      | 0xC =>
        if s.rb IS_ISL_STAT_PARKED i || (s.unit o).st != 0 then s.parkEnds i 6
        else if (s.cySide false).length < 3 then s.parkEnds i 5
        else (s.pipeOff o).parkDone i o
      | _ => s.parkEnds i 4

/-- UNPARK: the island powers up, and the unit's test ends with `pass` (R750, 15 R635); a unit that fails it is retired. -/
def State.unpark (s : State) (i : Nat) (pass : Bool) : State :=
  if s.rf IS_ISL_CTL_RESULT i = 1 then s
  else
    let s := s.report { org := org 0x18 i, cause := 0x1806, cls := slate }
    let o := (isleUnits i).headD 0
    let kd := isleKind i
    if kd ≠ 1 ∧ kd ≠ 0xB ∧ kd ≠ 0xC then s.parkEnds i 4
    else if !s.rb IS_ISL_STAT_PARKED i then s.parkEnds i 6
    else
      let s := s.sf IS_ISL_STAT_PARKED 0 i
      let s := if kd = 1 then s.countPass i pass else s
      let s := if pass then
          let s := s.setUnit o (fun u => { u with st := 0 })
          if kd = 1 then s.setCoreRole i 1 else if kd = 0xB then s.czReturn (i - 125) else s.cyReturn (i - 129)
        else
          let s := (s.testFailed o 6).retireUnit o
          if kd = 1 then s.setCoreRole i 7 else s.unitReg o 3
      s.parkEnds i 2

/-! ### Ageing (R751, R752) -/

/-- The least-squares slope of samples, newest first, as a numerator and a positive denominator, ps per hour. -/
def slope (l : List Nat) : Int × Int :=
  let n : Int := l.length
  let pts : List (Int × Int) := l.reverse.zipIdx.map (fun (p : Nat × Nat) => ((p.2 : Int), (p.1 : Int)))
  let sx := pts.foldl (fun a p => a + p.1) (0 : Int)
  let sy := pts.foldl (fun a p => a + p.2) (0 : Int)
  let sxy := pts.foldl (fun a p => a + p.1 * p.2) (0 : Int)
  let sxx := pts.foldl (fun a p => a + p.1 * p.1) (0 : Int)
  (n * sxy - sx * sy, n * sxx - sx * sx)

/-- EOL_DAYS of R751. -/
def eolDays (l : List Nat) : Nat :=
  let (a, b) := slope l
  if 0 ≤ a ∨ l.length < 24 then 0xFFFF else min 0xFFFE ((l.headD 0 : Int) * b / (-a * 24)).toNat

/-- One island's sample (R751, R752). -/
def State.ageIsle (s : State) (i margin : Nat) : State :=
  let l := (margin :: Map.getD s.pw.samples i []).take 720
  let e := eolDays l
  let s := { s with pw := { s.pw with samples := Map.put s.pw.samples i l } }
  let s := ((s.sf IS_AGE_MARGIN_PS margin i).sf IS_AGE_EOL_DAYS e i).incSat IS_AGE_HOURS i
  let m := s.rf IS_CFG_EOL_MOVE_DAYS
  let st := if margin < 20 then 3 else if e ≤ m then 2 else if e ≤ 4 * m then 1 else 0
  let s := if margin < 20 then { s with pw := { s.pw with ageSteps := Map.put s.pw.ageSteps i (Map.getD s.pw.ageSteps i 0 + 1) } } else s
  if st ≤ s.rf IS_AGE_STATE i then s
  else
    let s := ((s.sf IS_AGE_STATE st i).raise 0x371).report
      { org := org 0x18 i, cause := 0x1801 + st, cls := if st = 1 then slate else ochre }
    if st = 2 ∧ isleKind i = 1 ∧ s.rb IS_CFG_AUTO_MOVE = true ∧ s.rf KC_PCS_ROLE i = 0 then
      (s.report { org := org 1 i, cause := 0x0109, cls := slate, react := 4 }).askMove i
    else s

/-- AGEING_SAMPLE: the margins in island order. -/
def State.ageSample (s : State) (l : List Nat) : State := s.each ((l.take 167).zipIdx) (fun s (p : Nat × Nat) => s.ageIsle p.2 p.1)

/-! ### Handshakes and clocks (R742) -/

/-- HANDSHAKE_ERROR on a crossing into unit k of an island: counted and recorded; the receiving unit repeats as its chapter states. -/
def State.handshake (s : State) (i k : Nat) : State :=
  let s := ((s.bump rIS_HS_ERR_CNT).report { org := org 0x18 i, cause := 0x1801, cls := slate }).raiseMs 0x373
  match isleKind i with
  | 1 => s.countRetry i
  | 7 => s.laneRepeats (8 * (i - 111) + k % 8) 1
  | 9 => s.procRetry (4 * (i - 120) + k % 4) true
  | 0xB => ((s.bump rCZ_PIPE_RETRY (i - 125)).raise (0x300 + (i - 125))).report { org := org 0xA (i - 125), cause := 0x0A01, cls := slate, react := 2 }
  | 0xC => (s.cyRetryOn [i - 129]).report { org := org 0xB (i - 129), cause := 0x0B01, cls := slate, react := 2 }
  | _ => s

/-- ISLAND_CLOCK_LOSS: CLOCK_LOST against each unit, and the reaction that the unit's chapter gives (04 R146, 05 R192-R194, 08 R335, R337, 09 R372,
10 R406, 11 R473, 15 R640). -/
def State.clockLost (s : State) (i : Nat) : State :=
  let s := s.each (isleUnits i) (fun s o => s.report { org := o, cause := 0x0007, cls := ochre })
  match isleKind i with
  | 1 => s.checkStop i
  | 2 => s.quadLoss (i - 64) true
  | 3 => s.quadLoss (i - 80) false
  | 4 => s.each (List.range 16) (fun s k => s.doSliceLoss (16 * (i - 96) + k))
  | 7 => s.each (List.range 8) (fun s k => s.retireLane (8 * (i - 111) + k))
  | 8 => s.storeLoss
  | 9 => s.each (List.range 4) (fun s k => s.procRetire (4 * (i - 120) + k))
  | 0xB => s.czRetire (i - 125)
  | 0xC => s.cyRetire (i - 129)
  | 0x12 => s.linkLoss
  | 0x18 => s.selfCheckFail
  | _ => s

/-! ### Health reports (R765) -/

/-- The junction of an island's tile. -/
def State.isleTemp (s : State) (i : Nat) : Nat :=
  let t := match isleKind i with
    | 1 => some (i / 16)
    | 2 => some ((i - 64) / 4)
    | 3 => some ((i - 80) / 4)
    | 4 => some (i - 96)
    | _ => none
  match t with
  | some 0 => s.rf IS_THERM_CT0
  | some 1 => s.rf IS_THERM_CT1
  | some 2 => s.rf IS_THERM_CT2
  | some _ => s.rf IS_THERM_CT3
  | none => s.rf IS_THERM_HUB

/-- One island's record. -/
def State.isleRecord (s : State) (i : Nat) : List Nat :=
  toBytes (i + isleKind i * 256 + bits (s.isleStat i) 63 60 * 2 ^ 16 + s.rf IS_AGE_STATE i * 2 ^ 20) 4 ++
  toBytes (s.rf IS_AGE_MARGIN_PS i + s.rf IS_AGE_EOL_DAYS i * 2 ^ 16) 4 ++ toBytes (s.rf IS_AGE_HOURS i) 4 ++ toBytes (s.isleTemp i) 4

end Sys2Proof.Machine
end

