-- ==== Sys2Proof/Machine/Time.lean ====
section
/-! DEFINITION. Device time, its discipline, and the performance monitors (18 R753-R764). -/

namespace Sys2Proof.Machine

/-! ### The running of device time (R754, R779) -/

/-- Device time advances: the low 64 bits of a count. -/
def State.setNow (s : State) (t : Nat) : State := s.wreg rTM_TIME 0 (t % 2 ^ 64)

/-- One ns of the oscillator. The rate of TM_RATE and a slew at SLEW_PPM (the greatest rate that R754 allows: DESIGN CHOICE, log 36) gather in `frac`; together they
slow device time by at most 0.001 ns per ns. PM_CYCLE counts the 2.4 GHz mesh clock (01, R782). -/
def State.tick (s : State) : State :=
  let lim : Int := (s.rf TM_CFG_SLEW_PPM : Int) * 256000
  let dir : Int := if s.pw.slew = 0 then 0 else if 0 < s.pw.slew then lim else -lim
  let d := max (sextInt 32 (s.rf TM_RATE_RATE) + dir) (-256000000)
  let f := s.pw.frac + d
  let one : Int := if 256000000000 ≤ f then 1 else if f ≤ -256000000000 then -1 else 0
  let absorbed : Int := if s.pw.slew = 0 then 0 else if (0 < s.pw.slew) = (0 < one) then one else 0
  let t := s.now
  let t' := (((t : Int) + 1 + one).toNat) % 2 ^ 64
  let s := { s with pw := { s.pw with frac := f - one * 256000000000, slew := s.pw.slew - absorbed } }.setNow t'
  if s.rb PM_CTL_FROZEN then s else s.wreg rPM_CYCLE 0 ((s.reg rPM_CYCLE 0 + ((t' * 12) / 5 - (t * 12) / 5)) % 2 ^ 64)

/-- A correction of c ns (R754). -/
def State.correct (s : State) (c : Int) : State :=
  if 0 < c ∧ (s.rf TM_CFG_STEP_MS : Int) * 1000000 < c then
    (((({ s with pw := { s.pw with slew := 0 } }.setNow (s.now + c.toNat)).bump rTM_STEP_CNT).raise 0x362).report
      { org := org 0x12 0, cause := 0x1203, cls := slate })
  else { s with pw := { s.pw with slew := c } }

/-! ### States of the time base (R756) -/

/-- The time base moves to a state; Locking begins a new count. -/
def State.tmTo (s : State) (st : Nat) : State :=
  if s.rf TM_STAT_STATE = st then s
  else
    let s := if s.rf TM_STAT_STATE = 2 then { s with pw := { s.pw with lockedEnd := some s.now } } else s
    let s := ({ s with pw := { s.pw with locks := 0 } }.sf TM_STAT_STATE st).raise 0x360
    if st = 3 then s.report { org := org 0x12 0, cause := 0x1202, cls := slate } else s

/-- A source becomes usable or unusable (R767); the loss of one is recorded (R756). -/
def State.srcFlag (s : State) (f : RF) (b : Bool) : State :=
  if s.rb f == b then s
  else
    let s := (s.sb f b).raise 0x361
    if b then s else s.report { org := org 0x12 0, cause := 0x1201, cls := slate }

/-- An event of a source that is raised at most once per second. -/
def State.raiseSec (s : State) (n : Nat) : State :=
  let recent := match Map.find s.fc.rate n with | some t => decide (s.now < t + 1000000000) | none => false
  if recent then s else { s.raise n with fc := { s.fc with rate := Map.put s.fc.rate n s.now } }

/-- A measurement of the selected source (R756), of magnitude n: a return goes to Locking, sixteen small ones to Locked. -/
def State.tmCount (s : State) (n : Nat) : State :=
  let s := s.when (s.rf TM_STAT_STATE == 3) (fun s => s.tmTo 1)
  let s := { s with pw := { s.pw with locks := cond (decide (n ≤ s.rf TM_CFG_LOCK_NS)) (s.pw.locks + 1) 0 } }
  s.when (s.rf TM_STAT_STATE == 1 && decide (16 ≤ s.pw.locks)) (fun s => s.tmTo 2)

/-- A measurement larger than the alarm threshold (R756, R767). -/
def State.tmAlarm (s : State) (n : Nat) : State :=
  if s.rf TM_CFG_ALARM_US * 1000 < n then (s.report { org := org 0x12 0, cause := 0x1204, cls := slate }).raiseSec 0x363 else s

/-- A measurement (R756): TM_OFFSET, the alarm, and, from the selected source, the states. -/
def State.tmMeasure (s : State) (d : Int) (selected : Bool) : State :=
  let s := (s.wreg rTM_OFFSET 0 (wrapInt 64 d)).tmAlarm d.natAbs
  if selected then s.tmCount d.natAbs else s

/-- The sources that need an edge of PPS_IN, REFCLK_10M_IN, or writes of TM_ADJ (R755). -/
def State.tmSrc (s : State) : Nat := s.rf TM_CFG_SOURCE
def State.usesPps (s : State) : Bool := s.tmSrc == 2 || s.tmSrc == 3
def State.usesRef (s : State) : Bool := s.tmSrc == 3 || s.tmSrc == 4
def State.usesPtp (s : State) : Bool := s.tmSrc == 1 || s.tmSrc == 4

/-- REFCLK_10M_IN is seen to be present: its return goes to Locking. -/
def State.refSeen (s : State) (b : Bool) : State :=
  if b && !s.rb TM_STAT_REFCLK_OK then
    let s := s.srcFlag TM_STAT_REFCLK_OK true
    if s.usesRef && s.rf TM_STAT_STATE == 3 then s.tmTo 1 else s
  else s

/-- TM_ADJ: a correction of device firmware or the host; whole seconds only where hardware gives the phase (R754, R755). -/
def State.tmAdj (s : State) (v : Nat) (ref : Bool) : State :=
  let s := s.refSeen ref
  let c := sextInt 64 v
  if s.usesPps && c % 1000000000 != 0 then s
  else ((s.srcFlag TM_STAT_PTP_OK true).tmMeasure c s.usesPtp).correct c

/-- The servo's rate, which the spec leaves open within ±500,000 ppb (R779; log 3). -/
def State.servoRate (s : State) : State :=
  let (r, s) := s.fresh 28
  s.sf TM_RATE_RATE (wrapInt 32 ((r % 256000001 : Nat) - 128000000 : Int))

/-- A write of TM_CFG.SOURCE (R755, R756, R777): Locking, or Free-running for 0x0. Reserved values leave the field as 00 R14 says. -/
def State.tmSource (s : State) (v : Nat) (ref : Bool) : State :=
  let s := s.refSeen ref
  if 4 < v then s
  else
    let s := s.sf TM_CFG_SOURCE v
    let s := if 2 ≤ v then s.servoRate else s
    s.tmTo (if v = 0 then 0 else 1)

/-- A PPS_IN edge on the edge that TM_CFG.PPS_IN_FALL selects (R755, R758): captured, and measured by the servo. `soon`: it comes within 1.5 s of the last. -/
def State.ppsEdge (s : State) (falling soon ref : Bool) : State :=
  let s := s.refSeen ref
  if falling != s.rb TM_CFG_PPS_IN_FALL then s
  else
    let t := s.now
    let s := s.wreg rTM_PPS_IN 0 t
    let s := if soon then s.srcFlag TM_STAT_PPS_OK true else s
    if s.usesPps then
      let m := t % 1000000000
      let d : Int := if 500000000 < m then (m : Int) - 1000000000 else m
      ((s.servoRate).tmMeasure d true).correct (-d)
    else s

/-- HOLDOVER: source k (0 PPS_IN, 1 REFCLK_10M_IN, 2 PTP) has been missing for its timeout (R756). -/
def State.holdover (s : State) (k : Nat) : State :=
  let (f, uses) := match k with
    | 0 => (TM_STAT_PPS_OK, s.usesPps)
    | 1 => (TM_STAT_REFCLK_OK, s.usesRef)
    | _ => (TM_STAT_PTP_OK, s.usesPtp)
  let s := s.srcFlag f false
  if uses && (s.rf TM_STAT_STATE == 1 || s.rf TM_STAT_STATE == 2) then s.tmTo 3 else s

/-- OSC_FAULT: the oscillator in use fails, and the other takes over with no step (R753). -/
def State.oscFault (s : State) : State :=
  (((s.sf TM_STAT_OSC (1 - s.rf TM_STAT_OSC)).sf TM_STAT_OSC_FAULT 1).raise 0x361).report { org := org 0x12 0, cause := 0x1205, cls := ochre }

/-- PPS_OUT at a whole second of device time (R758). -/
def State.ppsOut (s : State) : State :=
  if s.rb TM_PPS_OUT_EN && (s.rb TM_PPS_OUT_ALWAYS || decide (2 ≤ s.rf TM_STAT_STATE)) then s.emit (.pps s.now (s.rf TM_PPS_OUT_WIDTH_US)) else s

/-! ### Performance monitors (R762-R764) -/

/-- A snapshot: every counter is copied to its shadow, 0x1000 above it. -/
def State.shadow (s : State) : State :=
  let s := s.wreg rPM_SHD_CYCLE 0 (s.reg rPM_CYCLE 0)
  let s := s.each (List.range 64) (fun s n => s.wreg rPM_SHD_CNT n (s.reg rPM_CNT n))
  s.each (List.range 16) (fun s k => s.wreg rPM_SHD_BW k (s.reg rPM_BW k))

/-- A trigger of source `src` (0 command, 1 register, 2 PMU_SNAP) less than 1 us after the last snapshot is not taken (R764). -/
def State.snap (s : State) (src : Nat) : State :=
  if s.rf PM_SNAP_STAT_COUNT ≠ 0 ∧ s.now < s.reg rPM_SNAP_TIME 0 + 1000 then s.incSat PM_SNAP_STAT_MISSED
  else
    let s := ((s.shadow.sf PM_SNAP_STAT_SRC src).sf PM_SNAP_STAT_COUNT (s.rf PM_SNAP_STAT_COUNT + 1)).wreg rPM_SNAP_TIME 0 s.now
    s.raise 0x374

/-- COUNTER_SNAPSHOT (R763): the time of the last snapshot edge. -/
def State.doSnapshot (s : State) (c : Cmd) : State :=
  let s := s.snap 0
  let t := s.reg rPM_SNAP_TIME 0
  s.finish c stOK [t % 2 ^ 32, t / 2 ^ 32]

/-- PM_CTL.FREEZE (R763). -/
def State.freezeCtl (s : State) (b : Bool) : State := (s.sb PM_CTL_FREEZE b).sb PM_CTL_FROZEN b

/-- BANDWIDTH_WINDOW_END of monitor k (R762): a monitor that starts has had no whole window yet. -/
def State.bwWindow (s : State) (k : Nat) : State :=
  if s.rb PM_CTL_FROZEN then s
  else if !s.rb PM_BW_CFG_EN k then { s with pw := { s.pw with bw := Map.del s.pw.bw k } }
  else
    let s := match Map.find s.pw.bw k with
      | some n =>
        let l := satN 32 (n / 64)
        (s.sf PM_BW_LAST l k).sf PM_BW_MAX (max l (s.rf PM_BW_MAX k)) k
      | none => s
    { s with pw := { s.pw with bw := Map.put s.pw.bw k 0 } }

/-! ### Health reports (R765) -/

/-- The contents of a report; `none` for a reserved KIND. The time since Locked is open where Locked was never entered (log 3). -/
def State.healthReport (s : State) (kind : Nat) : State × Option (List Nat) :=
  match kind with
  | 1 => (s, some ((List.range 167).flatMap (fun i => s.isleRecord i)))
  | 2 => (s, some (toBytes (s.rf IS_STAT_POWER_MW) 4 ++ (List.range 11).flatMap (fun k => toBytes (s.pw.rails.getD k 0) 4) ++
      toBytes (s.reg rIS_THERM 0) 8 ++ toBytes (s.reg rIS_STAT 0) 8))
  | 3 =>
    let (free, s) := s.fresh 64
    let since := if s.rf TM_STAT_STATE = 2 then 0 else match s.pw.lockedEnd with | some t => s.now - t | none => free
    (s, some (toBytes (s.reg rTM_STAT 0) 8 ++ toBytes (s.reg rTM_OFFSET 0) 8 ++ toBytes (s.reg rTM_PPS_IN 0) 8 ++ toBytes (s.reg rTM_RATE 0) 8 ++
      toBytes s.now 8 ++ toBytes since 8 ++ toBytes 0 16))
  | _ => (s, none)

/-- HEALTH_QUERY (R765). -/
def State.doHealthQuery (s : State) (c : Cmd) : State :=
  match s.healthReport (c.p 0) with
  | (s, none) => s.finish c stBAD_PARAM [0]
  | (s, some b) =>
    if c.p 3 < b.length then s.finish c stBAD_PARAM [b.length]
    else match s.bufWrite c (c.p64 1) b with
      | (s, true) => s.finish c stOK [b.length]
      | (s, false) => s.finish c stBAD_PARAM

/-- What the block does when no command waits: while it is powered, one ns passes (DESIGN CHOICE, log 1). -/
def State.idle (s : State) : State := if s.powered then s.tick else s

end Sys2Proof.Machine
end

