-- ==== Sys2Proof/Machine/Ports.lean ====
section
/-! DEFINITION. Supplies, the Management Port's link, Ethernet frames and gates, PCIe links and inbound requests (19). -/

namespace Sys2Proof.Machine

/-! ### Supplies and the Management Port (R792, R809) -/

/-- SUPPLY_FAULT on a rail (0 to 3: VDD_CT0 to VDD_CT3; the rest in the order of 18 R765): the record; a core whose supply it is check-stops (04 R146). -/
def State.supplyFault (s : State) (rail : Nat) : State :=
  let s := s.report { org := org 0x18 164, cause := 0x0008, cls := ochre }
  if rail < 4 then s.each (List.range 16) (fun s k => s.checkStop (16 * rail + k)) else s

/-- MP_PERST_N low, a Hot Reset or a link loss: only the port's link and configuration space (R809). -/
def State.mpPerst (s : State) : State :=
  let s := { s with mp := { s.mp with busMaster := false, msixEn := false, msixMask := false } }
  (s.report { org := org 0x10 0, cause := 0x1001, cls := slate }).raise 0x3C5

/-! ### Ethernet (R811-R814) -/

/-- A source of port e. -/
def ntSrc (e k : Nat) : Nat := 0x320 + 4 * e + k

/-- A received frame is discarded (R811, R814). -/
def State.ntDiscard (s : State) (e : Nat) : State := (s.bump rNT_RX_DISC e).raiseMs (ntSrc e 2)

/-- The n bytes at an offset, as a number in network order. -/
def beAt (b : List Nat) (o n : Nat) : Nat := ofBytes ((b.drop o).take n).reverse

/-- The ones' complement sum of 16-bit words of the standards' checksums. -/
def sum16 : List Nat → Nat
  | [] => 0
  | [a] => a * 256
  | a :: b :: r => let s := a * 256 + b + sum16 r; s % 65536 + s / 65536

/-- A frame's VLAN tag (VID, PCP), the type, and what follows. -/
structure EthFrame where
  src : Nat
  tag : Option (Nat × Nat)
  type : Nat
  body : List Nat

def parseEth (b : List Nat) : EthFrame :=
  if beAt b 12 2 = 0x8100 then ⟨beAt b 6 6, some (beAt b 14 2 % 4096, beAt b 14 2 / 8192), beAt b 16 2, b.drop 18⟩
  else ⟨beAt b 6 6, none, beAt b 12 2, b.drop 14⟩

/-- The Open NET channels of a port. -/
def State.netChans (s : State) (e : Nat) : List Nat :=
  (Map.keys s.ch.defs).filter (fun c => s.chanKind c == 2 && s.rf CH_CHAN_STATE c == 1 && dfld (s.cdef c) 4 1 0 == e)

/-- Whether a frame's tag is a channel's. -/
def tagFits (d : Nat) (t : Option (Nat × Nat)) : Bool :=
  match t with
  | some (v, _) => dfld d 4 3 3 == 1 && dfld d 4 15 4 == v
  | none => dfld d 4 3 3 == 0

/-- A UDP datagram: source and destination addresses and ports, payload; `none` where a header or checksum is wrong (R455). -/
def parseUdp (f : EthFrame) : Option (Bool × List Nat × List Nat × Nat × Nat × List Nat) :=
  let b := f.body
  let udp := fun (v6 : Bool) (sa da u : List Nat) =>
    let n := beAt u 4 2
    let sum := sum16 (sa ++ da ++ [0, 17, n / 256, n % 256] ++ u.take n)
    if 8 ≤ n ∧ n ≤ u.length ∧ sum = 0xFFFF then some (v6, sa, da, beAt u 0 2, beAt u 2 2, (u.take n).drop 8) else none
  if f.type = 0x0800 then
    let hl := b.headD 0 % 16 * 4
    let n := beAt b 2 2
    if b.headD 0 / 16 = 4 ∧ 20 ≤ hl ∧ hl ≤ n ∧ n ≤ b.length ∧ sum16 (b.take hl) = 0xFFFF ∧ b.getD 9 0 = 17 ∧ beAt b 6 2 % 16384 = 0 then
      udp false ((b.drop 12).take 4) ((b.drop 16).take 4) ((b.take n).drop hl)
    else none
  else if f.type = 0x86DD then
    if b.headD 0 / 16 = 6 ∧ b.getD 6 0 = 17 ∧ 40 + beAt b 4 2 ≤ b.length then
      udp true ((b.drop 8).take 16) ((b.drop 24).take 16) ((b.drop 40).take (beAt b 4 2))
    else none
  else none

/-- A channel's address bytes: LADDR at 0x10, PADDR at 0x20. -/
def chanAddr (d off : Nat) : List Nat := toBytes (d / 2 ^ (8 * off)) (if dfld d 4 2 2 = 1 then 16 else 4)

/-- A peer's link-layer address is learned (R812). -/
def State.learn (s : State) (c mac : Nat) : State :=
  { s with ch := { s.ch with peers := Map.put s.ch.peers c (mac, max 1 s.now, 0) } }

/-- An answer to a request for LADDR, while the module's gate is open and it is active (R812). -/
def State.arpAnswer (s : State) (e mac : Nat) (addr : List Nat) : State :=
  if s.drives && !s.isStandby then s.ethOut e (.eth e 2 (toBytes mac 6 ++ addr)) (6 + addr.length) else s

/-- ARP (RFC 826) and IPv6 neighbour discovery (RFC 4861): (is a request, sender's address, target address, sender's link-layer address if given). -/
def parseArp (f : EthFrame) : Option (Bool × List Nat × List Nat × Option Nat) :=
  let b := f.body
  if f.type = 0x0806 ∧ beAt b 0 8 / 65536 = 0x000108000604 ∧ 28 ≤ b.length then
    match beAt b 6 2 with
    | 1 => some (true, (b.drop 14).take 4, (b.drop 24).take 4, some (beAt b 8 6))
    | 2 => some (false, (b.drop 14).take 4, (b.drop 24).take 4, some (beAt b 8 6))
    | _ => none
  else if f.type = 0x86DD ∧ b.headD 0 / 16 = 6 ∧ b.getD 6 0 = 58 ∧ b.getD 7 0 = 255 ∧ 64 ≤ b.length then
    let opt := fun (k : Nat) => if b.getD 64 0 = k ∧ b.getD 65 0 = 1 ∧ 72 ≤ b.length then some (beAt b 66 6) else none
    match b.getD 40 0 with
    | 135 => some (true, (b.drop 8).take 16, (b.drop 48).take 16, opt 1)
    | 136 => some (false, (b.drop 48).take 16, (b.drop 24).take 16, opt 2)
    | _ => none
  else none

/-- Whether a frame carries PTP or gPTP. -/
def isPtp (f : EthFrame) : Bool :=
  f.type == 0x88F7 || (match parseUdp f with | some (_, _, _, _, p, _) => p == 319 || p == 320 | none => false)

/-- ETHERNET_FRAME_RECEIVE (R811): `fcsOk`: its frame check sequence is right. PTP goes to device firmware, which is outside the model's state (log 37). -/
def State.ethReceive (s : State) (e : Nat) (b : List Nat) (fcsOk : Bool) : State :=
  if !s.rb NT_CFG_EN e || !s.rb NT_STAT_LINK e then s
  else if !fcsOk then ((s.bump rNT_FCS_ERR e).report { org := org 0xE e, cause := 0x0E02, cls := slate }).raiseMs (ntSrc e 2)
  else
    let s := (s.bump rNT_RX_CNT e).bwBytes (0x24 + e) b.length
    let f := parseEth b
    let cs := s.netChans e
    if 9022 < b.length ∨ b.length < 14 then s.ntDiscard e
    else if isPtp f then s
    else if f.tag.isSome ∧ cs.all (fun c => !tagFits (s.cdef c) f.tag) = true then s.ntDiscard e
    else match parseArp f with
      | some (req, sender, target, mac) =>
        let s := match mac with
          | some m => s.each (cs.filter (fun c => chanAddr (s.cdef c) 0x20 == sender)) (fun s c => s.learn c m)
          | none => s
        if req && cs.any (fun c => chanAddr (s.cdef c) 0x10 == target) then s.arpAnswer e f.src target else s
      | none =>
        match parseUdp f with
        | none => s.ntDiscard e
        | some (v6, sa, da, sp, dp, data) =>
          match cs.find? (fun c =>
            let d := s.cdef c
            tagFits d f.tag && dfld d 4 2 2 == b2n v6 && chanAddr d 0x10 == da && chanAddr d 0x20 == sa && dfld d 8 15 0 == dp && dfld d 8 31 16 == sp) with
          | none => s.ntDiscard e
          | some c => { s with ch := { s.ch with inbox := s.ch.inbox ++ [⟨c, data⟩] } }

/-- ARP_REFRESH of one channel's peer (R812): one attempt; after three without an answer the address is unresolved. -/
def State.arpRefresh (s : State) (c : Nat) : State :=
  let e := dfld (s.cdef c) 4 1 0
  if s.chanKind c ≠ 2 ∨ s.rf CH_CHAN_STATE c ≠ 1 ∨ (Map.find s.ch.defs c).isNone = true then s
  else
    let p := Map.getD s.ch.peers c (0, 0, 0)
    if 3 ≤ p.2.2 then
      (({ s with ch := { s.ch with peers := Map.put s.ch.peers c (p.1, 0, 0) } }.report { org := org 0xE e, cause := 0x0E03, cls := slate }).raise (ntSrc e 3))
    else s.arpAsk c

/-- ETHERNET_LINK_CHANGE (R814, R825): up in a mode with or without RS-FEC, or down. -/
def State.ntLink (s : State) (e : Nat) (up : Option (Nat × Bool)) : State :=
  match up with
  | some (m, fec) =>
    if s.rb NT_CFG_EN e && !s.rb NT_STAT_LINK e then (((s.sf NT_STAT_LINK 1 e).sf NT_STAT_MODE m e).sb NT_STAT_FEC fec e).raise (ntSrc e 0) else s
  | none =>
    if s.rb NT_STAT_LINK e then
      ((((s.sf NT_STAT_LINK 0 e).sf NT_STAT_MODE 0 e).sf NT_STAT_FEC 0 e).report { org := org 0xE e, cause := 0x0E01, cls := slate }).raise (ntSrc e 0)
    else s

/-- SWITCH: a change of gate bank is armed (R813). -/
def State.gclSwitch (s : State) (e : Nat) : State := s.sf NT_GCL_CFG_PENDING 1 e

/-- GATE_BANK_CHANGE at the boundary of the old list's cycle (R813). -/
def State.gclChange (s : State) (e : Nat) : State :=
  if s.rb NT_GCL_CFG_PENDING e then ((s.sf NT_GCL_CFG_ACTIVE (1 - s.rf NT_GCL_CFG_ACTIVE e) e).sf NT_GCL_CFG_PENDING 0 e).raise (ntSrc e 1) else s

/-! ### PCIe root ports (R801-R807, R822) -/

/-- PX_LINK_STAT_l.STATE changes (R807). -/
def State.pxState (s : State) (l st : Nat) : State :=
  if s.rf PX_LINK_STAT_STATE l = st then s else (s.sf PX_LINK_STAT_STATE st l).raiseMs (0x330 + l)

/-- A link is no longer up. -/
def State.pxDown (s : State) (l st : Nat) : State :=
  let s := (((s.sf PX_LINK_STAT_GEN 0 l).sf PX_LINK_STAT_WIDTH 0 l).sf PX_LINK_STAT_FLIT 0 l).sf PX_LINK_STAT_IDE_ACTIVE 0 l
  let was := s.rf PX_LINK_STAT_STATE l == 4
  let s := s.pxState l st
  if was then s.pxReport (l / 4) (some l) 0x0F01 0 else s

/-- PCIE_LINK_CHANGE (R807). -/
def State.pxEvent (s : State) (l : Nat) (ev : PxEvent) : State :=
  let rep := fun (cause addr : Nat) => s.pxReport (l / 4) (some l) cause addr
  if s.rf PX_LINK_STAT_STATE l = 0 then s
  else match ev with
    | .up gen width flit ide =>
      if !s.rb PX_LINK_CFG_EN l then s
      else
        let s := ((((s.sf PX_LINK_STAT_GEN gen.toNat l).sf PX_LINK_STAT_WIDTH width.toNat l).sb PX_LINK_STAT_FLIT flit l).sb PX_LINK_STAT_IDE_ACTIVE ide l).pxState l 4
        if gen.toNat < s.rf PX_LINK_CFG_MAX_GEN l ∨ width.toNat < s.rf PX_LINK_STAT_MAX_WIDTH l then s.pxReport (l / 4) (some l) 0x0F06 0 else s
    | .training => if s.rb PX_LINK_CFG_EN l && s.rf PX_LINK_STAT_STATE l != 4 then s.pxState l 3 else s
    | .down => s.pxDown l (if s.rb PX_LINK_CFG_EN l then 2 else 1)
    | .correctable => rep 0x0F02 0
    | .uncorrectable a => rep 0x0F03 a.toNat
    | .ideFailure => rep 0x0F05 0
    | .clockLost => (s.bump rPX_LINK_ERR l).raiseMs (0x330 + l) |>.report { org := org 0xF (l / 4), cause := 0x0007, cls := ochre, d0 := l }

/-- LINK_RANGE_WRITE (R822): PX_LINK_BASE_l, or PX_LINK_LIMIT_l, in units of 1 MiB. -/
def State.rangeWrite (s : State) (a : Agent) (l : Nat) (limit : Bool) (v : Nat) : State :=
  let u := bits v 44 20
  let b := if limit then s.rf PX_LINK_BASE_ADDR l else u
  let t := if limit then u else s.rf PX_LINK_LIMIT_ADDR l
  let clash := (List.range 4).any (fun k =>
    let j := l / 4 * 4 + k
    j != l && s.rf PX_LINK_STAT_STATE j != 0 && decide (s.rf PX_LINK_BASE_ADDR j ≤ t) && decide (b ≤ s.rf PX_LINK_LIMIT_ADDR j))
  if s.rb PX_LINK_CFG_EN l ∨ s.rf PX_LINK_STAT_STATE l = 0 then s
  else if t < b ∨ 0x1FFFF00 ≤ t ∨ clash = true then
    s.regAccess (agentOrg a) ((if limit then rPX_LINK_LIMIT else rPX_LINK_BASE).addr l) 8 true
  else s.sf (if limit then PX_LINK_LIMIT_ADDR else PX_LINK_BASE_ADDR) u l

/-- The stream entry that ties a requester to an instance (R805). -/
def State.stream (s : State) (r rid : Nat) : Option Nat :=
  ((List.range 256).map (fun k => 256 * r + k)).find? (fun k =>
    s.rb PX_STREAM_EN k && s.rf PX_STREAM_RID k == rid && !s.rb PX_STREAM_HELD k &&
    (s.ist (s.rf PX_STREAM_INSTANCE k) == 2 || s.ist (s.rf PX_STREAM_INSTANCE k) == 5))

/-- An inbound write's bytes at a translated address (06 R254, 08 R316). -/
def State.pxWriteAt (s : State) (pa : Nat) (pr : Bool) (bs : List Nat) : State :=
  let n := bs.length
  match s.target pa with
  | .sys => (((s.srTouch (pa / 64)).recordSpan pr pa n).bwBytes 2 n).coWriteN pa n (ofBytes bs)
  | .store => if pa % 16 = 0 ∧ (n = 4 ∨ n = 8) then
      let off := pa - 0x400000000000
      s.pendStore (off / 64 * 64) (BitVec.ofNat 512 (ofBytes (bs.take 4) * 256 ^ (pa % 64))) (BitVec.ofNat 64 (15 * 2 ^ (pa % 64)))
    else s
  | .pcie r =>
    (match s.pxReach r ((pa - 0x800000000000) % 0x200000000000) with
     | (s, some l) => (s.emit (.pcie l true ((pa - 0x800000000000) % 0x200000000000) bs)).bwBytes (0x14 + l / 4) n
     | (s, none) => s)
  | _ => s

/-- An inbound read at a translated address: status, poison, data. -/
def State.pxReadAt (s : State) (pa n : Nat) (far : FarEnd) : State × Nat × Bool × List Nat :=
  match s.target pa with
  | .sys => ((s.srTouch (pa / 64)).bwBytes 1 n, 0, s.coPoison pa n, toBytes (s.coRead pa n) n)
  | .store => (s, 0, false, toBytes (s.sgRd (pa - 0x400000000000) n) n)
  | .pcie r =>
    let bus := (pa - 0x800000000000) % 0x200000000000
    (match s.pxReach r bus with
     | (s, none) => (s, 1, false, [])
     | (s, some l) => (match (s.emit (.pcie l false bus [n])).farResult l bus n far with
       | (s, .ok bs) => (s, 0, false, bs)
       | (s, .error _) => (s, 1, false, [])))
  | _ => (s, 1, false, [])

/-- The pieces of a request by 4 KiB page: address and length. -/
def pageSpans (a n : Nat) : List (Nat × Nat) :=
  (List.range (if n = 0 then 0 else (a + n - 1) / 4096 + 1 - a / 4096)).map (fun i =>
    let lo := max a ((a / 4096 + i) * 4096)
    (lo, min (a + n) ((a / 4096 + i + 1) * 4096) - lo))

/-- PCIE_INBOUND_REQUEST (06 R253, R254, R805): on link l, from a requester; a posted write, or a read of n bytes. `special`: a PASID prefix, an Address
Translation Services request, or an AT field other than 0b00. `far` answers a read that is forwarded to another device. -/
def State.pxInbound (s : State) (l rid addr : Nat) (ide special : Bool) (wr : Option (List Nat)) (n : Nat) (far : FarEnd) : State :=
  let r := l / 4
  let len := match wr with | some b => b.length | none => n
  let answer := fun (s : State) (st : Nat) (p : Bool) (d : List Nat) => if wr.isSome then s else s.emit (.pcieCpl r st p d)
  let s := s.bwBytes (0x10 + r) len
  if s.rf PX_LINK_STAT_STATE l ≠ 4 then s
  else match s.stream r rid with
    | none => answer s 1 false []
    | some k =>
      let i := s.rf PX_STREAM_INSTANCE k
      if special || decide (2 ^ 46 ≤ addr + len - 1) || (s.rb PX_STREAM_IDE k && !ide) || s.isSable then answer s 1 false []
      else
        let step := fun (acc : State × Nat × Bool × List Nat) (p : Nat × Nat) =>
          if acc.2.1 ≠ 0 then acc
          else match acc.1.ioXlat (64 + r) (org 0xF r) i (acc.1.gen i) p.1 wr.isSome with
            | (s, .ok pa pr) =>
              (match wr with
               | some b => (s.pxWriteAt pa pr ((b.drop (p.1 - addr)).take p.2), 0, false, [])
               | none =>
                 let x := s.pxReadAt pa p.2 far
                 (x.1, x.2.1, acc.2.2.1 || x.2.2.1, acc.2.2.2 ++ x.2.2.2))
            | (s, .unmapped) => (s, 1, false, [])
            | (s, _) => (s, 4, false, [])
        let x := (pageSpans addr len).foldl step (s, 0, false, [])
        if wr.isSome then (if x.2.1 = 0 then x.1 else x.1.pxReport r (some l) 0x0F03 addr)
        else
          let s := if x.2.2.1 then x.1.report { org := org 0xF r, cause := 0x0004, cls := slate, subj := some (i, x.1.gen i), d0 := addr } else x.1
          answer s x.2.1 x.2.2.1 (if x.2.1 = 0 then x.2.2.2 else [])

end Sys2Proof.Machine
end

