-- ==== Sys2Proof/Machine/RegFile.lean ====
section
/-! DEFINITION. Register accesses: device register space by agent (00 R11-R16, 01 R28-R33), BAR2 (14 R581), the instance pages (01 R33, 13). -/

namespace Sys2Proof.Machine

/-! ### What a register reads as -/

/-- The register, its instance and the byte within it, at an address. -/
def findReg (addr : Nat) : Option (Reg × Nat × Nat) :=
  allRegs.findSome? (fun (r : Reg) => if r.base ≤ addr then (dimIdx r.dims (addr - r.base)).map (fun (p : Nat × Nat) => (r, p.1, p.2)) else none)

/-- The same register array. -/
def Reg.same (r x : Reg) : Bool := r.base == x.base

/-- Bits `[hi:lo]` as a mask. -/
def fieldMask (f : RF) : Nat := (2 ^ (f.hi + 1 - f.lo) - 1) * 2 ^ f.lo

/-- IP_STATUS_i: the fields that it shares with TN_INST_n, DEGRADED, GENERATION and ID (13 R554). -/
def State.ipStatus (s : State) (i : Nat) : Nat :=
  let t := s.reg rTN_INST i
  let v := setBits (setBits 0 63 34 (bits t 63 34)) 33 33 (b2n (s.kc.degr.any (fun k => k / 64 == i)))
  setBits (setBits v 20 9 (s.gen i)) 8 0 i

/-- The STATE of 15 R633 of a unit: 4 where its kind returns by no such path. -/
def State.lifecycle (s : State) (o : Nat) : Nat :=
  let k := o % 65536
  match o / 65536 with
  | 1 => if 64 ≤ k then 4 else match s.rf KC_PCS_ROLE k with
    | 3 => 1
    | 5 => 1
    | 6 => 2
    | 7 => 3
    | _ => 0
  | 4 => if 10 ≤ k then 4 else if s.rf MA_CH_STAT_STATE k = 0 then 0 else if s.rf MA_CH_STAT_STATE k = 5 then 3 else 1
  | 6 => if 64 ≤ k then 4 else s.rf SG_LANE_STAT_STATE k
  | 8 => if 16 ≤ k then 4 else s.rf CH_PROC_STAT_STATE k
  | 0xA => if 4 ≤ k then 4 else s.rf CZ_PIPE_STAT_STATE k
  | 0xB => if 8 ≤ k then 4 else s.rf CY_PIPE_STAT_STATE k
  | 0x16 => if 2048 ≤ k then 4 else (s.unit o).st
  | _ => 4

/-- FC_UNIT_STAT for the unit that FC_UNIT_SEL names (15 R661). -/
def State.unitStat (s : State) : Nat :=
  let o := s.rf FC_UNIT_SEL_UNIT
  let u := s.unit o
  let st := s.lifecycle o
  if st = 4 then 4 * 2 ^ 60 + u.lastClass * 2 ^ 56
  else st * 2 ^ 60 + u.lastClass * 2 ^ 56 + satN 8 (s.recoveries o) * 2 ^ 48 +
    (if st = 2 then (u.quietEnd - s.now) / 1000000 % 2 ^ 22 else 0) * 2 ^ 22 + u.total

/-- The load of a lane in percent (08 R294). -/
def State.laneLoad (s : State) (l : Nat) : Nat :=
  ((s.definedSids.filter (fun i => laneOf i == l && !recOut (s.sigRec i))).foldl (fun n i =>
    n + (((s.port (bits i 20 16)).tbl.map (fun (t : RingTbl) => t.rate i)).getD 0)) 0) / (128 * 375000)

/-- Instances in a state, or in any but Free (13 R574). -/
def State.instCount (s : State) (p : Nat → Bool) : Nat := ((List.range 512).filter (fun i => p (s.ist i))).length

/-- TN_MBX_PEND_j: no bit shows for a secure instance (17 R707). -/
def State.mbxPend (s : State) (j : Nat) : Nat :=
  (List.range 64).foldl (fun v b => setBit v b ((s.inst (64 * j + b)).outPosted && !s.rb TN_INST_SECURE (64 * j + b))) 0

/-- TN_MBX_CTL: OUT_SEQ and OUT_LEN of the selected instance (13 R576). -/
def State.mbxCtl (s : State) : Nat :=
  let i := s.rf TN_MBX_SEL_INSTANCE
  let v := s.reg rTN_MBX_CTL 0
  if s.mbxReach i then setBits (setBits v 31 16 (s.inst i).outSeq) 15 0 (s.rf IP_MBX_OUT_LEN i) else setBits v 31 0 0

/-- TN_DISP_c_e with RUNNABLE, CURRENT and CONTROL (13 R579). -/
def State.dispView (s : State) (x : Nat) : Nat :=
  let c := x / 64
  let e := x % 64
  if s.rb TN_DISP_VALID x then
    setBit (setBit (setBit (s.reg rTN_DISP x) 62 (s.runnable c e)) 61 ((s.core c).cur == e)) 60 (s.isControl c e)
  else s.reg rTN_DISP x

/-- IS_MEM_SR with PERMIT (18 R772). -/
def State.memSr (s : State) : Nat := (List.range 8).foldl (fun v r => setBit v (8 + r) (s.srPermit r)) (s.reg rIS_MEM_SR 0)

/-- Register r, instance i, as a reader with full access reads it: fields that other state holds are computed. -/
def State.view (s : State) (r : Reg) (i : Nat) : Nat :=
  if r.same rTN_STAT then s.instCount (· != 0) * 2 ^ 32 + s.instCount (· == 2)
  else if r.same rTN_MBX_CTL then s.mbxCtl
  else if r.same rTN_MBX_PEND then s.mbxPend i
  else if r.same rTN_DISP then s.dispView i
  else if r.same rFC_UNIT_STAT then s.unitStat
  else if r.same rSG_STAT then setBits (s.reg rSG_STAT 0) 47 40 (s.rf TW_STAT_ROLE)
  else if r.same rSG_LANE_STAT then setBits (s.reg rSG_LANE_STAT i) 47 40 (min 255 (s.laneLoad i))
  else if r.same rIS_ISL_STAT then s.isleStat i
  else if r.same rKC_SPARE_STAT && s.rb KC_SPARE_STAT_BUSY i then setBits (s.reg rKC_SPARE_STAT i) 31 0 (s.sinceStop i 0)
  else if r.same rIS_MEM_SR then s.memSr
  else if r.same rTW_STAT then setBit (s.reg rTW_STAT 0) 54 s.peerRecent
  else if r.same rTW_STREAM then setBits (s.reg rTW_STREAM 0) 31 0 (satN 32 (64 * s.recorded.length))
  else if r.same rIP_STATUS then s.ipStatus i
  else if r.same rIP_TEL_STALE then s.reg rTN_STALE i
  else if r.same rIP_TEL_EQ_DROP then s.reg rTN_EQ_DROP i
  else if r.same rIP_TEL_BUCKET then s.reg rTN_BUCKET i
  else if r.same rIP_TEL_VCORE then (s.vc i).getCr 0x40
  else s.reg r i

/-- The bits of register r, instance i, that an agent reaches (01 R37, 10 R408, 13 R571): the secure world all of them. -/
def State.reach (s : State) (a : Agent) (r : Reg) (i : Nat) : Nat :=
  let full := 2 ^ 64 - 1
  if a.isSecure then full
  else if r.same rMP_EVT_ROUTE then (if s.rb MP_EVT_ROUTE_SECURE i then 1 else full)
  else if r.same rTN_INST then (if s.rb TN_INST_SECURE i then fieldMask TN_INST_STATE + fieldMask TN_INST_SECURE else full)
  else if r.same rTN_STALE || r.same rTN_EQ_DROP then (if s.rb TN_INST_SECURE i then 0 else full)
  else if r.same rTN_BUCKET then (if s.rb TN_INST_SECURE (i / 5) then 0 else full)
  else if r.same rTN_DISP then (if s.rb TN_INST_SECURE (s.rf TN_DISP_INSTANCE i) then 0 else full)
  else if r.same rCY_PIPE_STAT || r.same rCY_PIPE_BYTES || r.same rCY_PIPE_RETRY then (if s.cyLeased i then 0 else full)
  else if r.same rCY_SLOT then (if s.rb CY_SLOT_LEASED i then 0 else full)
  else if r.same rCY_ELOG then (if s.cy.elogLeased then 0 else full)
  else full

/-! ### Writes by access code (00 R11-R13) -/

/-- Whether a value is an assigned encoding of a field. -/
def Fld.assigned (f : Fld) (n : Nat) : Bool := f.ok.isEmpty || f.ok.any (fun (p : Nat × Nat) => decide (p.1 ≤ n) && decide (n ≤ p.2))

/-- A field of `old` after a write of `w` to the bits of `mask`. -/
def Fld.write (f : Fld) (was w mask old : Nat) : Nat :=
  let o := bits old f.hi f.lo
  let m := bits mask f.hi f.lo
  let x := bits w f.hi f.lo
  let n := (o ^^^ (o &&& m)) ||| (x &&& m)
  match f.acc with
  | .rw => if f.assigned n then setBits old f.hi f.lo n else old
  | .rwEn0 => if f.assigned n && !bit was 63 then setBits old f.hi f.lo n else old
  | .w1c => setBits old f.hi f.lo (o ^^^ (o &&& x &&& m))
  | .w1s => setBits old f.hi f.lo (o ||| (x &&& m))
  | _ => old

/-- A register's value after a write. -/
def Reg.write (r : Reg) (old w mask : Nat) : Nat := r.flds.foldl (fun v (f : Fld) => f.write old w mask v) old

/-- A register's RC fields cleared. -/
def Reg.cleared (r : Reg) (old : Nat) : Nat :=
  r.flds.foldl (fun v (f : Fld) => match f.acc with | .rc => setBits v f.hi f.lo 0 | _ => v) old

/-- Store what the access codes give. -/
def State.writeCodes (s : State) (r : Reg) (i w mask : Nat) : State := s.wreg r i (r.write (s.reg r i) w mask)

/-! ### Registers whose write does more -/

/-- IS_ISL_CTL_i (18 R774). What UNPARK's test finds is free (log 3). -/
def State.isleCtl (s : State) (i cmd : Nat) : State :=
  if s.rf IS_ISL_CTL_RESULT i = 1 then s
  else if cmd = 1 then s.park i
  else if cmd = 2 then (fun (p : Nat × State) => p.2.unpark i (p.1 == 1)) (s.fresh 1)
  else s

/-- TM_CFG: a write of SOURCE enters Locking or Free-running (18 R756, R777). Whether the reference clock runs is free (log 3). -/
def State.tmCfg (s : State) (w mask : Nat) : State :=
  let s := s.writeCodes rTM_CFG 0 w (mask % 2 ^ 60)
  if bits mask 63 60 = 0 then s else (fun (p : Nat × State) => p.2.tmSource (bits w 63 60) (p.1 == 1)) (s.fresh 1)

/-- TM_RATE: within ±500,000 ppb, in units of 1/256 ppb; the servo's while the source is disciplined by hardware (18 R755, R779). -/
def State.tmRate (s : State) (w mask : Nat) : State :=
  let n := s.rf TM_RATE_RATE
  let v := (n ^^^ (n &&& bits mask 31 0)) ||| (bits w 31 0 &&& bits mask 31 0)
  if s.tmSrc = 2 ∨ s.tmSrc = 3 ∨ s.tmSrc = 4 then s
  else if (sextInt 32 v).natAbs ≤ 128000000 then s.sf TM_RATE_RATE v else s

/-- PX_LINK_CFG_l: writes to an absent link are ignored; EN holds the link disabled or lets it train (19 R820). -/
def State.linkCfg (s : State) (l w mask : Nat) : State :=
  if s.rf PX_LINK_STAT_STATE l = 0 then s
  else
    let was := s.rb PX_LINK_CFG_EN l
    let s := s.writeCodes rPX_LINK_CFG l w mask
    if was && !s.rb PX_LINK_CFG_EN l then s.pxDown l 1
    else if !was && s.rb PX_LINK_CFG_EN l then s.pxState l 2
    else s

/-- PX_STREAM_r_s (19 R805, R823, 17 R702): an entry that names a secure instance, before or after, is the secure world's. -/
def State.streamWrite (s : State) (a : Agent) (k w mask : Nat) : State :=
  let was := s.rf PX_STREAM_INSTANCE k
  let t := s.writeCodes rPX_STREAM k w mask
  let now := t.rf PX_STREAM_INSTANCE k
  if !a.isSecure ∧ (s.rb TN_INST_SECURE was = true ∨ s.rb TN_INST_SECURE now = true) then s
  else if was = now then t
  else t.sb PX_STREAM_HELD ([4, 5, 6].contains (s.ist now)) k

/-- TN_INST_n: CLASS and WEIGHT, not while Free; a change of WEIGHT sets the slices of its entries (13 R550, R577). -/
def State.instWrite (s : State) (i w mask : Nat) : State :=
  if s.ist i = 0 then s
  else
    let was := s.rf TN_INST_WEIGHT i
    let s := s.writeCodes rTN_INST i w mask
    let s := s.each (((List.range (s.vcores i)).filterMap (fun v => (s.placeOf i v).map Prod.fst)).eraseDups) State.limitWake
    if s.rf TN_INST_WEIGHT i = was then s
    else s.each (List.range (s.vcores i)) (fun s v => match s.placeOf i v with
      | some (c, e) => s.sf TN_DISP_SLICE (s.sliceOf i) (dispIdx c e)
      | none => s)

/-- TN_BUCKET_n_k: a write of RATE or BURST sets LEVEL to BURST (13 R561). -/
def State.bucketWrite (s : State) (k w mask : Nat) : State :=
  let s := s.writeCodes rTN_BUCKET k w mask
  if mask &&& (fieldMask TN_BUCKET_RATE + fieldMask TN_BUCKET_BURST) = 0 then s else s.sf TN_BUCKET_LEVEL (s.rf TN_BUCKET_BURST k) k

/-- TN_MBX_CTL (13 R576). -/
def State.mbxCtlWrite (s : State) (w mask : Nat) : State :=
  let s := s.writeCodes rTN_MBX_CTL 0 w mask
  let s := if bit (w &&& mask) 63 then s.postIn (bits (w &&& mask) 44 32) else s
  if bit (w &&& mask) 62 then s.ackOut none else s

/-- CZ_HIST_CFG: clearing EN fails every held HIST_FILL (09 R368). -/
def State.histCfg (s : State) (w mask : Nat) : State :=
  let was := s.rb CZ_HIST_CFG_EN
  let s := s.writeCodes rCZ_HIST_CFG 0 w mask
  if was && !s.rb CZ_HIST_CFG_EN then s.histDisable else s

/-- PM_CTL (18 R763, R782). -/
def State.pmCtl (s : State) (w mask : Nat) : State :=
  let s := s.writeCodes rPM_CTL 0 w mask
  let s := if bit mask 0 then s.freezeCtl (bit w 0) else s
  if bit (w &&& mask) 2 then s.snap 1 else s

/-- NT_GCL_CFG_e (19 R813, R826). -/
def State.gclCfg (s : State) (e w mask : Nat) : State :=
  let s := s.writeCodes rNT_GCL_CFG e w mask
  if bit (w &&& mask) 62 then s.gclSwitch e else s

/-- NT_CFG_e: clearing EN takes the link down (19 R814, R825). -/
def State.ntCfg (s : State) (e w mask : Nat) : State :=
  let was := s.rb NT_CFG_EN e
  let s := s.writeCodes rNT_CFG e w mask
  if was && !s.rb NT_CFG_EN e then s.ntLink e none else s

/-- A write of `w` to the bits of `mask` of register r, instance i, by an agent that may write it. An action register's half that the write
does not cover counts as zero. -/
def State.writeReg (s : State) (a : Agent) (r : Reg) (i w mask : Nat) : State :=
  let v := w &&& mask
  let merged := (s.reg r i ^^^ (s.reg r i &&& mask)) ||| v
  if r.same rMP_HQ_SUBMIT then (if bits mask 5 0 = 0 then s else s.hqSubmit (bits v 5 0))
  else if r.same rMP_EVT_ROUTE && s.rb MP_EVT_ROUTE_SECURE i && !a.isSecure then s
  else if r.same rFC_CFG then (s.writeCodes r i w mask).fltSync
  else if r.same rFC_STAT then
    (let s := s.writeCodes r i w mask
     if bit v 25 then (s.sf FC_STAT_LOST_CLASS 0).fltSync else s)
  else if r.same rTN_INST then s.instWrite i w mask
  else if r.same rTN_BUCKET then s.bucketWrite i w mask
  else if r.same rTN_MBX_CTL then s.mbxCtlWrite w mask
  else if r.same rMA_CH_CTL then (if bits v 3 0 = 0 then s else s.chanCtl i (bits v 3 0) a)
  else if r.same rMA_SCRUB then (if bit v 63 then s.doDemand else s)
  else if r.same rCZ_HIST_CFG then s.histCfg w mask
  else if r.same rCH_HOST_CQ_CFG then s.hostCqEnable merged
  else if r.same rCH_HOST_CQ_HEAD then s.hostCqHead a merged
  else if r.same rKC_PCS then (if bit v 63 then s.moveWrite a i else s)
  else if r.same rIS_ISL_CTL then (if bits mask 1 0 = 0 then s else s.isleCtl i (bits v 1 0))
  else if r.same rTM_CFG then s.tmCfg w mask
  else if r.same rTM_ADJ then (fun (p : Nat × State) => p.2.tmAdj v (p.1 == 1)) (s.fresh 1)
  else if r.same rTM_RATE then s.tmRate w mask
  else if r.same rPM_CTL then s.pmCtl w mask
  else if r.same rPM_BW_CFG then
    (let s := s.writeCodes r i w mask
     { s with pw := { s.pw with bw := Map.del s.pw.bw i } })
  else if r.same rPX_LINK_CFG then s.linkCfg i w mask
  else if r.same rPX_LINK_BASE then s.rangeWrite a i false merged
  else if r.same rPX_LINK_LIMIT then s.rangeWrite a i true merged
  else if r.same rPX_STREAM then s.streamWrite a i w mask
  else if r.same rNT_CFG then s.ntCfg i w mask
  else if r.same rNT_GCL_CFG then s.gclCfg i w mask
  else if r.same rNT_GCL then (if i / 256 % 2 = s.rf NT_GCL_CFG_ACTIVE (i / 512) then s else s.writeCodes r i w mask)
  else s.writeCodes r i w mask

/-! ### Accesses to device register space -/

/-- A naturally aligned access of 4 or 8 bytes (R16). -/
def accessOk (addr size : Nat) : Bool := (size == 4 || size == 8) && addr % size == 0

/-- The offset in device register space. -/
def regOffset (addr : Nat) : Nat := addr - 0x7F1000000000

/-- Whether the Operator Host's BAR0 reaches beyond the VT status view (17 R721): not before boot ends, nor after a failure or in Maintenance. -/
def State.barOpen (s : State) (a : Agent) : Bool := a != .host || s.rf VT_BOOT_STATE == 1 || s.rf VT_BOOT_STATE == 3

/-- Bytes of a mailbox of the selected instance (13 R576). -/
def mbxBytes (m : Bytes) (off n : Nat) : Nat := Bytes.rdN m off n

/-- A write to TN_MBX_IN_WIN (13 R558, R576). -/
def State.mbxWindow (s : State) (off n v : Nat) : State :=
  let i := s.rf TN_MBX_SEL_INSTANCE
  if !s.mbxReach i || s.mbxInBusy i then s.mbxRefused
  else s.setInst i (fun (r : InstSt) => { r with mbxIn := Bytes.wrN r.mbxIn off n v })

/-- REGISTER_WRITE: an agent writes `size` bytes of value v at a device physical address of register space (00 R11-R16, 01 R28-R31). -/
def State.regWrite (s : State) (a : Agent) (addr size v : Nat) : State :=
  let off := regOffset addr
  let normal := !a.isSecure
  if 0x1300000 ≤ off then s
  else if !s.barOpen a then s
  else if !accessOk addr size then s.regAccess (agentOrg a) addr size true
  else if normal && decide (off < 0x1000) then s
  else if normal && decide (off < 0x100000) then s.regAccess (agentOrg a) addr size true
  else if a = .host ∧ 0xB00000 ≤ off ∧ off < 0xD00000 then s.regAccess (agentOrg a) addr size true
  else if 0x3F1000 ≤ off ∧ off < 0x3F2000 then s.mbxWindow (off - 0x3F1000) size v
  else match findReg addr with
    | none => s
    | some (r, i, b) =>
      let mask := (2 ^ (8 * size) - 1) * 2 ^ (8 * b)
      s.writeReg a r i (v * 2 ^ (8 * b) % 2 ^ 64) (mask &&& s.reach a r i)

/-- The RC fields that a read of bytes `[b, b + size)` covers are cleared (R11). -/
def State.clearOnRead (s : State) (r : Reg) (i b size : Nat) : State :=
  let mask := (2 ^ (8 * size) - 1) * 2 ^ (8 * b)
  let old := s.reg r i
  let new := r.flds.foldl (fun v (f : Fld) => match f.acc with
    | .rc => if bits mask f.hi f.lo = 2 ^ (f.hi + 1 - f.lo) - 1 then setBits v f.hi f.lo 0 else v
    | _ => v) old
  if new = old then s else s.wreg r i new

/-- A read of register space by an agent: the value, and what reading does. A malformed access returns an unpredictable value (R16): a free
one (log 3). -/
def State.regRead (s : State) (a : Agent) (addr size : Nat) : State × Nat :=
  let off := regOffset addr
  let normal := !a.isSecure
  let cut := fun (b v : Nat) => v / 2 ^ (8 * b) % 2 ^ (8 * size)
  if 0x1300000 ≤ off then (s, 0)
  else if !accessOk addr size then
    (fun (p : Nat × State) => (p.2.regAccess (agentOrg a) addr size false, p.1 % 2 ^ (8 * size))) (s.fresh 512)
  else if !s.barOpen a && decide (0x1000 ≤ off) then (s, 0)
  else if normal && decide (0x1000 ≤ off) && decide (off < 0x100000) then (s.regAccess (agentOrg a) addr size false, 0)
  else if 0x280000 ≤ off ∧ off < 0x300000 then
    match Map.find s.fc.log ((off - 0x280000) / 64) with
    | some r => (s, ofBytes ((r.bytes.drop ((off - 0x280000) % 64)).take size))
    | none => (s, 0)
  else if 0x3F0000 ≤ off ∧ off < 0x3F1000 then
    (let i := s.rf TN_MBX_SEL_INSTANCE
     (s, if s.mbxReach i then mbxBytes (s.inst i).mbxOut (off - 0x3F0000) size else 0))
  else match findReg addr with
    | none => (s, 0)
    | some (r, i, b) => (s.clearOnRead r i b size, cut b (s.view r i &&& s.reach a r i))

/-- A read of one 64-bit register by an agent outside the module: the value goes to it (R11). -/
def State.readOut (s : State) (a : Agent) (r : Reg) (i : Nat) : State :=
  (fun (p : State × Nat) => p.1.emit (.readData (r.addr i) p.2)) (s.regRead a (r.addr i) 8)

/-- Whether a 64-bit write by an agent reaches the register at an address (R16, 01 R28, 17 R721). -/
def State.writable (s : State) (a : Agent) (addr : Nat) : Bool :=
  let off := regOffset addr
  decide (off < 0x1300000) && s.barOpen a && accessOk addr 8 && (a.isSecure || decide (0x100000 ≤ off)) &&
  !(decide (a = .host) && decide (0xB00000 ≤ off) && decide (off < 0xD00000))

/-- COUNTER_WRITE (18 R760): COUNT holds the written value. An increment on the write's edge is lost, and LOST_INC shows it; after a wrap on the edge before, OVF stays
as the wrap left it, whatever is written to it. A write that does not reach the counter collides with nothing. -/
def State.counterWrite (s : State) (a : Agent) (addr v : Nat) (edge : CountEdge) : State :=
  match findReg addr with
  | none => s
  | some (r, i, _) =>
    let counter := r.flds.any (fun (f : Fld) => f.hi == 49 && f.acc == .w1c)
    let ovf := bit (s.reg r i) 48
    let reached := counter && s.writable a addr && s.reach a r i == 2 ^ 64 - 1
    let s := s.regWrite a addr 8 v
    match edge with
    | .alone => s
    | .increment => if reached then s.wreg r i (setBit (s.reg r i) 49 true) else s
    | .wrap => if reached then s.wreg r i (setBit (s.reg r i) 48 ovf) else s

/-! ### The Management Port's configuration and its MSI-X table (19 R808) -/

/-- A write to BAR4: one byte of a vector's entry. Address bits 1 to 0 and the bits above the mask bit stay zero; the pending bits take no write. -/
def State.msixByte (s : State) (off b : Nat) : State :=
  if 0x8000 ≤ off then s
  else
    let v := off / 16
    let e := s.msixEntry v
    let n := (e - bits e (8 * (off % 16) + 7) (8 * (off % 16)) * 2 ^ (8 * (off % 16)) + b % 256 * 2 ^ (8 * (off % 16))) % 2 ^ 97 / 4 * 4
    { s with mp := { s.mp with msix := if n = 2 ^ 96 then Map.del s.mp.msix v else Map.put s.mp.msix v n } }

/-- A write to BAR4 by the Operator Host. -/
def State.bar4Write (s : State) (off : Nat) (bs : List Nat) : State :=
  if !s.barOpen .host then s else (s.each bs.zipIdx (fun s (x : Nat × Nat) => s.msixByte (off + x.2) x.1)).msixFlush

/-- A configuration write by the Operator Host. -/
def State.configWrite (s : State) (bm en mask : Bool) : State :=
  { s with mp := { s.mp with busMaster := bm, msixEn := en, msixMask := mask } }.msixFlush

/-! ### BAR2 (14 R581) -/

/-- A write to BAR2 by the Operator Host: a host slot's bytes, or the registers behind them. -/
def State.bar2Write (s : State) (off : Nat) (bs : List Nat) : State :=
  if !s.barOpen .host then s
  else if off + bs.length ≤ 0x40000 then
    { s with mp := { s.mp with bar2 := bs.zipIdx.foldl (fun (m : Bytes) (x : Nat × Nat) => Bytes.wr m (off + x.2) (BitVec.ofNat 8 x.1)) s.mp.bar2 } }
  else if accessOk off bs.length && decide (0x40000 ≤ off) && decide (off < 0x40018) then
    (let b := off % 8
     let mask := (2 ^ (8 * bs.length) - 1) * 2 ^ (8 * b)
     let w := ofBytes bs * 2 ^ (8 * b)
     if off < 0x40008 then s.writeReg .host rMP_HQ_SUBMIT 0 w mask
     else if off < 0x40010 then s
     else s.writeCodes rMP_HQ_ERR 0 w mask)
  else s

/-! ### The instance page (01 R33, 03 R98, 13 R554-R559, 14 R582) -/

/-- A load of the instance page by virtual core v: `size` bytes at offset `off`. -/
def State.ipageRead (s : State) (i v off size : Nat) : Nat :=
  let cut := fun (x : Nat) => x / 2 ^ (8 * (off % 8)) % 2 ^ (8 * size)
  if 0x1000 ≤ off ∧ off < 0x2000 then mbxBytes (s.inst i).mbxIn (off - 0x1000) size
  else if 0x2000 ≤ off ∧ off < 0x3000 then mbxBytes (s.inst i).mbxOut (off - 0x2000) size
  else if 0x40 ≤ off ∧ off < 0xC0 then cut (Map.getD (s.vc (vkey i v)).acks ((off - 0x40) / 8) 0).toNat
  else match findReg (0x7F0000000000 + 0x10000 * i + off) with
    | some (r, k, _) => cut (s.view r k)
    | none => 0

/-- Which queue a control block's offset names: engine class, 0 submission or 1 completion, queue, and the register within the block. -/
def queueAt (off : Nat) : Option (Nat × Nat × Nat × Nat) :=
  if 0x3100 ≤ off ∧ off < 0x3D00 then
    some ((off - 0x3100) / 1024, (off - 0x3100) / 512 % 2, (off - 0x3100) / 32 % 16, off % 32 / 8)
  else none

/-- A doorbell store (11 R430). -/
def State.doorbellStore (s : State) (i v d value bad : Nat) : State :=
  ((fun (r : State × Nat) => r.1.setVc (vkey i v) (fun (c : VCore) => { c with acks := Map.put c.acks d (BitVec.ofNat 64 r.2) }))
    (s.doorbell i d value bad)).chSync

/-- A store to the instance page by virtual core v of instance i. Ranges that R33 marks read-only ignore it. `bad` counts failed read-backs
of the Journal write that a doorbell may cause. -/
def State.ipageWrite (s : State) (i v off size value bad : Nat) : State :=
  let b := off % 8
  let mask := (2 ^ (8 * size) - 1) * 2 ^ (8 * b)
  let w := value % 2 ^ (8 * size) * 2 ^ (8 * b) % 2 ^ 64
  let merged := fun (r : Reg) (k : Nat) => (s.reg r k ^^^ (s.reg r k &&& mask)) ||| (w &&& mask)
  if !s.pageLive i then s
  else if 0x2000 ≤ off ∧ off < 0x3000 then
    if (s.inst i).outPosted then s else s.setInst i (fun (r : InstSt) => { r with mbxOut := Bytes.wrN r.mbxOut (off - 0x2000) size value })
  else if 0x40 ≤ off ∧ off < 0xC0 then (if b = 0 then s.doorbellStore i v ((off - 0x40) / 8) value bad else s)
  else if off / 8 * 8 = 0x3000 then s.writeCodes rIP_QCTL i w mask
  else if off / 8 * 8 = 0x3008 then
    (let s := s.writeCodes rIP_MBX_IN i w mask
     if s.rb TN_INST_SECURE i then s.recallWaiting i else s)
  else if off / 8 * 8 = 0x3010 then s.mbxOutWrite i ((s.reg rIP_MBX_OUT i ^^^ (s.reg rIP_MBX_OUT i &&& mask)) ||| (w &&& mask))
  else if off / 8 * 8 = 0x3D10 then s.eqHeadWrite i (merged rIP_EQ_HEAD i)
  else if off / 8 * 8 = 0x3D18 then s.writeCodes rIP_EQ_STAT i w mask
  else if off / 8 * 8 = 0x7000 then s.writeCodes rIP_CMD_CFG i w mask
  else if off / 8 * 8 = 0x7008 then (if b = 0 then s.ipSubmit i (value % 4) else s)
  else if off / 8 * 8 = 0x7010 then s.writeCodes rIP_CMD_STAT i w mask
  else match queueAt off with
    | some (cls, kind, d, 0) => s.queueCfg i cls kind d (merged rIP_Q_CFG (qIdx i cls kind d))
    | some (cls, 0, d, 1) => s.subTail i cls d (merged rIP_Q_TAIL (qIdx i cls 0 d))
    | some (cls, 1, d, 2) => s.cplHead i cls d (merged rIP_Q_HEAD (qIdx i cls 1 d))
    | _ => s

end Sys2Proof.Machine
end

