-- ==== Sys2Proof/Machine/KamyonExec.lean ====
section
/-! DEFINITION. A core runs one bundle (02, 03, 04): fetch, legality, checks in the order of R76, effects, commit, exceptions, interrupts, waits. -/

namespace Sys2Proof.Machine

/-! ### Images -/

def VCore.getV (k : VCore) (n : Nat) : Nat := (Map.getD k.v n (0 : Vec)).toNat
/-- A predicate; P0 reads as 1 (R59). -/
def VCore.getP (k : VCore) (n : Nat) : Bool := n == 0 || bit k.p.toNat n
def VCore.getSr (k : VCore) (n : Nat) : Nat := (Map.getD k.sr n (0 : Word)).toNat

/-- A result is written (R50); writes to G0 and P0 are discarded (R57, R59). For KC_IPEND the value names the bits to clear (R69). -/
def VCore.put (k : VCore) (d : Dst) (n : Nat) : VCore :=
  match d with
  | .g r => k.setG r n
  | .v r => { k with v := Map.set k.v (0 : Vec) r (BitVec.ofNat 256 n) }
  | .p r => if r = 0 then k else { k with p := BitVec.ofNat 16 (setBit k.p.toNat r (n != 0)) }
  | .sr r => { k with sr := Map.set k.sr (0 : Word) r (BitVec.ofNat 64 n) }
  | .cr r => if r = 0x11 then k.setCr 0x11 (k.getCr 0x11 ^^^ (k.getCr 0x11 &&& n)) else k.setCr r n

/-- EXCEPTION_ENTRY (R74): the saved registers, the entry into K, and the vector. -/
def VCore.takeExc (k : VCore) (epc code slot eaddr : Nat) (async : Bool) : VCore :=
  let st := k.getCr 0
  let st := setBits (setBits (setBits (setBits st 5 4 (bits st 1 0)) 3 3 (bits st 2 2)) 1 0 1) 2 2 0
  let vec := (k.getCr 4 + 0x40 * code) % 2 ^ 64
  let k := (((k.setCr 1 epc).setCr 2 (b2n async * 2048 + slot * 256 + code)).setCr 3 eaddr).setCr 0 st
  { k with pc := BitVec.ofNat 64 vec }

/-- ERET (R124), and FRET at F: PL := PPL, IE := PIE. -/
def eretStatus (st : Nat) : Nat := setBits (setBits st 1 0 (bits st 5 4)) 2 2 (bits st 3 3)

/-! ### A core before a bundle -/

/-- A core about to run a bundle: itself, the virtual core that it runs, the state and the image before the bundle, the bundle's address, the
address after it, and failed read-backs of a Journal write that a doorbell store causes. -/
structure Hart where
  core : Nat
  inst : Nat
  vcore : Nat
  st : State
  img : VCore
  pc : Nat
  next : Nat
  bad : Nat

/-- The privilege level (R62): 0 U, 1 K, 2 F. -/
def Hart.pl (h : Hart) : Nat := bits (h.img.getCr 0) 1 0
def Hart.key (h : Hart) : Nat := vkey h.inst h.vcore
def Hart.g (h : Hart) (n : Nat) : Nat := h.img.getG n

/-- The core when it may run a bundle: Active, in Run, its quad alive (05 R192), with a virtual core that may run and waits neither for a response nor in WFI (R125,
R136, 13 R551). -/
def State.hart (s : State) (c bad : Nat) : Option Hart :=
  if s.rf KC_PCS_ROLE c = 0 ∧ s.rf KC_PCS_POWER c = 0 ∧ bit s.coh.deadQuads (c / 4) = false then
    match s.curVc c with
    | some (i, v) =>
      let k := s.vc (vkey i v)
      if s.vcRuns i v && k.wait.isNone && (!k.wfi || s.irqReady (vkey i v)) then some ⟨c, i, v, s, k, k.pc.toNat, 0, bad⟩ else none
    | none => none
  else none

/-- The core when its virtual core's bundle waits for responses (R136); it goes on while its instance freezes (13 R567). -/
def State.waiting (s : State) (c bad : Nat) : Option (Hart × Wait) :=
  if s.rf KC_PCS_ROLE c = 0 ∧ s.rf KC_PCS_POWER c = 0 ∧ bit s.coh.deadQuads (c / 4) = false then
    match s.curVc c with
    | some (i, v) =>
      let k := s.vc (vkey i v)
      if s.vcRuns i v || s.ist i == 4 then k.wait.map (fun w => (⟨c, i, v, s, k, k.pc.toNat, 0, bad⟩, w)) else none
    | none => none
  else none

/-- KC_S2ROOT of a core that runs an instance, with what it was loaded for (06 R226): loaded when the core starts to run another instance or generation. -/
def State.s2Of (s : State) (c i : Nat) : Nat × Nat × Nat :=
  let x := (s.core c).s2
  if x.1 = i ∧ x.2.1 = s.gen i then x else (i, s.gen i, (s.inst i).s2root)
def State.loadS2 (s : State) (c i : Nat) : State := s.setCore c (fun k => { k with s2 := s.s2Of c i })

/-- The interrupt to be taken before the next bundle (R75): the lowest that is pending and enabled, if PL is U or IE is 1. -/
def Hart.irqDue (h : Hart) : Option Nat :=
  if h.pl = 0 ∨ bit (h.img.getCr 0) 2 = true then lowestBit (h.st.ipend h.key &&& h.img.getCr 0x10) 3 else none

/-- The core takes the interrupt that is due (R75); a WFI wait is over (R125). -/
def State.takeIrq (s : State) (h : Hart) : State :=
  match h.irqDue with
  | some b => s.setVc h.key (fun k => { k.takeExc h.pc (0x10 + b) 0 0 true with wfi := false })
  | none => s.setVc h.key (fun k => { k with wfi := false })

/-! ### What stops a bundle -/

/-- Why a bundle commits nothing: an exception with its code, slot and KC_EADDR, the record that it makes, and the code and address that F sees of
a stage-2 fault (R72, R235); or a stall (R146). -/
inductive Stop where
  | exc (code slot eaddr : Nat) (rep : Option Report) (f : Option (Nat × Nat))
  | stall

/-- A stage-2 refusal's record: Slate against the instance, naming the tenant physical address (R235). -/
def Hart.refusal (h : Hart) (tpa : Nat) (table : Option Nat) : Report :=
  { org := org 0x17 h.inst, cause := 0x0003, cls := slate, subj := some (h.inst, h.st.gen h.inst), d0 := tpa,
    d1 := table.getD (org 1 h.core), via := some (org 1 h.core) }

/-- POISON_CONSUMED against the core (05 R190), ADDRESS_ERROR against the instance (01 R25, 15 R620). -/
def Hart.poisonRec (h : Hart) (pa : Nat) : Report :=
  { org := org 1 h.core, cause := 0x0004, cls := slate, subj := some (h.inst, h.st.gen h.inst), d0 := pa }
def Hart.addressRec (h : Hart) (pa : Nat) : Report :=
  { org := org 0x17 h.inst, cause := 0x0001, cls := slate, subj := some (h.inst, h.st.gen h.inst), d0 := pa, via := some (org 1 h.core) }

/-! ### Translation and regions -/

/-- The translation of an access; at F addresses are device physical (DEDUCED, log 40). -/
def State.hartXlat (s : State) (h : Hart) (va : Nat) (k : AccKind) : Except XFault Trans :=
  if h.pl = 2 then .ok ⟨va, va, s.paProtected va, [], [], none⟩
  else s.coreXlat h.core h.inst (s.gen h.inst) (s.s2Of h.core h.inst).2.2 (h.img.getCr 0x20) va k (h.pl == 0)

/-- Whether a refused access lacks read permission (R233): it does where a load is refused as well. -/
def State.lacksRead (s : State) (h : Hart) (va : Nat) (k : AccKind) : Bool :=
  match k with
  | .load | .csub => true
  | .store => false
  | _ => match s.hartXlat h va .load with | .error _ => true | .ok _ => false

/-- The exception that a failed translation raises (R233, R235, R72): `va` is the first byte of the access on the page, `ea` its effective address. A poisoned table
raises POISON for the accesses of R101, and for another the outcome of R235 (06 R231, R127). A load whose A update lacks stage-2 W is S2_READ (DESIGN CHOICE, log 66). -/
def State.xStop (s : State) (h : Hart) (slot ea va : Nat) (k : AccKind) (f : XFault) : Stop :=
  let rd := s.lacksRead h va k
  let bus := fun (x : S2Fail) => Stop.exc 0xA slot ea (some (h.refusal x.tpa x.table)) (some (if rd then 0x21 else 0x22, x.tpa))
  match k, f with
  | .fetch, .s2 x => .exc 5 0 va (some (h.refusal x.tpa x.table)) (some (0x20, x.tpa))
  | .fetch, .poison tpa _ => .exc 5 0 va (some (h.refusal tpa none)) (some (0x20, tpa))
  | .fetch, _ => .exc 5 0 va none none
  | _, .s1 => .exc (if rd then 7 else 8) slot va none none
  | _, .ro tpa => .exc 8 slot va none (some (0x22, tpa))
  | _, .s2 x => bus x
  | .store, .poison tpa _ => bus ⟨tpa, none⟩
  | .csub, .poison tpa _ => bus ⟨tpa, none⟩
  | _, .poison _ pa => .exc 0xB slot ea (some (h.poisonRec pa)) none

/-- One page's part of an access: virtual address, length, translation. -/
structure Piece where
  va : Nat
  n : Nat
  t : Trans

/-- The pieces of an access of n bytes by page, the lower page checked first (R105); bits [63:48] of its addresses must be zero (R73, R114). Both pages are
translated before the region of either is judged (DESIGN CHOICE, log 66). -/
def State.pieces (s : State) (h : Hart) (slot ea n : Nat) (k : AccKind) : Except Stop (List Piece) :=
  if 2 ^ 48 < ea + n then .error (.exc 9 slot ea none none)
  else (pageSpans ea n).mapM (fun (p : Nat × Nat) =>
    match s.hartXlat h p.1 k with
    | .ok t => .ok ⟨p.1, p.2, t⟩
    | .error f => .error (s.xStop h slot ea p.1 k f))

/-- What the regions refuse of a translated access (R98): `size` is the natural alignment, 1 where none is required; `sysOnly` for AMO, block-repeat and
CSUB. -/
def State.region (s : State) (h : Hart) (slot ea size : Nat) (sysOnly : Bool) (ps : List Piece) : Option Stop :=
  let ts := ps.map (fun (p : Piece) => s.instTarget h.inst p.t.pa)
  let dev := ts.any (fun t => t == Target.store || t == .ipage || (match t with | .pcie _ => true | _ => false))
  if dev && !sysOnly && ea % size != 0 then some (.exc 6 slot ea none none)
  else match ps.find? (fun (p : Piece) => s.instTarget h.inst p.t.pa == .unmapped) with
    | some p => some (.exc 0xA slot ea (some (h.addressRec p.t.pa)) none)
    | none =>
      if sysOnly && ts.any (fun t => t != .sys) then some (.exc 0xA slot ea none none)
      else if ps.any (fun (p : Piece) => s.instTarget h.inst p.t.pa == .ipage && !(decide (0x1000 ≤ p.t.pa % 65536) && decide (p.t.pa % 65536 < 0x3000))) &&
          size != 4 && size != 8 then some (.exc 0xA slot ea none none)
      else none

/-- A translation is used: its A and D updates, its TLB and walk-cache entries (06 R239), the walk counted. -/
def State.useTrans (s : State) (h : Hart) (t : Trans) : State :=
  (s.when t.walk.isSome (fun s => s.pmEvent 0x0107 h.core (some h.inst))).xlatCommit h.core h.inst t

/-- The parts of a translated access at `ea`. -/
def spansOf (ps : List Piece) (ea : Nat) : List Span := ps.map (fun (p : Piece) => ⟨p.t.pa, p.n, p.va - ea, p.t.pr⟩)

/-! ### Performing an access, once its bundle has passed every check (R99) -/

/-- What performing an access comes to: it is performed; it must wait (R146); or it meets poison (R101). -/
inductive Did where
  | ok (s : State) (a : Acc1)
  | stall
  | poison (pa : Nat)

/-- The lines of an access to system memory meet the L1 data cache. -/
def State.l1Span (s : State) (c : Nat) (inst : Option Nat) (p : Span) : State :=
  (s.srTouch (p.pa / 64)).each (lineSpans p.pa p.n) (fun s (l : Nat × Nat × Nat) => s.l1Load c l.1 inst)

/-- A load of system memory (05 R199): forwarded from the store buffer, even over a poisoned line (DESIGN CHOICE, log 66); or from the caches once a partial overlap has
drained. Its pieces are performed at one instant (DESIGN CHOICE, log 66). -/
def State.sysLoad (s : State) (h : Hart) (ps : List Span) : Did :=
  let c := h.core
  let hit : SbHit := match ps with
    | [p] => s.sbLookup c false p.pa p.n
    | _ => if ps.any (fun (p : Span) => decide (s.sbLookup c false p.pa p.n ≠ .none)) then .partialOverlap else .none
  match hit with
  | .forward v => .ok s (.got v)
  | _ =>
    let s := s.when (decide (hit = .partialOverlap)) (fun s =>
      (s.each ps (fun s (p : Span) => s.sbDrainOver c false p.pa p.n)).pmEvent 0x0108 c (some h.inst))
    if ps.any (fun (p : Span) => decide (s.sbLookup c false p.pa p.n ≠ .none)) then .stall
    else match ps.find? (fun (p : Span) => s.coPoison p.pa p.n) with
      | some p => .poison p.pa
      | none => .ok (s.each ps (fun s (p : Span) => s.l1Span c (some h.inst) p))
                  (.got (ps.foldr (fun (p : Span) acc => s.coRead p.pa p.n + 256 ^ p.n * acc) 0))

/-- A load of the Signal Store (R104, 08 R336, R337). -/
def State.sgLoad (s : State) (h : Hart) (pa n : Nat) : Did :=
  let c := h.core
  let off := pa - 0x400000000000
  match s.sbLookup c true pa n with
  | .forward v => .ok s (.got v)
  | hit =>
    let s := if hit = .none then s else (s.sbDrainOver c true pa n).pmEvent 0x0108 c (some h.inst)
    if s.sbLookup c true pa n ≠ .none then .stall
    else if s.storeLost || (List.range ((n + 15) / 16)).any (fun k => s.sg.bad.contains (off / 16 + k)) then .poison pa
    else .ok (s.bwBytes 3 n (some h.inst)) (.got (s.sgLook off n))

/-- The instance and offset of an instance-page address. -/
def ipageAt (pa : Nat) : Nat × Nat := ((pa - 0x7F0000000000) / 0x10000, pa % 0x10000)
/-- Root port and bus address of an address in a PCIe window (19 R803). -/
def busAt (pa : Nat) : Nat × Nat := ((pa - 0x800000000000) / 0x200000000000, (pa - 0x800000000000) % 0x200000000000)

/-- Who reaches register space from F: Secure-world firmware that acts for the secure instance it runs on (R64, 15 R620). -/
def Hart.agent (h : Hart) : Agent := if h.st.rb TN_INST_SECURE h.inst then .secureFor (Fin.ofNat 512 h.inst) else .firmware

/-- A load outside system memory and the Signal Store: a non-repeatable access (R136). -/
def State.devLoad (s : State) (h : Hart) (pa n : Nat) : State × Acc1 :=
  match s.target pa with
  | .ipage => (s, .done (s.ipageRead (ipageAt pa).1 h.vcore (ipageAt pa).2 n))
  | .regs => (fun (r : State × Nat) => (r.1, .done r.2)) (s.regRead h.agent pa n)
  | _ =>
    match s.pxReach (busAt pa).1 (busAt pa).2 with
    | (s, some l) => (s.emit (.pcie l false (busAt pa).2 [n]), .pcie l (busAt pa).2 n)
    | (s, none) => (s, .done (256 ^ n - 1))

/-- Room for one more line in the store buffer (05 R198). -/
def State.sbRoom (s : State) (c : Nat) : Option State :=
  let s := if (s.core c).sb.length < 32 then s else s.sbDrainOne c
  if (s.core c).sb.length < 32 then some s else none

/-- The lines of a store of v enter the buffer in address order (05 R197), for a writer. -/
def State.sbStore (s : State) (c : Nat) (ps : List Span) (v inst : Nat) : Option State :=
  (ps.flatMap (fun (p : Span) => (linePieces p.pa p.n (v / 256 ^ p.off % 256 ^ p.n)).map (fun (l : Nat × Line × BitVec 64) => (l, p.pr)))).foldl
    (fun (a : Option State) (x : (Nat × Line × BitVec 64) × Bool) => a.bind (fun s =>
      (s.sbRoom c).map (fun s => s.sbPut c false x.1.1 x.1.2.1 x.1.2.2 inst x.2))) (some s)

/-- A store to the Signal Store (08 R316): PEND of an output slot, by STW or by the low word of STD; nothing else of that area. -/
def State.sgPut (s : State) (h : Hart) (pa n v : Nat) : Option State :=
  if (n = 4 ∨ n = 8) ∧ pa % 16 = 0 then
    (s.sbRoom h.core).map (fun s => (s.bwBytes 3 4 (some h.inst)).sbPut h.core true (pa / 64) (BitVec.ofNat 512 (v % 2 ^ 32 * 256 ^ (pa % 64)))
      (BitVec.ofNat 64 (15 * 2 ^ (pa % 64))) h.inst false)
  else some s

/-- A store outside system memory and the Signal Store (R98, R100). -/
def State.devStore (s : State) (h : Hart) (pa n v : Nat) : State :=
  match s.target pa with
  | .ipage => s.ipageWrite (ipageAt pa).1 h.vcore (ipageAt pa).2 n v h.bad
  | .regs => s.regWrite h.agent pa n v
  | _ =>
    match s.pxReach (busAt pa).1 (busAt pa).2 with
    | (s, some l) => (s.emit (.pcie l true (busAt pa).2 (toBytes v n))).bwBytes (0x14 + l / 4) n
    | (s, none) => s

/-- The store buffer has drained, as FENCE, AMO, CSUB and TLBI need (R107, R110, R115); `none` while an entry is held (16 R677). -/
def State.drained (s : State) (c : Nat) : Option State :=
  let s := s.sbDrain c
  if (s.core c).sb.isEmpty then some s else none

/-- What an AMO stores (R108, R109): the old value, G[RS], the compared value, all of `w` bits; `none` for a CAS that does not store. -/
def amoNew (o w old rs rt : Nat) : Option Nat :=
  match o with
  | 0 => some rs
  | 1 => some ((old + rs) % 2 ^ w)
  | 2 => some (old &&& rs)
  | 3 => some (old ||| rs)
  | _ => if old = rt then some rs else none

/-- An AMO performed: in the quad's L2 with the line in M, or at the home for a dead quad and at level F (05 R182, R184, R193); and its old value. -/
def State.amoAt (s : State) (h : Hart) (p : Span) (o rs rt : Nat) : State × Nat :=
  let q := h.core / 4
  let w := if h.pl = 2 then 512 else h.inst
  let home := bit s.coh.deadQuads q || h.pl == 2
  let s := if home then s else s.acquireM q (p.pa / 64) w
  let old := s.coRead p.pa p.n
  let s := match amoNew o (8 * p.n) old rs rt with
    | some v =>
      let s := s.recordSpan p.pr p.pa p.n
      s.each (linePieces p.pa p.n v) (fun s (l : Nat × Line × BitVec 64) =>
        if home then s.coWrite l.1 l.2.1 l.2.2 w else (s.l2Store q l.1 l.2.1 l.2.2).l1Stored h.core l.1)
    | none => s
  (s, old)

/-- An AMO arrives at the quad's port with its tag (R137): one that the port record holds is answered from it, another is performed and recorded. -/
def State.portAmo (s : State) (h : Hart) (tag : Nat) (p : Span) (o rs rt : Nat) : State × Nat :=
  let k := s.core h.core
  if k.amoTag = tag ∧ k.amoAddr = p.pa then (s, k.amoOld)
  else
    let (s, old) := s.amoAt h p o rs rt
    (s.setCore h.core (fun k => { k with amoTag := tag, amoAddr := p.pa, amoOld := old }), old)

/-- Whether a physical core runs a virtual core of an instance. -/
def State.coreHas (s : State) (c i : Nat) : Bool := (s.dispUsed c).any (fun e => s.rf TN_DISP_INSTANCE (dispIdx c e) == i)

/-- TLBI (06 R247). -/
def State.tlbi (s : State) (h : Hart) (v op : Nat) : State :=
  if v < 4 then s.coreTlbDrop h.core (some h.inst) (tlbiHits v h.inst op)
  else if v < 0xC then s.each ((List.range 64).filter (fun c => c == h.core || s.coreHas c h.inst)) (fun s c =>
    (s.crossInto c).coreTlbDrop c (some h.inst) (tlbiHits v h.inst op))
  else if v = 0xC then s.tlbiS2Tpa (bits op 63 55) (bits op 45 12)
  else if v = 0xD then s.tlbiS2Inst (bits op 8 0)
  else s.tlbDropAll none (fun _ => true)

/-- The instances whose stage-2 translations a TLBI variant removes (06 R247). -/
def tlbiInsts (v op : Nat) (i : Nat) : Bool := v == 0xE || (decide (0xC ≤ v) && (i == (if v = 0xC then bits op 63 55 else bits op 8 0)))

/-- Whether a virtual core other than `key` holds accesses that are translated and not performed, of the instances named. -/
def State.todoLeft (s : State) (key : Nat) (p : Nat → Bool) : Bool :=
  s.kc.vc.any (fun (e : Nat × VCore) => e.1 != key && p (e.1 / 64) && (match e.2.wait with
    | some w => w.accs.any (fun a => match a with | .todo _ => true | _ => false)
    | none => false))

/-- TLBI at its place (06 R248): the core's stores drain; for a stage-2 variant every access already translated with what it removes is performed first. -/
def State.tlbiAt (s : State) (h : Hart) (v op : Nat) : Did :=
  match s.drained h.core with
  | none => .stall
  | some s =>
    let s := s.drainInsts (tlbiInsts v op)
    if s.storesLeft (tlbiInsts v op) || s.todoLeft h.key (tlbiInsts v op) then .stall else .ok (s.tlbi h v op) (.stored true)

/-- An optional state, as the outcome of an access that gives nothing back. -/
def didStore (x : Option State) : Did := match x with | some s => .ok s (.stored true) | none => .stall

/-- An access of a bundle is performed. -/
def State.perform (s : State) (h : Hart) (a : Access) : Did :=
  match a with
  | .load ps => s.sysLoad h ps
  | .sload pa n => s.sgLoad h pa n
  | .store ps v inst => didStore (s.sbStore h.core ps v inst)
  | .pend pa n v => didStore (s.sgPut h pa n v)
  | .move src dst inst => (match s.sysLoad h src with
    | .ok s (.got v) => didStore (s.sbStore h.core dst v inst)
    | d => d)
  | .dev pa n => .ok (s.devLoad h pa n).1 (s.devLoad h pa n).2
  | .devStore pa n v => .ok (s.devStore h pa n v) (.stored false)
  | .amo p o rs rt => (match s.drained h.core with
    | none => .stall
    | some s =>
      if s.coPoison p.pa p.n then .poison p.pa
      else if s.heldWrite p.pr (p.pa / 64) then .stall
      else
        let tag := (s.core h.core).nextTag
        .ok ((s.setCore h.core (fun k => { k with nextTag := (tag + 1) % 16 })).portAmo h tag p o rs rt).1 (.amo tag p o rs rt))
  | .csub tpa sel => (match s.drained h.core with | some s => .ok s (.csub tpa sel) | none => .stall)
  | .fence k =>
    if k = 1 then .ok s (.stored true)
    else if k = 3 then didStore ((s.drained h.core).map (fun s => s.l1iClear h.core))
    else didStore (s.drained h.core)
  | .tlbi v op => s.tlbiAt h v op
  | .s2root v => .ok (s.setCore h.core (fun k => { k with s2 := (h.inst, s.gen h.inst, v) })) (.stored true)

/-- What keeps a bundle's accesses from being performed: a stall, or access k meets poison at an address. -/
inductive Halt where
  | stall
  | poison (k pa : Nat)

/-- Whether nothing is to come back of access k. -/
def Acc1.settled (resp k : Nat) (a : Acc1) : Bool :=
  decide (k < resp) || (match a with | .got _ | .stored _ => true | _ => false)

/-- Whether an access waits at its place for the responses of those before it: FENCE.IO and FENCE.ALL (R107). -/
def Access.isIoFence (a : Access) : Bool := match a with | .fence k => k == 1 || k == 2 | _ => false

/-- The accesses of a bundle are performed in position order (R51), `done` being the ones passed already and `resp` the number answered. Those behind a CSUB wait for
its acknowledgement (R115). `test` goes through all of them, as the check before any access of the bundle issues. -/
def State.issue (s : State) (h : Hart) (resp : Nat) (test : Bool) (done : List Acc1) : List Acc1 → State × List Acc1 × Option Halt
  | [] => (s, done, none)
  | .todo x :: r =>
    if x.isIoFence && !test && done.zipIdx.any (fun (a : Acc1 × Nat) => !a.1.settled resp a.2) then (s, done ++ .todo x :: r, none)
    else match s.perform h x with
      | .stall => (s, done ++ .todo x :: r, some .stall)
      | .poison pa => (s, done ++ .todo x :: r, some (.poison done.length pa))
      | .ok s (.csub t l) => if test then s.issue h resp test (done ++ [.csub t l]) r else (s, done ++ .csub t l :: r, none)
      | .ok s a => s.issue h resp test (done ++ [a]) r
  | .csub t l :: r => if test || decide (done.length < resp) then s.issue h resp test (done ++ [.csub t l]) r else (s, done ++ .csub t l :: r, none)
  | a :: r => s.issue h resp test (done ++ [a]) r

/-! ### The run of a bundle's syllables -/

/-- What the syllables so far have come to, on the state before the bundle: results for the commit, the translations used and the accesses to be performed, each with its
slot and effective address, the branch target, the return address of ERET or FRET, a block-repeat bundle to be run again, WFI, and SYSC, BRK and FCALL with
their slots. -/
structure Run where
  s : State
  writes : List (Dst × WVal)
  uses : List Trans
  plan : List (Nat × Nat × Access)
  jump : Option Nat
  ret : Option Nat
  again : Bool
  wfi : Bool
  sysc : Option (Nat × Nat)
  brk : Option (Nat × Nat)
  fcall : Option (Nat × Nat)

def Run.res (r : Run) (d : Dst) (v : WVal) : Run := { r with writes := r.writes ++ [(d, v)] }
def Run.val (r : Run) (d : Dst) (n : Nat) : Run := r.res d (.val n)

/-- An access joins the bundle's; its number is that of the plan so far. -/
def Run.add (r : Run) (slot ea : Nat) (ps : List Piece) (a : Access) : Run :=
  { r with uses := r.uses ++ ps.map (fun (p : Piece) => p.t), plan := r.plan ++ [(slot, ea, a)] }

/-- Bytes of what the next access of the bundle returns. -/
def Run.part (r : Run) (off size : Nat) (signed : Bool) : WVal := .hole r.plan.length off size signed

/-- The checks of an access of n bytes at `ea`, of alignment `size` (R98, R99, R105): its pieces. -/
def Run.check (r : Run) (h : Hart) (slot ea n size : Nat) (k : AccKind) (sysOnly : Bool) : Except Stop (List Piece) :=
  match r.s.pieces h slot ea n k with
  | .error e => .error e
  | .ok ps => match r.s.region h slot ea size sysOnly ps with
    | some e => .error e
    | none => .ok ps

/-- Device physical address of an access's first byte. -/
def firstPa (ps : List Piece) : Nat := match ps with | p :: _ => p.t.pa | [] => 0

/-- A load of n bytes at `ea` (R98-R101, R104). -/
def Run.load (r : Run) (h : Hart) (slot ea n : Nat) : Except Stop Run :=
  (r.check h slot ea n n .load false).map (fun ps =>
    r.add slot ea ps (match r.s.target (firstPa ps) with
      | .sys => .load (spansOf ps ea)
      | .store => .sload (firstPa ps) n
      | _ => .dev (firstPa ps) n))

/-- The writer of a store to system memory: one made at level F names no instance (05 R184). -/
def Hart.writer (h : Hart) : Nat := if h.pl = 2 then 512 else h.inst

/-- A store of the low n bytes of v at `ea` (R98, R102). -/
def Run.store (r : Run) (h : Hart) (slot ea n v : Nat) : Except Stop Run :=
  match r.check h slot ea n n .store false with
  | .error e => .error e
  | .ok ps => match r.s.target (firstPa ps) with
    | .sys => .ok (r.add slot ea ps (.store (spansOf ps ea) v h.writer))
    | .store =>
      if 0x400012000000 ≤ firstPa ps ∧ firstPa ps < 0x400012200000 then .ok (r.add slot ea ps (.pend (firstPa ps) n v)) else .error (.exc 8 slot ea none none)
    | _ => .ok (r.add slot ea ps (.devStore (firstPa ps) n v))

/-! ### Atomic operations, block repeat, CSUB -/

/-- AMO, CAS, CASP (R108-R110): `o` 0 to 4, n bytes, operands of n bytes. -/
def Run.amo (r : Run) (h : Hart) (slot ea n o rs rt : Nat) : Except Stop Run :=
  if 2 ^ 48 ≤ ea then .error (.exc 9 slot ea none none)
  else if ea % n ≠ 0 then .error (.exc 6 slot ea none none)
  else match r.check h slot ea n n .amo true with
    | .error e => .error e
    | .ok [p] => .ok (r.add slot ea [p] (.amo ⟨p.t.pa, n, 0, p.t.pr⟩ o rs rt))
    | .ok _ => .error .stall

/-- BFILL's pattern over n bytes from `a` (R112). -/
def fillBytes (fill a n : Nat) : Nat := ofBytes ((List.range n).map (fun j => byteOf fill ((a + j) % 8)))

/-- One block-repeat step (R111-R114): the access at the lower address is checked first (R113). -/
def Run.step (r : Run) (h : Hart) (slot : Nat) (move : Bool) : Except Stop Run :=
  let cnt := h.img.getSr 1
  let src := h.img.getSr 2
  let dst := h.img.getSr 3
  let n := min cnt (64 - dst % 64)
  if cnt = 0 then .ok r
  else
    let fin := fun (r : Run) =>
      { ((r.val (.sr 3) ((dst + n) % 2 ^ 64)).val (.sr 1) (cnt - n)) with again := cnt != n }
    let rd := r.check h slot src n 1 .bmovRead true
    let wr := r.check h slot dst n 1 .store true
    if move then
      match (if dst < src then wr else rd), (if dst < src then rd else wr) with
      | .error e, _ => .error e
      | _, .error e => .error e
      | .ok a, .ok b =>
        let (ps, qs) := if dst < src then (b, a) else (a, b)
        .ok (fin ((r.add slot src (ps ++ qs) (.move (spansOf ps src) (spansOf qs dst) h.writer)).val (.sr 2) ((src + n) % 2 ^ 64)))
    else match wr with
      | .error e => .error e
      | .ok qs => .ok (fin (r.add slot dst qs (.store (spansOf qs dst) (fillBytes (h.img.getSr 4) dst n) h.writer)))

/-- CSUB up to its submission (R115, R116). -/
def Run.csub (r : Run) (h : Hart) (slot ea sel : Nat) : Except Stop Run :=
  if 2 ^ 48 ≤ ea then .error (.exc 9 slot ea none none)
  else if ea % 32 ≠ 0 then .error (.exc 6 slot ea none none)
  else match r.check h slot ea 32 32 .csub true with
    | .error e => .error e
    | .ok [p] => .ok (r.add slot ea [p] (.csub p.t.tpa sel))
    | .ok _ => .error .stall

/-! ### Control registers, TLBI -/

/-- Assigned control register numbers (R65). -/
def crnOk (n : Nat) : Bool :=
  [0, 1, 2, 3, 4, 8, 9, 0xA, 0xB, 0x10, 0x11, 0x12, 0x20, 0x30, 0x31, 0x40, 0x41, 0x50, 0x100, 0x101, 0x102, 0x103, 0x104, 0x105].contains n

/-- A control register as MFCR reads it (R65-R71). -/
def Hart.crRead (h : Hart) (n : Nat) : Nat :=
  let s := h.st
  match n with
  | 0 => setBit (h.img.getCr 0) 8 (s.rb TN_INST_SECURE h.inst)
  | 0x11 => s.ipend h.key
  | 0x30 => h.inst + s.gen h.inst * 512 + b2n (s.rb TN_INST_SECURE h.inst) * 2 ^ 21
  | 0x31 => h.vcore
  | 0x41 => s.now
  | 0x50 => 0x0801B1
  | 0x100 => (s.s2Of h.core h.inst).2.2
  | 0x101 => h.core
  | n => h.img.getCr n

/-- A write of KC_ECAUSE (R68); a reserved CODE keeps the old one (00 R13). -/
def causeWrite (old x : Nat) : Nat :=
  let c := bits x 5 0
  let ok := (decide (1 ≤ c) && decide (c ≤ 0xE)) || (decide (0x10 ≤ c) && decide (c ≤ 0x12)) || (decide (0x20 ≤ c) && decide (c ≤ 0x23))
  setBits (setBits 0 11 8 (bits x 11 8)) 5 0 (if ok then c else bits old 5 0)

/-- A write of KC_STATUS (R67): PL and PPL = F by F alone (R62). -/
def statusWrite (f : Bool) (old x : Nat) : Nat :=
  let v := setBit (setBits old 3 2 (bits x 3 2)) 11 (bit x 11)
  let v := if bits x 5 4 < 2 || (f && bits x 5 4 == 2) then setBits v 5 4 (bits x 5 4) else v
  if f && decide (bits x 1 0 < 3) then setBits v 1 0 (bits x 1 0) else v

/-- What MTCR, MSCR or MCCR (`o` 1, 2, 3) puts into a control register (R65-R69, 06 R225); `none` where nothing is written. -/
def Hart.crWrite (h : Hart) (o n w : Nat) : Option Nat :=
  let old := h.crRead n
  let x := match o with | 1 => w | 2 => old ||| w | _ => old ^^^ (old &&& w)
  match n with
  | 0 => some (statusWrite (h.pl == 2) (h.img.getCr 0) x)
  | 2 => some (causeWrite old x)
  | 4 => some (x / 2048 * 2048)
  | 0x10 => some (x % 8)
  | 0x11 => if o = 1 then some (old &&& w &&& 6) else none
  | 0x20 => some (x &&& 0xFFFF3FFFFFFFF001)
  | 0x100 => some (x &&& 0xFFFFFFFFFF000)
  | 0x103 => some (causeWrite old x)
  | n => if [0x30, 0x31, 0x40, 0x41, 0x50, 0x101].contains n then none else some x

/-- MFCR, MTCR, MSCR, MCCR (R124). KC_S2ROOT is the core's (06 R226). -/
def Run.ctrl (r : Run) (h : Hart) (slot o rx n : Nat) : Run :=
  if o = 0 then r.val (.g rx) (h.crRead n)
  else match h.crWrite o n (h.g rx) with
    | none => r
    | some v => if n = 0x100 then r.add slot 0 [] (.s2root v) else r.val (.cr n) v

/-! ### One syllable -/

/-- The effective address of an M.LS syllable (R79), and its written-back base. -/
def Hart.ea (h : Hart) (a : Ea) (size : Nat) : Nat :=
  match a.am with
  | 1 => (h.g a.rb + h.g a.ix * size) % 2 ^ 64
  | 2 => h.g a.rb
  | _ => (h.g a.rb + a.off) % 2 ^ 64
def Run.base (r : Run) (h : Hart) (a : Ea) : Run := if a.am < 2 then r else r.val (.g a.rb) ((h.g a.rb + a.off) % 2 ^ 64)

def Hart.opnd (h : Hart) (b : Opnd) : Nat := match b with | .reg n => h.g n | .imm v => v

/-- Bytes of a pair of general registers. -/
def Hart.pair (h : Hart) (n : Nat) : Nat := h.g n + 2 ^ 64 * h.g (n + 1)

/-- The effect of one syllable whose predicate reads 1 (03): registers are read from the image before the bundle (R50). -/
def Run.exec (r : Run) (h : Hart) (slot : Nat) (o : Op) : Except Stop Run :=
  match o with
  | .alu o rd ra b =>
    let y := h.opnd b
    if o.divZero y then .error (.exc 0xC slot 0 none none) else .ok (r.val (.g rd) (o.run (h.g ra) y (h.g rd)))
  | .mfsr rd n => .ok (r.val (.g rd) (h.img.getSr n))
  | .mtsr n ra => .ok (r.val (.sr n) (h.g ra))
  | .mfp rd => .ok (r.val (.g rd) (setBit h.img.p.toNat 0 true))
  | .mtp ra => .ok ((List.range 16).foldl (fun (r : Run) k => r.val (.p k) (b2n (bit (h.g ra) k))) r)
  | .rdcyc rd => .ok (r.val (.g rd) (h.img.getCr 0x40))
  | .rdtime rd => .ok (r.val (.g rd) h.st.now)
  | .cmp mode cond pd ra b => .ok (r.val (.p pd) (b2n (cmpMode mode (h.img.getP pd) (cmpCond cond (h.g ra) (h.opnd b)))))
  | .ld size signed rt a =>
    (r.load h slot (h.ea a size) size).map (fun (x : Run) =>
      let x := if size = 16 then (x.res (.g rt) (r.part 0 8 false)).res (.g (rt + 1)) (r.part 8 8 false)
               else x.res (.g rt) (r.part 0 size signed)
      x.base h a)
  | .ldv rt a => (r.load h slot (h.ea a 32) 32).map (fun (x : Run) => (x.res (.v rt) (r.part 0 32 false)).base h a)
  | .st size rt a => (r.store h slot (h.ea a size) size ((if size = 16 then h.pair rt else h.g rt) % 256 ^ size)).map (fun x => x.base h a)
  | .stv rt a => (r.store h slot (h.ea a 32) 32 (h.img.getV rt)).map (fun x => x.base h a)
  | .pref a => .ok (r.base h a)
  | .fence k => .ok (r.add slot 0 [] (.fence k))
  | .amo o d rt rb rs =>
    let n := if d then 8 else 4
    (r.amo h slot (h.g rb) n o (h.g rs % 256 ^ n) (h.g rt % 256 ^ n)).map (fun x => x.res (.g rt) (r.part 0 n true))
  | .casp rt rb rs =>
    (r.amo h slot (h.g rb) 16 4 (h.pair rs) (h.pair rt)).map (fun x =>
      (x.res (.g rt) (r.part 0 8 false)).res (.g (rt + 1)) (r.part 8 8 false))
  | .bmov => r.step h slot true
  | .bfil => r.step h slot false
  | .csub rt rb rs => (r.csub h slot (h.g rb) (h.g rs)).map (fun x => x.res (.g rt) (r.part 0 8 false))
  | .br link disp =>
    let r := { r with jump := some ((h.pc + 4 * disp) % 2 ^ 64) }
    .ok (if link then r.val (.sr 0) h.next else r)
  | .brr link ra =>
    let r := { r with jump := some (h.g ra) }
    .ok (if link then r.val (.sr 0) h.next else r)
  | .ret => .ok { r with jump := some (h.img.getSr 0) }
  | .sysc imm => .ok { r with sysc := some (slot, imm) }
  | .brk imm => .ok { r with brk := some (slot, imm) }
  | .vec o vd va vb sel =>
    let x := o.run (h.img.getV vd) (h.img.getV va) (h.img.getV vb) sel (h.g va) (h.g vb)
    .ok (r.val (match o with | .extw => .g vd | .extd => .g vd | _ => .v vd) x)
  | .cr o rx n => .ok (r.ctrl h slot o rx n)
  | .eret => .ok { r.val (.cr 0) (eretStatus (h.img.getCr 0)) with ret := some (h.img.getCr 1) }
  | .wfi => .ok { r with wfi := true }
  | .tlbi rx v => .ok (r.add slot 0 [] (.tlbi v (h.g rx)))
  | .fcall n => .ok { r with fcall := some (slot, n) }
  | .fret => .ok { r.val (.cr 0) (eretStatus (h.img.getCr 0)) with ret := some (h.img.getCr 0x102) }
  | .long => .ok r

/-- The syllables from position `is` on, in order, those whose predicate reads 1 (R43, R51); the first that fails a check ends it (R76 rank 4). -/
def Run.go (h : Hart) (ws : List Nat) : List Nat → Run → Run × Option Stop
  | [], r => (r, none)
  | i :: is, r =>
    match decAt ws i with
    | some (o, _) =>
      if sylClass (ws.getD i 0) = 0xC ∨ h.img.getP (sylPred (ws.getD i 0)) = false then Run.go h ws is r
      else match r.exec h i o with
        | .ok r => Run.go h ws is r
        | .error e => (r, some e)
    | none => Run.go h ws is r

/-- The microcoded instructions of a bundle whose predicate reads 1 (04 R162). -/
def Hart.microOps (h : Hart) (ws : List Nat) : List Nat :=
  (List.range ws.length).filterMap (fun i => match decAt ws i with
    | some (o, _) => if h.img.getP (sylPred (ws.getD i 0)) then microOf o else none
    | none => none)

/-! ### Fetch and the checks on the encoding -/

/-- The translation of a page met earlier in the bundle, or a new one. -/
def State.fetchPage (s : State) (h : Hart) (va : Nat) (ts : List (Nat × Trans)) : Except Stop (List (Nat × Trans)) :=
  if ts.any (fun (x : Nat × Trans) => x.1 == va / 4096) then .ok ts
  else match s.hartXlat h va .fetch with
    | .ok t => .ok (ts ++ [(va / 4096, { t with pa := t.pa / 4096 * 4096, tpa := t.tpa / 4096 * 4096 })])
    | .error f => .error (s.xStop h 0 va va .fetch f)

/-- The translation of a page among those of a bundle: device and tenant physical base. -/
def pageOf (ts : List (Nat × Trans)) (va : Nat) : Nat × Nat := ((ts.find? (fun (x : Nat × Trans) => x.1 == va / 4096)).map (fun x => (x.2.pa, x.2.tpa))).getD (0, 0)

/-- BUNDLE_FETCH (R46, R47, R73, R98, 05 R190): up to `fuel` syllables from `va`, to the first whose stop bit is 1. -/
def State.fetch (s : State) (h : Hart) : Nat → Nat → List (Nat × Trans) → List Nat → Except Stop (List Nat × List (Nat × Trans))
  | 0, _, ts, ws => .ok (ws, ts)
  | fuel + 1, va, ts, ws =>
    if 2 ^ 48 ≤ va then .error (.exc 5 0 va none none)
    else match s.fetchPage h va ts with
      | .error e => .error e
      | .ok ts =>
        let pa := (pageOf ts va).1 + va % 4096
        if s.instTarget h.inst pa ≠ .sys then .error (.exc 5 0 va (some (h.refusal ((pageOf ts va).2 + va % 4096) none)) none)
        else if (s.fetchLine h.core (pa / 64)).2 then .error (.exc 5 0 va (some (h.poisonRec pa)) none)
        else
          let w := (s.fetchLine h.core (pa / 64)).1.toNat / 256 ^ (pa % 64) % 2 ^ 32
          if sylStop w then .ok (ws ++ [w], ts) else s.fetch h fuel (va + 4) ts (ws ++ [w])

/-- The lines that a fetch of n syllables has read meet the L1 instruction cache (05 R176). -/
def State.fetchFill (s : State) (h : Hart) (n : Nat) (ts : List (Nat × Trans)) : State :=
  s.each (((List.range n).map (fun k => ((pageOf ts (h.pc + 4 * k)).1 + (h.pc + 4 * k) % 4096) / 64)).eraseDups) (fun s l => s.l1Fetch h.core l (some h.inst))

/-- Whether the syllable at position i raises ILLEGAL_INSTR (R44, R45, R60, R65, 06 R247). -/
def illegalInstr (ws : List Nat) (i : Nat) : Bool :=
  match decAt ws i with
  | none => true
  | some (o, ok) => !ok || (match o with
    | .cr _ _ n => !crnOk n
    | .tlbi _ v => (decide (4 ≤ v) && decide (v < 8)) || v == 15
    | _ => false)

/-- Whether the syllable at position i raises PRIV_INSTR (R63). -/
def Hart.privInstr (h : Hart) (ws : List Nat) (i : Nat) : Bool :=
  let w := ws.getD i 0
  let sys := sylUnit w == 6
  let crn := bits w 11 0
  match decAt ws i with
  | some (.rdcyc _, _) | some (.rdtime _, _) => h.pl == 0 && !bit (h.img.getCr 0) 11
  | some (o, _) =>
    if h.pl = 0 then sys
    else if h.pl = 1 then
      sys && (decide (0x10 ≤ bits w 22 18) || (decide (0x100 ≤ crn) && decide (crn < 0x200)) ||
        (match o with | .tlbi _ v => decide (0xC ≤ v) && decide (v ≤ 0xE) | _ => false))
    else false
  | none => false

/-- The first of R76's exceptions of ranks 2 and 3: code and slot. -/
def Hart.encodingFault (h : Hart) (ws : List Nat) : Option (Nat × Nat) :=
  match illegalBundle ws with
  | some i => some (1, i)
  | none => (List.range ws.length).findSome? (fun i =>
      if illegalInstr ws i then some (2, i) else if h.privInstr ws i then some (3, i) else none)

/-! ### The end of a bundle -/

/-- The bytes of a response that one destination takes: zero- or sign-extended to 64 bits (R96, R97). -/
def holeVal (v off size : Nat) (signed : Bool) : Nat :=
  let x := v / 256 ^ off % 256 ^ size
  if signed then wrapInt 64 (sextInt (8 * size) x) else x

/-- A result with the responses that it waited for. -/
def WVal.eval (w : WVal) (resp : List Nat) : Nat :=
  match w with
  | .val n => n
  | .hole k off size signed => holeVal (resp.getD k 0) off size signed

/-- A bundle commits (R50, R52): its results, the next bundle, WFI; then SYSCALL, with KC_EPC the next bundle (R78, R125). -/
def State.commitBundle (s : State) (key : Nat) (w : Wait) : State :=
  s.setVc key (fun k =>
    let k := w.writes.foldl (fun (k : VCore) (x : Dst × WVal) => k.put x.1 (x.2.eval w.resp)) k
    match w.sysc with
    | some (slot, imm) => { k.takeExc w.next 0xD slot imm false with wait := none }
    | none => { k with pc := BitVec.ofNat 64 w.next, wfi := w.wfi, wait := none })

/-- The responses with those that need no other unit's answer. -/
def autoResp : List Acc1 → List Nat → List Nat
  | .got v :: r, resp => autoResp r (resp ++ [v])
  | .stored _ :: r, resp => autoResp r (resp ++ [0])
  | _, resp => resp

/-- A bundle whose accesses are all answered commits; another waits (R136). -/
def State.settleBundle (s : State) (key : Nat) (w : Wait) : State :=
  let w := { w with resp := autoResp (w.accs.drop w.resp.length) w.resp }
  if w.resp.length < w.accs.length then s.setVc key (fun k => { k with wait := some w }) else s.commitBundle key w

/-- A waiting bundle goes on: accesses that could not be performed before are (R51, R115). -/
def State.advance (s : State) (h : Hart) (w : Wait) : State :=
  let r := s.issue h w.resp.length false [] w.accs
  (r.1.settleBundle h.key { w with accs := r.2.1 }).useqDone h.core

/-- A virtual core on the core that it is placed on, when that core runs. -/
def State.hartOf (s : State) (i v bad : Nat) : Option Hart :=
  match s.placeOf i v with
  | some (c, _) => if s.rf KC_PCS_ROLE c = 0 ∧ bit s.coh.deadQuads (c / 4) = false then some ⟨c, i, v, s, s.vc (vkey i v), (s.vc (vkey i v)).pc.toNat, 0, bad⟩ else none
  | none => none

/-- The response to the first access that has none; with the last the bundle commits (R136, R151). -/
def State.answer (s : State) (i v bad : Nat) (w : Wait) (x : Nat) : State :=
  let w := { w with resp := w.resp ++ [x] }
  match s.hartOf i v bad with
  | some h => s.advance h w
  | none => s.settleBundle (vkey i v) w

/-- The exception of a bundle that commits nothing is taken (R74, R52); a stall is a recognised wait (04 R146). -/
def State.stopped (s : State) (h : Hart) (e : Stop) : State :=
  match e with
  | .stall => s.setCore h.core (fun k => { k with stalled := true })
  | .exc code slot eaddr rep f =>
    let s := match rep with | some r => s.report r | none => s
    s.setVc h.key (fun k =>
      let k := match f with
        | some (fc, fa) => ((k.setCr 0x102 h.pc).setCr 0x103 (slot * 256 + fc)).setCr 0x104 fa
        | none => k
      k.takeExc h.pc code slot eaddr false)

/-- The virtual cores of an instance that are not parked, as a bitmap (13 R572 INFO). -/
def State.placedMap (s : State) (i : Nat) : Nat := (List.range (s.vcores i)).foldl (fun m v => setBit m v (!s.isParked i v)) 0

/-- FCALL (R126, 13 R572): device firmware carries out the service, and the instance resumes after the bundle. KC_FADDR is a free value (log 3). -/
def State.fcall (s : State) (h : Hart) (slot svc : Nat) : State :=
  let a := s.fresh 64
  let s := a.2.setVc h.key (fun k =>
    { (((k.setCr 0x102 h.pc).setCr 0x103 (slot * 256 + 0x23)).setCr 0x104 a.1) with pc := BitVec.ofNat 64 h.next })
  let g1 := fun (s : State) (v : Nat) => s.setVc h.key (fun k => k.setG 1 v)
  let arg := h.g 1
  match svc with
  | 0 => if s.rb KC_PCS_DEDICATED h.core then s else s.sliceEnd h.core
  | 1 =>
    if arg < s.vcores h.inst then g1 ((s.eqNotice h.inst 0x13 (arg + h.vcore * 256) (h.g 2)).setIpend h.inst arg 1) 0 else g1 s 1
  | 2 => (g1 s (s.ipStatus h.inst)).setVc h.key (fun k => k.setG 2 (s.placedMap h.inst))
  | 3 =>
    if arg = 0 then s.resetNow h.inst 3 none
    else if arg = 1 then s.resetNow h.inst 3 (s.lastStart h.inst)
    else g1 s (2 ^ 64 - 1)
  | _ => g1 s (2 ^ 64 - 1)

/-- Whether a bundle's access is non-repeatable and has been issued (R136). -/
def Acc1.issued (a : Acc1) : Bool := match a with | .done _ | .pcie _ _ _ | .csub _ _ | .amo _ _ _ _ _ | .stored false => true | _ => false

/-- Every check of the syllables has passed: BREAK, then FCALL, then the accesses and the commit or the wait for responses (R76 rank 5, R77, R78, R99, R136). `n`
syllables, `ms` microcoded instructions, of which the sequencer runs `words` microwords. `late`: the bundle is cut off by a check-stop once its accesses are
issued; one without a non-repeatable access runs again as a whole. -/
def State.finishBundle (s : State) (h : Hart) (n : Nat) (r : Run) (ms : List Nat) (words : Nat) (late : Bool) : State :=
  match r.brk, r.fcall with
  | some (slot, imm), _ => s.stopped h (.exc 0xE slot imm none none)
  | none, some (slot, svc) => s.fcall h slot svc
  | none, none =>
    let x := (r.s.each r.uses (fun s t => s.useTrans h t)).issue h 0 false [] (r.plan.map (fun (p : Nat × Nat × Access) => .todo p.2.2))
    let w : Wait := ⟨x.2.1, [], r.writes, r.jump.getD (r.ret.getD (if r.again then h.pc else h.next)), r.wfi, r.sysc⟩
    let t := (x.1.pmEvent 0x0102 h.core (some h.inst)).pmEvent 0x0103 h.core (some h.inst) n
    let t := t.each ms (fun s k => (s.useqEnter h.core k).useqRun h.core words)
    if late then (if x.2.1.any Acc1.issued then t.setVc h.key (fun k => { k with wait := some { w with resp := autoResp w.accs [] } }) else s)
    else
      let t := t.settleBundle h.key w
      if ms.isEmpty || (t.vc h.key).wait.isSome then t else t.useqDone h.core

/-- The check of a bundle's accesses before any of them issues (R99, R101): what stops the bundle, of the syllables before the one whose check has failed. -/
def State.poisonCheck (h : Hart) (r : Run) : Option Stop :=
  if r.plan.isEmpty then none
  else match ((r.s.each r.uses (fun s t => s.useTrans h t)).issue h 0 true [] (r.plan.map (fun (p : Nat × Nat × Access) => .todo p.2.2))).2.2 with
    | none => none
    | some .stall => some .stall
    | some (.poison k pa) => (r.plan[k]?).map (fun (p : Nat × Nat × Access) => .exc 0xB p.1 p.2.1 (some (h.poisonRec pa)) none)

/-- A bundle from its fetch to its end (R52, R76). While a core's control stores are rewritten its microcoded instructions wait (04 R167). `late` as in
`finishBundle`: nothing but issued accesses remains of it. -/
def State.runBundle (s : State) (h : Hart) (words : Nat) (late : Bool) : State :=
  let stop := fun (e : Stop) => if late then s else s.stopped h e
  if h.pc % 4 ≠ 0 then stop (.exc 4 0 h.pc none none)
  else match s.fetch h 8 h.pc [] [] with
    | .error e => stop e
    | .ok (ws, ts) =>
      let h := { h with next := (h.pc + 4 * ws.length) % 2 ^ 64 }
      match h.encodingFault ws with
      | some (code, i) => stop (.exc code i (h.pc + 4 * i) none none)
      | none =>
        let s0 := (s.each ts (fun s (x : Nat × Trans) => s.useTrans h x.2)).fetchFill h ws.length ts
        let ms := h.microOps ws
        if (s.core h.core).ucodeBad && !ms.isEmpty then stop .stall
        else
          let (r, e) := Run.go h ws (List.range ws.length) ⟨s0, [], [], [], none, none, false, false, none, none, none⟩
          match State.poisonCheck h r, e with
          | some e, _ => stop e
          | none, some e => stop e
          | none, none => if late && (r.brk.isSome || r.fcall.isSome) then s else s.finishBundle h ws.length r ms words late

/-- An entry of a near structure in error is invalidated (04 R130, R133): the walk is repeated and the line filled again when it is next used. A store-buffer entry is
rewritten from its image, which holds the same. -/
def State.nearErr (s : State) (c : Nat) (e : NearErr) : State :=
  match e with
  | .itlb k => s.setTlb (itlb c) ((s.tlbOf (itlb c)).eraseIdx k.toNat)
  | .dtlb k => s.setTlb (dtlb c) ((s.tlbOf (dtlb c)).eraseIdx k.toNat)
  | .tlb2 k => s.setTlb (tlb2 c) ((s.tlbOf (tlb2 c)).eraseIdx k.toNat)
  | .l1i k => { s with coh := { s.coh with l1i := Map.put s.coh.l1i c ((s.l1iOf c).eraseIdx k.toNat) } }
  | .l1d k => { s with coh := { s.coh with l1d := Map.put s.coh.l1d c ((s.l1dOf c).eraseIdx k.toNat) } }
  | .storeBuffer _ => s

/-- What a core meets while it runs a bundle (04 R130-R134, R140): the cycles that pass, corrected errors, entries in error, a Checkpoint Array word that is rewritten. -/
def State.bundleMeets (s : State) (h : Hart) (e : BundleEnv) : State :=
  let n := e.cycles.toNat
  let s := (s.setVc h.key (fun k => k.setCr 0x40 (k.getCr 0x40 + n))).pmEvent 0x0101 h.core (some h.inst) n
  let s := (s.each (List.range e.corrected.val) (fun s _ => s.coreCorrected h.core)).each e.near (fun s x => s.nearErr h.core x)
  let s := s.when (e.fails.val != 0 && decide (e.restore = .kept)) (fun s => s.report { org := org 1 h.core, cause := 0x0105, cls := ochre, react := 3 })
  s.when (s.core h.core).stalled (fun s => s.setCore h.core (fun k => { k with stalled := false }))

/-- Whether the core check-stops in the bundle: a third failed attempt (R133), or a restore that finds neither copy good (R140). -/
def bundleStops (e : BundleEnv) : Bool := e.fails.val == 3 || (e.fails.val != 0 && decide (e.restore = .lost))

/-- BUNDLE_EXECUTE: an interrupt that is due first (R75), then one bundle with its retries (04 R131-R134), or a check-stop (R146). A bundle that waits goes on from its issue
record, and issues no access again (R136). -/
def State.bundleExecute (s : State) (c : Nat) (e : BundleEnv) : State :=
  match s.waiting c e.bad.val with
  | some (h, w) =>
    let s := s.bundleMeets h e
    if bundleStops e then s.checkStop c else (s.when (e.fails.val != 0) (fun s => s.countRetry c)).advance h w
  | none =>
    match s.hart c e.bad.val with
    | none => s
    | some h =>
      let s := s.takeIrq h
      match s.hart c e.bad.val with
      | none => s
      | some h =>
        let s := (s.bundleMeets h e).loadS2 c h.inst
        if bundleStops e then (if e.late then s.runBundle h e.words.toNat true else s).checkStop c
        else (s.runBundle h e.words.toNat false).when (e.fails.val != 0) (fun s => s.countRetry c)

/-- INTERRUPT_TAKE (R75). -/
def State.interruptTake (s : State) (c : Nat) : State :=
  match s.hart c 0 with
  | some h => if h.irqDue.isSome then s.takeIrq h else s
  | none => s

/-- WFI_WAKE (R125): an enabled interrupt is pending, and the wait ends. -/
def State.wfiWake (s : State) (i v : Nat) : State :=
  if (s.vc (vkey i v)).wfi && s.irqReady (vkey i v) then s.setVc (vkey i v) (fun k => { k with wfi := false }) else s

/-- The next access of a virtual core's bundle that has no response. -/
def State.awaited (s : State) (i v : Nat) : Option (Wait × Acc1) :=
  ((s.vc (vkey i v)).wait).bind (fun w => (w.accs[w.resp.length]?).map (fun a => (w, a)))

/-- NON_REPEATABLE_RESPONSE (R100, R136): a PCIe read that completes with an error reads as all ones. An AMO is answered by the port (R137, R151). -/
def State.nrResponse (s : State) (i v : Nat) (far : FarEnd) : State :=
  match s.awaited i v with
  | some (w, .done x) => s.answer i v 0 w x
  | some (w, .amo tag p o rs rt) => (match s.hartOf i v 0 with
    | some h => (s.portAmo h tag p o rs rt).1.answer i v 0 w (s.portAmo h tag p o rs rt).2
    | none => s)
  | some (w, .pcie l bus n) => match s.farResult l bus n far with
    | (s, .ok bs) => (s.bwBytes (0x10 + l / 4) n).answer i v 0 w (ofBytes bs)
    | (s, .error _) => s.answer i v 0 w (256 ^ n - 1)
  | _ => s

/-- COMPLETION_TIMEOUT (R100, 19 R807). -/
def State.completionTimeout (s : State) (i v : Nat) : State :=
  match s.awaited i v with
  | some (w, .pcie l bus n) => (s.farResult l bus n .timeout).1.answer i v 0 w (256 ^ n - 1)
  | _ => s

/-- CSUB_ACKNOWLEDGEMENT (R115): the tenant manager takes the submission, and its acknowledgement returns. -/
def State.csubAck (s : State) (i v bad : Nat) : State :=
  match s.awaited i v with
  | some (w, .csub tpa sel) => (fun (x : State × Nat) => (x.1.answer i v bad w x.2).chSync) (s.csubmit i tpa sel bad)
  | _ => s

end Sys2Proof.Machine
end

