-- ==== Sys2Proof/Machine/ExecKamyon.lean ====
section
/-! DEFINITION. The rows of Kamyon execution (02, 03, 04): one meaning each. -/

namespace Sys2Proof.Machine

/-- BUNDLE_EXECUTE (02 R52). -/
def execBundleExecute (core : Fin 64) (env : BundleEnv) (s : State) : Host.Outcome State Fault Refusal := run (fun s => s.bundleExecute core.val env) s

/-- INTERRUPT_TAKE (02 R75). -/
def execInterruptTake (core : Fin 64) (s : State) : Host.Outcome State Fault Refusal := run (fun s => s.interruptTake core.val) s

/-- WFI_WAKE (03 R125). -/
def execWfiWake (inst : BitVec 9) (vcore : Fin 64) (s : State) : Host.Outcome State Fault Refusal := run (fun s => s.wfiWake inst.toNat vcore.val) s

/-- NON_REPEATABLE_RESPONSE (04 R136). -/
def execNonRepeatableResponse (inst : BitVec 9) (vcore : Fin 64) (far : FarEnd) (s : State) : Host.Outcome State Fault Refusal :=
  run (fun s => s.nrResponse inst.toNat vcore.val far) s

/-- COMPLETION_TIMEOUT (03 R100). -/
def execCompletionTimeout (inst : BitVec 9) (vcore : Fin 64) (s : State) : Host.Outcome State Fault Refusal :=
  run (fun s => s.completionTimeout inst.toNat vcore.val) s

/-- CSUB_ACKNOWLEDGEMENT (03 R115). -/
def execCsubAcknowledgement (inst : BitVec 9) (vcore : Fin 64) (bad : Fin 4) (s : State) : Host.Outcome State Fault Refusal :=
  run (fun s => s.csubAck inst.toNat vcore.val bad.val) s

end Sys2Proof.Machine
end

