-- ==== Sys2Proof/Machine/ExecPorts.lean ====
section
/-! DEFINITION. The rows of supplies and ports (19): one meaning each. -/

namespace Sys2Proof.Machine

/-- SUPPLY_FAULT (R792). -/
def execSupplyFault (rail : Fin 11) (s : State) : Host.Outcome State Fault Refusal := run (fun s => s.supplyFault rail.val) s

/-- MP_PERST_N (R809). -/
def execMpPerstN (s : State) : Host.Outcome State Fault Refusal := run State.mpPerst s

/-- ETHERNET_FRAME_RECEIVE (R811): the frame from its destination address to the end of its data. -/
def execEthernetFrameReceive (port : Fin 4) (frame : List Byte) (fcsOk : Bool) (s : State) : Host.Outcome State Fault Refusal :=
  runCh (fun s => s.ethReceive port.val (byteNats frame) fcsOk) s

/-- ARP_REFRESH (R812). -/
def execArpRefresh (channel : BitVec 10) (s : State) : Host.Outcome State Fault Refusal := run (fun s => s.arpRefresh channel.toNat) s

/-- ETHERNET_LINK_CHANGE (R814). -/
def execEthernetLinkChange (port : Fin 4) (up : Option (Fin 6 × Bool)) (s : State) : Host.Outcome State Fault Refusal :=
  runCh (fun s => s.ntLink port.val (up.map (fun (p : Fin 6 × Bool) => (p.1.val, p.2)))) s

/-- SWITCH (R813). -/
def execSwitch (port : Fin 4) (s : State) : Host.Outcome State Fault Refusal := run (fun s => s.gclSwitch port.val) s

/-- GATE_BANK_CHANGE (R813). -/
def execGateBankChange (port : Fin 4) (s : State) : Host.Outcome State Fault Refusal := run (fun s => s.gclChange port.val) s

/-- LINK_RANGE_WRITE (R822). -/
def execLinkRangeWrite (agent : Agent) (link : Fin 16) (limit : Bool) (value : Word) (s : State) : Host.Outcome State Fault Refusal :=
  run (fun s => s.rangeWrite agent link.val limit value.toNat) s

/-- PCIE_LINK_CHANGE (R807). -/
def execPcieLinkChange (link : Fin 16) (ev : PxEvent) (s : State) : Host.Outcome State Fault Refusal := runCh (fun s => s.pxEvent link.val ev) s

/-- PCIE_INBOUND_REQUEST (06 R254): `data` of a write, or `len` bytes read. -/
def execPcieInboundRequest (link : Fin 16) (rid : BitVec 16) (addr : Word) (ide special : Bool) (data : Option (List Byte)) (len : Fin 4097) (far : FarEnd)
    (s : State) : Host.Outcome State Fault Refusal :=
  run (fun s => s.pxInbound link.val rid.toNat addr.toNat ide special (data.map byteNats) len.val far) s

end Sys2Proof.Machine
end

