-- ==== Sys2Proof/Machine/ExecPower.lean ====
section
/-! DEFINITION. The rows of islands, power, health, time and monitors (18): one meaning each. -/

namespace Sys2Proof.Machine

/-- LATENCY_SET (R747). -/
def execLatencySet (s : State) : Host.Outcome State Fault Refusal := run (fun s => s.onCmd 0x0201 (fun _ => true) State.doLatencySet) s

/-- POWER_QUERY (14 R605). -/
def execPowerQuery (s : State) : Host.Outcome State Fault Refusal := run (fun s => s.onCmd 0x0202 (fun _ => true) State.doPowerQuery) s

/-- HEALTH_QUERY (R765). -/
def execHealthQuery (s : State) : Host.Outcome State Fault Refusal := run (fun s => s.onCmd 0x0710 (fun _ => true) State.doHealthQuery) s

/-- COUNTER_SNAPSHOT (R763). -/
def execCounterSnapshot (s : State) : Host.Outcome State Fault Refusal := run (fun s => s.onCmd 0x0801 (fun _ => true) State.doSnapshot) s

/-- IDLE_GATE, NAP_ENTRY, DARK_ENTRY (R746): the row's arrival is the end of the idle time. -/
def execIdleGate (core : Fin 64) (s : State) : Host.Outcome State Fault Refusal := run (fun s => s.enterPower core.val 1) s
def execNapEntry (core : Fin 64) (s : State) : Host.Outcome State Fault Refusal := run (fun s => s.enterPower core.val 2) s
def execDarkEntry (core : Fin 64) (s : State) : Host.Outcome State Fault Refusal := run (fun s => s.enterPower core.val 3) s

/-- CORE_WAKE (R746). -/
def execCoreWake (core : Fin 64) (s : State) : Host.Outcome State Fault Refusal := run (fun s => s.coreWake core.val) s

/-- TIMER_WAKE (R746). -/
def execTimerWake (core : Fin 64) (s : State) : Host.Outcome State Fault Refusal := run (fun s => s.timerWake core.val) s

/-- SELF_REFRESH_ENTRY (R748): of one rank set. -/
def execSelfRefreshEntry (rank : Fin 8) (s : State) : Host.Outcome State Fault Refusal := run (fun s => s.srEnter rank.val) s

/-- POWER_ESTIMATE (R749): what the regulators and the junctions report. -/
def execPowerEstimate (mw : BitVec 32) (temps : List (BitVec 12)) (rails : List (BitVec 32)) (s : State) : Host.Outcome State Fault Refusal :=
  run (fun s => s.powerEstimate mw.toNat (temps.map (·.toNat)) (rails.map (·.toNat))) s

/-- THROTTLE_STEP (R749). -/
def execThrottleStep (s : State) : Host.Outcome State Fault Refusal := run State.throttleStep s

/-- AGEING_SAMPLE (R751): the islands' margins in ps, in island order. -/
def execAgeingSample (margins : List (BitVec 16)) (s : State) : Host.Outcome State Fault Refusal := run (fun s => s.ageSample (margins.map (·.toNat))) s

/-- PARK (R750). -/
def execPark (island : Fin 167) (s : State) : Host.Outcome State Fault Refusal := run (fun s => s.park island.val) s

/-- UNPARK (R750): with the result of the unit's test. -/
def execUnpark (island : Fin 167) (pass : Bool) (s : State) : Host.Outcome State Fault Refusal := run (fun s => s.unpark island.val pass) s

/-- HANDSHAKE_ERROR (R742): on a crossing into unit `unit` of an island. -/
def execHandshakeError (island : Fin 167) (unit : Fin 8) (s : State) : Host.Outcome State Fault Refusal :=
  run (fun s => s.handshake island.val unit.val) s

/-- ISLAND_CLOCK_LOSS (R742). -/
def execIslandClockLoss (island : Fin 167) (s : State) : Host.Outcome State Fault Refusal := run (fun s => (s.clockLost island.val).chSync) s

/-- TM_ADJ (R754, R755). -/
def execTmAdj (value : Word) (refclk : Bool) (s : State) : Host.Outcome State Fault Refusal := run (fun s => s.tmAdj value.toNat refclk) s

/-- TM_SOURCE_WRITE (R755, R756). -/
def execTmSourceWrite (source : BitVec 4) (refclk : Bool) (s : State) : Host.Outcome State Fault Refusal := run (fun s => s.tmSource source.toNat refclk) s

/-- PPS_IN_EDGE (R755, R758). -/
def execPpsInEdge (falling soon refclk : Bool) (s : State) : Host.Outcome State Fault Refusal := run (fun s => s.ppsEdge falling soon refclk) s

/-- HOLDOVER (R756). -/
def execHoldover (source : Fin 3) (s : State) : Host.Outcome State Fault Refusal := run (fun s => s.holdover source.val) s

/-- OSC_FAULT (R753). -/
def execOscFault (s : State) : Host.Outcome State Fault Refusal := run State.oscFault s

/-- PPS_OUT (R758). -/
def execPpsOut (s : State) : Host.Outcome State Fault Refusal := run State.ppsOut s

/-- SNAP (R763). -/
def execSnap (s : State) : Host.Outcome State Fault Refusal := run (fun s => s.snap 1) s

/-- PMU_SNAP_EDGE (R763). -/
def execPmuSnapEdge (s : State) : Host.Outcome State Fault Refusal := run (fun s => if s.rb PM_CTL_PIN_EN then s.snap 2 else s) s

/-- FREEZE (R763): a write of PM_CTL.FREEZE. -/
def execFreeze (freeze : Bool) (s : State) : Host.Outcome State Fault Refusal := run (fun s => s.freezeCtl freeze) s

/-- BANDWIDTH_WINDOW_END (R762). -/
def execBandwidthWindowEnd (monitor : Fin 16) (s : State) : Host.Outcome State Fault Refusal := run (fun s => s.bwWindow monitor.val) s

end Sys2Proof.Machine
end

