-- ==== Sys2Proof/Machine/ExecRegs.lean ====
section
/-! DEFINITION. Meanings of the rows about registers: writes by access code, counter writes, reads that clear. -/

namespace Sys2Proof.Machine

/-- A register write wherever it goes. A store to an instance page lies at its natural alignment (03 R98). -/
def State.targetWrite (s : State) (t : RegTarget) : State :=
  match t with
  | .space a addr size v => s.regWrite a addr.toNat size.toNat v.toNat
  | .bar2 off bs => s.bar2Write off.toNat (byteNats bs)
  | .bar4 off bs => s.bar4Write off.toNat (byteNats bs)
  | .config bm en mask => s.configWrite bm en mask
  | .page i v off d x bad =>
    let n := if d then 8 else 4
    if off.toNat % n = 0 then s.ipageWrite i.toNat v.val off.toNat n x.toNat bad.val else s

/-- REGISTER_WRITE (00 R11). -/
def execRegisterWrite (target : RegTarget) (s : State) : Host.Outcome State Fault Refusal := run (fun s => s.targetWrite target) s

/-- COUNTER_WRITE (18 R760). -/
def execCounterWrite (agent : Agent) (addr value : Word) (edge : CountEdge) (s : State) : Host.Outcome State Fault Refusal :=
  run (fun s => s.counterWrite agent addr.toNat value.toNat edge) s

/-- MP_EVT_DROP_READ (01 R38). -/
def execMpEvtDropRead (agent : Agent) (s : State) : Host.Outcome State Fault Refusal := run (fun s => s.readOut agent rMP_EVT_DROP 0) s

/-- MX_LAT_MAX_READ (05 R221). -/
def execMxLatMaxRead (agent : Agent) (s : State) : Host.Outcome State Fault Refusal := run (fun s => s.readOut agent rMX_LAT_MAX 0) s

/-- DEPTH_MAX_READ (08 R346). -/
def execDepthMaxRead (agent : Agent) (lane : Fin 64) (s : State) : Host.Outcome State Fault Refusal :=
  run (fun s => s.readOut agent rSG_LANE_STAT lane.val) s

/-- EDGE_MAX_READ (12 R538). -/
def execEdgeMaxRead (agent : Agent) (port : Fin 32) (node : Fin 256) (s : State) : Host.Outcome State Fault Refusal :=
  run (fun s => s.readOut agent rFR_NODE (port.val * 256 + node.val)) s

/-- UTIL_MAX_READ (14 R613). -/
def execUtilMaxRead (agent : Agent) (s : State) : Host.Outcome State Fault Refusal := run (fun s => s.readOut agent rMP_LOAD 0) s

/-- MISSED_READ (18 R782). -/
def execMissedRead (agent : Agent) (s : State) : Host.Outcome State Fault Refusal := run (fun s => s.readOut agent rPM_SNAP_STAT 0) s

/-- BANDWIDTH_MAX_READ (18 R784). -/
def execBandwidthMaxRead (agent : Agent) (monitor : Fin 16) (s : State) : Host.Outcome State Fault Refusal :=
  run (fun s => s.readOut agent rPM_BW monitor.val) s

end Sys2Proof.Machine
end

