-- ==== Sys2Proof/Machine/ExecRing.lean ====
section
/-! DEFINITION. The commands of the Field Rings (12). The channel registers follow (11 R486). -/

namespace Sys2Proof.Machine

/-- The words of an operand. -/
def wordNats (l : List (BitVec 32)) : List Nat := l.map (fun (b : BitVec 32) => b.toNat)

/-- CYCLE_START (R493). -/
def execCycleStart (port : Fin 32) (seen : RingSeen) (s : State) : Host.Outcome State Fault Refusal :=
  runCh (fun s => s.cycleStart port.val seen) s

/-- SLOT_FRAME_RECEIVE (R511): the measured edge error is a signed number of ns. -/
def execSlotFrameReceive (port : Fin 32) (node : Fin 256) (sideN : Bool) (viol : BitVec 16) (edge : BitVec 16) (frame : List Byte) (s : State) :
    Host.Outcome State Fault Refusal :=
  runCh (fun s => s.slotReceive port.val node.val sideN viol.toNat edge.toInt (byteNats frame)) s

/-- SLOT_WINDOW_CLOSE (R511). -/
def execSlotWindowClose (port : Fin 32) (node : Fin 256) (s : State) : Host.Outcome State Fault Refusal :=
  runCh (fun s => s.windowClose port.val node.val) s

/-- PORT_INPUT_LOSS (R492). -/
def execPortInputLoss (port : Fin 32) (sideN : Bool) (s : State) : Host.Outcome State Fault Refusal := run (fun s => s.portLoss port.val sideN) s

/-- HEAL (R519). -/
def execHeal (port : Fin 32) (inN inP : Bool) (s : State) : Host.Outcome State Fault Refusal := run (fun s => s.heal port.val inN inP) s

/-- LISTENER_SLOT_RECEIVE (R520). -/
def execListenerSlotReceive (port : Fin 32) (node : Fin 256) (sync frame : List Byte) (s : State) : Host.Outcome State Fault Refusal :=
  run (fun s => s.listenerSlot port.val node.val (byteNats sync) (byteNats frame)) s

/-- NODE_SYNC_RECEIVE (R502). -/
def execNodeSyncReceive (port : Fin 32) (node : Fin 256) (sync outbound roll : List Byte) (maker : NodeMaker) (s : State) :
    Host.Outcome State Fault Refusal :=
  run (fun s => s.nodeSync port.val node.val (byteNats sync) (byteNats outbound) (byteNats roll) maker) s

/-- NODE_SLOT_SEND (R503). -/
def execNodeSlotSend (port : Fin 32) (node : Fin 256) (samples : List (BitVec 32)) (s : State) : Host.Outcome State Fault Refusal :=
  run (fun s => s.nodeSlot port.val node.val (wordNats samples)) s

/-- NODE_SYNC_TIMEOUT (R504). -/
def execNodeSyncTimeout (port : Fin 32) (node : Fin 256) (s : State) : Host.Outcome State Fault Refusal :=
  run (fun s => s.nodeTimeout port.val node.val) s

/-- NODE_INPUT_LOSS (R492). -/
def execNodeInputLoss (port : Fin 32) (node : Fin 256) (sideN : Bool) (s : State) : Host.Outcome State Fault Refusal :=
  run (fun s => s.nodeLoss port.val node.val sideN) s

/-- OUTPUT_HOLD_EXPIRY (R507). -/
def execOutputHoldExpiry (port : Fin 32) (node : Fin 256) (s : State) : Host.Outcome State Fault Refusal :=
  run (fun s => s.nodeHold port.val node.val) s

/-- PREPARE_HOLD_EXPIRY (R516). -/
def execPrepareHoldExpiry (port : Fin 32) (node : Fin 256) (source seq : BitVec 16) (s : State) : Host.Outcome State Fault Refusal :=
  run (fun s => s.prepExpire port.val node.val source.toNat seq.toNat) s

/-- NODE_INPUT_RESTORED (R492). -/
def execNodeInputRestored (port : Fin 32) (node : Fin 256) (s : State) : Host.Outcome State Fault Refusal :=
  run (fun s => s.nodeRestored port.val node.val) s

/-- NODE_POWER_UP (R507). -/
def execNodePowerUp (port : Fin 32) (node : Fin 256) (s : State) : Host.Outcome State Fault Refusal := run (fun s => s.nodePower port.val node.val) s

/-- RING_COMMISSION (R525): the table read through the Management Port, and the roll-call frame that came back. -/
def execRingCommission (table roll : List Byte) (s : State) : Host.Outcome State Fault Refusal :=
  runCh (fun s => s.onLong 0x0310 (fun s c => s.commStart c (byteNats table)) (fun s c => s.commNext c (byteNats roll))) s

end Sys2Proof.Machine
end

