-- ==== Sys2Proof/Machine/ExecTenant.lean ====
section
/-! DEFINITION. The commands of the tenant manager (13). -/

namespace Sys2Proof.Machine

/-- INSTANCE_CREATE (R540). -/
def execInstanceCreate (via : Via) (s : State) : Host.Outcome State Fault Refusal :=
  run (fun s => s.onVia via 0x0101 (fun _ => true) State.doCreate) s

/-- INSTANCE_START (R545, R547). -/
def execInstanceStart (via : Via) (s : State) : Host.Outcome State Fault Refusal :=
  run (fun s => s.onVia via 0x0102 (fun _ => true) State.doStart) s

/-- INSTANCE_RESET (R565): the drains, then in a next step the summary, the restart and the replies. -/
def execInstanceReset (via : Via) (s : State) : Host.Outcome State Fault Refusal :=
  runCh (fun s => s.onLongVia via 0x0103 State.resetBegin State.resetNext) s

/-- INSTANCE_FREEZE (R567). -/
def execInstanceFreeze (via : Via) (s : State) : Host.Outcome State Fault Refusal :=
  run (fun s => s.onLongVia via 0x0104 State.freezeBegin State.freezeNext) s

/-- FREEZE_COMPLETE (R567). -/
def execFreezeComplete (inst : BitVec 9) (s : State) : Host.Outcome State Fault Refusal := run (fun s => s.freezeComplete inst.toNat) s

/-- FREEZE_TIMEOUT (R567). -/
def execFreezeTimeout (inst : BitVec 9) (s : State) : Host.Outcome State Fault Refusal := run (fun s => s.freezeTimeout inst.toNat) s

/-- INSTANCE_SAVE (R569): one block a step. -/
def execInstanceSave (s : State) : Host.Outcome State Fault Refusal := run (fun s => s.onLong 0x0105 State.saveBegin State.saveNext) s

/-- INSTANCE_RESTORE (R570): one block a step; `image` is what the source holds. -/
def execInstanceRestore (image : List Byte) (s : State) : Host.Outcome State Fault Refusal :=
  run (fun s => s.onLong 0x0106 (fun s c => s.restoreBegin c (byteNats image)) (fun s c => s.restoreNext c (byteNats image))) s

/-- INSTANCE_DESTROY (R546). -/
def execInstanceDestroy (via : Via) (s : State) : Host.Outcome State Fault Refusal :=
  runCh (fun s => s.onLongVia via 0x0107 State.destroyBegin State.destroyNext) s

/-- INSTANCE_MAP (R542). -/
def execInstanceMap (via : Via) (s : State) : Host.Outcome State Fault Refusal :=
  run (fun s => s.onVia via 0x0108 (fun _ => true) State.doMap) s

/-- INSTANCE_UNMAP (R543). -/
def execInstanceUnmap (via : Via) (s : State) : Host.Outcome State Fault Refusal :=
  run (fun s => s.onVia via 0x0109 (fun _ => true) State.doUnmap) s

/-- INSTANCE_QUERY (R539). -/
def execInstanceQuery (via : Via) (s : State) : Host.Outcome State Fault Refusal :=
  run (fun s => s.onVia via 0x010A (fun _ => true) State.doInstQuery) s

/-- POST_IN: TN_MBX_CTL.POST_IN of the Normal world, or a message of the Vault firmware to a secure instance (R576, 17 R707). -/
def execPostIn (agent : Agent) (inst : BitVec 9) (len : BitVec 13) (msg : List Byte) (s : State) : Host.Outcome State Fault Refusal :=
  run (fun s => match agent with | .secure => (s.vaultPost inst.toNat (byteNats msg)).1 | _ => s.postIn len.toNat) s

/-- ACK_OUT (R576, 17 R707). -/
def execAckOut (agent : Agent) (inst : BitVec 9) (s : State) : Host.Outcome State Fault Refusal :=
  run (fun s => s.ackOut (match agent with | .secure => some inst.toNat | _ => none)) s

/-- POST: an instance writes IP_MBX_OUT (R558). -/
def execPost (inst : BitVec 9) (value : Word) (s : State) : Host.Outcome State Fault Refusal :=
  run (fun s => s.mbxOutWrite inst.toNat value.toNat) s

/-- QUEUE_ENABLE: an instance writes IP_Q_CFG of a submission or completion queue (R555). -/
def execQueueEnable (inst : BitVec 9) (cls : Fin 3) (completion : Bool) (d : Fin 16) (value : Word) (s : State) : Host.Outcome State Fault Refusal :=
  run (fun s => s.queueCfg inst.toNat cls.val (b2n completion) d.val value.toNat) s

/-- SUBMISSION_TAIL_WRITE: of a compression (1) or cipher (2) queue (R556). -/
def execSubmissionTailWrite (inst : BitVec 9) (cipher : Bool) (d : Fin 16) (value : Word) (s : State) : Host.Outcome State Fault Refusal :=
  run (fun s => s.subTail inst.toNat (1 + b2n cipher) d.val value.toNat) s

/-- CONSUMER_HEAD_WRITE: of a completion queue, or, with no class, of the event queue (R556). -/
def execConsumerHeadWrite (inst : BitVec 9) (cls : Option (Fin 3)) (d : Fin 16) (value : Word) (s : State) : Host.Outcome State Fault Refusal :=
  run (fun s => match cls with | some k => s.cplHead inst.toNat k.val d.val value.toNat | none => s.eqHeadWrite inst.toNat value.toNat) s

/-- Whether a request of an instance waits at class k's arbiter (R559, R560). -/
def State.requestWaits (s : State) (k i : Nat) : Bool :=
  match k with
  | 0 => s.ch.txns.any (fun (t : Txn) => !t.host && t.inst == i && (t.state == 1 || t.state == 2 || (t.state == 3 && t.begun && t.off != 0)))
  | 1 => (s.qPick i 1 0).isSome || s.cz.ctxs.any (fun c => c.inst == i && !c.charged)
  | 2 => (s.qPick i 2 0).isSome || s.cy.ctxs.any (fun c => c.inst == i && !c.charged)
  | 3 => s.ch.txns.any (fun (t : Txn) => !t.host && t.inst == i && t.state == 3 && t.begun && s.chanKind t.chan == 2 &&
      ccOp (t.ccs.getD t.cce 0) == 0x20 && decide (t.sent < ccLen (t.ccs.getD t.cce 0)))
  | 4 => s.sg.queue.any (fun (e : Nat × List Upd) => e.2.any (fun u => match u with | .output n => s.slotOwner n == i | _ => false))
  | _ => false

/-- TOKEN_REFILL, each us (R561); a request that waits on an empty bucket counts its us (R559). -/
def State.tokenRefill (s : State) : State :=
  let s := s.each (Map.keys s.tn.insts) (fun s i => s.each [0, 1, 2, 3, 4] (fun s k =>
    if s.rf TN_BUCKET_RATE (bucketIdx i k) ≠ 0 ∧ s.rf TN_BUCKET_LEVEL (bucketIdx i k) = 0 ∧ s.requestWaits k i = true then s.bump rIP_TEL_WAIT (bucketIdx i k) else s))
  s.refill

def execTokenRefill (s : State) : Host.Outcome State Fault Refusal := run State.tokenRefill s

end Sys2Proof.Machine
end

