-- ==== Sys2Proof/Machine/ExecTwin.lean ====
section
/-! DEFINITION. The rows of twin operation (16). -/

namespace Sys2Proof.Machine

/-- TWIN_PAIR (R663-R667): the command, and the steps that it starts on both modules. -/
def execTwinPair (ev : PairEv) (s : State) : Host.Outcome State Fault Refusal := run (fun s => s.pairEv ev) s

/-- TWIN_SUSPEND (R666): the command, or the partner's notice. -/
def execTwinSuspend (asked : Bool) (s : State) : Host.Outcome State Fault Refusal := run (fun s => s.twinSuspend asked) s

/-- TWIN_RESUME (R666): the command, with whether an Alone module reaches its partner; or the partner's notice. -/
def execTwinResume (asked reach : Bool) (s : State) : Host.Outcome State Fault Refusal := run (fun s => s.twinResume asked reach) s

/-- TWIN_UNPAIR (R666). -/
def execTwinUnpair (asked : Bool) (s : State) : Host.Outcome State Fault Refusal := run (fun s => s.twinUnpair asked) s

/-- TWIN_SWITCH (R684): the command or the partner's request, and again once the barrier is acknowledged. -/
def execTwinSwitch (asked : Bool) (s : State) : Host.Outcome State Fault Refusal := run (fun s => s.twinSwitch asked) s

/-- GOOSE_SEND (R669, R670). -/
def execGooseSend (s : State) : Host.Outcome State Fault Refusal := run (fun s => s.gooseSend) s

/-- GOOSE_RECEIVE (R669, R670). -/
def execGooseReceive (inBand : Bool) (frame : List Byte) (s : State) : Host.Outcome State Fault Refusal :=
  run (fun s => s.gooseReceive inBand (byteNats frame)) s

/-- GOOSE_PATH_DOWN (R670): no valid frame for 105 us. -/
def execGoosePathDown (inBand : Bool) (s : State) : Host.Outcome State Fault Refusal := run (fun s => s.goosePathDown inBand) s

/-- PEER_CLAIM_EDGE (R672-R674). -/
def execPeerClaimEdge (s : State) : Host.Outcome State Fault Refusal := run (fun s => s.peerEdge) s

/-- GATE_OPEN (R672, R685 step 5). -/
def execGateOpen (s : State) : Host.Outcome State Fault Refusal := run (fun s => s.gateOpen) s

/-- CLAIM_RETRY (R673). -/
def execClaimRetry (s : State) : Host.Outcome State Fault Refusal := run (fun s => s.claimRetry) s

/-- EPOCH_BARRIER (R675). -/
def execEpochBarrier (s : State) : Host.Outcome State Fault Refusal := run (fun s => s.epochBarrier) s

/-- EPOCH_STRETCH (R677). -/
def execEpochStretch (s : State) : Host.Outcome State Fault Refusal := run (fun s => s.epochStretch) s

/-- EPOCH_ACKNOWLEDGE (R678): an epoch has arrived, whole or with a failed CRC or length. -/
def execEpochAcknowledge (ep : Epoch) (whole : Bool) (s : State) : Host.Outcome State Fault Refusal := run (fun s => s.epochAck ep whole) s

/-- EPOCH_ACK_RECEIVE (R678). -/
def execEpochAckReceive (number : BitVec 48) (resent : BitVec 8) (s : State) : Host.Outcome State Fault Refusal :=
  run (fun s => (s.linkFrames resent.toNat).epochAcked number.toNat) s

/-- MIRROR_COMMIT (R679, R680). -/
def execMirrorCommit (msg : Mirror) (bad : Fin 4) (s : State) : Host.Outcome State Fault Refusal := run (fun s => s.mirrorCommit msg bad.val) s

/-- DIGEST_COMPARE (R681). -/
def execDigestCompare (port : Fin 32) (cycle : Word) (span : BitVec 16) (delta : Word) (s : State) : Host.Outcome State Fault Refusal :=
  run (fun s => s.digestCompare port.val cycle.toNat span.toNat delta.toNat) s

/-- TAKEOVER (R685). -/
def execTakeover (switched : Bool) (resumeUs : BitVec 16) (s : State) : Host.Outcome State Fault Refusal :=
  runCh (fun s => s.takeover switched resumeUs.toNat) s

/-- YIELD_REQUEST (R684). -/
def execYieldRequest (s : State) : Host.Outcome State Fault Refusal := run (fun s => s.yieldRequest) s

/-- TWIN_LINK_LOSS (R668, R679). -/
def execTwinLinkLoss (s : State) : Host.Outcome State Fault Refusal := run (fun s => s.linkLoss) s

/-- TWIN_LINK_RETURN (R666). -/
def execTwinLinkReturn (lanes : Fin 5) (s : State) : Host.Outcome State Fault Refusal := run (fun s => s.linkReturn lanes.val) s

/-- LANE_DOWN (R668). -/
def execLaneDown (lane : Fin 4) (up : Bool) (s : State) : Host.Outcome State Fault Refusal := run (fun s => s.laneChange lane.val up) s

end Sys2Proof.Machine
end

