-- ==== Sys2Proof/Machine/Dispatch.lean ====
section
/-! DEFINITION. The dispatch: one arm per constructor, one direct call of its meaning. -/

namespace Sys2Proof.Machine

/-- The effect of a command on everything but the queue. -/
def exec (i : Instr) (s : State) : Host.Outcome State Fault Refusal :=
  match i with
  | .bundleExecute core env => Sys2Proof.Machine.execBundleExecute core env s
  | .interruptTake core => Sys2Proof.Machine.execInterruptTake core s
  | .noCommitTimeout core => Sys2Proof.Machine.execNoCommitTimeout core s
  | .portRequestTimeout req => Sys2Proof.Machine.execPortRequestTimeout req s
  | .csubAcknowledgement inst vcore bad => Sys2Proof.Machine.execCsubAcknowledgement inst vcore bad s
  | .wfiWake inst vcore => Sys2Proof.Machine.execWfiWake inst vcore s
  | .sparing tile env => Sys2Proof.Machine.execSparing tile env s
  | .queuedSparingStart tile => Sys2Proof.Machine.execQueuedSparingStart tile s
  | .move core agent => Sys2Proof.Machine.execMove core agent s
  | .plannedMove tile env => Sys2Proof.Machine.execPlannedMove tile env s
  | .extendedSelfTestEnd core pass => Sys2Proof.Machine.execExtendedSelfTestEnd core pass s
  | .spareSelfTest core pass => Sys2Proof.Machine.execSpareSelfTest core pass s
  | .checkpointScrub core err => Sys2Proof.Machine.execCheckpointScrub core err s
  | .ucodeReload reload => Sys2Proof.Machine.execUcodeReload reload s
  | .storeBufferDrain core => Sys2Proof.Machine.execStoreBufferDrain core s
  | .readShared quad reader line side => Sys2Proof.Machine.execReadShared quad reader line side s
  | .readOwn quad writer line side => Sys2Proof.Machine.execReadOwn quad writer line side s
  | .upgrade quad writer dest => Sys2Proof.Machine.execUpgrade quad writer dest s
  | .writerChange quad writer dest => Sys2Proof.Machine.execWriterChange quad writer dest s
  | .writeback quad line => Sys2Proof.Machine.execWriteback quad line s
  | .evictClean quad line => Sys2Proof.Machine.execEvictClean quad line s
  | .readSnoop agent dest => Sys2Proof.Machine.execReadSnoop agent dest s
  | .writeLine agent dest data mask pr => Sys2Proof.Machine.execWriteLine agent dest data mask pr s
  | .fwdShared line => Sys2Proof.Machine.execFwdShared line s
  | .fwdOwn line => Sys2Proof.Machine.execFwdOwn line s
  | .snoop line => Sys2Proof.Machine.execSnoop line s
  | .invalidate quad line => Sys2Proof.Machine.execInvalidate quad line s
  | .recall quad line err => Sys2Proof.Machine.execRecall quad line err s
  | .nack line quad age => Sys2Proof.Machine.execNack line quad age s
  | .nackRetry line quad => Sys2Proof.Machine.execNackRetry line quad s
  | .quadLoss quad ckpt => Sys2Proof.Machine.execQuadLoss quad ckpt s
  | .sliceLoss slice => Sys2Proof.Machine.execSliceLoss slice s
  | .ioTranslation unit agent inst gen tpa write => Sys2Proof.Machine.execIoTranslation unit agent inst gen tpa write s
  | .pcieInboundRequest link rid addr ide special data len far => Sys2Proof.Machine.execPcieInboundRequest link rid addr ide special data len far s
  | .completionTimeout inst vcore => Sys2Proof.Machine.execCompletionTimeout inst vcore s
  | .pcieLinkChange link ev => Sys2Proof.Machine.execPcieLinkChange link ev s
  | .arrayRead line finds => Sys2Proof.Machine.execArrayRead line finds s
  | .arrayWrite writes finds => Sys2Proof.Machine.execArrayWrite writes finds s
  | .channelLost channel cause => Sys2Proof.Machine.execChannelLost channel cause s
  | .isolate channel agent => Sys2Proof.Machine.execIsolate channel agent s
  | .insert channel agent => Sys2Proof.Machine.execInsert channel agent s
  | .fail channel agent => Sys2Proof.Machine.execFail channel agent s
  | .rebuildStripe finds => Sys2Proof.Machine.execRebuildStripe finds s
  | .scrubStripe finds => Sys2Proof.Machine.execScrubStripe finds s
  | .demand => Sys2Proof.Machine.execDemand s
  | .inputSample lane env => Sys2Proof.Machine.execInputSample lane env s
  | .sampleHoldTimeout lane => Sys2Proof.Machine.execSampleHoldTimeout lane s
  | .voidUpdate lane env => Sys2Proof.Machine.execVoidUpdate lane env s
  | .definitionUpdate lane env => Sys2Proof.Machine.execDefinitionUpdate lane env s
  | .outputUpdate lane env => Sys2Proof.Machine.execOutputUpdate lane env s
  | .cycleMarker lane => Sys2Proof.Machine.execCycleMarker lane s
  | .fanOut island err => Sys2Proof.Machine.execFanOut island err s
  | .reprocessSignal => Sys2Proof.Machine.execReprocessSignal s
  | .laneRetirement lane => Sys2Proof.Machine.execLaneRetirement lane s
  | .signalStoreLoss => Sys2Proof.Machine.execSignalStoreLoss s
  | .compressionDescriptorFetch queue pipe => Sys2Proof.Machine.execCompressionDescriptorFetch queue pipe s
  | .compressionChunk pipe fails => Sys2Proof.Machine.execCompressionChunk pipe fails s
  | .compressionPipeRetirement pipe => Sys2Proof.Machine.execCompressionPipeRetirement pipe s
  | .segmentWrite pipe fails => Sys2Proof.Machine.execSegmentWrite pipe fails s
  | .histLingerExpiry lane => Sys2Proof.Machine.execHistLingerExpiry lane s
  | .histSinkDisable => Sys2Proof.Machine.execHistSinkDisable s
  | .cipherDescriptorFetch queue => Sys2Proof.Machine.execCipherDescriptorFetch queue s
  | .cipherChunk primary checker result => Sys2Proof.Machine.execCipherChunk primary checker result s
  | .cipherPipeRetirement pipe => Sys2Proof.Machine.execCipherPipeRetirement pipe s
  | .rotationDrainEnd => Sys2Proof.Machine.execRotationDrainEnd s
  | .rewrapUnit primary checker result => Sys2Proof.Machine.execRewrapUnit primary checker result s
  | .keyEraseComplete slot => Sys2Proof.Machine.execKeyEraseComplete slot s
  | .doorbellWrite inst vcore d value bad => Sys2Proof.Machine.execDoorbellWrite inst vcore d value bad s
  | .chainCheck proc host env => Sys2Proof.Machine.execChainCheck proc host env s
  | .dispatch tid env => Sys2Proof.Machine.execDispatch tid env s
  | .cceOutcome tid far env => Sys2Proof.Machine.execCceOutcome tid far env s
  | .dataChunk tid host far env => Sys2Proof.Machine.execDataChunk tid host far env s
  | .commitRepeat tid env => Sys2Proof.Machine.execCommitRepeat tid env s
  | .completionWrite tid env => Sys2Proof.Machine.execCompletionWrite tid env s
  | .completionRetry inst cls d bad => Sys2Proof.Machine.execCompletionRetry inst cls d bad s
  | .carry bad => Sys2Proof.Machine.execCarry bad s
  | .superblockRewrite => Sys2Proof.Machine.execSuperblockRewrite s
  | .replay finds => Sys2Proof.Machine.execReplay finds s
  | .channelProcessorRetirement proc => Sys2Proof.Machine.execChannelProcessorRetirement proc s
  | .loopChunk tid env => Sys2Proof.Machine.execLoopChunk tid env s
  | .datagramReceive env => Sys2Proof.Machine.execDatagramReceive env s
  | .ackReceive env => Sys2Proof.Machine.execAckReceive env s
  | .rtoExpiry tid env => Sys2Proof.Machine.execRtoExpiry tid env s
  | .cycleStart port seen => Sys2Proof.Machine.execCycleStart port seen s
  | .slotFrameReceive port node sideN viol edge frame => Sys2Proof.Machine.execSlotFrameReceive port node sideN viol edge frame s
  | .slotWindowClose port node => Sys2Proof.Machine.execSlotWindowClose port node s
  | .portInputLoss port sideN => Sys2Proof.Machine.execPortInputLoss port sideN s
  | .heal port inN inP => Sys2Proof.Machine.execHeal port inN inP s
  | .listenerSlotReceive port node sync frame => Sys2Proof.Machine.execListenerSlotReceive port node sync frame s
  | .nodeSyncReceive port node sync outbound roll maker => Sys2Proof.Machine.execNodeSyncReceive port node sync outbound roll maker s
  | .nodeSlotSend port node samples => Sys2Proof.Machine.execNodeSlotSend port node samples s
  | .nodeSyncTimeout port node => Sys2Proof.Machine.execNodeSyncTimeout port node s
  | .nodeInputLoss port node sideN => Sys2Proof.Machine.execNodeInputLoss port node sideN s
  | .outputHoldExpiry port node => Sys2Proof.Machine.execOutputHoldExpiry port node s
  | .prepareHoldExpiry port node source seq => Sys2Proof.Machine.execPrepareHoldExpiry port node source seq s
  | .dispatchSwitch core => Sys2Proof.Machine.execDispatchSwitch core s
  | .sliceExpiry core => Sys2Proof.Machine.execSliceExpiry core s
  | .controlPreempt core => Sys2Proof.Machine.execControlPreempt core s
  | .tokenRefill => Sys2Proof.Machine.execTokenRefill s
  | .freezeComplete inst => Sys2Proof.Machine.execFreezeComplete inst s
  | .freezeTimeout inst => Sys2Proof.Machine.execFreezeTimeout inst s
  | .postIn agent inst len msg => Sys2Proof.Machine.execPostIn agent inst len msg s
  | .ackOut agent inst => Sys2Proof.Machine.execAckOut agent inst s
  | .post inst value => Sys2Proof.Machine.execPost inst value s
  | .queueEnable inst cls completion d value => Sys2Proof.Machine.execQueueEnable inst cls completion d value s
  | .submissionTailWrite inst cipher d value => Sys2Proof.Machine.execSubmissionTailWrite inst cipher d value s
  | .consumerHeadWrite inst cls d value => Sys2Proof.Machine.execConsumerHeadWrite inst cls d value s
  | .hostCqEnable value => Sys2Proof.Machine.execHostCqEnable value s
  | .hostCqHeadWrite agent value => Sys2Proof.Machine.execHostCqHeadWrite agent value s
  | .mpHqSubmit slot => Sys2Proof.Machine.execMpHqSubmit slot s
  | .ipCmdSubmit inst slot => Sys2Proof.Machine.execIpCmdSubmit inst slot s
  | .urgentAdmission => Sys2Proof.Machine.execUrgentAdmission s
  | .commandStart => Sys2Proof.Machine.execCommandStart s
  | .bulkPromotion => Sys2Proof.Machine.execBulkPromotion s
  | .progressReply => Sys2Proof.Machine.execProgressReply s
  | .segmentTimeout => Sys2Proof.Machine.execSegmentTimeout s
  | .loadMeasurement util => Sys2Proof.Machine.execLoadMeasurement util s
  | .sheepdogRestart cause => Sys2Proof.Machine.execSheepdogRestart cause s
  | .watchdogExpiry => Sys2Proof.Machine.execWatchdogExpiry s
  | .nop => Sys2Proof.Machine.execNop s
  | .opStatus => Sys2Proof.Machine.execOpStatus s
  | .opCancel => Sys2Proof.Machine.execOpCancel s
  | .instanceCreate via => Sys2Proof.Machine.execInstanceCreate via s
  | .instanceStart via => Sys2Proof.Machine.execInstanceStart via s
  | .instanceReset via => Sys2Proof.Machine.execInstanceReset via s
  | .instanceFreeze via => Sys2Proof.Machine.execInstanceFreeze via s
  | .instanceSave => Sys2Proof.Machine.execInstanceSave s
  | .instanceRestore image => Sys2Proof.Machine.execInstanceRestore image s
  | .instanceDestroy via => Sys2Proof.Machine.execInstanceDestroy via s
  | .instanceMap via => Sys2Proof.Machine.execInstanceMap via s
  | .instanceUnmap via => Sys2Proof.Machine.execInstanceUnmap via s
  | .instanceQuery via => Sys2Proof.Machine.execInstanceQuery via s
  | .latencySet => Sys2Proof.Machine.execLatencySet s
  | .powerQuery => Sys2Proof.Machine.execPowerQuery s
  | .channelDefine => Sys2Proof.Machine.execChannelDefine s
  | .channelUndefine => Sys2Proof.Machine.execChannelUndefine s
  | .channelQuery => Sys2Proof.Machine.execChannelQuery s
  | .txnQuery => Sys2Proof.Machine.execTxnQuery s
  | .txnCancel => Sys2Proof.Machine.execTxnCancel s
  | .journalReport => Sys2Proof.Machine.execJournalReport s
  | .journalAck bad => Sys2Proof.Machine.execJournalAck bad s
  | .channelSubmit bad => Sys2Proof.Machine.execChannelSubmit bad s
  | .ringCommission table roll => Sys2Proof.Machine.execRingCommission table roll s
  | .signalDefine => Sys2Proof.Machine.execSignalDefine s
  | .signalMap => Sys2Proof.Machine.execSignalMap s
  | .signalUnmap => Sys2Proof.Machine.execSignalUnmap s
  | .signalQuery => Sys2Proof.Machine.execSignalQuery s
  | .subscribe => Sys2Proof.Machine.execSubscribe s
  | .unsubscribe => Sys2Proof.Machine.execUnsubscribe s
  | .historianReprocess => Sys2Proof.Machine.execHistorianReprocess s
  | .tableLoad => Sys2Proof.Machine.execTableLoad s
  | .keyLoad via => Sys2Proof.Machine.execKeyLoad via s
  | .keyRotate via => Sys2Proof.Machine.execKeyRotate via s
  | .keyErase via => Sys2Proof.Machine.execKeyErase via s
  | .leaseTakeCipher via => Sys2Proof.Machine.execLeaseTakeCipher via s
  | .leaseTakeVaultSram via => Sys2Proof.Machine.execLeaseTakeVaultSram via s
  | .leaseRelease via => Sys2Proof.Machine.execLeaseRelease via s
  | .faultQuery => Sys2Proof.Machine.execFaultQuery s
  | .faultClear => Sys2Proof.Machine.execFaultClear s
  | .healthQuery => Sys2Proof.Machine.execHealthQuery s
  | .selfTest progress result => Sys2Proof.Machine.execSelfTest progress result s
  | .unitTestEnd unit pass => Sys2Proof.Machine.execUnitTestEnd unit pass s
  | .counterSnapshot => Sys2Proof.Machine.execCounterSnapshot s
  | .twinPair ev => Sys2Proof.Machine.execTwinPair ev s
  | .twinSuspend asked => Sys2Proof.Machine.execTwinSuspend asked s
  | .twinResume asked reach => Sys2Proof.Machine.execTwinResume asked reach s
  | .twinUnpair asked => Sys2Proof.Machine.execTwinUnpair asked s
  | .twinSwitch asked => Sys2Proof.Machine.execTwinSwitch asked s
  | .fwStage block flashOk => Sys2Proof.Machine.execFwStage block flashOk s
  | .faultReport point bad err => Sys2Proof.Machine.execFaultReport point bad err s
  | .broken point => Sys2Proof.Machine.execBroken point s
  | .pathTest point good answers => Sys2Proof.Machine.execPathTest point good answers s
  | .foldWindowExpiry => Sys2Proof.Machine.execFoldWindowExpiry s
  | .quietPeriodExpiry unit => Sys2Proof.Machine.execQuietPeriodExpiry unit s
  | .recoveryCounterAge unit => Sys2Proof.Machine.execRecoveryCounterAge unit s
  | .selfCheck => Sys2Proof.Machine.execSelfCheck s
  | .fltPairEdge => Sys2Proof.Machine.execFltPairEdge s
  | .gooseSend => Sys2Proof.Machine.execGooseSend s
  | .gooseReceive inBand frame => Sys2Proof.Machine.execGooseReceive inBand frame s
  | .goosePathDown inBand => Sys2Proof.Machine.execGoosePathDown inBand s
  | .peerClaimEdge => Sys2Proof.Machine.execPeerClaimEdge s
  | .gateOpen => Sys2Proof.Machine.execGateOpen s
  | .claimRetry => Sys2Proof.Machine.execClaimRetry s
  | .epochBarrier => Sys2Proof.Machine.execEpochBarrier s
  | .epochStretch => Sys2Proof.Machine.execEpochStretch s
  | .epochAcknowledge ep whole => Sys2Proof.Machine.execEpochAcknowledge ep whole s
  | .epochAckReceive number resent => Sys2Proof.Machine.execEpochAckReceive number resent s
  | .mirrorCommit msg bad => Sys2Proof.Machine.execMirrorCommit msg bad s
  | .digestCompare port cycle span delta => Sys2Proof.Machine.execDigestCompare port cycle span delta s
  | .takeover switched resumeUs => Sys2Proof.Machine.execTakeover switched resumeUs s
  | .yieldRequest => Sys2Proof.Machine.execYieldRequest s
  | .twinLinkLoss => Sys2Proof.Machine.execTwinLinkLoss s
  | .twinLinkReturn lanes => Sys2Proof.Machine.execTwinLinkReturn lanes s
  | .boot env finds => Sys2Proof.Machine.execBoot env finds s
  | .vaultIntegrity err => Sys2Proof.Machine.execVaultIntegrity err s
  | .granuleChange granule secure => Sys2Proof.Machine.execGranuleChange granule secure s
  | .recallDeadline lease => Sys2Proof.Machine.execRecallDeadline lease s
  | .dbgAuthChallenge => Sys2Proof.Machine.execDbgAuthChallenge s
  | .dbgAuthToken token => Sys2Proof.Machine.execDbgAuthToken token s
  | .idleGate core => Sys2Proof.Machine.execIdleGate core s
  | .napEntry core => Sys2Proof.Machine.execNapEntry core s
  | .darkEntry core => Sys2Proof.Machine.execDarkEntry core s
  | .coreWake core => Sys2Proof.Machine.execCoreWake core s
  | .timerWake core => Sys2Proof.Machine.execTimerWake core s
  | .selfRefreshEntry rank => Sys2Proof.Machine.execSelfRefreshEntry rank s
  | .powerEstimate mw temps rails => Sys2Proof.Machine.execPowerEstimate mw temps rails s
  | .throttleStep => Sys2Proof.Machine.execThrottleStep s
  | .ageingSample margins => Sys2Proof.Machine.execAgeingSample margins s
  | .park island => Sys2Proof.Machine.execPark island s
  | .unpark island pass => Sys2Proof.Machine.execUnpark island pass s
  | .handshakeError island unit => Sys2Proof.Machine.execHandshakeError island unit s
  | .islandClockLoss island => Sys2Proof.Machine.execIslandClockLoss island s
  | .tmAdj value refclk => Sys2Proof.Machine.execTmAdj value refclk s
  | .tmSourceWrite source refclk => Sys2Proof.Machine.execTmSourceWrite source refclk s
  | .ppsInEdge falling soon refclk => Sys2Proof.Machine.execPpsInEdge falling soon refclk s
  | .holdover source => Sys2Proof.Machine.execHoldover source s
  | .oscFault => Sys2Proof.Machine.execOscFault s
  | .ppsOut => Sys2Proof.Machine.execPpsOut s
  | .counterWrite agent addr value edge => Sys2Proof.Machine.execCounterWrite agent addr value edge s
  | .snap => Sys2Proof.Machine.execSnap s
  | .pmuSnapEdge => Sys2Proof.Machine.execPmuSnapEdge s
  | .freeze freeze => Sys2Proof.Machine.execFreeze freeze s
  | .bandwidthWindowEnd monitor => Sys2Proof.Machine.execBandwidthWindowEnd monitor s
  | .powerOn straps => Sys2Proof.Machine.execPowerOn straps s
  | .moduleReset straps => Sys2Proof.Machine.execModuleReset straps s
  | .warmDeviceReset => Sys2Proof.Machine.execWarmDeviceReset s
  | .pwrFailN low => Sys2Proof.Machine.execPwrFailN low s
  | .supplyFault rail => Sys2Proof.Machine.execSupplyFault rail s
  | .mpPerstN => Sys2Proof.Machine.execMpPerstN s
  | .ethernetFrameReceive port frame fcsOk => Sys2Proof.Machine.execEthernetFrameReceive port frame fcsOk s
  | .arpRefresh channel => Sys2Proof.Machine.execArpRefresh channel s
  | .ethernetLinkChange port up => Sys2Proof.Machine.execEthernetLinkChange port up s
  | .switch port => Sys2Proof.Machine.execSwitch port s
  | .gateBankChange port => Sys2Proof.Machine.execGateBankChange port s
  | .linkRangeWrite agent link limit value => Sys2Proof.Machine.execLinkRangeWrite agent link limit value s
  | .mpEvtDropRead agent => Sys2Proof.Machine.execMpEvtDropRead agent s
  | .mxLatMaxRead agent => Sys2Proof.Machine.execMxLatMaxRead agent s
  | .depthMaxRead agent lane => Sys2Proof.Machine.execDepthMaxRead agent lane s
  | .edgeMaxRead agent port node => Sys2Proof.Machine.execEdgeMaxRead agent port node s
  | .utilMaxRead agent => Sys2Proof.Machine.execUtilMaxRead agent s
  | .missedRead agent => Sys2Proof.Machine.execMissedRead agent s
  | .bandwidthMaxRead agent monitor => Sys2Proof.Machine.execBandwidthMaxRead agent monitor s
  | .registerWrite target => Sys2Proof.Machine.execRegisterWrite target s
  | .channelTrainingEnd channel found => Sys2Proof.Machine.execChannelTrainingEnd channel found s
  | .nonRepeatableResponse inst vcore far => Sys2Proof.Machine.execNonRepeatableResponse inst vcore far s
  | .powerLoss torn => Sys2Proof.Machine.execPowerLoss torn s
  | .nodeInputRestored port node => Sys2Proof.Machine.execNodeInputRestored port node s
  | .nodePowerUp port node => Sys2Proof.Machine.execNodePowerUp port node s
  | .laneDown lane up => Sys2Proof.Machine.execLaneDown lane up s

end Sys2Proof.Machine
end

