-- ==== Sys2Proof/WellFormed.lean ====
section
/-! DEFINITION. Which commands are well-formed: the bounds on operands that their types do not carry. A meaning acts on every operand; the commands that the
block's surroundings can send are the well-formed ones. -/

namespace Sys2Proof

/-- A line of system memory lies within the device physical address space (01 R23, 05 R176). -/
def lineWf (l : Nat) : Bool := decide (l < 2 ^ 46)

/-- An error names a line that exists. -/
def CacheErr.wf (e : CacheErr) : Bool :=
  match e with
  | .l2Single _ => true
  | .l2Data _ l _ => lineWf l
  | .meshSingle l => lineWf l
  | .meshData l => lineWf l
  | .dirEntry l => lineWf l

/-- So does everything that a home slice meets beside a request (05 R188, R189). -/
def HomeSide.wf (h : HomeSide) : Bool := h.evictMesh.all lineWf && h.evictDir.all lineWf && h.err.all CacheErr.wf

/-- One to eight writes to different lines of one stripe (07 R263). -/
def writesWf (ws : List LineWrite) : Bool :=
  decide (1 ≤ ws.length) && decide (ws.length ≤ 8) &&
  ws.all (fun w => w.line.toNat / 8 == ((ws.head?.map (fun (x : LineWrite) => x.line.toNat)).getD 0) / 8) && decide ((ws.map (fun w => w.line)).Nodup)

/-- A PCIe write carries at most the maximum payload of 512 bytes (19 R802), at least one. -/
def payloadWf (bs : List Byte) : Bool := decide (1 ≤ bs.length) && decide (bs.length ≤ 512)

/-- A PCIe read asks for at most the maximum read request of 4,096 bytes (19 R802), at least one. -/
def readWf (n : Nat) : Bool := decide (1 ≤ n) && decide (n ≤ 4096)

/-- A write to BAR2 or BAR4, at most a slot of 4 KiB at a time (14 R581). -/
def slotWf (bs : List Byte) : Bool := decide (1 ≤ bs.length) && decide (bs.length ≤ 4096)

/-- What a mailbox message or a command carries at most (13 R558). -/
def mailWf (bs : List Byte) : Bool := decide (bs.length ≤ 4096)

/-- A command is well-formed. -/
def Instr.wf (c : Instr) : Bool :=
  match c with
  | .readShared _ _ _ side => side.wf
  | .readOwn _ _ _ side => side.wf
  | .upgrade _ _ dest => dest.side.wf
  | .writerChange _ _ dest => dest.side.wf
  | .readSnoop _ dest => dest.side.wf
  | .writeLine _ dest _ _ _ => dest.side.wf
  | .recall _ _ err => err.all CacheErr.wf
  | .arrayWrite ws _ => writesWf ws
  | .pcieInboundRequest _ _ _ _ _ data len _ => match data with | some bs => payloadWf bs | none => readWf len.val
  | .registerWrite (.bar2 _ bs) => slotWf bs
  | .registerWrite (.bar4 _ bs) => slotWf bs
  | .postIn _ _ _ msg => mailWf msg
  | .nodeSlotSend _ _ samples => decide (samples.length ≤ 256)
  | .gooseReceive _ frame => frame.length == 32
  | .channelTrainingEnd _ found => decide (found.dimms.length ≤ 2)
  | .boot env _ => env.dimms.length == 10 && env.dimms.all (fun l => decide (l.length ≤ 2))
  | .powerEstimate _ temps _ => temps.length == 5
  | .ageingSample margins => margins.length == 167
  | _ => true

end Sys2Proof
end

