-- ==== Sys2Proof/Safety.lean ====
section
/-! DEFINITION. What counts as a safe state and a safe run, in the terms that claims use. -/

namespace Sys2Proof.Machine

/-- Nothing that a command raised is left undelivered (01 R36). -/
def State.settled (s : State) : Prop := s.raised = []

/-- The stores of bytes and the sparse maps that hold the machine's memories and registers are in their canonical form. -/
def State.canon (s : State) : Bool :=
  Map.rising s.regs && Bytes.wf s.ma.cells && Bytes.wf s.sg.store && Bytes.wf s.mp.bar2 && Map.rising s.coh.l2 && Map.rising s.coh.mesh &&
  Map.rising s.coh.dir && Map.rising s.tn.insts && Map.rising s.kc.vc && Map.rising s.kc.cores

/-- The commands that wait are well-formed. -/
def State.queueWf (s : State) : Bool := s.pending.all Instr.wf

/-- A run of k steps is safe: it meets neither a fault nor a refusal. -/
def safeRun (k : Nat) (s : State) : Prop := ∃ t, core.run k s = .next t

/-- One agent's traffic alone: a state that differs from another only in what the module has driven out, in the waiting commands and in free values taken. -/
def State.sameInside (s t : State) : Prop := { s with outs := [], pending := [], freeCtr := 0 } = { t with outs := [], pending := [], freeCtr := 0 }

/-- The command c in state s answers a next state, that of effect u: what u raises is delivered (01 R36) and the waiting commands are those of s. -/
def Does (c : Instr) (s u : State) : Prop := exec c s = .next (u.settle s.pending)

/-- The oldest started command of an opcode is c, and it sets no parameter bit that its row does not name (14 R593, R602). -/
def State.starts (s : State) (op : Nat) (c : Cmd) : Prop :=
  s.startedCmd op = some c ∧ ∃ o, opInfo op = some o ∧ paramsNamed o c.ps = true

/-- The row of an opcode acts on command c in state t: the oldest started packet that passes a test, or the Vault firmware's own command (17 R708). -/
def State.startsVia (s : State) (v : Via) (op : Nat) (p : Cmd → Bool) (t : State) (c : Cmd) : Prop :=
  (∃ o, opInfo op = some o ∧ paramsNamed o c.ps = true) ∧
  match v with
  | .packet => t = s ∧ s.startedCmd op p = some c
  | .vault i ps pay => s.vaultCmd op i.toNat (ps.map (·.toNat)) (pay.map (·.toNat)) = (t, c)

/-- t agrees with s in the caches, the directory, the memory array and the states of its channels. -/
structure State.sameStores (s t : State) : Prop where
  coh : t.coh = s.coh
  ma : t.ma = s.ma
  chan : ∀ m, m < 10 → t.reg rMA_CH_STAT m = s.reg rMA_CH_STAT m
  rebuild : t.reg rMA_REBUILD 0 = s.reg rMA_REBUILD 0
  array : t.reg rMA_STAT 0 = s.reg rMA_STAT 0

end Sys2Proof.Machine
end

