-- ==== Sys2Proof/Certificates/Slice0/Obligations.lean ====
section
/-! DEFINITION. The statements for the provers: what the commands of each family do, by the rules of the spec. `Does c s u` says that exec of c at s answers a next state,
that of effect u (Safety.lean); a clause that rests on a choice of the model names its log entry. -/

open Sys2Proof Sys2Proof.Machine

/-- A step takes the command at the front of the queue and runs it with the queue's rest. -/
def Obligations.FrontCommandRuns : Prop :=
  ∀ (c : Instr) (s : State), step { s with pending := c :: s.pending } = exec c s

/-- An idle block (the model's choice, log 1): with no command waiting, one ns of device time passes in a powered module (18 R754), at the nominal rate with TM_RATE 0 and no correction
under way, and nothing in one that is not; every store, engine and instance stays as it is. -/
def Obligations.IdleModuleLetsTimePass : Prop :=
  ∀ (s : State), s.pending = [] →
    (s.powered = false → step s = .next s) ∧
    (s.powered = true → ∃ t : State, step s = .next t ∧ t = { s with regs := t.regs, pw := t.pw } ∧
      (s.rf TM_RATE_RATE = 0 → s.pw.slew = 0 → -256000000000 < s.pw.frac → s.pw.frac < 256000000000 → t.now = (s.now + 1) % 2 ^ 64 ∧ t.pw = s.pw) ∧
      (s.rb PM_CTL_FROZEN = true → t.reg rPM_CYCLE 0 = s.reg rPM_CYCLE 0))

/-- Every command ends in a next state, with the waiting commands as they were: no command faults or is refused.
A module without power acts on nothing but its supply (19 R789; the model's choice for the other commands, log 5). -/
def Obligations.EveryCommandAnswersAndNoneActsUnpowered : Prop :=
  (
    ∀ (c : Instr) (s : State), ∃ t : State, exec c s = .next t ∧ t.pending = s.pending) ∧
  (
    ∀ (c : Instr) (s : State), s.powered = false → (∀ x, c ≠ .powerOn x) → exec c s = .next s)

/-- The commands are taken first in, first out: k steps leave all but the first k of those that wait. -/
def Obligations.QueueDrainsInOrder : Prop :=
  ∀ (s : State) (k : Nat), ∃ t : State, core.run k s = .next t ∧ t.pending = s.pending.drop k

/-- What a command raises is delivered before the next begins (01 R36): in a state where nothing raised is left, every step leaves nothing. -/
def Obligations.EveryStepStaysSettled : Prop :=
  ∀ (s t : State), s.settled → step s = .next t → t.settled

/-- The state after reset: nothing waits and nothing is raised, the stores are in their canonical form, the boot has not ended, no instance, lease or transaction exists, and nothing
has been driven out (00 R14, 17 R729, 13 R545, 16 R665). That the module has power then, and that its stores list nothing, is the model's choice (logs 2 and 7). -/
def Obligations.ResetIsSettledAndEmpty : Prop :=
  State.reset.pending = [] ∧ State.reset.settled ∧ State.reset.canon = true ∧ State.reset.powered = true ∧ State.reset.rf VT_BOOT_STATE = 0 ∧ State.reset.rf TW_STAT_STATE = 0 ∧
  State.reset.rf MP_HQ_FREE_FREE = 2 ^ 64 - 1 ∧ State.reset.rf MP_CMD_CFG_PROG_MS = 100 ∧ State.reset.rf MP_CMD_CFG_WDOG_MS = 20 ∧ State.reset.tn.insts = [] ∧ State.reset.leases = [] ∧ State.reset.ch.txns = [] ∧ State.reset.outs = []

/-- The delivery of events (01 R36-R38): an event whose vector is enabled goes out as its MSI-X vector (that the table entry gives address and data is PCIe's, log 6), one with neither route is counted, and no delivery touches the engines, the channels,
the rings, the twin, the Vault or the leases. -/
def Obligations.EventsFollowTheirRoutes : Prop :=
  (∀ (s : State) (q : List Instr), let t := s.settle q
    t.pending = q ∧ t.raised = [] ∧ t.cz = s.cz ∧ t.cy = s.cy ∧ t.ch = s.ch ∧ t.fr = s.fr ∧ t.tw = s.tw ∧ t.vt = s.vt ∧ t.leases = s.leases ∧ t.powered = s.powered) ∧
  (∀ (s : State) (n : Nat), s.rb MP_EVT_ROUTE_EQ_EN n = false →
    (s.rb MP_EVT_ROUTE_VEC_EN n = true → s.deliverOne n = s.msixSend (s.rf MP_EVT_ROUTE_VECTOR n)) ∧
    (s.rb MP_EVT_ROUTE_VEC_EN n = false → s.deliverOne n = s.incSat MP_EVT_DROP_COUNT)) ∧
  (∀ (s : State) (q : List Instr) (n : Nat), s.raised = [n] → s.rb MP_EVT_ROUTE_EQ_EN n = false → s.rb MP_EVT_ROUTE_VEC_EN n = true →
    let v := s.rf MP_EVT_ROUTE_VECTOR n
    let e := s.msixEntry v
    s.mp.busMaster = true → s.mp.msixEn = true → s.mp.msixMask = false → bit e 96 = false →
    s.settle q = { s with outs := s.outs ++ [.msix v (bits e 63 0) (bits e 95 64)], raised := [], pending := q }) ∧
  (∀ (s : State) (q : List Instr), s.raised = [] → s.settle q = { s with pending := q })

/-- Exception entry (02 R74): the core saves the return address, the cause and the address, keeps PL and IE in PPL and PIE, enters K with interrupts off and goes on
at KC_VBASE + 0x40 × code, from whatever level; no general, vector, predicate or special register changes. ERET does the reverse and goes on at KC_EPC. -/
def Obligations.ExceptionEntrySavesAndVectors : Prop :=
  (∀ (k : VCore) (epc code slot eaddr : Nat) (async : Bool), epc < 2 ^ 64 → eaddr < 2 ^ 64 → 1 ≤ code → code ≤ 0x12 → slot < 8 →
    let t := k.takeExc epc code slot eaddr async
    t.getCr 1 = epc ∧ t.getCr 2 = b2n async <<< 11 ||| slot <<< 8 ||| code ∧ t.getCr 3 = eaddr ∧
    bits (t.getCr 0) 5 4 = bits (k.getCr 0) 1 0 ∧ bits (t.getCr 0) 3 3 = bits (k.getCr 0) 2 2 ∧ bits (t.getCr 0) 1 0 = 1 ∧ bits (t.getCr 0) 2 2 = 0 ∧
    bits (t.getCr 0) 63 6 = bits (k.getCr 0) 63 6 ∧ (∀ n, 3 < n → t.getCr n = k.getCr n) ∧
    t.pc.toNat = (k.getCr 4 + 0x40 * code) % 2 ^ 64 ∧ t.g = k.g ∧ t.v = k.v ∧ t.p = k.p ∧ t.sr = k.sr) ∧
  (∀ (r : Run) (h : Hart) (slot : Nat), ∃ t, r.exec h slot .eret = .ok t ∧ t.ret = some (h.img.getCr 1) ∧
    (∃ st, t.writes = r.writes ++ [(.cr 0, .val st)] ∧ bits st 1 0 = bits (h.img.getCr 0) 5 4 ∧ bits st 2 2 = bits (h.img.getCr 0) 3 3))

/-- A bundle runs (02 R50, R52, R76, 03 R99, 04 R132, R133, R136, R146): in a core that may run one and meets no interrupt, after what the environment brings (cycles, corrected
errors), a third failed attempt check-stops the core; otherwise the bundle raises the first exception of its fetch, its encoding or its syllables, which changes its
virtual core by that exception's entry, or it commits with its results and the next bundle's address, or waits for the responses that it needs. `retry` counts a retry that succeeded.
A core whose bundle waits goes on with it. -/
def Obligations.BundlesCommitOrStop : Prop :=
  (∀ (s : State) (core : Fin 64) (e : BundleEnv) (h : Hart) (w : Wait), s.powered = true → s.waiting core.val e.bad.val = some (h, w) →
    (bundleStops e = true → Does (.bundleExecute core e) s ((s.bundleMeets h e).checkStop core.val)) ∧
    (bundleStops e = false → e.fails = 0 → Does (.bundleExecute core e) s ((s.bundleMeets h e).advance h w))) ∧
  ∀ (s : State) (core : Fin 64) (e : BundleEnv) (h h' : Hart), s.powered = true → s.waiting core.val e.bad.val = none → s.hart core.val e.bad.val = some h → h.irqDue = none →
    (s.takeIrq h).hart core.val e.bad.val = some h' →
    let x := ((s.takeIrq h).bundleMeets h' e).loadS2 core.val h'.inst
    let retry := fun (u : State) => u.when (e.fails.val != 0) (fun u => u.countRetry core.val)
    (bundleStops e = true → e.late = false → Does (.bundleExecute core e) s (x.checkStop core.val)) ∧
    (bundleStops e = false → h'.pc % 4 ≠ 0 → Does (.bundleExecute core e) s (retry (x.setVc h'.key (fun k => k.takeExc h'.pc 4 0 h'.pc false)))) ∧
    (bundleStops e = false → h'.pc % 4 = 0 →
      (∀ err, x.fetch h' 8 h'.pc [] [] = .error err → Does (.bundleExecute core e) s (retry (x.stopped h' err))) ∧
      (∀ ws ts, x.fetch h' 8 h'.pc [] [] = .ok (ws, ts) →
        let g := { h' with next := (h'.pc + 4 * ws.length) % 2 ^ 64 }
        (∀ code i, g.encodingFault ws = some (code, i) →
          Does (.bundleExecute core e) s (retry (x.setVc h'.key (fun k => k.takeExc h'.pc code i (h'.pc + 4 * i) false)))) ∧
        (g.encodingFault ws = none → (x.core g.core).ucodeBad = false →
          let z : Run := ⟨(x.each ts (fun s p => s.useTrans g p.2)).fetchFill g ws.length ts, [], [], [], none, none, false, false, none, none, none⟩
          ∀ r err, Run.go g ws (List.range ws.length) z = (r, err) →
            (∀ stop, State.poisonCheck g r = some stop → Does (.bundleExecute core e) s (retry (x.stopped g stop))) ∧
            (State.poisonCheck g r = none →
            (∀ code slot ea, err = some (.exc code slot ea none none) →
              Does (.bundleExecute core e) s (retry (x.setVc h'.key (fun k => k.takeExc h'.pc code slot ea false)))) ∧
            (∀ slot imm, err = none → r.brk = some (slot, imm) →
              Does (.bundleExecute core e) s (retry (x.setVc h'.key (fun k => k.takeExc h'.pc 0xE slot imm false)))) ∧
            (∀ slot svc, err = none → r.brk = none → r.fcall = some (slot, svc) → Does (.bundleExecute core e) s (retry (x.fcall g slot svc))) ∧
            (err = none → r.brk = none → r.fcall = none →
              let y := (r.s.each r.uses (fun s t => s.useTrans g t)).issue g 0 false [] (r.plan.map (fun p => .todo p.2.2))
              let resp := autoResp y.2.1 []
              let next := r.jump.getD (r.ret.getD (if r.again then h'.pc else g.next))
              ∃ u, Does (.bundleExecute core e) s (retry u) ∧ (∀ key, key ≠ h'.key → u.vc key = y.1.vc key) ∧
                (y.2.1.length ≤ resp.length → r.sysc = none → u.vc h'.key = { r.writes.foldl (fun (k : VCore) w => k.put w.1 (w.2.eval resp)) (y.1.vc h'.key) with
                  pc := BitVec.ofNat 64 next, wfi := r.wfi, wait := none }) ∧
                (resp.length < y.2.1.length → u.vc h'.key = { y.1.vc h'.key with wait := some ⟨y.2.1, resp, r.writes, next, r.wfi, r.sysc⟩ }))))))

/-- The other commands of a virtual core (02 R75, 03 R100, R115, R125, 04 R136): an interrupt that is due is taken, a WFI wait ends, and a bundle that waits takes the
response to its oldest access that has none; a PCIe read that times out reads as all ones. -/
def Obligations.VirtualCoresAreAnswered : Prop :=
  ∀ (s : State), s.powered = true →
    (∀ (core : Fin 64) (h : Hart) (b : Nat), s.hart core.val 0 = some h → h.irqDue = some b →
      Does (.interruptTake core) s (s.setVc h.key (fun k => { k.takeExc h.pc (0x10 + b) 0 0 true with wfi := false }))) ∧
    (∀ (i : BitVec 9) (v : Fin 64), (s.vc (vkey i.toNat v.val)).wfi = true → s.irqReady (vkey i.toNat v.val) = true →
      Does (.wfiWake i v) s (s.setVc (vkey i.toNat v.val) (fun k => { k with wfi := false }))) ∧
    (∀ (i : BitVec 9) (v : Fin 64) (far : FarEnd) (w : Wait) (x : Nat), (s.vc (vkey i.toNat v.val)).wait = some w → w.accs[w.resp.length]? = some (.done x) →
      s.hartOf i.toNat v.val 0 = none →
      let resp := w.resp ++ x :: autoResp (w.accs.drop (w.resp.length + 1)) []
      (resp.length < w.accs.length →
        Does (.nonRepeatableResponse i v far) s (s.setVc (vkey i.toNat v.val) (fun k => { k with wait := some { w with resp := resp } }))) ∧
      (w.accs.length ≤ resp.length → w.sysc = none → Does (.nonRepeatableResponse i v far) s (s.setVc (vkey i.toNat v.val) (fun k =>
        { w.writes.foldl (fun (k : VCore) (d : Dst × WVal) => k.put d.1 (d.2.eval resp)) k with
          pc := BitVec.ofNat 64 w.next, wfi := w.wfi, wait := none })))) ∧
    (∀ (i : BitVec 9) (v : Fin 64) (far : FarEnd) (h : Hart) (w : Wait) (x : Nat), (s.vc (vkey i.toNat v.val)).wait = some w → w.accs[w.resp.length]? = some (.done x) →
      s.hartOf i.toNat v.val 0 = some h → Does (.nonRepeatableResponse i v far) s (s.advance h { w with resp := w.resp ++ [x] })) ∧
    (∀ (i : BitVec 9) (v : Fin 64) (far : FarEnd) (h : Hart) (w : Wait) (tag o rs rt : Nat) (p : Span), (s.vc (vkey i.toNat v.val)).wait = some w →
      w.accs[w.resp.length]? = some (.amo tag p o rs rt) → s.hartOf i.toNat v.val 0 = some h →
      let y := s.portAmo h tag p o rs rt
      Does (.nonRepeatableResponse i v far) s (y.1.answer i.toNat v.val 0 w y.2)) ∧
    (∀ (i : BitVec 9) (v : Fin 64) (w : Wait) (l bus n : Nat), (s.vc (vkey i.toNat v.val)).wait = some w → w.accs[w.resp.length]? = some (.pcie l bus n) →
      Does (.completionTimeout i v) s ((s.farResult l bus n .timeout).1.answer i.toNat v.val 0 w (256 ^ n - 1))) ∧
    (∀ (i : BitVec 9) (v : Fin 64) (bad : Fin 4) (w : Wait) (tpa sel : Nat), (s.vc (vkey i.toNat v.val)).wait = some w →
      w.accs[w.resp.length]? = some (.csub tpa sel) →
      let y := s.csubmit i.toNat tpa sel bad.val
      Does (.csubAcknowledgement i v bad) s ((y.1.answer i.toNat v.val bad.val w y.2).chSync))

/-- The multiply and divide operations (03 R90), on 64-bit operands; the divisor of a division is not zero. The first clause says that their syllables write these values. -/
def Obligations.MultiplyAndDivideAreExact : Prop :=
  (∀ (r : Run) (h : Hart) (slot rd ra : Nat) (o : Alu) (b : Opnd), o ∈ [Alu.mul, .mulh, .mulhu, .mulhsu, .mulw, .div, .divu, .rem, .remu, .divw, .divuw] →
    o.divZero (h.opnd b) = false → r.exec h slot (.alu o rd ra b) = .ok (r.val (.g rd) (Alu.run o (h.g ra) (h.opnd b) (h.g rd)))) ∧
  ∀ (a b : Word) (d : Nat),
    let x := a.toNat
    let y := b.toNat
    Alu.run .mul x y d = (a * b).toNat ∧
    Alu.run .mulh x y d = ((a.signExtend 128 * b.signExtend 128).extractLsb' 64 64).toNat ∧
    Alu.run .mulhu x y d = ((a.zeroExtend 128 * b.zeroExtend 128).extractLsb' 64 64).toNat ∧
    Alu.run .mulhsu x y d = ((a.signExtend 128 * b.zeroExtend 128).extractLsb' 64 64).toNat ∧
    Alu.run .mulw x y d = ((a.truncate 32 * b.truncate 32).signExtend 64).toNat ∧
    (b ≠ 0 → Alu.run .div x y d = (a.sdiv b).toNat ∧ Alu.run .divu x y d = (a / b).toNat ∧
      Alu.run .rem x y d = (a.srem b).toNat ∧ Alu.run .remu x y d = (a % b).toNat) ∧
    (b.truncate 32 ≠ (0 : BitVec 32) → Alu.run .divw x y d = (((a.truncate 32 : BitVec 32).sdiv (b.truncate 32)).signExtend 64).toNat ∧
      Alu.run .divuw x y d = (((a.truncate 32 : BitVec 32) / b.truncate 32).signExtend 64).toNat)

/-- A divisor of zero raises DIV_ZERO where the predicate reads 1, and nothing where it reads 0; the signed overflow cases complete (03 R91). -/
def Obligations.DivisionByZeroRaises : Prop :=
  (∀ (r : Run) (h : Hart) (slot rd ra : Nat) (o : Alu) (b : Opnd), (o = .div ∨ o = .divu ∨ o = .rem ∨ o = .remu) ∧ h.opnd b = 0 ∨
      (o = .divw ∨ o = .divuw) ∧ h.opnd b % 2 ^ 32 = 0 → r.exec h slot (.alu o rd ra b) = .error (.exc 0xC slot 0 none none)) ∧
  (∀ (r : Run) (h : Hart) (ws is : List Nat) (i : Nat), h.img.getP (sylPred (ws.getD i 0)) = false → Run.go h ws (i :: is) r = Run.go h ws is r) ∧
  (∀ (r : Run) (h : Hart) (slot rd ra : Nat) (b : Opnd), h.g ra = 2 ^ 63 → h.opnd b = 2 ^ 64 - 1 →
    r.exec h slot (.alu .div rd ra b) = .ok (r.val (.g rd) (2 ^ 63)) ∧ r.exec h slot (.alu .rem rd ra b) = .ok (r.val (.g rd) 0)) ∧
  (∀ (r : Run) (h : Hart) (slot rd ra : Nat) (b : Opnd), h.g ra % 2 ^ 32 = 2 ^ 31 → h.opnd b % 2 ^ 32 = 2 ^ 32 - 1 →
    r.exec h slot (.alu .divw rd ra b) = .ok (r.val (.g rd) (2 ^ 64 - 2 ^ 31)))

/-- The effects of the CLASS 0x0 and CLASS 0x2 operations (03 R88) on 64-bit operands. -/
def Obligations.IntegerOperationsComputeTheirResults : Prop :=
  ∀ (a b : Word) (d : Nat),
    let f := fun (o : Alu) => Alu.run o a.toNat b.toNat d
    let w := fun (x : BitVec 32) => (x.signExtend 64).toNat
    let la := a.truncate 32
    let lb := b.truncate 32
    let k := b.toNat % 64
    let j := b.toNat % 32
    f .add = (a + b).toNat ∧ f .sub = (a - b).toNat ∧ f .and = (a &&& b).toNat ∧ f .or = (a ||| b).toNat ∧ f .xor = (a ^^^ b).toNat ∧
    f .andn = (a &&& ~~~b).toNat ∧ f .orn = (a ||| ~~~b).toNat ∧ f .xnor = (~~~(a ^^^ b)).toNat ∧
    f .sll = (a <<< k).toNat ∧ f .srl = (a >>> k).toNat ∧ f .sra = (a.sshiftRight k).toNat ∧ f .ror = (a.rotateRight k).toNat ∧
    f .addw = w (la + lb) ∧ f .subw = w (la - lb) ∧ f .sllw = w (la <<< j) ∧ f .srlw = w (la >>> j) ∧ f .sraw = w (la.sshiftRight j) ∧
    f .min = (if a.toInt ≤ b.toInt then a else b).toNat ∧ f .max = (if b.toInt ≤ a.toInt then a else b).toNat ∧
    f .minu = min a.toNat b.toNat ∧ f .maxu = max a.toNat b.toNat ∧
    f .sextb = ((a.truncate 8).signExtend 64).toNat ∧ f .sexth = ((a.truncate 16).signExtend 64).toNat ∧ f .sextw = w la ∧ f .zextw = la.toNat ∧
    f .sh1add = ((a <<< 1) + b).toNat ∧ f .sh2add = ((a <<< 2) + b).toNat ∧ f .sh3add = ((a <<< 3) + b).toNat ∧ f .ldi = b.toNat

/-- Integer, compare, vector and register-to-register syllables touch registers alone (02 R52, 03 R88-R94, R117-R122): a bundle of them leaves memory and every other
part of the module as it was and makes no access that waits. A bundle of one integer operation completes: its register takes the result where the predicate reads 1, and the
virtual core goes on behind it. -/
def Obligations.ComputingBundlesTouchNoMemory : Prop :=
  (∀ (s : State) (core : Fin 64) (h h' : Hart) (w : Nat) (ts : List (Nat × Trans)) (o : Alu) (rd ra : Nat) (b : Opnd),
    let e : BundleEnv := ⟨0, 0, 0, 0, [], .clean, 0, false⟩
    s.powered = true → s.waiting core.val 0 = none → s.hart core.val 0 = some h → h.irqDue = none → (s.takeIrq h).hart core.val 0 = some h' → h'.pc % 4 = 0 →
    let x := ((s.takeIrq h).bundleMeets h' e).loadS2 core.val h'.inst
    x.fetch h' 8 h'.pc [] [] = .ok ([w], ts) →
    let g := { h' with next := (h'.pc + 4) % 2 ^ 64 }
    g.encodingFault [w] = none → (x.core g.core).ucodeBad = false → decAt [w] 0 = some (.alu o rd ra b, true) → o.divZero (g.opnd b) = false →
    let k := ((x.each ts (fun (s : State) p => s.useTrans g p.2)).fetchFill g 1 ts).vc h'.key
    ∃ u : State, Does (.bundleExecute core e) s u ∧
      u.vc h'.key = { (if g.img.getP (sylPred w) then k.put (.g rd) (o.run (g.g ra) (g.opnd b) (g.g rd)) else k) with pc := BitVec.ofNat 64 g.next, wfi := false, wait := none }) ∧
  ∀ (h : Hart) (ws is : List Nat) (r t : Run),
    (∀ i ∈ is, ∀ o ok, decAt ws i = some (o, ok) → ∃ rd ra b, (∃ a, o = .alu a rd ra b) ∨ (∃ m c, o = .cmp m c rd ra b) ∨ (∃ v vb sel, o = .vec v rd ra vb sel) ∨
      o = .mfsr rd ra ∨ o = .mtsr rd ra ∨ o = .mfp rd ∨ o = .mtp ra ∨ o = .rdcyc rd ∨ o = .rdtime rd ∨ o = .long) →
    Run.go h ws is r = (t, none) → t.s = r.s ∧ t.plan = r.plan ∧ t.uses = r.uses ∧ t.jump = r.jump ∧ t.ret = r.ret ∧ t.wfi = r.wfi ∧ t.brk = r.brk ∧ t.sysc = r.sysc ∧
      ∃ ws', t.writes = r.writes ++ ws' ∧ ∀ x ∈ ws', ∀ n, x.1 ≠ .cr n

/-- A core that a check stops, and what its tile's controller then does (04 R146-R148, R153, R156, R157): an Active core below its recovery limit is reported, becomes
Source and asks for a sparing; the controller takes the request when idle; it moves the whole dispatch table to the spare of R147, which becomes Active, and the
source begins its extended self-test. The images of the virtual cores are not touched. -/
def Obligations.CheckedCoresAreSpared : Prop :=
  ∀ (s : State) (core : Fin 64) (tile : Fin 4), s.powered = true →
    let c := core.val
    let t := tile.val
    let stopped := ((((s.setUnit (org 1 c) (fun u => { u with st := 1 })).raise (2 * c)).report { org := org 1 c, cause := 0x0104, cls := ochre, react := 4 })).askSparing c
    (s.rf KC_PCS_ROLE c = 0 → s.recoveries (org 1 c) < s.rf FC_CFG_RECOV_LIMIT →
      (∀ (store : Bool), store = false ∨ s.headHeld c = false → Does (.portRequestTimeout ⟨core, store⟩) s stopped) ∧
      (∀ i v, s.curVc c = some (i, v) → s.rf KC_PCS_POWER c = 0 → s.vcRuns i v = true → (s.vc (vkey i v)).wfi = false →
        (s.vc (vkey i v)).wait.isNone = true → (s.core c).stalled = false → Does (.noCommitTimeout core) s stopped)) ∧
    (s.headHeld c = true → Does (.portRequestTimeout ⟨core, true⟩) s s) ∧
    (∀ d, s.rf KC_SPARE_STAT_BUSY t = 0 → (s.spareQ t).find? (fun x => x.2 == 0) = some (d, 0) →
      Does (.queuedSparingStart tile) s ((s.setSpareQ t ((s.spareQ t).filter (fun x => x.1 != d))).startSparing t d 0)) ∧
    (∀ (d : Nat) (elapsed : BitVec 32), s.rf KC_SPARE_STAT_BUSY t = 1 → s.pickSpare (s.rf KC_SPARE_STAT_SRC t) = some d →
      let src := s.rf KC_SPARE_STAT_SRC t
      Does (.sparing tile ⟨[], false, elapsed⟩) s
        ((((((s.sf KC_SPARE_STAT_DST d t).setCoreRole d 4).moveCore src d).unitReset src).setCoreRole d 0).endSparing t elapsed.toNat)) ∧
    (∀ (src d : Nat) (elapsed : BitVec 32), s.rf KC_SPARE_STAT_BUSY t = 0 → s.kc.degr = [] → (s.spareQ t).find? (fun x => x.2 != 0) = some (src, 1) →
      s.pickSpare src = some d → s.between src = true →
      let x := s.setSpareQ t ((s.spareQ t).filter (fun x => x.1 != src))
      x.recoveries (org 1 src) < x.rf FC_CFG_RECOV_LIMIT →
      let y := x.setUnit (org 1 src) (fun u => { u with st := 1 })
      Does (.plannedMove tile ⟨[], false, elapsed⟩) s
        ((((((((((y.setCoreRole src 3).setCore src (fun k => { k with stopAt := y.now })).startSparing t src 1).sf KC_SPARE_STAT_DST d t).setCoreRole d 4).moveCore src d).unitReset
          src).setCoreRole d 0).endSparing t elapsed.toNat)))

/-- Tests and small errors of cores (04 R140, R144, R145, R156, R157, R161, R167, R169): a spare's pass is counted and it stays in the pool, a failure quarantines
it; a quarantined core passes to Quiet or is retired; corrected and double-bit errors of a checkpoint are reported; device firmware asks for a planned move, the
Operator Host's write of the register is refused.
A lost quad is fenced and none of its lines is left in the directory's care; a lost slice's lines have a new home and leave its mesh cache (05 R192-R195). -/
def Obligations.UnitsAreTestedScrubbedAndReclaimed : Prop :=
  (
    ∀ (s : State) (core : Fin 64), s.powered = true →
      let c := core.val
      (s.rf KC_PCS_ROLE c = 1 → Does (.spareSelfTest core true) s (((s.setCoreRole c 2).countPass c true).setCoreRole c 1)) ∧
      (s.rf KC_PCS_ROLE c = 1 →
        let y := (s.setCoreRole c 2).countPass c false
        s.recoveries (org 1 c) < s.rf FC_CFG_RECOV_LIMIT →
        Does (.spareSelfTest core false) s (((y.setUnit (org 1 c) (fun u => { u with st := 1 })).setCoreRole c 5).testFailed (org 1 c) 5)) ∧
      (∀ (pass : Bool), s.rf QD_STAT_STATE (c / 4) ≠ 2 → s.rf KC_PCS_ROLE c = 5 → s.rb IS_ISL_STAT_PARKED c = false → (s.unit (org 1 c)).st ≠ 3 →
        let y := s.countPass c pass
        let t := if pass then (y.setCoreRole c 6).toQuiet (org 1 c) else ((y.testFailed (org 1 c) 6).retireUnit (org 1 c)).setCoreRole c 7
        Does (.extendedSelfTestEnd core pass) s (s.joinIfEnded (s.joinIfEnded t (org 1 c) pass) (org 2 (c / 4)) pass)) ∧
      Does (.checkpointScrub core .clean) s s ∧
      Does (.checkpointScrub core .single) s ((s.bump rKC_CORR_CNT c).report { org := org 1 c, cause := 0x0101, cls := slate, react := 1 }) ∧
      Does (.checkpointScrub core .double) s (s.report { org := org 1 c, cause := 0x0105, cls := ochre, react := 3 }) ∧
      Does (.ucodeReload ⟨core, false⟩) s ((s.setCore c (fun k => { k with ucodeBad := true })).report { org := org 1 c, cause := 0x010A, cls := ochre, react := 3 }) ∧
      Does (.ucodeReload ⟨core, true⟩) s ((s.sf KC_UCODE_RELOAD_CORE (setBit (s.rf KC_UCODE_RELOAD_CORE) c true)).setCore c (fun k =>
        { k with ucode := s.vt.patchRam, ucodeBad := false })) ∧
      Does (.move core .host) s (s.regAccess (agentOrg .host) (rKC_PCS.addr c) 8 true) ∧
      (∀ (a : Agent), a ≠ .host → s.rf KC_PCS_ROLE c = 0 → (s.spareQ (c / 16)).contains (c, 1) = false →
        let y := s.report { org := org 1 c, cause := 0x0109, cls := slate, react := 4 }
        Does (.move core a) s (y.setSpareQ (c / 16) (s.spareQ (c / 16) ++ [(c, 1)])))) ∧
  (
    ∀ (s : State), s.powered = true →
      (∀ (q : Fin 16), s.rf QD_STAT_STATE q.val = 0 → s.recoveries (org 2 q.val) < s.rf FC_CFG_RECOV_LIMIT →
        Does (.quadLoss q true) s
          ((((((s.setUnit (org 2 q.val) (fun u => { u with st := 1 })).setQuad q.val 1).fenceQuad q.val).report
            { org := org 2 q.val, cause := 0x0204, cls := ochre, react := 5 })).reclaimStart 0 q.val)) ∧
      (∀ (q : Fin 16), s.rf QD_STAT_STATE q.val = 1 →
        let x := s.reclaimQuad q.val
        (∀ e ∈ x.coh.l2, e.1 / 2 ^ 46 ≠ q.val) ∧
        (let w := x.lostWriters q.val
         let y := w.foldl (fun (z : State) k => z.report { org := org 2 q.val, cause := 0x0203, cls := russet, subj := z.charge k }) x
         Does (.quadLoss q true) s
          ((([4 * q.val, 4 * q.val + 1, 4 * q.val + 2, 4 * q.val + 3].foldl (fun (z : State) c => z.coreOfLost c (y.rb QD_STAT_CKPT_OK q.val) w) y).setQuad q.val 2).reclaimEnd q.val))) ∧
      (∀ (a : Fin 64), s.rf MX_SLICE_STAT_STATE a.val = 0 → ∃ u, Does (.sliceLoss a) s u ∧ bit u.coh.deadSlices a.val = true ∧
        u.coh.mesh = s.coh.mesh.filter (fun e => !(s.homeNow e.1 == a.val)) ∧ u.coh.l2 = s.coh.l2 ∧ u.coh.dir = s.coh.dir ∧ u.rf MX_SLICE_STAT_STATE a.val = 1) ∧
      (∀ (a : Fin 64), s.rf MX_SLICE_STAT_STATE a.val = 1 → s.rf MX_SLICE_STAT_STATE (a.val ^^^ 1) = 0 →
        let x := ((List.range 64).filter (fun k => s.rf MX_SLICE_STAT_HOME k == a.val)).foldl (fun (z : State) k => z.sf MX_SLICE_STAT_HOME (a.val ^^^ 1) k) s
        let y := (x.sf MX_SLICE_STAT_STATE 2 a.val).raise (0x0A0 + a.val)
        Does (.sliceLoss a) s
          (((y.lostWriters (16 + a.val)).foldl (fun (z : State) k => z.report { org := org 3 a.val, cause := 0x0304, cls := russet, subj := z.charge k }) y).reclaimEnd
            (16 + a.val))))

/-- The oldest store leaves the store buffer and becomes visible in its quad's L2 in M (05 R198), or at the home slice where the quad is lost or the store
was made at level F (05 R184, R193); the dispatch table is served in rotation, and a Control entry may
preempt (13 R551, R552). -/
def Obligations.StoresDrainAndEntriesRotate : Prop :=
  ∀ (s : State) (core : Fin 64), s.powered = true →
    let c := core.val
    (∀ (e : SbEnt) (r : List SbEnt), (s.core c).sb = e :: r → e.sig = false → e.pr = false → bit s.coh.deadQuads (c / 4) = false → e.inst ≠ 512 →
      let y := s.setCore c (fun k => { k with sb := r, portSeq := e.seq })
      let z := y.acquireM (c / 4) e.line e.inst
      Does (.storeBufferDrain core) s ((z.l2Store (c / 4) e.line e.data e.mask).l1Stored c e.line)) ∧
    (∀ (e : SbEnt) (r : List SbEnt), (s.core c).sb = e :: r → e.sig = false → e.pr = false → (bit s.coh.deadQuads (c / 4) = true ∨ e.inst = 512) →
      Does (.storeBufferDrain core) s ((s.setCore c (fun k => { k with sb := r, portSeq := e.seq })).coWrite e.line e.data e.mask e.inst)) ∧
    (∀ (e : SbEnt) (r : List SbEnt), (s.core c).sb = e :: r → e.sig = true →
      Does (.storeBufferDrain core) s ((s.setCore c (fun k => { k with sb := r, portSeq := e.seq })).pendStore (e.line * 64 - 0x400000000000) e.data e.mask)) ∧
    (∀ (e : Nat), s.between c = true → s.runnable c (s.core c).cur = false → (s.core c).back = none → s.nextEntry c = some e →
      Does (.dispatchSwitch core) s (s.rotateTo c e)) ∧
    (∀ (e : Nat), s.between c = true → s.isControl c (s.core c).cur = false → (s.core c).back = none → s.nextEntry c = some e →
      Does (.sliceExpiry core) s (s.rotateTo c e)) ∧
    (∀ (e : Nat), s.between c = true → s.runnable c (s.core c).cur = true → s.isControl c (s.core c).cur = false →
      (List.range 64).find? (fun x => s.isControl c x && s.runnable c x && !(s.core c).used.contains x) = some e →
      Does (.controlPreempt core) s (s.setCore c (fun k => { k with cur := e, back := some (s.core c).cur })))

/-- What the home slice does with a read, by the directory's state of the line (05 R182, R183): a line that no quad holds comes from the home in E with
its reader's instance recorded; one with sharers only comes in F; one that a quad holds in E, M or F is asked of that quad. READ_SNOOP changes no cache. `z` is
the state at which the home acts, when the request has met the counters, the entries of dead quads and the array: without dead quads, and with the array not Exhausted and
nothing found there, it agrees with the state before in every store.
What the home slice does with a request to write (05 R182, R183): the requester gets M once every other copy is gone; the holders are asked to
supply or drop the line first; a WRITE_LINE to a line that no quad holds is written at once; a new writer is recorded at a clean line. -/
def Obligations.HomeServesReadsAndWrites : Prop :=
  (∀ (s : State) (r : CohReq) (fs : List ChanFinding), s.coh.deadQuads = 0 → (s.fromMemory r = false ∨ fs = [] ∧ s.exhausted = false) →
    s.sameStores (s.meets r fs) ∧ (s.meets r fs).recorded = s.recorded) ∧
  ∀ (s : State) (lineNo : LineNo) (side : HomeSide), s.powered = true →
    let line := lineNo.toNat
    let w := (s.noteLat side).homeSide side
    let open_ := fun (x : State) (agent : Nat) (inst : Option Nat) => line < x.usableLines ∧ (x.secGran.contains (line / 32768) && !x.secureAgent agent inst) = false
    (∀ (q : Fin 16) (reader : Option (BitVec 9)),
      let i := writerOf reader
      let who := if i < 512 then some i else none
      let x := w.pmEvent 0x0202 q.val who
      let r : CohReq := ⟨.readShared, line, some q.val, org 2 q.val, i⟩
      let y := (x.srTouch line).takeUp r
      let z := y.meets r side.finds
      let d := z.dirOf line
      let v := z.lineNow line
      bit x.coh.deadQuads q.val = false → open_ x (org 2 q.val) who → (x.srTouch line).mayServe r = true → (z.l2 q.val line).isNone = true ∨ bit d.holders q.val = false →
      (d.owner = none → d.sharers = 0 → Does (.readShared q reader lineNo side) s ((z.fillL2 q.val line ⟨.e, v.1, v.2⟩).setDir line ⟨0, some q.val, false, i⟩)) ∧
      (d.owner = none → d.sharers ≠ 0 → Does (.readShared q reader lineNo side) s
        ((z.fillL2 q.val line ⟨.f, v.1, v.2⟩).setDir line ⟨setBit d.sharers q.val false, some q.val, true, 512⟩)) ∧
      (d.owner = some q.val → Does (.readShared q reader lineNo side) s ((z.dropL2 q.val line).fillL2 q.val line ⟨if d.fwd then .f else .e, v.1, v.2⟩)) ∧
      (∀ o, d.owner = some o → o ≠ q.val → Does (.readShared q reader lineNo side) s (z.setBusy ⟨r, some o, 0, v.1, v.2⟩))) ∧
    (∀ (agent : BitVec 24),
      let r : CohReq := ⟨.readSnoop, line, none, agent.toNat, 512⟩
      let z := ((w.srTouch line).takeUp r).meets r side.finds
      let d := z.dirOf line
      let v := z.lineNow line
      open_ w agent.toNat none → (w.srTouch line).mayServe r = true →
      (d.owner = none ∨ d.fwd = true → Does (.readSnoop agent ⟨lineNo, side⟩) s { z with coh := { z.coh with snooped := (line, v.1, v.2) } }) ∧
      (∀ o, d.owner = some o → d.fwd = false → Does (.readSnoop agent ⟨lineNo, side⟩) s (z.setBusy ⟨r, some o, 0, v.1, v.2⟩))) ∧
    (∀ (q : Fin 16) (writer : Option (BitVec 9)),
      let i := writerOf writer
      let who := if i < 512 then some i else none
      let x := w.pmEvent 0x0202 q.val who
      let r : CohReq := ⟨.readOwn, line, some q.val, org 2 q.val, i⟩
      let z := ((x.srTouch line).takeUp r).meets r side.finds
      let d := z.dirOf line
      let v := z.lineNow line
      let inv := setBit d.holders q.val false
      bit x.coh.deadQuads q.val = false → open_ x (org 2 q.val) who → (x.srTouch line).mayServe r = true →
      (∀ o, d.owner = some o → d.fwd = false → Does (.readOwn q writer lineNo side) s
        (if o = q.val then z.grantM q.val line i v.1 v.2 else z.setBusy ⟨r, some o, 0, v.1, v.2⟩)) ∧
      (d.owner = none ∨ d.fwd = true →
        let k := if bit d.holders q.val then z else z.dropL2 q.val line
        Does (.readOwn q writer lineNo side) s (if inv = 0 then k.grantM q.val line i v.1 v.2 else k.setBusy ⟨r, none, inv, v.1, v.2⟩))) ∧
    (∀ (q : Fin 16) (writer : Option (BitVec 9)),
      let i := writerOf writer
      let who := if i < 512 then some i else none
      let r : CohReq := ⟨.upgrade, line, some q.val, org 2 q.val, i⟩
      let z := ((w.srTouch line).takeUp r).meets r side.finds
      let d := z.dirOf line
      let v := z.lineNow line
      let inv := setBit d.holders q.val false
      bit w.coh.deadQuads q.val = false → open_ w (org 2 q.val) who → (w.srTouch line).mayServe r = true → d.owner = none ∨ d.fwd = true →
      let k := if bit d.holders q.val then z else z.dropL2 q.val line
      Does (.upgrade q writer ⟨lineNo, side⟩) s (if inv = 0 then k.grantM q.val line i v.1 v.2 else k.setBusy ⟨r, none, inv, v.1, v.2⟩)) ∧
    (∀ (q : Fin 16) (writer : Option (BitVec 9)) (l : L2Line),
      let i := writerOf writer
      let who := if i < 512 then some i else none
      let r : CohReq := ⟨.writerChange, line, some q.val, org 2 q.val, i⟩
      let z := ((w.srTouch line).takeUp r).meets r side.finds
      let d := z.dirOf line
      bit w.coh.deadQuads q.val = false → open_ w (org 2 q.val) who → (w.srTouch line).mayServe r = true → z.l2 q.val line = some l → l.st ≠ .m →
      d.owner = some q.val → d.fwd = false →
      Does (.writerChange q writer ⟨lineNo, side⟩) s ((z.setDir line { d with writer := i }).setL2 q.val line { l with st := .e })) ∧
    (∀ (agent : BitVec 24) (data : Line) (mask : BitVec 64) (pr : Bool),
      let r : CohReq := ⟨.writeLine data mask, line, none, agent.toNat, agentWriter agent.toNat⟩
      let x := if pr then (w.srTouch line).recordLine line else w.srTouch line
      let z := (x.takeUp r).meets r side.finds
      let d := z.dirOf line
      s.heldWrite pr line = false → open_ w agent.toNat none → x.mayServe r = true →
      Does (.writeLine agent ⟨lineNo, side⟩ data mask pr) s
        (if d.holders = 0 then z.lineWrite line data mask (agentWriter agent.toNat) else z.setBusy ⟨r, none, d.holders, (z.homeLine line).1, (z.homeLine line).2⟩))

/-- What the messages that the home sends do at the quads (05 R181, R182, R185): the holder supplies the line and changes its state; an M line goes home
with a forward; a quad without the line answers with a miss, and the request is served after it. -/
def Obligations.HoldersAnswer : Prop :=
  ∀ (s : State) (lineNo : LineNo) (r : CohReq) (o : Nat) (inv : Nat) (dat : Line) (p : Bool), s.powered = true →
    let line := lineNo.toNat
    s.busyOf line = some ⟨r, some o, inv, dat, p⟩ →
    (∀ (q : Nat) (l : L2Line), r.kind = .readShared → r.quad = some q → s.l2 o line = some l →
      let x := ((s.writeBackM o line).setL2 o line { l with st := .s }).fillL2 q line ⟨.f, l.data, l.poison⟩
      Does (.fwdShared lineNo) s ((x.setDir line ⟨setBit (setBit (s.dirOf line).sharers o true) q false, some q, true, 512⟩).unbusy line)) ∧
    (∀ (q : Nat), r.kind = .readShared → r.quad = some q → s.l2 o line = none → Does (.fwdShared lineNo) s ((s.unbusy line).serve r)) ∧
    (∀ (l : L2Line), (r.kind = .readOwn ∨ r.kind = .upgrade) → s.l2 o line = some l → Does (.fwdOwn lineNo) s
      (((s.dropL2 o line).setDir line { s.dirOf line with owner := none }).finishTxn ⟨r, none, inv, l.data, l.poison⟩)) ∧
    ((r.kind = .readOwn ∨ r.kind = .upgrade) → s.l2 o line = none → Does (.fwdOwn lineNo) s ((s.unbusy line).serve r)) ∧
    (∀ (l : L2Line), r.kind = .readSnoop → s.l2 o line = some l → Does (.snoop lineNo) s
      ({ s with coh := { s.coh with snooped := (line, l.data, l.poison) } }.unbusy line)) ∧
    (r.kind = .readSnoop → s.l2 o line = none → Does (.snoop lineNo) s ((s.unbusy line).serve r))

/-- Invalidations, evictions and reports of one quad (05 R181-R183, R189): the quad loses the line, a dirty line goes home with its poison bit, the
directory follows; a new writer is recorded over a clean line.
A request that reaches a busy line, or one reserved for another, is answered NACK: it is counted and waits at its sender (05 R185, R186); its retry is then
scheduled with the delay of R185, and a retried request is served as when it first came. -/
def Obligations.QuadsGiveUpLinesAndBusyLinesAnswerNack : Prop :=
  (
    ∀ (s : State) (q : Fin 16) (lineNo : LineNo), s.powered = true →
      let line := lineNo.toNat
      let d := s.dirOf line
      let left := { d with sharers := setBit d.sharers q.val false, owner := if d.owner = some q.val then none else d.owner }
      (∀ (t : HomeTxn), s.busyOf line = some t → t.req.kind ≠ .recall → bit t.invs q.val = true →
        (s.l2 q.val line = none → setBit t.invs q.val false ≠ 0 →
          Does (.invalidate q lineNo) s (((s.dropL2 q.val line).setDir line left).setBusy { t with invs := setBit t.invs q.val false })) ∧
        (∀ (l : L2Line), t.fwdTo = none → setBit t.invs q.val false = 0 → s.l2 q.val line = some l → l.st = .m →
          Does (.invalidate q lineNo) s ((((s.homePut line l.data l.poison d.writer).dropL2 q.val line).setDir line left).finishTxn
            { t with data := l.data, poison := l.poison, invs := 0 }))) ∧
      (∀ (l : L2Line), s.l2 q.val line = some l → l.st = .m → bit s.coh.deadSlices (homeOf (line * 64)) = false →
        let x := s.meshRoom line
        Does (.writeback q lineNo) s
          ((((({ x with coh := { x.coh with mesh := Map.put x.coh.mesh line ⟨l.data, true, l.poison, (x.dirOf line).writer⟩ } }).dropL2 q.val line).leaveDir q.val line).pmEvent
            0x0203 q.val).bwBytes 2 64)) ∧
      (∀ (l : L2Line), s.l2 q.val line = some l → l.st = .e ∨ l.st = .f → Does (.evictClean q lineNo) s ((s.dropL2 q.val line).leaveDir q.val line)) ∧
      (∀ (l : L2Line), s.l2 q.val line = some l → l.st = .s → Does (.evictClean q lineNo) s (s.dropL2 q.val line)) ∧
      (line < s.usableLines → bit s.coh.deadQuads q.val = false → s.busyOf line = none →
        (∀ (l : L2Line), s.l2 q.val line = some l → l.st = .m →
          Does (.recall q lineNo none) s (((s.homePut line l.data l.poison d.writer).dropL2 q.val line).leaveDir q.val line)) ∧
        (s.l2 q.val line = none → Does (.recall q lineNo none) s (s.leaveDir q.val line)))) ∧
  (
    ∀ (s : State) (lineNo : LineNo), s.powered = true →
      let line := lineNo.toNat
      (∀ (q : Fin 16) (writer : Option (BitVec 9)) (side : HomeSide),
        let r : CohReq := ⟨.upgrade, line, some q.val, org 2 q.val, writerOf writer⟩
        let w := (s.noteLat side).homeSide side
        bit w.coh.deadQuads q.val = false → line < w.usableLines → w.secGran.contains (line / 32768) = false → (w.srTouch line).mayServe r = false →
        (w.srTouch line).lacksRoom r = false ∨ (w.busyOf line).isSome = true →
        ∃ u, Does (.upgrade q writer ⟨lineNo, side⟩) s u ∧ u.ma = w.ma ∧ u.coh.l2 = w.coh.l2 ∧ u.coh.dir = w.coh.dir ∧ u.coh.mesh = w.coh.mesh ∧ u.coh.busy = w.coh.busy ∧
          u.coh.nacked.any (fun n => n.req.same r) = true) ∧
      (∀ (quad : Option (Fin 16)) (age : BitVec 8) (r : CohReq) (delay : Nat), r.line = line → r.quad = quad.map Fin.val →
        s.coh.nacked = [⟨r, delay, age.toNat, false, false⟩] →
        Does (.nack lineNo quad age) s { s with coh := { s.coh with nacked :=
          [⟨r, min (if delay = 0 then s.rf MX_CFG_NACK_BASE else 2 * delay) (s.rf MX_CFG_NACK_MAX * 16), age.toNat, true,
            decide (s.rf MX_CFG_AGE_THRESH ≤ age.toNat)⟩] } }) ∧
      (∀ (quad : Option (Fin 16)) (n : NackEnt),
        s.coh.nacked.find? (fun n => n.req.line == line && n.req.quad == quad.map Fin.val && n.scheduled) = some n → s.mayServe n.req = true →
        Does (.nackRetry lineNo quad) s ((s.takeUp n.req).serve n.req)))

/-- An I/O request is translated by its instance's stage 2 alone (06 R252, R253, R236, R242, 13 R563): one of an old generation is discarded and counted; one whose
leaf lacks IO or the right, or whose output is refused, changes nothing and is recorded; an allowed one sets A, and D for a write, in its leaf and fills the I/O TLB. -/
def Obligations.IoRequestsAreTranslated : Prop :=
  ∀ (s : State) (unit : Fin 5) (agent : BitVec 24) (inst : BitVec 9) (gen : BitVec 12) (tpa : Word) (write : Bool), s.powered = true →
    (s.gen inst.toNat ≠ gen.toNat → Does (.ioTranslation unit agent inst gen tpa write) s (s.bump rTN_STALE inst.toNat)) ∧
    (s.gen inst.toNat = gen.toNat → 2 ^ 46 ≤ tpa.toNat → Does (.ioTranslation unit agent inst gen tpa write) s (s.refuse agent.toNat inst.toNat tpa.toNat none)) ∧
    (∀ t, s.gen inst.toNat = gen.toNat → tpa.toNat < 2 ^ 46 → s.tlbFind (64 + unit.val) inst.toNat gen.toNat false 0 (tpa.toNat / 4096) = some t →
      let pa := (t.ppage + (tpa.toNat / 4096 - t.vpage)) * 4096 + tpa.toNat % 4096
      (ioAllowed t.perm write = false → Does (.ioTranslation unit agent inst gen tpa write) s (s.refuse agent.toNat inst.toNat tpa.toNat none)) ∧
      (ioAllowed t.perm write = true → write = false ∨ bit t.dirty (t.chunk (tpa.toNat / 4096)) = true →
        (s.outRefused inst.toNat pa = true → Does (.ioTranslation unit agent inst gen tpa write) s (s.refuse agent.toNat inst.toNat tpa.toNat none)) ∧
        (s.outRefused inst.toNat pa = false → s.instTarget inst.toNat pa ≠ .unmapped → Does (.ioTranslation unit agent inst gen tpa write) s s))) ∧
    (s.gen inst.toNat = gen.toNat → tpa.toNat < 2 ^ 46 → s.tlbFind (64 + unit.val) inst.toNat gen.toNat false 0 (tpa.toNat / 4096) = none →
      (∀ f, s.leaf2 inst.toNat tpa.toNat = .error f → Does (.ioTranslation unit agent inst gen tpa write) s (s.refuse agent.toNat inst.toNat f.tpa f.table)) ∧
      (∀ l, s.leaf2 inst.toNat tpa.toNat = .ok l →
        (ioAllowed (perm2 l.ent) write = false ∨ s.outRefused inst.toNat (l.out 51 tpa.toNat) = true →
          Does (.ioTranslation unit agent inst gen tpa write) s (s.refuse agent.toNat inst.toNat tpa.toNat none)) ∧
        (ioAllowed (perm2 l.ent) write = true → s.outRefused inst.toNat (l.out 51 tpa.toNat) = false → s.instTarget inst.toNat (l.out 51 tpa.toNat) ≠ .unmapped →
          ∃ t, t.inst = inst.toNat ∧ t.world = s.rb TN_INST_SECURE inst.toNat ∧ t.gen = gen.toNat ∧ t.perm = perm2 l.ent ∧ t.pr = bit l.ent 5 ∧
            t.vpage ≤ tpa.toNat / 4096 ∧ tpa.toNat / 4096 < t.vpage + t.pages ∧
            Does (.ioTranslation unit agent inst gen tpa write) s (((adNeed l write false false).foldl (fun (x : State) a => x.adUpdate 0 inst.toNat a) s).tlbFill (64 + unit.val) t))))

/-- A read of the array returns the line's data and poison, the errors that the channel code finds acted on first; it changes nothing else in the array where there
are none, but for a line that too many lost channels leave unreadable. Writes change their lines and the check bytes with them, in turn (07 R262, R263, R265). -/
def Obligations.ArrayServesReadsAndWrites : Prop :=
  ∀ (s : State), s.powered = true →
    (∀ (line : LineNo) (finds : List ChanFinding), line.toNat < s.usableLines → ∃ y,
      Does (.arrayRead line finds) s { y with ma := { y.ma with lastRead := (line.toNat, (y.arrayLine line.toNat).1, (y.arrayLine line.toNat).2) } } ∧
      (finds = [] → s.exhausted = false ∨ s.chReads (slotChan (line.toNat % 8) (line.toNat / 8)) (line.toNat / 8) = true → s.sameStores y)) ∧
    (∀ (ws : List LineWrite), (∀ w ∈ ws, w.line.toNat < s.usableLines) → ∃ u, Does (.arrayWrite ws []) s u ∧
      (ws.foldl (fun (x : State) w => x.arrayPut w.line.toNat w.data w.mask w.poison) s).sameStores u)

/-- The states of a channel (07 R267, R270-R274): a loss of an Up channel below its recovery limit, with two losses at most, makes it Lost with its cause, an Ochre
record and the array's state following; ISOLATE, INSERT and FAIL act from the states of R272 and are otherwise ignored and logged; a trained channel rebuilds. -/
def Obligations.ChannelsChangeState : Prop :=
  ∀ (s : State) (m : Fin 10), s.powered = true →
    let st := s.rf MA_CH_STAT_STATE m.val
    let lost := fun (cause : Nat) => ((((s.setUnit (org 4 m.val) (fun u => { u with st := 1 })).sf MA_CH_STAT_CAUSE cause m.val).setChan m.val 1).report
      { org := org 4 m.val, cause := 0x0404, cls := ochre, d0 := cause, react := 5 })
    (∀ (cause : LossCause) (n : Nat), s.lossCause cause = some n → st = 0 → s.recoveries (org 4 m.val) < s.rf FC_CFG_RECOV_LIMIT → s.notUp ≠ 2 →
      Does (.channelLost m cause) s (lost n)) ∧
    (∀ (n : BitVec 8), n.toNat ≤ s.rf MA_CFG_LINK_RETRY → Does (.channelLost m (.link n)) s s) ∧
    (∀ (a : Agent), st = 0 → s.notUp < 2 → s.recoveries (org 4 m.val) < s.rf FC_CFG_RECOV_LIMIT → Does (.fail m a) s (lost 8)) ∧
    (∀ (a : Agent), st ≠ 0 ∨ 2 ≤ s.notUp → Does (.fail m a) s (s.cmdIgnored a (rMA_CH_CTL.addr m.val) 3)) ∧
    (∀ (a : Agent), st = 1 → Does (.isolate m a) s ((s.setChan m.val 2).dimmPower m.val false)) ∧
    (∀ (a : Agent), st = 2 ∨ st = 3 ∨ st = 5 → Does (.isolate m a) s (s.cmdIgnored a (rMA_CH_CTL.addr m.val) 1)) ∧
    (∀ (a : Agent), st = 1 ∨ st = 2 →
      Does (.insert m a) s ((s.setChan m.val 3).dimmPower m.val true)) ∧
    (∀ (a : Agent), st = 0 ∨ st = 3 ∨ st = 4 ∨ st = 5 → Does (.insert m a) s (s.cmdIgnored a (rMA_CH_CTL.addr m.val) 2)) ∧
    (∀ (ds : List Dimm), st = 3 →
      let y := (s.clearMarks m.val).spdRead m.val ds
      let z := y.setChan m.val 4
      (popOf ds ≠ none → popOf ds = s.ma.pop → ds.all (fun d => d.fast) = true →
        (z.rf MA_REBUILD_BUSY = 0 → Does (.channelTrainingEnd m ⟨ds, true⟩) s z) ∧
        (z.rf MA_REBUILD_BUSY = 1 → Does (.channelTrainingEnd m ⟨ds, true⟩) s (z.sf MA_REBUILD_QUEUED (setBit (z.rf MA_REBUILD_QUEUED) m.val true))) ∧
        Does (.channelTrainingEnd m ⟨ds, false⟩) s (y.loseChan m.val 2)) ∧
      (∀ (trains : Bool), popOf ds = none ∨ popOf ds ≠ s.ma.pop → Does (.channelTrainingEnd m ⟨ds, trains⟩) s (y.loseChan m.val 6)))

/-- The rebuild pass and the patrol scrub advance by one stripe; the last stripe ends a pass (07 R274, R276, R278, R287, R288). -/
def Obligations.RebuildAndScrubAdvance : Prop :=
  ∀ (s : State), s.powered = true →
    (∀ (fs : List ChanFinding), s.rf MA_REBUILD_BUSY = 1 → s.rf MA_REBUILD_POS + 1 < s.rf MA_CAP_STRIPES →
      let k := s.rf MA_REBUILD_POS
      k * 100 / s.rf MA_CAP_STRIPES = (k + 1) * 100 / s.rf MA_CAP_STRIPES →
      Does (.rebuildStripe fs) s
        (((List.range 10).foldl (fun (x : State) m => if bit (x.rf MA_REBUILD_CHANNELS) m then x.rebuildSlotLine k m else x)
          (s.codeFindings k (s.liveFinds k fs) s.exhausted)).sf MA_REBUILD_POS (k + 1))) ∧
    (s.rf MA_REBUILD_BUSY = 0 → s.rf MA_STAT_REBUILDING = 0 → ∀ (fs : List ChanFinding), Does (.rebuildStripe fs) s s) ∧
    (∀ (fs : List ChanFinding),
      let k := s.rf MA_SCRUB_POS
      let live := s.liveFinds k fs
      let x := (s.srTouch (k * 8)).readSlots k ((List.range 10).filter (fun i => (s.srTouch (k * 8)).chReads (slotChan i k) k))
      let y := x.codeFindings k live x.exhausted
      let z := if (x.findingErasures k live).isEmpty then y.scrubCompare k else y
      (k + 1 < s.rf MA_CAP_STRIPES → Does (.scrubStripe fs) s (z.sf MA_SCRUB_POS (k + 1))) ∧
      (k + 1 = s.rf MA_CAP_STRIPES → Does (.scrubStripe fs) s
        ((((z.sf MA_SCRUB_POS 0).sf MA_SCRUB_FAST 0).sf MA_SCRUB_PASSES ((z.rf MA_SCRUB_PASSES + 1) % 2 ^ 14)).raise 0x0EA))) ∧
    Does .demand s (s.sf MA_SCRUB_FAST 1)

/-- Any two lines of a stripe can be rebuilt from the other eight (07 R260): with the bytes of a stripe at one offset, any two of them unreadable, every
slot's byte comes back. -/
def Obligations.AnyTwoErasuresAreRebuilt : Prop :=
  ∀ (d : Nat → Nat) (e f : Nat), (∀ i, i < 8 → d i < 256) → e < 10 → f < 10 →
    let all := fun (i : Nat) => if i < 8 then d i else if i = 8 then codeP d else codeQ d
    let read := fun (i : Nat) => if i = e ∨ i = f then none else some (all i)
    ∀ i, i < 10 → rebuildSlot read i = some (all i)

/-- Every line stays readable while at most two channels do not serve (07 R270): with the check lines of its stripe and their mask bytes right, a line reads as it does
with every channel serving, whichever two are lost. -/
def Obligations.LinesSurviveTwoLostChannels : Prop :=
  ∀ (s t : State) (line m n : Nat), t.ma = s.ma →
    (∀ c, c < 10 → s.chReads c (line / 8) = true) → (∀ c, c < 10 → c ≠ m → c ≠ n → t.chReads c (line / 8) = true) →
    (∀ b, b < 64 →
      let z := fun (i : Nat) => ((s.stripeByte (line / 8) b [] i).getD 0)
      z 8 = codeP z ∧ z 9 = codeQ z) →
    (∀ j, j < 8 → bit (s.maskOf 8 (line / 8)) j = s.sigOf j (line / 8) ∧ bit (s.maskOf 9 (line / 8)) j = s.sigOf j (line / 8)) →
    t.arrayLine line = s.arrayLine line

/-- A lane takes the next update of its queue (08 R293, R303, R309, R312, R331, R295): a sample, a void, a definition or a cycle marker by its row, past output updates
that wait for their instances' tokens (the model's choice, log 68); a sample held past its time in front of a full queue is dropped, counted and recorded.
Outputs, fan-out and the loss of lanes and of the store (08 R321, R326, R335, R337): in a cycle that no field sample takes a granted output slot is taken, an offered update
leaves its unit's queue for the current subscribers, a failed lane's signals get a new home, the lost store is recorded and a paired module yields, or posts its events. -/
def Obligations.LanesTakeTheirQueuesFanOutAndFail : Prop :=
  (
    ∀ (s : State) (l : Fin 64), s.powered = true → s.rf SG_LANE_STAT_STATE l.val = 0 → s.rf SG_STAT_STORE ≠ 1 →
      let y := s.popLane l.val
      (∀ u q, s.laneQ l.val = u :: q → u.isOutput = false → s.laneNext l.val = some u ∧ y = (s.setLaneQ l.val q).refillLane l.val) ∧
      (∀ sid w t c, s.laneNext l.val = some (.sample sid w t c) → Does (.inputSample l ⟨0, none⟩) s ((y.sampleUpdate sid w t c).when (y.takesInput sid) (fun x => x.laneCount l.val))) ∧
      (∀ sid t c, s.laneNext l.val = some (.void sid t c) → Does (.voidUpdate l ⟨0, none⟩) s ((y.voidUpdate sid t c).when (y.takesInput sid) (fun x => x.laneCount l.val))) ∧
      (∀ sid cfg, s.laneNext l.val = some (.define sid cfg) → s.outAhead l.val sid = false → Does (.definitionUpdate l ⟨0, none⟩) s ((y.defineUpdate sid cfg).laneCount l.val)) ∧
      (∀ p c x, s.laneNext l.val = some (.marker p c x) → Does (.cycleMarker ⟨l, ⟨0, none⟩⟩) s (y.takeMarker p c x)) ∧
      (∀ u, (s.laneHeld l.val).find? Upd.isSample = some u → Does (.sampleHoldTimeout l) s
        ((((s.setLaneHeld l.val ((s.laneHeld l.val).erase u)).bump rSG_DROP).raise (0x100 + l.val)).report { org := org 6 l.val, cause := 0x0603, cls := slate }))) ∧
  (
    ∀ (s : State), s.powered = true →
      (∀ (l : Fin 64) (i n : Nat) (y : State), s.rf SG_LANE_STAT_STATE l.val = 0 → s.takesOuts = true → s.fieldNext l.val = false →
        s.grant 4 (s.outReqs l.val) = (y, some i) → (y.outSlots l.val).find? (fun n => y.slotOwner n == i) = some n →
        let z := (y.setLaneQ l.val ((y.laneQ l.val).erase (.output n))).refillLane l.val
        z.storeLost = false → Does (.outputUpdate l ⟨0, none⟩) s ((z.outputUpdate n (Map.getD z.sg.slots n 0)).laneCount l.val)) ∧
      (∀ (i : Fin 8) (o : Offer) (q : List Offer), Map.getD s.sg.fan i.val [] = o :: q → s.isStandby = false →
        let live := s.liveSubs (Map.getD s.sg.subs o.sid [])
        Does (.fanOut i none) s (live.foldl (fun (x : State) (e : Sub) =>
            let m := if o.type = 1 then e.classes &&& o.classes else 7
            if m = 0 then x else x.eqPost e.inst e.gen (o.entry m e.gen))
          ({ s with sg := { s.sg with fan := if q.isEmpty then Map.del s.sg.fan i.val else Map.put s.sg.fan i.val q } }.setSubs o.sid live)).flushCycles) ∧
      (∀ (l : Fin 64), s.rf SG_LANE_STAT_STATE l.val = 0 → s.recoveries (org 6 l.val) < s.rf FC_CFG_RECOV_LIMIT →
        let y := ((((s.setUnit (org 6 l.val) (fun u => { u with st := 1 })).sf SG_LANE_STAT_STATE 1 l.val).raise (0x100 + l.val)).countLanes).report
          { org := org 6 l.val, cause := 0x0602, cls := ochre, react := 5 }
        ([8, 16, 24, 32, 40, 48, 56].find? (fun x => y.rf SG_LANE_STAT_STATE (l.val ^^^ x) == 0) = none → Does (.laneRetirement l) s y) ∧
        (∀ x, [8, 16, 24, 32, 40, 48, 56].find? (fun x => y.rf SG_LANE_STAT_STATE (l.val ^^^ x) == 0) = some x →
          Does (.laneRetirement l) s (y.moveLanes l.val (l.val ^^^ x) (fun _ => true)))) ∧
      (s.rf SG_STAT_STORE ≠ 1 →
        let y := ((s.sf SG_STAT_STORE 1).raise 0x140).report { org := org 7 0, cause := 0x0707, cls := ochre, react := 5 }
        (y.canYield = true → Does .signalStoreLoss s (y.askTakeoverFor none)) ∧
        (y.canYield = false → Does .signalStoreLoss s y.storeEvents)))

/-- What a sample of a defined input signal leaves in its record (08 R300, R303, R304, R310) with the rate-of-change test off: the converted value with its quality and flags,
the stamp, the cycle and the update count; the configuration words and every other record are as they were.
A void update marks its record bad and keeps value, flags and alarms (08 R309); a definition makes the record fresh (08 R307, R312); both leave every other record alone. -/
def Obligations.SamplesVoidsAndDefinitionsChangeTheirRecord : Prop :=
  (
    ∀ (s : State) (sid w t c : Nat), sid < 2 ^ 21 → w < 2 ^ 32 → t < 2 ^ 64 → c < 2 ^ 32 → recDef (s.sigRec sid) = true → recOut (s.sigRec sid) = false →
      recRoc (s.sigRec sid) = 0 →
      let old := s.sigRec sid
      let new := (s.sampleUpdate sid w t c).sigRec sid
      let v := s.convert old (sextInt 24 (bits w 23 0 ^^^ (if recOb old then 0x800000 else 0)))
      let q := max (bits w 25 24) (if bit w 26 = true ∨ bit w 27 = true ∨ v.2 = true then 1 else 0)
      sval (recEng new) = v.1 ∧ bits (recEng new) 25 24 = q ∧ bits (recEng new) 28 26 = bits w 28 26 ∧ bit (recEng new) 29 = v.2 ∧ bit (recEng new) 30 = false ∧
      recTime new = t ∧ recCycle new = c ∧ recUpd new = (recUpd old + 1) % 65536 ∧ recAlm new = (alarms old v.1 q).1 ∧ recCfg new = recCfg old ∧
      ∀ x, x < 2 ^ 21 → x ≠ sid → (s.sampleUpdate sid w t c).sigRec x = s.sigRec x) ∧
  (
    ∀ (s : State) (sid : Nat), sid < 2 ^ 21 →
      (∀ t c, t < 2 ^ 64 → c < 2 ^ 32 →
        let old := s.sigRec sid
        let u := s.voidUpdate sid t c
        let new := u.sigRec sid
        (recDef old = false ∨ recOut old = true → u = s) ∧
        (recDef old = true → recOut old = false →
          bits (recEng new) 25 24 = 2 ∧ bits (recEng new) 23 0 = bits (recEng old) 23 0 ∧ bits (recEng new) 31 26 = bits (recEng old) 31 26 ∧ recTime new = t ∧ recCycle new = c ∧
          recUpd new = (recUpd old + 1) % 65536 ∧ recAlm new = recAlm old ∧ (∀ k, k < 4 → recDcnt new k = 0) ∧ recCfg new = recCfg old ∧
          ∀ x, x < 2 ^ 21 → x ≠ sid → u.sigRec x = s.sigRec x)) ∧
      (∀ cfg, cfg < 2 ^ 288 → bit cfg 9 = true → recOut (s.sigRec sid) = false →
        let u := s.defineUpdate sid cfg
        recCfg (u.sigRec sid) = cfg ∧ bits (recEng (u.sigRec sid)) 25 24 = 3 ∧ sval (recEng (u.sigRec sid)) = 0 ∧ bits (recSig (u.sigRec sid)) 25 24 = 3 ∧
        recTime (u.sigRec sid) = 0 ∧ recUpd (u.sigRec sid) = 0 ∧ recAlm (u.sigRec sid) = 0 ∧ u.history sid = [] ∧ u.corrBlk sid = 0 ∧
        ∀ x, x < 2 ^ 21 → x ≠ sid → u.sigRec x = s.sigRec x))

/-- The signal commands (08 R311-R316, R319, R334): definitions enter their lanes one after the other, pages are mapped and unmapped in the instance's stage 2, subscriptions are
added and removed, a reprocessing runs signal by signal, a table that no signal names is loaded; each ends with its reply. -/
def Obligations.SignalCommandsAnswer : Prop :=
  ∀ (s : State) (c : Cmd), s.powered = true →
    (s.starts 0x0401 c → c.pay.length % 40 ≠ 0 → Does .signalDefine s (s.finish c stBAD_PARAM [0, 0])) ∧
    (s.starts 0x0401 c → c.pay.length % 40 = 0 → Does .signalDefine s ((s.mirrorCmd c).longPhase c 2 (c.pay.length / 40) [])) ∧
    (s.startedCmd 0x0401 = none → s.mp.cmds.filter (fun (x : Cmd) => x.op == 0x0401 && x.phase == 3) = [c] → s.curCmd c = c → c.lop.items = [] → c.lop.total ≤ c.lop.pos →
      Does .signalDefine s (s.finish c stOK [c.lop.pos, 0])) ∧
    (∀ y, s.starts 0x0402 c → s.wrongWorld c = false → s.mapState c.inst = true → c.p 0 = 0 → 0 < c.p 2 → c.p 1 + c.p 2 ≤ 2 ^ 21 → c.p 1 % 64 = 0 → c.p 2 % 64 = 0 →
      let m : SigMap := ⟨0, c.p 1, c.p 2, c.p64 3 / 4096⟩
      s.sigClash c.inst m = false → c.p64 3 % 4096 = 0 → c.p64 3 + 4096 * m.pages ≤ 2 ^ 46 → s.tenantBusy c.inst (c.p64 3 / 4096) m.pages = false →
      s.s2Map c.inst m.tpage m.dpage m.pages 1 3 false = some y →
      Does .signalMap s (((y.setInst c.inst (fun r => { r with sigMaps := r.sigMaps ++ [m] })).mirrorCmd c).finish c stOK)) ∧
    (∀ m, s.starts 0x0403 c → s.wrongWorld c = false → s.mapState c.inst = true → m.kind ≠ 2 →
      (s.inst c.inst).sigMaps.find? (fun (x : SigMap) => x.kind == c.p 0 && x.first == c.p 1 && x.count == c.p 2) = some m →
      Does .signalUnmap s ((((s.s2Unmap c.inst m.tpage m.pages 3).setInst c.inst
        (fun r => { r with sigMaps := r.sigMaps.filter (fun (x : SigMap) => !(x == m)) })).mirrorCmd c).finish c stOK)) ∧
    (∀ y, s.starts 0x0404 c → s.bufWrite c (c.p64 1) (toBytes (s.sgRd (0x08000000 + 64 * c.p 0) 64) 64) = (y, true) →
      Does .signalQuery s (y.finish c stOK [laneOf (c.p 0) + y.rf SG_LANE_STAT_HOME (laneOf (c.p 0)) * 256])) ∧
    (s.starts 0x0410 c → s.ist c.inst ≠ 0 → s.wrongWorld c = false → bit (c.p 0) 0 = true → c.p 1 < 32 → c.p 2 = 0 →
      let l := withSub (Map.getD s.sg.cycSubs (c.p 1) []) ⟨c.inst, s.gen c.inst, bits (c.p 0) 3 1⟩
      Does .subscribe s ((({ s with sg := { s.sg with cycSubs := Map.put s.sg.cycSubs (c.p 1) l } }).mirrorCmd c).finish c stOK [1])) ∧
    (s.starts 0x0411 c → s.ist c.inst ≠ 0 → s.wrongWorld c = false → bit (c.p 0) 0 = true → c.p 1 < 32 → c.p 2 = 0 →
      Does .unsubscribe s ((({ s with sg := { s.sg with cycSubs := (dropSub s.sg.cycSubs (c.p 1) c.inst).1 } }).mirrorCmd c).finish c stOK
        [(dropSub s.sg.cycSubs (c.p 1) c.inst).2])) ∧
    (s.starts 0x0420 c → 0 < c.p 1 → c.p 0 + c.p 1 ≤ 2 ^ 21 → s.rb SG_REPROC_BUSY = false →
      let l := ((List.range (c.p 1)).map (c.p 0 + ·)).filter (fun i => recDef (s.sigRec i) && recCorr (s.sigRec i))
      Does .historianReprocess s ((((({ s with sg := { s.sg with reproc := l } }.sf SG_REPROC_BUSY 1).sf SG_REPROC_TOTAL l.length).sf SG_REPROC_POS 0).mirrorCmd c).longPhase
        c 2 l.length [])) ∧
    (∀ sid r, s.sg.reproc = sid :: r → recDef (s.sigRec sid) = true → recCorr (s.sigRec sid) = true →
      let l := s.rf SG_LANE_STAT_HOME (laneOf sid)
      s.longCmd 0x0420 (fun c => c.lop.cancel) = none → s.rf SG_LANE_STAT_STATE l = 0 → s.rf SG_STAT_STORE ≠ 1 →
      Does .reprocessSignal s (((((s.fresh 2).2.laneRepeats l ((s.fresh 2).1 % 3)).reprocessOne sid).laneCount l).reprocDone r)) ∧
    (s.starts 0x0430 c → c.pay.length = 256 → tableOk c.pay = true →
      s.definedSids.filter (fun i => recMode (s.sigRec i) == 2 && recTable (s.sigRec i) == c.p 0) = [] →
      let y := s.sgWr (0x12200000 + 256 * c.p 0) 256 (ofBytes c.pay)
      Does .tableLoad s (({ y with sg := { y.sg with tables := if y.sg.tables.contains (c.p 0) then y.sg.tables else y.sg.tables ++ [c.p 0] } }.mirrorCmd c).finish c stOK))

/-- The compression engine's commands (09 R350, R363, R366-R368, R370, R372): a granted descriptor becomes a context or fails with BAD_DESC; a chunk leaves its request running,
ended or failed; a failed pipe's contexts move; held HIST_FILLs take segments or, with the sink disabled, end DENIED. -/
def Obligations.CompressionRunsItsRequests : Prop :=
  ∀ (s : State), s.powered = true →
    (∀ (q : Fin 16) (p : Fin 4) (y z : State) (i d v : Nat), s.cz.ctxs.length < 16 → s.grant 1 ((s.qWaiting 1).map (fun i => (i, 1))) = (y, some i) →
      y.qPick i 1 q.val = some d → y.czUp p.val = true → y.qFetch (org 0xA p.val) i 1 d = (z, some v) →
      let c := { czParse i (z.gen i) d p.val v with charged := true }
      (czBad v c = true → Does (.compressionDescriptorFetch q p) s ((z.refundToken 1 i).czFail c 1 c.check 0 0)) ∧
      (czBad v c = false → c.op ≠ 3 → Does (.compressionDescriptorFetch q p) s (z.setCtxs (z.cz.ctxs ++ [c]))) ∧
      (czBad v c = false → c.op = 3 → z.isSink c = false → Does (.compressionDescriptorFetch q p) s ((z.refundToken 1 i).czFail c 9 0 0 0)) ∧
      (czBad v c = false → c.op = 3 → z.isSink c = true → Does (.compressionDescriptorFetch q p) s (z.setCzHeld (z.cz.held ++ [c])))) ∧
    (∀ (p : Fin 4) (b : CzCtx), s.czUp p.val = true → s.drainTurn p.val = false → s.czNext p.val = some b →
      let w := (if b.charged then s else s.chargeTokens 1 b.inst 1).czCredit p.val false
      let others := w.cz.ctxs.filter (fun x => x != b)
      let x := (w.sf CZ_PIPE_STAT_INSTANCE b.inst p.val).pmEvent 0x0701 p.val (some b.inst)
      let y := { x with cz := { x.cz with ctxs := others ++ [{ b with ran := p.val, charged := true }] } }
      let c := { b with ran := p.val, chunks := b.chunks + 1 }
      let r := if c.op = 1 then y.czCompress c else if c.fmt = 3 then y.czUntbf c else y.czInflate c
      (∀ z d, r = (z, .more d) → Does (.compressionChunk p 0) s (z.setCtxs (others ++ [{ d with charged := false }]))) ∧
      (∀ z d chk a b, r = (z, .ok d chk a b) → Does (.compressionChunk p 0) s ((z.setCtxs others).czOk d chk a b)) ∧
      (∀ z d e chk a b, r = (z, .fail d e chk a b) → Does (.compressionChunk p 0) s ((z.setCtxs others).czFail d e chk a b))) ∧
    (∀ (p : Fin 4), s.czUp p.val = true → s.recoveries (org 0xA p.val) < s.rf FC_CFG_RECOV_LIMIT →
      let y := (((s.setUnit (org 0xA p.val) (fun u => { u with st := 1 })).sf CZ_PIPE_STAT_STATE 1 p.val).raise (0x300 + p.val)).report
        { org := org 0xA p.val, cause := 0x0A03, cls := ochre, react := 5 }
      y.czUps ≠ [] → Does (.compressionPipeRetirement p) s (y.czGone p.val)) ∧
    (∀ (p : Fin 4) (b : CzCtx) (rest : List CzCtx) (l : Nat) (es disc : List Nat) (gap : Bool), s.czUp p.val = true → s.drainTurn p.val = true → s.cz.held = b :: rest →
      s.readyLane = some l →
      let x := s.czCredit p.val true
      let c := { b with pipe := p.val, ran := p.val }
      let tail := stagePos (x.reg rSG_STAGE_TAIL l)
      let k := min c.cap (x.stageFill l)
      let bs := segBytes l (Map.getD x.cz.segs l 0) tail es
      let discard := fun (y : State) =>
        let z := disc.foldl (fun (y : State) sid => ((y.bump rCZ_STAGE_DISC).raise 0x306).sgElog 4 l sid) y
        { z with cz := { z.cz with gaps := z.cz.gaps.filter (· != l) ++ (if gap then [l] else []) } }
      x.drainEntries l tail k (x.cz.gaps.contains l) = (es, disc, gap) →
      (es = [] → Does (.segmentWrite p 0) s ((discard x).stageConsume l tail k)) ∧
      (∀ z, es ≠ [] → x.ioWrite (org 0xA p.val) c.inst c.gen c.dst bs.length (ofBytes bs) = (z, .ok ()) →
        let g := (discard ((z.bump rCZ_PIPE_IN p.val (16 * k)).bump rCZ_PIPE_OUT p.val bs.length)).bump rCZ_SEG_CNT
        let w := { g with cz := { g.cz with segs := Map.put g.cz.segs l ((Map.getD g.cz.segs l 0 + 1) % 2 ^ 32) } }
        Does (.segmentWrite p 0) s (((w.stageConsume l tail k).setCzHeld rest).czOk c (crc32c (es.flatMap (fun e => toBytes e 16))) 0 bs.length)) ∧
      (∀ z e, es ≠ [] → x.ioWrite (org 0xA p.val) c.inst c.gen c.dst bs.length (ofBytes bs) = (z, .error e) →
        Does (.segmentWrite p 0) s ((z.setCzHeld rest).czFail c 2 0 0 0))) ∧
    (∀ (l : Fin 64), s.stageFill l.val ≠ 0 → s.cz.ready.contains l.val = false →
      Does (.histLingerExpiry l) s { s with cz := { s.cz with ready := s.cz.ready ++ [l.val] } }) ∧
    Does .histSinkDisable s (s.cz.held.foldl (fun (x : State) c => x.czFail c 9 0 0 0) ((s.sf CZ_HIST_CFG_EN 0).setCzHeld []))

/-- Decompression of a TBF block gives back what compression took (09 R356-R358): for every block of at most 65,536 bytes, not empty unless it is the last. -/
def Obligations.TbfBlocksRoundTrip : Prop :=
  ∀ (blk : List Nat) (last : Bool), blk.length ≤ 65536 → (∀ b ∈ blk, b < 256) → (blk ≠ [] ∨ last = true) →
    ∃ h, tbfHdr (ofBytes ((tbfCompress blk last).take 12)) true = some h ∧ h.last = last ∧ h.raw = blk.length ∧ h.pay = (tbfCompress blk last).length - 12 ∧
      tbfBlock h ((tbfCompress blk last).drop 12) = .ok blk

/-- The cipher engine's commands (10 R385, R392, R396, R403-R406): a granted descriptor becomes a context that holds its slot, or fails by BAD_DESC, KEY or ENGINE_DOWN; a chunk
whose checks pass leaves its request running, ended or failed; a failed pipe's contexts move. -/
def Obligations.CipherRunsItsRequests : Prop :=
  ∀ (s : State), s.powered = true →
    (∀ (q : Fin 16) (y z : State) (i d v : Nat), s.cy.ctxs.length < 32 → s.isStandby = false → s.grant 2 ((s.qWaiting 2).map (fun i => (i, 1))) = (y, some i) →
      y.qPick i 2 q.val = some d → y.qFetch (org 0xB 0) i 2 d = (z, some v) →
      let b := cyParse i (z.gen i) d v
      let leased := z.rb CY_SLOT_LEASED b.slot
      let side := z.cySide leased
      let c := { b with pa := side.getD 0 0, pb := side.getD 1 0, lease := leased }
      (cyBad v c = true → Does (.cipherDescriptorFetch q) s ((z.refundToken 2 i).cyFail c false 1 0)) ∧
      (cyBad v c = false → z.cyKeyBad c = true → Does (.cipherDescriptorFetch q) s ((z.refundToken 2 i).cyFail c false 4 0)) ∧
      (cyBad v c = false → z.cyKeyBad c = false → z.cyHold c = true → Does (.cipherDescriptorFetch q) s s) ∧
      (cyBad v c = false → z.cyKeyBad c = false → z.cyHold c = false →
        let e := { c with half := z.cyHalf c, n := if c.auto then (z.slot c.slot).ctr else 0 }
        let w := if c.auto then z.takeAuto c.slot else z
        (side.length < 2 → Does (.cipherDescriptorFetch q) s ((w.refundToken 2 i).cyFail e false 7 0)) ∧
        (2 ≤ side.length → Does (.cipherDescriptorFetch q) s ((w.sf CY_SLOT_INFLIGHT (satN 16 (w.rf CY_SLOT_INFLIGHT c.slot + 1)) c.slot).setCy (w.cy.ctxs ++ [e]))))) ∧
    (∀ (p q : Fin 8) (c : CyCtx), s.cy.ctxs = [c] → (s.cySide c.lease).length < 2 → Does (.cipherChunk p q .passed) s ((s.setCy []).cyFail c true 7 c.done)) ∧
    (∀ (p q : Fin 8) (c : CyCtx), p ≠ q → s.cy.ctxs = [c] → (c.charged || s.eligible 2 c.inst 1) = true → 2 ≤ (s.cySide c.lease).length →
      (s.cySide c.lease).contains p.val = true → (s.cySide c.lease).contains q.val = true →
      let w := if c.charged then s else s.chargeTokens 2 c.inst 1
      let d := { c with pa := p.val, pb := q.val, arbs := min 15 (c.arbs + 0) }
      let y := (((w.servedBy { c with pa := p.val, pb := q.val }).setCy []).when (!c.lease) (fun x => (x.pmEvent 0x0801 p.val (some c.inst)).pmEvent 0x0802 q.val (some c.inst))).servedBy d
      let r := if c.op ≤ 2 then y.cyXts d ((y.slot c.slot).key c.half) else y.cyGcm d ((y.slot c.slot).key c.half) (y.slot c.slot).fixed
      (∀ z e, r = (z, .more e) → Does (.cipherChunk p q .passed) s (z.setCy (z.cy.ctxs ++ [{ e with charged := false }]))) ∧
      (∀ z e, r = (z, .ok e) → Does (.cipherChunk p q .passed) s ((z.cySync).cyPost e true (cyEntry e 0 0 e.len))) ∧
      (∀ z e k, r = (z, .fail e k) → Does (.cipherChunk p q .passed) s ((z.cySync).cyFail e true k e.done))) ∧
    (∀ (p : Fin 8), s.cyUp p.val = true → s.recoveries (org 0xB p.val) < s.rf FC_CFG_RECOV_LIMIT →
      let y := (((s.setUnit (org 0xB p.val) (fun u => { u with st := 1 })).sf CY_PIPE_STAT_STATE 1 p.val).raise (0x308 + p.val)).report
        { org := org 0xB p.val, cause := 0x0B03, cls := ochre, react := 5 }
      y.cyLeased p.val = false → Does (.cipherPipeRetirement p) s y.cyMove)

/-- Keys, rotations and leases (10 R389, R390, R393, R394, R407, R410, 17 R708): a key goes into an Empty slot's half 0; an erased slot is Empty once no request holds it; a rotation
puts the new key beside the old one and flips the current half, a rewrap writes its data units in turn; leases take free resources and give them back erased. -/
def Obligations.KeysAndLeasesFollowTheirCommands : Prop :=
  ∀ (s : State), s.powered = true →
    (∀ (v : Via) (t : State) (c : Cmd), s.startsVia v 0x0501 (fun _ => true) t c →
      (t.rb CY_SLOT_LEASED (c.p 0) = true → t.fromSecure c = false → Does (.keyLoad v) s (t.finish c stLEASED)) ∧
      (t.rb CY_SLOT_LEASED (c.p 0) = false → t.tainted = false → t.rf CY_SLOT_STATE (c.p 0) ≠ 0 → Does (.keyLoad v) s (t.finish c stDENIED)) ∧
      (∀ y b, t.rb CY_SLOT_LEASED (c.p 0) = false → t.tainted = false → t.rf CY_SLOT_STATE (c.p 0) = 0 → t.ist c.inst ≠ 0 → t.takeBundle c.pay = (y, some b) →
        Does (.keyLoad v) s (((y.loadSlot (c.p 0) c.inst b c.pay).mirrorCmd c).finish c stOK))) ∧
    (∀ (v : Via) (t : State) (c : Cmd), s.startsVia v 0x0503 (fun c => c.lop.items.isEmpty) t c → t.rb CY_SLOT_LEASED (c.p 0) = false →
      Does (.keyErase v) s (((t.endRotation (c.p 0)).mirrorCmd c).eraseThen c [c.p 0])) ∧
    (∀ (k : BitVec 12), s.rf CY_SLOT_STATE k.toNat = 3 → s.rf CY_SLOT_INFLIGHT k.toNat = 0 → Does (.keyEraseComplete k) s ((s.zeroSlot k.toNat).eraseReplies)) ∧
    (∀ (v : Via) (t y : State) (c : Cmd) (b : KeyBundle), s.startsVia v 0x0502 (fun _ => true) t c →
      let k := c.p 0 % 4096
      t.rb CY_SLOT_LEASED k = false → t.tainted = false → t.rb CY_ROTATE_BUSY = false → t.rf CY_SLOT_STATE k = 1 → t.rf CY_SLOT_ALG k = 1 →
      let rew := bit (c.p 0) 16
      c.pay.length = 96 + (if rew then 16 else 0) → (rew = true → 16 ≤ c.p64 3 ∧ c.p64 1 + c.p64 3 ≤ 2 ^ 46 ∧ badDu (c.p 5) (c.p64 3) = false) →
      t.takeBundle (c.pay.take 96) = (y, some b) → b.alg = 1 →
      let x := y.mirrorCmd c
      let w := { x with cy := { x.cy with rot := some ⟨c.seq, k, c.p64 1, if rew then c.p64 3 else 0, c.p 5, ofBytes (c.pay.drop 96), c.pay.take 96, false⟩ } }
      let g := ((((w.sf CY_SLOT_STATE 2 k).raise 0x312).sf CY_ROTATE_BUSY 1).sf CY_ROTATE_PHASE 1).sb CY_ROTATE_REWRAP rew
      let h := g.sf CY_ROTATE_SLOT k
      let n := (h.sf CY_ROTATE_TOTAL (h.holders k)).sf CY_ROTATE_POS_POS 0
      Does (.keyRotate v) s (n.longPhase c 2 (n.holders k) [])) ∧
    (∀ (r : Rot) (b : KeyBundle), s.cy.rot = some r → s.rf CY_ROTATE_PHASE = 1 → s.holders r.slot = 0 → s.openBundle r.bundle = (some b, false) → r.len = 0 →
      let nh := 1 - s.rf CY_SLOT_CUR r.slot
      let y := s.setSlot r.slot (fun x => { x with k0 := if nh = 0 then b.key else x.k0, k1 := if nh = 0 then x.k1 else b.key, fixed := b.fixed, ctr := 0, acked := 0, prev := x.bundle, bundle := r.bundle })
      Does .rotationDrainEnd s (((((y.sf CY_SLOT_CUR nh r.slot).sf CY_SLOT_PREV_VALID 1 r.slot).sb CY_SLOT_AUTO b.auto r.slot).sf CY_SLOT_BUNDLE_ID b.bid r.slot).rotEnd r stOK [])) ∧
    (∀ (p q : Fin 8) (r : Rot), s.cy.rot = some r → s.rf CY_ROTATE_PHASE = 2 → (s.cySide (s.rb CY_SLOT_LEASED r.slot)).length < 2 →
      Does (.rewrapUnit p q .passed) s (s.rotEnd r stFAULTED [s.rf CY_ROTATE_POS_POS])) ∧
    (∀ (p q : Fin 8) (r : Rot) (y z : State) (l : List Nat), s.cy.rot = some r → s.rf CY_ROTATE_PHASE = 2 → p ≠ q →
      let k := r.slot
      let own := s.rf CY_SLOT_OWNER k
      let side := s.cySide (s.rb CY_SLOT_LEASED k)
      let pos := s.rf CY_ROTATE_POS_POS
      let du := if r.du = 0 then r.len else r.du
      let n := min du (r.len - pos * du)
      let cost := (n + 16383) / 16384
      let x := s.chargeTokens 2 own cost
      let c := { cyParse own (x.gen own) 0 0 with pa := p.val, slot := k }
      2 ≤ side.length → side.contains p.val = true → side.contains q.val = true → s.eligible 2 own cost = true → x.cyRead c (r.base + pos * du) n = (y, .ok l) →
      let old := xtsKeys ((y.slot k).key (1 - y.rf CY_SLOT_CUR k))
      let new := xtsKeys ((y.slot k).key (y.rf CY_SLOT_CUR k))
      let plain := (xtsSpan old.1 old.2 false n (r.tweak + pos) 0 0 l (l.length + 1)).1
      y.cyWrite c (r.base + pos * du) (xtsSpan new.1 new.2 true n (r.tweak + pos) 0 0 plain (l.length + 1)).1 = (z, true) →
      let g := (z.bump rCY_PIPE_BYTES p.val (2 * n)).sf CY_ROTATE_POS_POS (pos + 1)
      (pos + 1 = r.units → Does (.rewrapUnit p q .passed) s ((g.raise 0x312).rotEnd r stOK [])) ∧
      (∀ d, pos + 1 ≠ r.units → pos * 100 / r.units = (pos + 1) * 100 / r.units → g.mp.cmds.find? (fun (c : Cmd) => c.seq == r.cmd) = some d →
        Does (.rewrapUnit p q .passed) s (g.longPos d (pos + 1)))) ∧
    (∀ (v : Via) (t : State) (c : Cmd), s.startsVia v 0x0510 (fun c => c.p 0 != 2) t c → c.p 0 = 1 → c.p 1 < 16 → c.p 2 ≤ 2016 → 2 * c.p 2 ≤ c.pay.length → t.tainted = false →
      let slots := (List.range (c.p 2)).map (fun j => ofBytes ((c.pay.drop (2 * j)).take 2))
      let pipes := (List.range 8).filter (fun p => bit (c.p 1) (p / 2))
      (∀ k ∈ slots, k < 4096 ∧ t.rf CY_SLOT_STATE k = 0 ∧ t.rb CY_SLOT_LEASED k = false) → (∀ p ∈ pipes, t.cyUp p = true ∧ t.cyLeased p = false) →
      4 ≤ ((t.cySide false).filter (fun p => !pipes.contains p)).length → ((List.range 8).filter (fun p => t.cyLeased p)).length + pipes.length ≤ 4 → t.leases.length < 32 →
      let x := pipes.foldl (fun (x : State) p => (x.pipeLease p true).raise (0x308 + p)) t
      let y := (slots.foldl (fun (x : State) k => x.sf CY_SLOT_LEASED 1 k) x).addLease 1 c.sender pipes slots.eraseDups []
      Does (.leaseTakeCipher v) s ((((y.1.cyMove.raise 0x313).leaseSync).mirrorCmd c).finish c stOK [y.2])) ∧
    (∀ (v : Via) (t : State) (c : Cmd), s.startsVia v 0x0510 (fun c => c.p 0 == 2) t c → c.p 2 = 0 → c.p 1 % 4 = 0 → 4 ≤ c.p 1 → c.p 1 ≤ 1024 → t.tainted = false →
      let used := t.leases.flatMap (fun (l : Lease) => l.pages)
      4 * used.length + c.p 1 ≤ 1024 → t.leases.length < 32 →
      let y := t.addLease 2 c.sender [] [] (((List.range 256).filter (fun p => !used.contains p)).take (c.p 1 / 4))
      Does (.leaseTakeVaultSram v) s (((y.1.leaseSync).mirrorCmd c).finish c stOK [y.2])) ∧
    (∀ (v : Via) (t : State) (c : Cmd) (l : Lease), s.startsVia v 0x0511 (fun c => c.lop.items.isEmpty) t c → t.leases.find? (fun (l : Lease) => l.handle == c.p 0) = some l →
      (l.holder = c.sender ∨ c.sender = 600 → Does (.leaseRelease v) s (((t.endLease l).mirrorCmd c).eraseThen c l.slots)) ∧
      (l.holder ≠ c.sender → c.sender ≠ 600 → Does (.leaseRelease v) s (t.finish c stDENIED)))

/-- A chain's way to its outcome (11 R428, R430-R434, R437, R448, R454, R459-R461, R464): accepted with its transaction ID, checked, dispatched, its data moved in chunks,
its group committed, its outcome decided; a refusal is acknowledged and counted. `submit` answers the acknowledgement that DOORBELL_WRITE stores. -/
def Obligations.ChainsRunToTheirOutcome : Prop :=
  ∀ (s : State), s.powered = true →
    (∀ (i : BitVec 9) (v : Fin 64) (d : Fin 16) (x : Word) (bad : Fin 4), let r := s.doorbell i.toNat d.val x.toNat bad.val
      Does (.doorbellWrite i v d x bad) s ((r.1.setVc (vkey i.toNat v.val) (fun c => { c with acks := Map.put c.acks d.val (BitVec.ofNat 64 r.2) })).chSync)) ∧
    (∀ (c : Cmd) (bad : Fin 4), s.starts 0x0308 c →
      (c.pay.length = 0 ∨ c.pay.length % 32 ≠ 0 ∨ 126 * 32 < c.pay.length → Does (.channelSubmit bad) s ((s.finish c stBAD_PARAM).chSync)) ∧
      (0 < c.pay.length → c.pay.length % 32 = 0 → c.pay.length ≤ 126 * 32 → Does (.channelSubmit bad) s (((s.mirrorCmd c).longPhase c 0 0 []).chSync))) ∧
    (∀ (c : Cmd) (bad : Fin 4) (y : State) (ack : Nat), s.startedCmd 0x0308 = none → s.mp.cmds.filter (fun (c : Cmd) => c.op == 0x0308 && c.phase == 3) = [c] → s.curCmd c = c →
      s.submit 512 0 (.host c.pay) 0 bad.val = (y, ack) → ack % 2 ^ 43 ≠ 0 →
      Does (.channelSubmit bad) s ((y.finish (y.curCmd c) stACCEPTED [ack % 2 ^ 32, ack / 2 ^ 32]).chSync)) ∧
    (∀ (n : Fin 16) (host : List (List Byte)) (bad : Fin 4) (t : Txn) (l : List Txn), s.chOn = true → s.rf CH_PROC_STAT_STATE n.val = 0 → s.rf CH_PROC_STAT_ACTIVE n.val < 64 →
      s.takeable n.val = t :: l →
      (t.host = true → Does (.chainCheck n host ⟨bad, false⟩) s ((s.checkChain t (host.map byteNats) bad.val).chSync)) ∧
      (∀ y i x, t.host = false → s.grant 0 (((t :: l).filter (fun x => !x.host)).map (fun x => (x.inst, 1))).eraseDups (16 + n.val) = (y, some i) →
        (t :: l).find? (fun x => !x.host && x.inst == i) = some x →
        Does (.chainCheck n host ⟨bad, false⟩) s (((y.refundToken 0 i).checkChain x (host.map byteNats) bad.val).chSync))) ∧
    (∀ (tid : Word) (bad : Fin 4) (t : Txn), s.txn tid.toNat = some t → s.chOn = true → s.drives = true → t.state = 3 → t.begun = false → t.flush = false → t.cancel = 0 →
      s.procUp t.chan = true → s.released t = true → (t.host || s.eligible 0 t.inst 1) = true →
      let x := if t.host then s else s.chargeTokens 0 t.inst 1
      let d := fun (l : List Seg) => { t with state := 3, begun := true, segs := l, off := 0, jOff := 0, jAt := x.now, acked := 0, sent := 0, tries := 0, peer := 0, run := t.cce }
      (ccOp (t.ccs.getD t.cce 0) = 0x30 → Does (.dispatch tid ⟨bad, false⟩) s ((x.doneCce t 1 1 0 bad.val).chSync)) ∧
      (ccOp (t.ccs.getD t.cce 0) = 0x11 → Does (.dispatch tid ⟨bad, false⟩) s ((x.jrn (d []) 3 bad.val).chSync)) ∧
      (∀ g, ccOp (t.ccs.getD t.cce 0) = 0x01 → x.mkSegs t = [g] → Does (.dispatch tid ⟨bad, false⟩) s (((x.putTxn (d [g])).dispatchSeg tid.toNat 0 bad.val).chSync))) ∧
    (∀ (tid : Word) (far : FarEnd) (bad : Fin 4) (t : Txn), s.txn tid.toNat = some t → s.chOn = true → s.procUp t.chan = true → t.state = 3 → t.flush = false → t.begun = true → t.segs ≠ [] →
      Does (.cceOutcome tid far ⟨bad, false⟩) s ((s.ringOutcome t bad.val).chSync)) ∧
    (∀ (tid : Word) (host : List Byte) (far : FarEnd) (bad : Fin 4) (t : Txn), s.txn tid.toNat = some t → s.chOn = true → s.drives = true → s.procUp t.chan = true → t.state = 3 →
      t.begun = true → t.flush = false →
      (t.cancel ≠ 0 → s.chanKind t.chan = 1 ∨ s.chanKind t.chan = 2 → Does (.dataChunk tid host far ⟨bad, false⟩) s ((s.stopData t bad.val).chSync)) ∧
      (∀ u, t.cancel = 0 → s.chanKind t.chan = 1 → s.chunkPaid t = some u →
        Does (.dataChunk tid host far ⟨bad, false⟩) s ((u.pciChunk t (byteNats host) far bad.val).chSync)) ∧
      (t.cancel = 0 → s.chanKind t.chan = 2 → ccOp (t.ccs.getD t.cce 0) = 0x20 → s.nsendPart t ≠ [] →
        (s.nsendFresh t = false → Does (.dataChunk tid host far ⟨bad, false⟩) s ((s.nsendChunk t (byteNats host) bad.val).chSync)) ∧
        (∀ u, s.nsendFresh t = true → s.chunkPaid { t with off := t.sent } = some u →
          Does (.dataChunk tid host far ⟨bad, false⟩) s ((u.nsendChunk t (byteNats host) bad.val).chSync)))) ∧
    (∀ (tid : Word) (bad : Fin 4) (t : Txn), s.txn tid.toNat = some t → s.chOn = true → s.procUp t.chan = true → t.state = 3 → t.begun = true → s.chanKind t.chan = 3 → t.cancel = 0 →
      let c := t.ccs.getD t.cce 0
      let j := dfld (s.cdef t.chan) 4 8 0
      let n := min 16384 (ccDataLen c - t.off)
      (s.ist j = 0 → Does (.loopChunk tid ⟨bad, false⟩) s ((s.failCce t 0xD t.off bad.val).chSync)) ∧
      (∀ u y z bs r, s.ist j = 1 ∨ s.ist j = 2 → s.ch.dead.contains t.chan = false → s.chunkPaid t = some u → ccOp c ≠ 0x11 → u.pwBytes t c n [] = (y, .ok bs) →
        y.ioWrite (u.chanOrg t.chan) j (y.gen j) (dfld (s.cdef t.chan) 8 45 0 + ccArg c + t.off) n (ofBytes bs) = (z, .ok r) → ccDataLen c ≤ t.off + n →
        Does (.loopChunk tid ⟨bad, false⟩) s ((z.doneCce { t with off := t.off + n } 1 1 (t.off + n) bad.val).chSync))) ∧
    (∀ (tid : Word) (bad : Fin 4) (t : Txn), s.txn tid.toNat = some t → t.state = 4 → s.chOn = true → s.drives = true → s.procUp t.chan = true →
      (t.segs.all (fun g => g.st == 3 || g.st == 5) = true → Does (.commitRepeat tid ⟨bad, false⟩) s ((s.committed t bad.val).chSync)) ∧
      (∀ g u, t.segs = [g] → g.st ≠ 3 → g.st ≠ 5 → s.now < g.prepAt + dfld (s.cdef t.chan) 8 15 0 * 1000000 →
        (s.port g.port).reqs.any (fun r => r.tid == tid.toNat && r.seg == 0) = false → (s.frTake g.port (g.req tid.toNat 0 5)).txn tid.toNat = some u →
        Does (.commitRepeat tid ⟨bad, false⟩) s (((s.frTake g.port (g.req tid.toNat 0 5)).committed u bad.val).chSync)))

/-- Completions (11 R436, R439, R441, R442, R484, R485, R830): the oldest final transaction of its queue is posted and retired, a refused write waits 1 ms and is tried again;
the Operator Host's ring is enabled and its head moved within what is posted. -/
def Obligations.CompletionsArePosted : Prop :=
  ∀ (s : State), s.powered = true →
    (∀ (tid : Word) (bad : Fin 4) (t : Txn), s.txn tid.toNat = some t → t.state = 5 → t.orphan = false → s.jrnOn = true → s.isStandby = false → s.txnStale t = false →
      s.firstFinal t = true →
      (t.host = true → s.rb CH_HOST_CQ_CFG_EN = true → s.mp.busMaster = true →
        let lg := s.rf CH_HOST_CQ_CFG_SIZE
        let tail := ptrPos (s.reg rCH_HOST_CQ_TAIL 0) lg
        let n := ptrDist (ptrPos (s.reg rCH_HOST_CQ_HEAD 0) lg) tail lg
        n < 2 ^ lg →
        let y := (((s.hostWrite (s.rf CH_HOST_CQ_BASE_BASE * 64 + tail % 2 ^ lg * 32) (toBytes t.entry 32)).1.wreg rCH_HOST_CQ_TAIL 0 (ptrVal (tail + 1) lg)).raise 0x299)
        Does (.completionWrite tid ⟨bad, false⟩) s (((y.when (n + 1 == 2 ^ lg) (fun x => x.raise 0x29A)).retire t bad.val).chSync)) ∧
      (∀ y, t.host = false → t.notBefore ≤ s.now → s.cplTry (s.chanOrg t.chan) t.inst t.gen 0 t.queue t.entry = (y, .posted) → Does (.completionWrite tid ⟨bad, false⟩) s ((y.retire t bad.val).chSync)) ∧
      (∀ y, t.host = false → t.notBefore ≤ s.now → s.cplTry (s.chanOrg t.chan) t.inst t.gen 0 t.queue t.entry = (y, .refused) →
        Does (.completionWrite tid ⟨bad, false⟩) s ((y.putTxn { t with notBefore := y.now + 1000000 }).chSync))) ∧
    (∀ (i : BitVec 9) (cls : Fin 3) (d : Fin 16) (bad : Fin 4), cls.val ≠ 0 → Does (.completionRetry i cls d bad) s ((s.cplFlush i.toNat cls.val d.val).chSync)) ∧
    (∀ (i : BitVec 9) (d : Fin 16) (bad : Fin 4) (t : Txn),
      s.ch.txns.find? (fun (t : Txn) => t.state == 5 && !t.orphan && !t.host && t.inst == i.toNat && t.queue == d.val && decide (t.notBefore ≤ s.now) && s.firstFinal t) = some t →
      Does (.completionRetry i 0 d bad) s ((s.completionWrite t true bad.val).chSync)) ∧
    (∀ (v : Word), s.rb CH_HOST_CQ_CFG_EN = false → bit v.toNat 63 = true → 6 ≤ bits v.toNat 4 0 → bits v.toNat 4 0 ≤ 16 →
      Does (.hostCqEnable v) s ((((s.sf CH_HOST_CQ_CFG_SIZE (bits v.toNat 4 0)).sf CH_HOST_CQ_CFG_EN (bits v.toNat 63 63)).wreg rCH_HOST_CQ_TAIL 0 0).wreg rCH_HOST_CQ_HEAD 0 0)) ∧
    (∀ (a : Agent) (v : Word),
      let lg := s.rf CH_HOST_CQ_CFG_SIZE
      let tail := ptrPos (s.reg rCH_HOST_CQ_TAIL 0) lg
      let head := ptrPos (s.reg rCH_HOST_CQ_HEAD 0) lg
      (bits v.toNat 15 0 < 2 ^ lg → ptrDist head (ptrPos v.toNat lg) lg ≤ ptrDist head tail lg →
        Does (.hostCqHeadWrite a v) s (s.wreg rCH_HOST_CQ_HEAD 0 (v.toNat % 2 ^ 17))) ∧
      (ptrDist head tail lg < ptrDist head (ptrPos v.toNat lg) lg → Does (.hostCqHeadWrite a v) s (s.regAccess (agentOrg a) (rCH_HOST_CQ_HEAD.addr 0) 8 true)))

/-- The Journal (11 R447, R449, R450, R470, R471, R473): carries and superblocks, a replay of a sound Journal ends Ready, orphans are reported and acknowledged, and a failed processor's
transactions go to the next one.
The Journal's trim keeps the latest entry of every transaction that is not retired (11 R447, R450): what leaves the ring at its tail is never what a replay would stand on. -/
def Obligations.JournalCommandsAndTrimKeepTransactions : Prop :=
  (
    ∀ (s : State), s.powered = true →
      (∀ (bad : Fin 4) (e : JEnt) (r : List JEnt) (t : Txn), s.jrnOn = true → s.ch.ring = e :: r → 519168 < s.ch.ring.length + 4096 → s.txn e.tid = some t →
        Does (.carry bad) s ((s.jrn t 8 bad.val).chSync)) ∧
      (s.jrnOn = true → s.ch.supB.count < s.ch.supA.count → s.ch.supA.tail ≠ s.ch.tail →
        Does .superblockRewrite s { s with ch := { s.ch with supB := ⟨s.ch.supA.count + 1, s.ch.tail, (s.ch.ring.head?.map (·.jsn)).getD s.ch.jsn, true⟩ } }) ∧
      (s.jrnOn = true → s.ch.supA.count ≤ s.ch.supB.count → s.ch.supB.tail ≠ s.ch.tail →
        Does .superblockRewrite s { s with ch := { s.ch with supA := ⟨s.ch.supB.count + 1, s.ch.tail, (s.ch.ring.head?.map (·.jsn)).getD s.ch.jsn, true⟩ } }) ∧
      (s.rf CH_STAT_JOURNAL = 1 → 2 ≤ s.rf CH_REPLAY_TRIGGER →
        let y := (s.replayStart (s.rf CH_REPLAY_TRIGGER) 0 s.ch.txns.length).sf CH_ORPHAN_COUNT (s.ch.txns.filter (fun (t : Txn) => t.orphan)).length
        Does (.replay []) s ((((y.ch.txns.foldl (fun (x : State) t => x.replayTxn (s.rf CH_REPLAY_TRIGGER) t) y).sf CH_STAT_JOURNAL 0).jrnSync.replayEnd).chSync)) ∧
      (∀ (n : Fin 16), s.rf CH_PROC_STAT_STATE n.val = 0 → s.recoveries (org 8 n.val) < s.rf FC_CFG_RECOV_LIMIT →
        let l := (s.setUnit (org 8 n.val) (fun u => { u with st := 1 })).txnsOf n.val
        let y := (((s.setUnit (org 8 n.val) (fun u => { u with st := 1 })).sf CH_PROC_STAT_STATE 1 n.val).raise (0x280 + n.val)).report
          { org := org 8 n.val, cause := 0x0802, cls := ochre, react := 5 }
        let z := ((((y.sf CH_ELOG_VALID 1).sf CH_ELOG_KIND 4).sf CH_ELOG_PROC n.val).sf CH_ELOG_ENTRY 0).raise 0x292
        Does (.channelProcessorRetirement n) s ((((z.chSync.replayStart 4 0 l.length).each l State.resumeTxn).replayEnd).chSync)) ∧
      (∀ (c : Cmd), s.starts 0x0306 c →
        Does .journalReport s ((s.mirrorCmd c).longPhase c 2 (s.rf CH_ORPHAN_COUNT) ((s.orphans.map (fun (t : Txn) => t.tid)).take (c.p64 2 / 32)))) ∧
      (∀ (c : Cmd) (bad : Fin 4) (t : Txn), s.starts 0x0307 c → s.orphans = [t] → t.tid = c.p64 0 →
        let y := s.retire t bad.val
        Does (.journalAck bad) s (((y.sf CH_ORPHAN_COUNT (y.rf CH_ORPHAN_COUNT - 1)).chSync.mirrorCmd c).finish c stOK [1]))) ∧
  (
    ∀ (r : List JEnt) (tid : Nat) (e : JEnt), latestOf r tid = some e → e.kind ≠ 7 → latestOf (trimRing r).2 tid = some e ∧ (trimRing r).1 + (trimRing r).2.length = r.length)

/-- NET transfers and the channel commands (11 R421-R425, R436, R455-R457, R466): datagrams and acknowledgements of the session are taken in turn, others are discarded and counted;
an expired RTO sends again or fails; channels are defined, queried and undefined, transactions queried and cancelled. -/
def Obligations.ChannelsFollowTheirCommands : Prop :=
  ∀ (s : State), s.powered = true →
    (∀ (bad : Fin 4) (x : Dgram) (rest : List Dgram), takeDgram false s.ch.inbox = (some x, rest) →
      let y := { s with ch := { s.ch with inbox := rest } }
      (y.netOk x = false → Does (.datagramReceive ⟨bad, false⟩) s ((y.bump rCH_NET_DISC).chSync)) ∧
      (y.netOk x = true → (Map.getD y.ch.sess x.chan []).contains (ofBytes ((x.bytes.drop 8).take 8)) = true →
        Does (.datagramReceive ⟨bad, false⟩) s ((y.netAck x.chan (ofBytes ((x.bytes.drop 8).take 8)) (ofBytes ((x.bytes.drop 16).take 8) + (x.bytes.drop 24).length)).chSync)) ∧
      (∀ t z, y.netOk x = true → (Map.getD y.ch.sess x.chan []).contains (ofBytes ((x.bytes.drop 8).take 8)) = false →
        (Map.find y.ch.inbound x.chan).any (fun p => p.1 == ofBytes ((x.bytes.drop 8).take 8)) = false →
        let peer := ofBytes ((x.bytes.drop 8).take 8)
        let off := ofBytes ((x.bytes.drop 16).take 8)
        y.nrecvFor x.chan peer (off == 0 && bit (x.bytes.getD 2 0) 0) = some t → off = t.off → bit (x.bytes.getD 2 0) 1 = true →
        t.off + (x.bytes.drop 24).length ≤ ccLen (t.ccs.headD 0) → y.chOn = true → y.procUp x.chan = true →
        let data := (x.bytes.drop 24).take (ccLen (t.ccs.headD 0) - t.off)
        let cost := y.nrecvCost t data.length
        y.eligible 0 t.inst cost = true → (y.chargeTokens 0 t.inst cost).ownWrite t (ccAddr (t.ccs.headD 0) + t.off) data = (z, .ok ()) →
        let a := z.netAck x.chan peer (off + (x.bytes.drop 24).length)
        let b := { a with ch := { a.ch with sess := Map.put a.ch.sess x.chan ((Map.getD a.ch.sess x.chan [] ++ [peer]).reverse.take 64).reverse } }
        Does (.datagramReceive ⟨bad, false⟩) s ((b.doneCce { t with peer := peer, off := t.off + data.length } 1 1 (t.off + data.length) bad.val).chSync))) ∧
    (∀ (bad : Fin 4) (x : Dgram) (rest : List Dgram) (t : Txn), takeDgram true s.ch.inbox = (some x, rest) →
      let y := { s with ch := { s.ch with inbox := rest } }
      let n := ofBytes ((x.bytes.drop 16).take 8)
      (y.netOk x = false → Does (.ackReceive ⟨bad, false⟩) s ((y.bump rCH_NET_DISC).chSync)) ∧
      (y.netOk x = true → y.txn (ofBytes ((x.bytes.drop 8).take 8)) = some t → t.chan = x.chan → t.state = 3 → t.begun = true → ccOp (t.ccs.getD t.cce 0) = 0x20 → t.acked < n →
        ccLen (t.ccs.getD t.cce 0) ≤ n →
        let m := ccLen (t.ccs.getD t.cce 0)
        Does (.ackReceive ⟨bad, false⟩) s ((y.doneCce { t with acked := min n m, sent := max t.sent (min n m), tries := 0, off := min n m } 1 1 (min n m) bad.val).chSync))) ∧
    (∀ (tid : Word) (bad : Fin 4) (t : Txn), s.txn tid.toNat = some t → t.state = 3 → t.begun = true → ccOp (t.ccs.getD t.cce 0) = 0x20 → s.chOn = true → s.procUp t.chan = true → t.acked < t.sent →
      (dfld (s.cdef t.chan) 0x34 7 0 ≤ t.tries → Does (.rtoExpiry tid ⟨bad, false⟩) s ((s.failCce t 0xC t.acked bad.val).chSync)) ∧
      (t.tries < dfld (s.cdef t.chan) 0x34 7 0 → Does (.rtoExpiry tid ⟨bad, false⟩) s (((s.bump rCH_RESEND_CNT).putTxn { t with sent := t.acked, tries := t.tries + 1 }).chSync))) ∧
    (∀ (c : Cmd), s.starts 0x0301 c → c.pay.length = 64 →
      let d := ofBytes c.pay
      let n := d % 1024
      s.rf CH_CHAN_STATE n = 0 → s.defOk d = true →
      let y := { s with ch := { s.ch with defs := Map.put s.ch.defs n d, peers := Map.del s.ch.peers n } }
      let z := (((y.sf CH_CHAN_KIND (dfld d 0 15 12) n).sf CH_CHAN_HOST (dfld d 0 25 25) n).sf CH_CHAN_OWNER (dfld d 0 24 16) n).setChanState n 1
      Does .channelDefine s (((z.when (dfld d 0 15 12 == 2) (fun x => x.arpAsk n)).chSync.mirrorCmd c).finish c stOK)) ∧
    (∀ (c : Cmd), s.starts 0x0302 c →
      (s.rf CH_CHAN_STATE (c.p 0) = 0 → Does .channelUndefine s (s.finish c stOK)) ∧
      (s.rf CH_CHAN_STATE (c.p 0) ≠ 0 → Does .channelUndefine s (((s.setChanState (c.p 0) 2).mirrorCmd c).longPhase c 2 (s.chanLeft (c.p 0)) []))) ∧
    (∀ (c : Cmd), s.startedCmd 0x0302 = none → s.mp.cmds.filter (fun (c : Cmd) => c.op == 0x0302 && c.phase == 3) = [c] → s.curCmd c = c → s.chanLeft (c.p 0) = 0 →
      Does .channelUndefine s ((s.chanGone (c.p 0)).finish { c with lop := { c.lop with pos := c.lop.total } } stOK)) ∧
    (∀ (c : Cmd) (y : State), s.starts 0x0303 c → c.sender = 0 → s.bufWrite c (c.p64 1) (toBytes (s.cdef (c.p 0)) 64) = (y, true) →
      Does .channelQuery s (y.finish c stOK [y.reg rCH_CHAN (c.p 0) % 2 ^ 32, y.reg rCH_CHAN (c.p 0) / 2 ^ 32])) ∧
    (∀ (c : Cmd), s.starts 0x0304 c →
      (mayTxn c (c.p64 0) = false → Does .txnQuery s (s.finish c stDENIED)) ∧
      (mayTxn c (c.p64 0) = true → s.txn (c.p64 0) = none → Does .txnQuery s (s.finish c stOK [0, 0])) ∧
      (∀ t, mayTxn c (c.p64 0) = true → s.txn (c.p64 0) = some t →
        Does .txnQuery s (s.finish c stOK [t.state, if t.state = 5 then t.fin + t.reason * 256 else 0]))) ∧
    (∀ (c : Cmd), s.startedCmd 0x0305 (fun c => c.lop.items.isEmpty) = some c → (∃ o, opInfo 0x0305 = some o ∧ paramsNamed o c.ps = true) →
      let y := s.mirrorCmd c
      mayTxn c (c.p64 0) = true →
      (y.txn (c.p64 0) = none → Does .txnCancel s ((y.finish c stOK [2]).chSync)) ∧
      (∀ t, y.txn (c.p64 0) = some t → 4 ≤ t.state → Does .txnCancel s ((y.finish c stOK [1]).chSync)) ∧
      (∀ t u, y.txn (c.p64 0) = some t → t.state < 4 → t.cancel = 0 → (y.jrn { t with cancel := 1 } 9 0).txn t.tid = some u → u.state < 3 →
        Does .txnCancel s ((((y.jrn { t with cancel := 1 } 9 0).finalTxn u 2 0 0).finish c stOK [0]).chSync)))

/-- What a ring port does (12 R492, R493, R509, R511, R519, R520): a cycle begins with the next number on the path that reception gives; a slot frame that fits its window is
used, a broken one is counted; a window's close ends the late requests; a lost side, a heal and a listener's slots are taken as such. -/
def Obligations.RingPortsRunTheirCycles : Prop :=
  ∀ (s : State) (p : Fin 32) (a : Fin 256) (n : NodeCfg), s.powered = true → (s.port p.val).cfg a.val = some n →
    (∀ (v : RingSeen), s.drives = true → s.rf FR_STAT_ROLE p.val = 2 → (s.port p.val).switchAt = none → (s.port p.val).healAt = none →
      ∃ u : State, Does (.cycleStart p v) s u.chSync ∧ u.rf FR_CYCLE_CYCLE p.val = (s.rf FR_CYCLE_CYCLE p.val + 1) % 2 ^ 64 ∧ u.rf FR_LOOP_LOOP_NS p.val = v.loopNs.toNat ∧
        (u.port p.val).used = [] ∧ (u.port p.val).heard = [] ∧ (u.port p.val).closed = []) ∧
    (∀ (sideN : Bool) (viol edge : BitVec 16) (frame : List Byte), s.rf FR_STAT_ROLE p.val = 2 → (s.port p.val).closed.contains a.val = false →
      (viol ≠ 0 → Does (.slotFrameReceive p a sideN viol edge frame) s
        (((s.bump (if sideN then rFR_CODE_ERR_N else rFR_CODE_ERR_P) p.val viol.toNat).frElog p.val 4 a.val 0).chSync)) ∧
      (viol = 0 → (parseSlot (byteNats frame)).crcOk = false →
        Does (.slotFrameReceive p a sideN viol edge frame) s (((s.bump rFR_CRC_ERR p.val).frElog p.val 0 a.val 0).chSync)) ∧
      (viol = 0 → edge = 0 → (s.port p.val).heard.contains a.val = false →
        let h := parseSlot (byteNats frame)
        let i := nodeIdx p.val a.val
        let x := s.setPort p.val (fun q => { q with heard := q.heard ++ [a.val] })
        let y := (x.sf FR_NODE_EDGE_NS 0 i).sf FR_NODE_EDGE_MAX_NS (max (x.rf FR_NODE_EDGE_MAX_NS i) 0) i
        h.crcOk = true → h.flag 5 = false → h.flag 1 = false → y.rf FR_NODE_STATE i = 2 → y.slotFits p.val a.val n h = true → (y.useSlot p.val a.val n h).rf FR_NODE_STATE i = 2 →
        Does (.slotFrameReceive p a sideN viol edge frame) s ((y.useSlot p.val a.val n h).chSync))) ∧
    (s.rf FR_STAT_ROLE p.val = 2 → (s.port p.val).closed.contains a.val = false → (s.port p.val).used.contains a.val = true →
      let x := s.setPort p.val (fun q => { q with closed := q.closed ++ [a.val] })
      (x.frDeadline p.val a.val).isLastSlot p.val a.val = false → Does (.slotWindowClose p a) s ((x.frDeadline p.val a.val).chSync)) ∧
    (∀ (sideN : Bool), Does (.portInputLoss p sideN) s (s.setPort p.val (fun q => if sideN then { q with lostN := true } else { q with lostP := true }))) ∧
    (s.rf FR_STAT_ROLE p.val = 2 → 2 ≤ s.rf FR_STAT_PATH p.val → s.rf FR_STAT_PATH p.val ≤ 5 → s.rf FR_CFG_HEAL_MS p.val ≠ 0 → (s.port p.val).healAt = none →
      (s.port p.val).switchAt = none → (s.loopedNodes p.val).all (fun a => (s.port p.val).restored.contains a) = true →
      Does (.heal p true true) s (s.setPort p.val (fun q => { q with healAt := some ((s.rf FR_CYCLE_CYCLE p.val + 4) % 2 ^ 32) }))) ∧
    (∀ (sync frame : List Byte), s.rf FR_STAT_ROLE p.val = 3 → sync.length = 68 → crc32c ((byteNats sync).take 64) = ofBytes ((byteNats sync).drop 64) →
      bit ((byteNats sync).getD 1 0) 0 = false → bit ((byteNats sync).getD 1 0) 1 = false → ofBytes (((byteNats sync).drop 8).take 8) = s.rf FR_CYCLE_CYCLE p.val → (s.port p.val).heard.contains a.val = false →
      (s.port p.val).closed.contains a.val = false →
      let h := parseSlot (byteNats frame)
      let x := s.setPort p.val (fun q => { q with heard := q.heard ++ [a.val] })
      h.crcOk = true → x.slotFits p.val a.val n h = true →
      Does (.listenerSlotReceive p a sync frame) s (((((x.bump rFR_SLOT_OK p.val).pmEvent 0x0901 p.val).setPort p.val (fun q => { q with used := q.used ++ [a.val] })).slotWords
        p.val a.val (duePts n.pts (s.rf FR_CYCLE_CYCLE p.val)) h.words).slotFlags (nodeIdx p.val a.val) p.val h))

/-- What a node does (12 R492, R500, R502-R504, R507, R516) and how a port is commissioned (12 R525): it takes the sync frame and its messages, sends its slot, loops a lost side,
puts its outputs in the safe action when nothing more arrives, and lets prepared values expire. -/
def Obligations.RingNodesActOnTheirInputs : Prop :=
  ∀ (s : State) (p : Fin 32) (a : Fin 256) (n : NodeSt), s.powered = true → s.node (p.val * 256 + a.val) = some n →
    let k := p.val * 256 + a.val
    (∀ (sync outb roll : List Byte) (m : NodeMaker), sync.length = 68 → crc32c ((byteNats sync).take 64) = ofBytes ((byteNats sync).drop 64) → (byteNats sync).getD 0 0 = 1 →
      (byteNats sync).getD 1 0 = 0 → n.ref = none → n.afterSwitch = none →
      let c := ofBytes (((byteNats sync).drop 8).take 8)
      let due := match n.sched with | some x => x.ver == ofBytes (((byteNats sync).drop 4).take 2) | none => false
      let t := { n with ref := some (c, ofBytes (((byteNats sync).drop 6).take 2) % 2), skip := false, sendDue := due, muted := bit (ofBytes (((byteNats sync).drop 32).take 32)) a.val, missed := n.missed + 1 }
      Does (.nodeSyncReceive p a sync outb roll m) s (s.putNode k (t.messages a.val m s.now (byteNats outb)))) ∧
    (∀ (samples : List (BitVec 32)) (x : NodeSched) (c r : Nat), n.sched = some x → n.ref = some (c, r) → n.sendDue = true → n.skip = false → n.muted = false →
      ∃ f, Does (.nodeSlotSend p a samples) s
        ((s.putNode k { n with sendDue := false, conflict := false, restarted := n.restarted - 1, replies := (fitFirst n.replies (4 * x.rb4)).2 }).emit (.node p.val a.val 3 c f)) ∧
        f.take 1 = [a.val] ∧ f.drop (f.length - 4) = toBytes (crc32c (f.take (f.length - 4))) 4) ∧
    Does (.nodeSyncTimeout p a) s (s.putNode k { n with sendDue := false, missed := n.missed + 1 }) ∧
    (∀ (sideN : Bool), Does (.nodeInputLoss p a sideN) s (s.putNode k
      { n with lost := n.lost ||| (if sideN then 1 else 2), looped := n.looped ||| (if sideN then 1 else 2), silentUntil := s.now + 100000, restored := false })) ∧
    (n.looped ≠ 0 → Does (.nodeInputRestored p a) s (s.putNode k { n with lost := 0, restored := true })) ∧
    (n.preps = [] → ∃ t : NodeSt, Does (.nodePowerUp p a) s (s.putNode k t) ∧ t.words = [] ∧ t.sched = n.sched ∧ t.wins = n.wins ∧ t.ref = none ∧ t.sendDue = false ∧ t.muted = false ∧
      t.restarted = 16 ∧ t.looped = 0 ∧ t.maint = false ∧ t.replies = []) ∧
    (∀ x, n.sched = some x → x.hold ≤ n.missed → Does (.outputHoldExpiry p a) s (s.putNode k { n with words := [] })) ∧
    (∀ (source seq : BitVec 16), n.preps.any (fun e => e.source == source.toNat && e.seq == seq.toNat && e.phase == 1) = true →
      Does (.prepareHoldExpiry p a source seq) s (s.putNode k (n.prepPhase source.toNat seq.toNat 4))) ∧
    (∀ (c : Cmd) (table roll : List Byte), s.starts 0x0310 c → c.src < 1000 → s.rf FR_STAT_ROLE (c.p 0 % 32) = 3 →
      let q := c.p 0 % 32
      Does (.ringCommission table roll) s ((((s.sf FR_COMM_RESULT 7 q).sf FR_COMM_NODE 0 q).finish c stDENIED [7, 0]).chSync)) ∧
    (∀ (c : Cmd) (table roll : List Byte) (m : Comm), s.startedCmd 0x0310 = none → s.mp.cmds.filter (fun (c : Cmd) => c.op == 0x0310 && c.phase == 3) = [c] → s.curCmd c = c →
      let q := c.p 0 % 32
      (s.port q).comm = some m →
      (s.rf FR_COMM_STEP q = 1 → Does (.ringCommission table roll) s (((s.setPort q (fun q => { q with discover := true })).commStep q c 2 1).chSync)) ∧
      (s.rf FR_COMM_STEP q = 2 → Does (.ringCommission table roll) s (((s.commStep q c 3 2).commCheck q c m (parseRolls (byteNats roll))).chSync)) ∧
      (s.rf FR_COMM_STEP q = 6 → 16 ≤ m.good → Does (.ringCommission table roll) s ((s.commEnd q c stOK 1 0).chSync)))

/-- A node performs a request at most once (12 R515): the same REQUEST message received again, later and however the node's maker then answers, changes no output. -/
def Obligations.RepeatedRequestsActOnce : Prop :=
  ∀ (n : NodeSt) (m m' : NodeMaker) (now now' : Nat) (b : List Nat), ofBytes ((b.drop 4).take 1) ≠ 5 → ofBytes ((b.drop 4).take 1) ≠ 6 →
    ((n.request m now b).request m' now' b).words = (n.request m now b).words ∧ ((n.request m now b).request m' now' b).maint = (n.request m now b).maint

/-- Instances come and go (13 R540, R545, R547, R549, R565, R567, R568, R546): creation sets the record, the tables and the places of the virtual cores; a start runs them from ENTRY,
or resumes a Frozen instance; a reset, a freeze and a destroy take their steps to their ends. -/
def Obligations.InstancesFollowTheirLifecycle : Prop :=
  ∀ (s : State), s.powered = true →
    (∀ (v : Via) (t : State) (c : Cmd), s.startsVia v 0x0101 (fun _ => true) t c →
      ((t.ist c.inst ≠ 0 ∨ t.fromSecure c ≠ bit (c.p 0) 0 ∨ (bit (c.p 0) 0 = true ∧ t.tainted = true)) → Does (.instanceCreate v) s (t.finish c stDENIED)) ∧
      (t.ist c.inst = 0 → t.fromSecure c = bit (c.p 0) 0 → (bit (c.p 0) 0 = true → t.tainted = false) → createOk c = false → Does (.instanceCreate v) s (t.finish c stBAD_PARAM)) ∧
      (∀ (y z : State), t.ist c.inst = 0 → t.fromSecure c = bit (c.p 0) 0 → (bit (c.p 0) 0 = true → t.tainted = false) → createOk c = true → (t.newInst c).newTables c.inst = some y →
        (y.placeAll c.inst (bits (c.p 0) 22 16) = none → Does (.instanceCreate v) s (t.finish c stNO_RESOURCE)) ∧
        (y.placeAll c.inst (bits (c.p 0) 22 16) = some z → Does (.instanceCreate v) s ((z.mirrorCmd c).finish c stOK [z.gen c.inst])))) ∧
    (∀ (v : Via) (t : State) (c : Cmd), s.startsVia v 0x0102 (fun _ => true) t c → t.wrongWorld c = false →
      (t.ist c.inst = 5 → Does (.instanceStart v) s (((t.resumeInst c.inst).mirrorCmd c).finish c stOK)) ∧
      (t.ist c.inst ≠ 5 → t.ist c.inst ≠ 1 → Does (.instanceStart v) s (t.finish c stDENIED)) ∧
      (t.ist c.inst = 1 → c.p64 0 % 4 ≠ 0 → Does (.instanceStart v) s (t.finish c stBAD_PARAM)) ∧
      (t.ist c.inst = 1 → c.p64 0 % 4 = 0 → Does (.instanceStart v) s (((t.startCores c.inst (c.p64 0) (c.p64 2)).mirrorCmd c).finish c stOK))) ∧
    (∀ (v : Via) (t : State) (c : Cmd), s.startsVia v 0x0103 (fun _ => true) t c → t.wrongWorld c = false →
      ((t.ist c.inst = 0 ∨ t.ist c.inst = 8) → Does (.instanceReset v) s (t.finish c stDENIED).chSync) ∧
      (t.ist c.inst = 3 → bit (c.p 0) 0 = false → Does (.instanceReset v) s (t.longPhase c 2 7 [1]).chSync) ∧
      (∀ (y : State) (a b g : Nat), (t.ist c.inst = 1 ∨ t.ist c.inst = 2 ∨ t.ist c.inst = 4 ∨ t.ist c.inst = 5) → bit (c.p 0) 0 = false →
        (t.abortOps c.inst).resetCore c.inst (if c.sender = c.inst + 1 then 3 else 1) 3 = (y, a, b, g) → Does (.instanceReset v) s (y.longPhase (y.curCmd c) 2 7 [0, a, b, g]).chSync)) ∧
    (∀ (c : Cmd) (k a b g : Nat), s.startedCmd 0x0103 = none → s.mp.cmds.filter (fun (d : Cmd) => d.op == 0x0103 && d.phase == 3) = [c] → (s.curCmd c).lop.items = [k, a, b, g] →
      s.ist (s.curCmd c).inst = 3 → bit ((s.curCmd c).p 0) 0 = false →
      let i := (s.curCmd c).inst
      Does (.instanceReset .packet) s (((s.mirrorCmd (s.curCmd c)).resetEnd i a b g none).resetReplies i).chSync) ∧
    (∀ (v : Via) (t : State) (c : Cmd), s.startsVia v 0x0104 (fun _ => true) t c → t.wrongWorld c = false →
      ((c.p 0 = 0 ∨ 60000 < c.p 0) → Does (.instanceFreeze v) s (t.finish c stBAD_PARAM)) ∧
      (0 < c.p 0 → c.p 0 ≤ 60000 → t.ist c.inst = 5 → Does (.instanceFreeze v) s (t.finish c stOK)) ∧
      (0 < c.p 0 → c.p 0 ≤ 60000 → t.ist c.inst ≠ 5 → t.ist c.inst ≠ 2 → Does (.instanceFreeze v) s (t.finish c stDENIED)) ∧
      (0 < c.p 0 → c.p 0 ≤ 60000 → t.ist c.inst = 2 →
        let n := t.instOutstanding c.inst
        let x := ((t.flushInst c.inst).endIdleWaits c.inst).sgDrain c.inst
        let y := (x.sf TN_INST_STATE 4 c.inst).setInst c.inst (fun r => { r with freeze := some (x.now + c.p 0 * 1000000, n) })
        Does (.instanceFreeze v) s (((y.holdStreams c.inst true).mirrorCmd c).longPhase c 2 n []))) ∧
    (∀ (i : BitVec 9), s.ist i.toNat = 4 → s.instOutstanding i.toNat = 0 → (∀ v, v < s.vcores i.toNat → (s.vc (vkey i.toNat v)).wait = none) →
      Does (.freezeComplete i) s ((((s.endIdleWaits i.toNat).sf TN_INST_STATE 5 i.toNat).setInst i.toNat (fun r => { r with freeze := none })).freezeReply i.toNat stOK [])) ∧
    (∀ (i : BitVec 9), s.ist i.toNat = 4 → Does (.freezeTimeout i) s ((s.resumeInst i.toNat).freezeReply i.toNat stABORTED [s.instOutstanding i.toNat])) ∧
    (∀ (v : Via) (t : State) (c : Cmd), s.startsVia v 0x0107 (fun _ => true) t c → t.wrongWorld c = false →
      ((t.ist c.inst = 0 ∨ t.ist c.inst = 8) → Does (.instanceDestroy v) s (t.finish c stDENIED).chSync) ∧
      (∀ (y : State) (r : Nat × Nat × Nat), t.ist c.inst ≠ 0 → t.ist c.inst ≠ 3 → t.ist c.inst ≠ 8 → t.longCmd 0x0103 (fun d => d.inst == c.inst && d.lop.items.length == 4) = none →
        (t.abortOps c.inst).resetCore c.inst 1 8 = (y, r) →
        let z := y.chTargetGone c.inst
        let w := (z.each (z.ownedChans c.inst) (fun s n => s.setChanState n 2)).chSync
        Does (.instanceDestroy v) s ((w.mirrorCmd c).longPhase (w.curCmd c) 2 (w.destroyLeft c.inst) []).chSync)) ∧
    (∀ (c : Cmd), s.startedCmd 0x0107 = none → s.mp.cmds.filter (fun (d : Cmd) => d.op == 0x0107 && d.phase == 3) = [c] → s.destroyLeft (s.curCmd c).inst = 0 →
      let d := s.curCmd c
      let y := s.each (s.ownedChans d.inst) (fun s n => s.chanGone n)
      Does (.instanceDestroy .packet) s ((((y.eraseOwned d.inst).endLeasesOf d.inst).instGone d.inst).finish { d with lop := { d.lop with pos := d.lop.total } } stOK).chSync)

/-- Save images and mappings (13 R569, R570, R542, R543, R539): a save writes its header, then one block a step, then its trailer; a restore checks its header, then takes one block a
step, and ends in Frozen; a map puts its leaves and its record in, an unmap takes the one that matches out. -/
def Obligations.ImagesAndMappingsFollowTheirCommands : Prop :=
  ∀ (s : State), s.powered = true →
    (∀ (c : Cmd), s.starts 0x0105 c → s.wrongWorld c = false → s.rb TN_INST_SECURE c.inst = false → s.ist c.inst = 5 →
      (s.rb TN_OP_BUSY = true → Does .instanceSave s (s.finish c stDENIED [s.rf TN_OP_INSTANCE])) ∧
      (s.rb TN_OP_BUSY = false → sinkOk c = true → c.p64 3 < s.imgLen c.inst → Does .instanceSave s (s.finish c stBAD_PARAM [s.imgLen c.inst % 2 ^ 32, s.imgLen c.inst / 2 ^ 32])) ∧
      (s.rb TN_OP_BUSY = false → sinkOk c = true → s.imgLen c.inst ≤ c.p64 3 → s.sinkUp c = true →
        Does .instanceSave s (((((s.sf TN_INST_STATE 6 c.inst).opShow 0 c.inst (s.imgBlocks c.inst)).sinkWrite c 0 (s.imgHeader c.inst)).mirrorCmd c).longPhase c 2 (s.imgBlocks c.inst) []))) ∧
    (∀ (e : Cmd), s.startedCmd 0x0105 = none → s.mp.cmds.filter (fun (d : Cmd) => d.op == 0x0105 && d.phase == 3) = [e] →
      let c := s.curCmd e
      let k := c.lop.items.length / 2
      s.ist c.inst = 6 → c.lop.cancel = false → s.sinkUp c = true →
      (k < s.imgBlocks c.inst →
        let b := s.imgBlock c.inst k
        Does .instanceSave s (((s.sinkWrite c (64 + 65536 * k) b).sf TN_OP_POS_POS (k + 1)).longPos
          { c with lop := { c.lop with items := c.lop.items ++ [crc32c b, s.blockPoison c.inst k] } } (k + 1))) ∧
      (s.imgBlocks c.inst ≤ k →
        let t := (List.range k).flatMap (fun j => toBytes (c.lop.items.getD (2 * j) 0) 4 ++ toBytes (c.lop.items.getD (2 * j + 1) 0) 128)
        Does .instanceSave s ((((s.sinkWrite c (64 + s.imgBody c.inst) t).sf TN_INST_STATE 5 c.inst).opIdle).finish c stOK
          [s.imgLen c.inst % 2 ^ 32, s.imgLen c.inst / 2 ^ 32]))) ∧
    (∀ (c : Cmd) (img : List Byte), s.starts 0x0106 c → s.wrongWorld c = false → s.ist c.inst = 1 → (s.inst c.inst).started = false → s.rb TN_OP_BUSY = false →
      (s.imgMatch c.inst (byteNats img) (c.p64 3) = none → Does (.instanceRestore img) s (s.finish c stBAD_PARAM)) ∧
      (∀ l, sinkOk c = true → s.imgMatch c.inst (byteNats img) (c.p64 3) = some l →
        Does (.instanceRestore img) s ((((s.sf TN_INST_STATE 7 c.inst).opShow 1 c.inst (s.imgBlocks c.inst)).mirrorCmd c).longPhase c 2 (s.imgBlocks c.inst) []))) ∧
    (∀ (e : Cmd) (img : List Byte), s.startedCmd 0x0106 = none → s.mp.cmds.filter (fun (d : Cmd) => d.op == 0x0106 && d.phase == 3) = [e] →
      let c := s.curCmd e
      let k := c.lop.pos
      let raw := byteNats img
      let b := (raw.drop (64 + 65536 * k)).take (min 65536 (s.imgBody c.inst - 65536 * k))
      let t := (raw.drop (64 + s.imgBody c.inst + 132 * k)).take 132
      s.ist c.inst = 7 → c.lop.cancel = false →
      (∀ ms, k < c.lop.total → s.imgMatch c.inst raw (c.p64 3) = some ms → crc32c b ≠ ofBytes (t.take 4) →
        Does (.instanceRestore img) s ((((s.scramble c.inst).sf TN_INST_STATE 1 c.inst).opIdle).finish c stFAULTED [k % 2 ^ 32, k / 2 ^ 32])) ∧
      (∀ ms, k < c.lop.total → s.imgMatch c.inst raw (c.p64 3) = some ms → crc32c b = ofBytes (t.take 4) → s.sinkUp c = true →
        let y := s.loadBlock (ms.filter (fun (m : Mapping) => !bit m.perm 5)) (s.imgStates c.inst) k b (ofBytes (t.drop 4))
        Does (.instanceRestore img) s ((y.sf TN_OP_POS_POS (k + 1)).longPos { c with lop := { c.lop with items := (c.lop.items ++ b).take (s.imgStates c.inst) } } (k + 1))) ∧
      (c.lop.total ≤ k → Does (.instanceRestore img) s (((s.restoreEnd c.inst c.lop.items).opIdle).finish c stOK))) ∧
    (∀ (v : Via) (t : State) (c : Cmd), s.startsVia v 0x0108 (fun _ => true) t c → t.wrongWorld c = false →
      let i := c.inst
      let tp := c.p64 0
      let d := c.p64 2
      let n := c.p64 4
      let f := c.p 6
      (t.ist i ≠ 1 → t.ist i ≠ 2 → t.ist i ≠ 5 → Does (.instanceMap v) s (t.finish c stDENIED)) ∧
      (∀ (y : State), (t.ist i = 1 ∨ t.ist i = 2 ∨ t.ist i = 5) → tp % 4096 = 0 → d % 4096 = 0 → n % 4096 = 0 → 0 < n → tp + n ≤ 2 ^ 46 → t.tenantBusy i (tp / 4096) (n / 4096) = false →
        t.plainPages (d / 4096) (n / 4096) = true → (bit f 1 = true → bit f 0 = true) → (t.rb TN_INST_PROTECTED i = true → bit f 1 = true → bit f 4 = true) →
        (bit f 1 = true → t.writeClash i (d / 4096) (n / 4096) (bit f 5) = false) → (t.fromSecure c = true ∨ t.touchesSecure (d / 4096) (n / 4096) = false) →
        t.s2Map i (tp / 4096) (d / 4096) (n / 4096) (f % 32) (mapLevel (tp / 4096) (d / 4096) (n / 4096)) false = some y →
        Does (.instanceMap v) s (((y.setInst i (fun r => { r with maps := r.maps ++ [⟨tp / 4096, d / 4096, n / 4096, f % 64⟩] })).mirrorCmd c).finish c stOK))) ∧
    (∀ (v : Via) (t : State) (c : Cmd), s.startsVia v 0x0109 (fun _ => true) t c → t.wrongWorld c = false → (t.ist c.inst = 1 ∨ t.ist c.inst = 2 ∨ t.ist c.inst = 5) →
      ((∀ m ∈ (t.inst c.inst).maps, m.tpage * 4096 ≠ c.p64 0 ∨ m.pages * 4096 ≠ c.p64 2) → Does (.instanceUnmap v) s (t.finish c stBAD_PARAM)) ∧
      (∀ m, (t.inst c.inst).maps.find? (fun (m : Mapping) => m.tpage * 4096 == c.p64 0 && m.pages * 4096 == c.p64 2) = some m →
        let y := t.s2Unmap c.inst m.tpage m.pages (mapLevel m.tpage m.dpage m.pages)
        Does (.instanceUnmap v) s (((y.setInst c.inst (fun r => { r with maps := r.maps.filter (fun (x : Mapping) => !(x == m)) })).mirrorCmd c).finish c stOK))) ∧
    (∀ (v : Via) (t y : State) (c : Cmd), s.startsVia v 0x010A (fun _ => true) t c → t.wrongWorld c = false →
      let ms := (t.inst c.inst).maps
      let k := min ms.length (c.p 2 / 16)
      t.bufWrite c (c.p64 0) ((ms.take k).flatMap Mapping.record) = (y, true) →
      Does (.instanceQuery v) s (y.finish c stOK [y.reg rTN_INST c.inst % 2 ^ 32, y.reg rTN_INST c.inst / 2 ^ 32, ms.length, k]))

/-- Mailboxes, queues and buckets (13 R555, R556, R558, R559, R561, R576, 17 R707): a post advances SEQ, sets LEN and raises MAILBOX, and one before the acknowledgement is refused; an
enable empties a queue; a pointer write is taken inside the queue and ignored with ERROR 1 outside it; each us the buckets gain their tokens. -/
def Obligations.MailboxesAndQueuesTakeTheirWrites : Prop :=
  ∀ (s : State), s.powered = true →
    (∀ (a : Agent) (i : BitVec 9) (len : BitVec 13) (msg : List Byte), a ≠ .secure →
      let n := s.rf TN_MBX_SEL_INSTANCE
      (s.mbxReach n = true → s.rf IP_MBX_IN_ACK n = s.rf IP_MBX_IN_SEQ n → len.toNat ≤ 4096 →
        Does (.postIn a i len msg) s (((s.sf IP_MBX_IN_SEQ (s.rf IP_MBX_IN_SEQ n + 1) n).sf IP_MBX_IN_LEN len.toNat n).setIpend n (s.irqVcore n) 2)) ∧
      ((s.mbxReach n = false ∨ s.rf IP_MBX_IN_ACK n ≠ s.rf IP_MBX_IN_SEQ n ∨ 4096 < len.toNat) → Does (.postIn a i len msg) s (s.sf TN_MBX_CTL_REFUSED 1))) ∧
    (∀ (i : BitVec 9) (len : BitVec 13) (msg : List Byte), s.ist i.toNat ≠ 0 → s.rb TN_INST_SECURE i.toNat = true → s.rf IP_MBX_IN_ACK i.toNat = s.rf IP_MBX_IN_SEQ i.toNat → msg.length ≤ 4096 →
      let bs := byteNats msg
      Does (.postIn .secure i len msg) s ((s.setInst i.toNat (fun r => { r with mbxIn := bs.zipIdx.foldl (fun (m : Bytes) (x : Nat × Nat) => Bytes.wr m x.2 (BitVec.ofNat 8 x.1)) r.mbxIn })).mbxPost i.toNat bs.length)) ∧
    (∀ (a : Agent) (i : BitVec 9), a ≠ .secure →
      let n := s.rf TN_MBX_SEL_INSTANCE
      (s.mbxReach n = true → Does (.ackOut a i) s ((s.sf IP_MBX_OUT_ACK (s.inst n).outSeq n).setInst n (fun r => { r with outPosted := false }))) ∧
      (s.mbxReach n = false → Does (.ackOut a i) s (s.sf TN_MBX_CTL_REFUSED 1))) ∧
    (∀ (i : BitVec 9) (v : Word), s.ist i.toNat ≠ 0 → (s.inst i.toNat).outPosted = true → Does (.post i v) s s) ∧
    (∀ (i : BitVec 9) (v : Word), s.ist i.toNat ≠ 0 → (s.inst i.toNat).outPosted = false → bits v.toNat 44 32 ≤ 4096 →
      let x := s.sf IP_MBX_OUT_LEN (bits v.toNat 44 32) i.toNat
      let y := x.setInst i.toNat (fun r => { r with outSeq := (r.outSeq + 1) % 65536, outPosted := true })
      (bit v.toNat 0 = false → Does (.post i v) s x) ∧
      (bit v.toNat 0 = true → y.rb TN_INST_SECURE i.toNat = false → Does (.post i v) s (y.raise 0x3C3)) ∧
      (bit v.toNat 0 = true → y.rb TN_INST_SECURE i.toNat = true → Does (.post i v) s y)) ∧
    (∀ (i : BitVec 9) (cls : Fin 3) (d : Fin 16) (v : Word), s.ist i.toNat ≠ 0 →
      let q := qIdx i.toNat cls.val 0 d.val
      (s.rb IP_Q_CFG_EN q = false → bit v.toNat 63 = true → 4 ≤ bits v.toNat 4 0 → bits v.toNat 4 0 ≤ 16 →
        let x := (s.sf IP_Q_CFG_BASE (bits v.toNat 45 12) q).sf IP_Q_CFG_LOG2 (bits v.toNat 4 0) q
        Does (.queueEnable i cls false d v) s (((x.wreg rIP_Q_TAIL q 0).wreg rIP_Q_HEAD q 0).sf IP_Q_CFG_EN 1 q)) ∧
      (s.rb IP_Q_CFG_EN q = true → bit v.toNat 63 = true → Does (.queueEnable i cls false d v) s s) ∧
      (s.rb IP_Q_CFG_EN q = true → bit v.toNat 63 = false → Does (.queueEnable i cls false d v) s (s.sf IP_Q_CFG_EN 0 q))) ∧
    (∀ (i : BitVec 9) (cy : Bool) (d : Fin 16) (v : Word), s.ist i.toNat ≠ 0 →
      let q := qIdx i.toNat (1 + b2n cy) 0 d.val
      let lg := s.rf IP_Q_CFG_LOG2 q
      (bits v.toNat 15 0 < 2 ^ lg → ptrDist (s.qHead q) (ptrPos v.toNat lg) lg ≤ 2 ^ lg → Does (.submissionTailWrite i cy d v) s (s.wreg rIP_Q_TAIL q (v.toNat % 2 ^ 17))) ∧
      ((2 ^ lg ≤ bits v.toNat 15 0 ∨ 2 ^ lg < ptrDist (s.qHead q) (ptrPos v.toNat lg) lg) → Does (.submissionTailWrite i cy d v) s (s.sf IP_Q_STAT_ERROR 1 q))) ∧
    (∀ (i : BitVec 9) (cls : Fin 3) (d : Fin 16) (v : Word), s.ist i.toNat ≠ 0 →
      let q := qIdx i.toNat cls.val 1 d.val
      let lg := s.rf IP_Q_CFG_LOG2 q
      (bits v.toNat 15 0 < 2 ^ lg → ptrDist (s.qHead q) (ptrPos v.toNat lg) lg ≤ s.qFill q →
        Does (.consumerHeadWrite i (some cls) d v) s ((s.wreg rIP_Q_HEAD q (v.toNat % 2 ^ 17)).cplFlush i.toNat cls.val d.val)) ∧
      ((2 ^ lg ≤ bits v.toNat 15 0 ∨ s.qFill q < ptrDist (s.qHead q) (ptrPos v.toNat lg) lg) → Does (.consumerHeadWrite i (some cls) d v) s (s.sf IP_Q_STAT_ERROR 1 q))) ∧
    (∀ (i : BitVec 9) (d : Fin 16) (v : Word), s.ist i.toNat ≠ 0 →
      let lg := s.rf IP_EQ_CFG_LOG2 i.toNat
      let head := ptrPos (s.reg rIP_EQ_HEAD i.toNat) lg
      let fill := ptrDist head (ptrPos (s.reg rIP_EQ_TAIL i.toNat) lg) lg
      (bits v.toNat 15 0 < 2 ^ lg → ptrDist head (ptrPos v.toNat lg) lg ≤ fill → Does (.consumerHeadWrite i none d v) s (s.wreg rIP_EQ_HEAD i.toNat (v.toNat % 2 ^ 17))) ∧
      ((2 ^ lg ≤ bits v.toNat 15 0 ∨ fill < ptrDist head (ptrPos v.toNat lg) lg) → Does (.consumerHeadWrite i none d v) s (s.sf IP_EQ_STAT_ERROR 1 i.toNat))) ∧
    ((∀ i ∈ Map.keys s.tn.insts, ∀ k, k < 5 → s.rf TN_BUCKET_RATE (bucketIdx i k) ≠ 0 → s.rf TN_BUCKET_LEVEL (bucketIdx i k) ≠ 0) → Does .tokenRefill s s.refill)

/-- Packets and the queue (14 R581, R583, R586, R589, R594, R596): a sound packet of a free slot holds the slot and goes to the checks, and the others are recorded by their codes; the
queue admits, promotes and starts in the order of R589; progress and timeouts are answered. -/
def Obligations.PacketsAreAdmittedAndStarted : Prop :=
  ∀ (s : State), s.powered = true →
    (∀ (k : Fin 64), s.takesPackets = true →
      let hdr := Bytes.rdN s.mp.bar2 (0x1000 * k.val) 64
      let err := fun (code tag : Nat) => (((s.sf MP_HQ_ERR_VALID 1).sf MP_HQ_ERR_SLOT k.val).sf MP_HQ_ERR_CODE code).sf MP_HQ_ERR_TAG tag
      (bit (s.rf MP_HQ_FREE_FREE) k.val = false → Does (.mpHqSubmit k) s (err 3 0)) ∧
      (bit (s.rf MP_HQ_FREE_FREE) k.val = true → crc32c (toBytes hdr 60) ≠ bits hdr 511 480 →
        Does (.mpHqSubmit k) s (((err 1 (bits hdr 63 32)).bump rMP_DISCARD_CNT).raiseMs 0x3C4)) ∧
      (bit (s.rf MP_HQ_FREE_FREE) k.val = true → crc32c (toBytes hdr 60) = bits hdr 511 480 → bits hdr 447 384 % 64 ≠ 0 →
        Does (.mpHqSubmit k) s (((err 2 (bits hdr 63 32)).bump rMP_DISCARD_CNT).raiseMs 0x3C4)) ∧
      (bit (s.rf MP_HQ_FREE_FREE) k.val = true → crc32c (toBytes hdr 60) = bits hdr 511 480 → bits hdr 447 384 % 64 = 0 →
        let y := s.sf MP_HQ_FREE_FREE (setBit (s.rf MP_HQ_FREE_FREE) k.val false)
        Does (.mpHqSubmit k) s (y.admitCmd 0 hdr (parseCmd 0 k.val hdr (toBytes (Bytes.rdN s.mp.bar2 (0x1000 * k.val + 64) 4032) 4032) s.mp.seq s.now)))) ∧
    (∀ (i : BitVec 9) (k : Fin 4),
      let n := i.toNat
      let err := fun (x : State) (code : Nat) => ((x.sf IP_CMD_STAT_VALID 1 n).sf IP_CMD_STAT_CODE code n).sf IP_CMD_STAT_ERR_SLOT k.val n
      (s.rb IP_CMD_CFG_EN n = false → Does (.ipCmdSubmit i k) s (err s 4)) ∧
      (s.rb IP_CMD_CFG_EN n = true → bit (s.rf IP_CMD_STAT_FREE n) k.val = false → Does (.ipCmdSubmit i k) s (err s 3)) ∧
      (∀ (y : State) (v : Nat), s.rb IP_CMD_CFG_EN n = true → bit (s.rf IP_CMD_STAT_FREE n) k.val = true →
        s.ioRead (org 0x13 0) n (s.gen n) (s.rf IP_CMD_CFG_BASE n * 2 ^ 14 + 0x1000 * k.val) 4096 = (y, .ok v) → packetCheck (v % 2 ^ 512) = 0 →
        Does (.ipCmdSubmit i k) s ((y.sf IP_CMD_STAT_FREE (setBit (y.rf IP_CMD_STAT_FREE n) k.val false) n).admitCmd (n + 1) (v % 2 ^ 512)
          (parseCmd (n + 1) k.val (v % 2 ^ 512) (toBytes (v / 2 ^ 512) 4032) y.mp.seq y.now)))) ∧
    (∀ (c : Cmd), (s.mp.cmds.filter (fun c => c.entry)).length < 2048 → s.mp.cmds.find? (fun c => c.phase == 0) = some c →
      Does .urgentAdmission s ((s.putCmd { c with phase := 1, entry := true }).bump rMP_CMD_CNT)) ∧
    (∀ (c : Cmd) (o : OpInfo), s.rf MP_STAT_STATE = 0 → s.nextCmd = some c →
      let y := s.urgentAdmit
      (y.genOk c.src c = false → Does .commandStart s (y.finish c stSTALE)) ∧
      (y.genOk c.src c = true → opInfo c.op = some o → o.long = false → Does .commandStart s (y.putCmd { c with phase := 2 })) ∧
      (y.genOk c.src c = true → opInfo c.op = some o → o.long = true →
        ((y.mp.cmds.filter (fun x => decide (2 ≤ x.phase) && (opInfo x.op).any (·.long))).length < 32 → Does .commandStart s (y.putCmd { c with phase := 2 })) ∧
        (32 ≤ (y.mp.cmds.filter (fun x => decide (2 ≤ x.phase) && (opInfo x.op).any (·.long))).length → Does .commandStart s (y.finish c stNO_RESOURCE [0xFFFFFFFF])))) ∧
    (∀ (c : Cmd), s.mp.cmds.find? (fun c => c.phase == 1 && c.effClass == 2) = some c → Does .bulkPromotion s (s.putCmd { c with promoted := true })) ∧
    (∀ (c : Cmd), s.mp.cmds.filter (fun (c : Cmd) => c.phase == 3 && c.lop.pos != c.lop.repPos) = [c] → Does .progressReply s (s.reply c stIN_PROGRESS false [])) ∧
    (∀ (a : Asm), s.mp.asms = [a] →
      let y := s.dropAsm a.cmd
      (y.genOk a.cmd.src a.cmd = true → Does .segmentTimeout s (y.refuseCmd a.cmd stABORTED [a.packets])) ∧
      (y.genOk a.cmd.src a.cmd = false → Does .segmentTimeout s (y.refuseCmd a.cmd stSTALE [])))

/-- Sheepdog (14 R597, R599, R600, R603): the measured utilisation moves the load level, a restart ends or resumes what was started, and NOP, OP_STATUS and OP_CANCEL answer. -/
def Obligations.SheepdogShedsRestartsAndAnswers : Prop :=
  ∀ (s : State), s.powered = true →
    (∀ (u : Fin 101),
      let x := (s.sf MP_LOAD_UTIL u.val).sf MP_LOAD_UTIL_MAX (max u.val (s.rf MP_LOAD_UTIL_MAX))
      x.rf MP_STAT_STATE = 0 → x.rf MP_LOAD_LEVEL = 0 → x.rf MP_CMD_CFG_SHED_PCT < u.val →
      Does (.loadMeasurement u) s (({ x with mp := { x.mp with high := 0, low := 0 } }.sf MP_LOAD_LEVEL 1).raise 0x3C2)) ∧
    (∀ (u : Fin 101),
      let x := (s.sf MP_LOAD_UTIL u.val).sf MP_LOAD_UTIL_MAX (max u.val (s.rf MP_LOAD_UTIL_MAX))
      x.rf MP_STAT_STATE ≠ 0 → Does (.loadMeasurement u) s x) ∧
    (s.rf MP_STAT_STATE ≠ 2 → s.recoveries (org 0x13 0) < s.rf FC_CFG_RECOV_LIMIT →
      let x := s.setUnit (org 0x13 0) (fun u => { u with st := 1 })
      let recent := x.mp.restarts.filter (fun t => decide (x.now < t + 86400000000000)) ++ [x.now]
      let y : State := { x with mp := { x.mp with restarts := recent, high := 0, low := 0 } }
      let done := fun (n : Nat) =>
        let z := (((((y.sf MP_STAT_CAUSE n).sf MP_STAT_RESTARTS (satN 8 recent.length)).bump rMP_RESTART_CNT).sf MP_STAT_STATE 1).raise 0x3C0).report
          { org := org 0x13 0, cause := 0x1301, cls := ochre, d0 := n, react := 7 }
        let w := z.restartCmds
        let v : State := { w with mp := { w.mp with asms := w.mp.asms.map (fun (a : Asm) => { a with last := w.now }) } }
        let e := (v.sf MP_STAT_STATE 0).raise 0x3C0
        e.returned (org 0x13 0)
      Does (.sheepdogRestart .lockstep) s (done 1) ∧ Does .watchdogExpiry s (done 2) ∧ Does (.sheepdogRestart .sram) s (done 3) ∧ Does (.sheepdogRestart .firmware) s (done 4)) ∧
    (∀ (cause : RestartCause), s.rf MP_STAT_STATE = 2 → Does (.sheepdogRestart cause) s s ∧ Does .watchdogExpiry s s) ∧
    (∀ (c : Cmd), s.starts 0x0000 c → Does .nop s (s.finish c stOK [s.rf MP_STAT_FW_REV, s.rf MP_LOAD_UTIL])) ∧
    (∀ (c : Cmd), s.starts 0x0001 c → bit (c.p 1) 0 = false →
      (∀ d, s.mp.cmds.find? (fun d => d.src == c.src && d.tag == c.p 0 && !d.same c) = some d → Does .opStatus s (s.finish { c with lop := d.lop } stIN_PROGRESS [d.op])) ∧
      ((∀ d ∈ s.mp.cmds, d.src ≠ c.src ∨ d.tag ≠ c.p 0 ∨ d.seq = c.seq) →
        (s.assembling c = none → Does .opStatus s (s.finish c stBAD_PARAM)) ∧
        (∀ a, s.assembling c = some a → Does .opStatus s (s.finish c stIN_PROGRESS [a.cmd.op])))) ∧
    (∀ (c : Cmd), s.starts 0x0001 c → bit (c.p 1) 0 = true → bits (c.p 1) 15 8 = 1 →
      Does .opStatus s (s.finish { c with lop := { c.lop with pfmt := 2, pos := s.rf MA_REBUILD_POS, total := s.rf MA_CAP_STRIPES } } stOK [s.rf MA_REBUILD_BUSY])) ∧
    (∀ (c : Cmd), s.starts 0x0002 c →
      ((∀ d ∈ s.mp.cmds, d.src ≠ c.src ∨ d.tag ≠ c.p 0 ∨ d.seq = c.seq) →
        (s.assembling c = none → Does .opCancel s (s.finish c stOK [2])) ∧
        (∀ a, s.assembling c = some a → Does .opCancel s (((s.dropAsm a.cmd).refuseCmd a.cmd stCANCELLED []).finish c stOK [0]))) ∧
      (∀ d, s.mp.cmds.find? (fun d => d.src == c.src && d.tag == c.p 0 && !d.same c) = some d → d.phase < 2 →
        Does .opCancel s ((s.finish d stCANCELLED).finish c stOK [0])) ∧
      (∀ d, s.mp.cmds.find? (fun d => d.src == c.src && d.tag == c.p 0 && !d.same c) = some d → 2 ≤ d.phase → canCancel d.op = false →
        Does .opCancel s (s.finish c stOK [1])))

/-- The collector (15 R616, R618, R619, R625, R626, R629-R632, R640, R643): a report is counted, classified and recorded, or folded into its window; a broken path is recorded and
its unit removed, and a good one returns; a window closes; the log is queried and cleared; the comparator's mismatch halts. -/
def Obligations.TheCollectorRecordsAndClears : Prop :=
  ∀ (s : State), s.powered = true →
    (∀ (p : Fin 2048) (r : Report) (q : List Report), Map.getD s.fc.held p.val [] = r :: q → s.rf FC_PT_STATE p.val = 0 →
      let x : State := { s with fc := { s.fc with held := if q.isEmpty then Map.del s.fc.held p.val else Map.put s.fc.held p.val q } }
      let y := x.bump rFC_REPORT_CNT 0 r.cnt
      (r.cls < 2 → Does (.faultReport p false none) s ((y.recordReport r (some p.val)).fcSync)) ∧
      (r.cls = 3 → Does (.faultReport p false none) s ((y.sableHalt.recordReport { r with react := 0xA } (some p.val)).fcSync)) ∧
      (∀ i g, r.cls = 2 → r.subj = some (i, g) → (y.gen i ≠ g ∨ y.ist i = 0 ∨ y.ist i = 3 ∨ y.ist i = 8) →
        Does (.faultReport p false none) s ((y.recordReport { r with react := 0xB } (some p.val)).fcSync)) ∧
      (∀ i g, r.cls = 2 → r.subj = some (i, g) → y.gen i = g → y.ist i ≠ 0 → y.ist i ≠ 3 → y.ist i ≠ 8 →
        ((y.rb TN_INST_PROTECTED i && y.canYield) = true → Does (.faultReport p false none) s (((y.askTakeoverFor (some (i, g))).recordReport { r with react := 9 } (some p.val)).fcSync)) ∧
        ((y.rb TN_INST_PROTECTED i && y.canYield) = false → Does (.faultReport p false none) s (((y.russetReset i).1.recordReport { r with react := 8 } (some p.val)).fcSync)))) ∧
    (∀ (r : Report) (pt : Option Nat) (w : FoldWin), s.closeDue.fc.wins.find? (fun (w : FoldWin) => !w.kindWin && w.org == r.org && w.subj == r.subj) = some w →
      s.recordReport r pt = s.closeDue.foldRec r w) ∧
    (∀ (p : Fin 2048) (r : Report) (q : List Report), Map.getD s.fc.held p.val [] = r :: q → s.rf FC_PT_STATE p.val = 0 → Does (.faultReport p true none) s (s.pathLost p.val 1)) ∧
    (∀ (p : Fin 2048), s.rf FC_PT_STATE p.val = 0 → s.ptUnit p.val ≠ 0 → s.recoveries (org 0x16 p.val) < s.rf FC_CFG_RECOV_LIMIT →
      let x := s.setUnit (org 0x16 p.val) (fun u => { u with st := 1 })
      let lost := fun (n : Nat) =>
        let y := (((x.sf FC_PT_STATE n p.val).incSat FC_PT_BREAKS p.val).bump rFC_PATH_CNT).raise 0x387
        let z := y.classify { org := org 0x16 p.val, cause := 0x1600 + n, cls := ochre, react := 5 } (some p.val)
        (z.removeUnit (z.ptUnit p.val)).blindSync
      Does (.broken p) s (lost 1) ∧ (∀ good, Does (.pathTest p good false) s (lost 2) ∧ Does (.pathTest p good true) s s)) ∧
    (∀ (p : Fin 2048), s.rf FC_PT_STATE p.val ≠ 0 → s.ptUnit p.val ≠ 0 → (s.unit (org 0x16 p.val)).st ≠ 3 →
      let y := ((s.sf FC_PT_STATE 0 p.val).raise 0x387).returned (org 0x16 p.val)
      Does (.pathTest p true true) s ((y.classify { org := org 0x16 p.val, cause := 0x1603, cls := slate, react := 7 } (some p.val)).blindSync) ∧
      Does (.pathTest p true false) s (s.bump rFC_PATH_CNT) ∧ Does (.pathTest p false true) s s ∧
      (s.rf FC_PT_STATE p.val = 2 → Does (.pathTest p false false) s (s.bump rFC_PATH_CNT)) ∧ (s.rf FC_PT_STATE p.val = 1 → Does (.pathTest p false false) s s)) ∧
    (∀ (w : FoldWin), s.fc.wins = [w] → Does .foldWindowExpiry s ((s.closeWin w).fcSync)) ∧
    Does .selfCheck s ((({ s with fc := { s.fc with selfCheck := true } } : State).setFlt false false).classify { org := org 0x15 0, cause := 0x1501, cls := sable } none) ∧
    ((s.rb FC_STAT_FLT_MODE = true → s.rb FC_STAT_FLT_ASSERT = false → s.fc.selfCheck = false → Does .fltPairEdge s (s.setFlt (!s.fc.fltA) s.fc.fltA)) ∧
      ((s.rb FC_STAT_FLT_MODE = false ∨ s.rb FC_STAT_FLT_ASSERT = true ∨ s.fc.selfCheck = true) → Does .fltPairEdge s s)) ∧
    (∀ (y : State) (c : Cmd), s.starts 0x0701 c → bit (c.p 0) 16 = false → c.p 0 % 2 ^ 13 + c.p 1 ≤ 8192 →
      let l := s.fc.log.filter (fun (e : Nat × FRec) => decide (c.p 0 % 2 ^ 13 ≤ e.1) && decide (e.1 < c.p 0 % 2 ^ 13 + c.p 1))
      s.bufWrite c (c.p64 2) (l.flatMap (fun (e : Nat × FRec) => e.2.bytes)) = (y, true) → Does .faultQuery s (y.finish c stOK [l.length, y.rf FC_STAT_LOG_USED])) ∧
    (∀ (c : Cmd), s.starts 0x0702 c → c.p 0 + c.p 1 ≤ 8192 →
      let hit := fun (e : Nat × FRec) => decide (c.p 0 ≤ e.1) && decide (e.1 < c.p 0 + c.p 1) && e.2.cls != 3 && !e.2.cleared
      let y : State := { s with fc := { s.fc with log := s.fc.log.map (fun (e : Nat × FRec) => if hit e then (e.1, { e.2 with cleared := true }) else e) } }
      Does .faultClear s (y.fcSync.finish c stOK [(s.fc.log.filter hit).length]))

/-- Units return or retire (15 R633-R635, R644): a passed test makes a unit Quiet and a failed one retires it; a Quiet unit returns, and one recovery is counted; old returns age out; a
test on command shows its progress and its result. -/
def Obligations.UnitsReturnOrRetire : Prop :=
  ∀ (s : State), s.powered = true →
    (∀ (u : BitVec 24), quickUnit u.toNat = true → (s.unit u.toNat).st = 1 → s.testUnit ≠ some u.toNat →
      let y := (s.toQuiet u.toNat).unitReg u.toNat 2
      let z := ((s.testFailed u.toNat 6).retireUnit u.toNat).unitReg u.toNat 3
      (y.testUnit ≠ some u.toNat → Does (.unitTestEnd u true) s y) ∧ (z.testUnit ≠ some u.toNat → Does (.unitTestEnd u false) s z)) ∧
    (∀ (u : BitVec 24), (s.unit u.toNat).st = 2 →
      let k := u.toNat % 65536
      let y := s.returned u.toNat
      (u.toNat / 65536 = 6 → Does (.quietPeriodExpiry u) s (y.laneReturn k)) ∧ (u.toNat / 65536 = 8 → Does (.quietPeriodExpiry u) s (y.procReturn k)) ∧
      (u.toNat / 65536 = 0xA → Does (.quietPeriodExpiry u) s (y.unitReg u.toNat 0)) ∧
      (u.toNat / 65536 = 0xB → Does (.quietPeriodExpiry u) s ((y.sf CY_PIPE_STAT_LEASED 0 k).unitReg u.toNat 0)) ∧
      (u.toNat / 65536 = 1 → (s.unit (org 2 (k / 4))).st ≠ 2 → Does (.quietPeriodExpiry u) s (y.setCoreRole k 1))) ∧
    (∀ (u : BitVec 24) (x : UnitSt), Map.find s.fc.units u.toNat = some x →
      let y := s.setUnit u.toNat (fun u => { u with returns := u.returns.filter (fun t => decide (s.now < t)) })
      (u.toNat / 65536 ≠ 4 → Does (.recoveryCounterAge u) s y) ∧
      (u.toNat / 65536 = 4 → Does (.recoveryCounterAge u) s (y.sf MA_CH_STAT_RECOVERIES (satN 4 (y.recoveries u.toNat)) (u.toNat % 65536)))) ∧
    (∀ (c : Cmd) (p : Fin 10001) (r : Option Bool), s.longCmd 0x0711 = none → s.starts 0x0711 c →
      (testRange (c.p 0) (c.p 1) = false → Does (.selfTest p r) s (s.finish c stBAD_PARAM)) ∧
      (testRange (c.p 0) (c.p 1) = true → s.testable (c.p 0) (c.p 1) = false → Does (.selfTest p r) s (s.finish c stDENIED)) ∧
      (testRange (c.p 0) (c.p 1) = true → s.testable (c.p 0) (c.p 1) = true → s.rb FC_TEST_BUSY = false →
        Does (.selfTest p r) s ((((((s.sf FC_TEST_BUSY 1).sf FC_TEST_RESULT 0).sf FC_TEST_KIND (c.p 0)).sf FC_TEST_INDEX (c.p 1)).sf FC_TEST_PROGRESS 0).longPhase c 1 0 []))) ∧
    (∀ (c : Cmd) (p : Fin 10001), s.longCmd 0x0711 = some c →
      (c.lop.cancel = true → ∀ r, Does (.selfTest p r) s (s.testEnd 3)) ∧
      (c.lop.cancel = false → Does (.selfTest p none) s ((s.sf FC_TEST_PROGRESS (max p.val (s.rf FC_TEST_PROGRESS))).longPos c p.val)) ∧
      (c.lop.cancel = false → ∀ b : Bool, (s.unit (testOrg (c.p 0) (c.p 1))).st ≠ 1 →
        Does (.selfTest p (some b)) s ((s.ownTestEnd (c.p 0) (c.p 1) b).testEnd (if b then 1 else 2))))

/-- Goose frames, the claim interlock and the link (16 R666, R668-R674): what is sent, what a valid frame and a silent path do, when the train runs and the gate opens and closes, and
what a lane's or the link's loss and return do. -/
def Obligations.GooseClaimsAndLinkFollowTheirInputs : Prop :=
  ∀ (s : State), s.powered = true →
    (s.rf TW_STAT_STATE ≠ 0 →
      let x := s.fitCheck
      let y : State := { x with tw := { x.tw with seqOut := (x.tw.seqOut + 1) % 2 ^ 32 } }
      let b := y.gooseBytes ((x.tw.seqOut + 1) % 2 ^ 32)
      (y.rf TW_STAT_LANES = 0 → Does .gooseSend s (y.emit (.goose false b))) ∧
      (y.rf TW_STAT_LANES ≠ 0 → Does .gooseSend s ((y.emit (.goose true b)).emit (.goose false b)))) ∧
    (s.rf TW_STAT_STATE = 0 → Does .gooseSend s s) ∧
    (∀ (p : Bool) (f : List Byte),
      let b := byteNats f
      let w := fun (o : Nat) => ofBytes ((b.drop o).take 4)
      (crc32c (b.take 28) ≠ w 0x1C → Does (.gooseReceive p f) s s) ∧
      (∀ q, Map.find s.tw.seqIn (b2n p) = some q → 2 ^ 31 ≤ (w 4 + 2 ^ 32 - q) % 2 ^ 32 → Does (.gooseReceive p f) s s) ∧
      (∀ q, Map.find s.tw.seqIn (b2n p) = some q → s.rf TW_STAT_STATE ≠ 0 → b.length = 32 → crc32c (b.take 28) = w 0x1C → (w 4 + 2 ^ 32 - q) % 2 ^ 32 = 1 →
        s.rb (if p then TW_STAT_GOOSE_LINK else TW_STAT_GOOSE_SB) = true →
        let y : State := { s with tw := { s.tw with seqIn := Map.put s.tw.seqIn (b2n p) (w 4) } }
        y.rb (if p then TW_STAT_GOOSE_LINK else TW_STAT_GOOSE_SB) = true →
        Does (.gooseReceive p f) s ((y.setPeer (w 0) (w 0x10) (w 0x14)).peerSays (bit (w 0) 14) (bit (w 0) 15)))) ∧
    (∀ (p : Bool),
      let f := if p then TW_STAT_GOOSE_LINK else TW_STAT_GOOSE_SB
      (s.rb f = false → Does (.goosePathDown p) s s) ∧
      (s.rf TW_STAT_STATE ≠ 0 → s.rb f = true →
        let x := (((s.sf f 0).raise 0x341).bump rTW_GOOSE_MISS 0 2).twRec 0x1103 ochre (b2n p)
        let y : State := { x with tw := { x.tw with seqIn := Map.del x.tw.seqIn (b2n p) } }
        ((y.rb TW_STAT_GOOSE_LINK || y.rb TW_STAT_GOOSE_SB) = true → Does (.goosePathDown p) s y))) ∧
    (s.tw.strap = false → Does .peerClaimEdge s s) ∧
    (s.tw.strap = true →
      let x := (s.sf TW_STAT_GATE 0).sf TW_STAT_PEER_EDGE 1
      let y : State := { x with tw := { x.tw with edgeAt := s.now } }
      (s.rb TW_STAT_CLAIM = true → Does .peerClaimEdge s ((y.raise 0x345).twRec 0x1109 sable 0)) ∧
      (s.rb TW_STAT_CLAIM = false → y.tw.train = false → Does .peerClaimEdge s y) ∧
      (s.rb TW_STAT_CLAIM = false → y.tw.train = true → Does .peerClaimEdge s { y with tw := { y.tw with train := false, want := y.tw.want || y.tw.taking || y.rf TW_STAT_ROLE == 1 } })) ∧
    (s.tw.strap = true → s.tw.train = true → s.isStandby = false → s.isSable = false →
      let y := ((s.sf TW_STAT_PEER_EDGE 0).sf TW_STAT_CLAIM 1).sf TW_STAT_GATE 1
      (y.tw.taking = false → Does .gateOpen s y) ∧ (y.tw.taking = true → Does .gateOpen s y.takeOutputs)) ∧
    ((s.tw.strap = false ∨ s.tw.train = false ∨ s.isStandby = true ∨ s.isSable = true) → Does .gateOpen s s) ∧
    (s.tw.strap = true → s.tw.train = false → s.isSable = false → s.rf TW_STAT_STATE = 0 → s.takesPackets = true →
      Does .claimRetry s (({ s with tw := { s.tw with train := true, want := false } } : State).sf TW_STAT_PEER_EDGE 0)) ∧
    (s.isStandby = true → s.tw.want = false → s.rf TW_STAT_STATE ≠ 0 → Does .claimRetry s s) ∧
    (∀ (l : Fin 4) (up : Bool),
      (bit s.tw.lanes l.val = up → Does (.laneDown l up) s s) ∧
      (bit s.tw.lanes l.val = true → up = false →
        let y := (s.setLanes (setBit s.tw.lanes l.val false)).twRec 0x1101 ochre l.val
        (y.tw.lanes ≠ 0 → s.tw.lanes ≠ 0 → Does (.laneDown l up) s y) ∧ (y.tw.lanes = 0 → Does (.laneDown l up) s y.linkGone)) ∧
      (bit s.tw.lanes l.val = false → up = true →
        let y := s.setLanes (setBit s.tw.lanes l.val true)
        y.tw.lanes ≠ 0 → (s.tw.lanes ≠ 0 → Does (.laneDown l up) s y) ∧ (s.tw.lanes = 0 → Does (.laneDown l up) s y.linkBack))) ∧
    (s.tw.lanes ≠ 0 →
      let y := (s.setLanes 0).twRec 0x1102 ochre 0
      (y.rf TW_STAT_STATE = 1 → Does .twinLinkLoss s y.syncFail) ∧
      (y.rf TW_STAT_STATE = 2 → Does .twinLinkLoss s (({ y with tw := { y.tw with byLoss := true } } : State).twTo 3 (y.rf TW_STAT_ROLE))) ∧
      (y.rf TW_STAT_STATE ≠ 1 → y.rf TW_STAT_STATE ≠ 2 → Does .twinLinkLoss s y)) ∧
    (∀ (n : Fin 5), s.tw.lanes = 0 → n.val ≠ 0 →
      let y := s.setLanes (2 ^ n.val - 1)
      (y.rf TW_STAT_STATE = 3 → y.tw.byLoss = true → y.rb TW_CFG_AUTO_RESUME = true → Does (.twinLinkReturn n) s y.resumeSync) ∧
      ((y.rf TW_STAT_STATE ≠ 3 ∨ y.tw.byLoss = false ∨ y.rb TW_CFG_AUTO_RESUME = false) → Does (.twinLinkReturn n) s y))

/-- Epochs, the mirror and the digests (16 R675-R682): a barrier sends its cut, closes the epoch and clears what is recorded; a whole epoch is written and acknowledged in order; an
acknowledgement releases; the standby applies what the active mirrors; an unequal digest is recorded. -/
def Obligations.EpochsAreSentWrittenAndReleased : Prop :=
  ∀ (s : State), s.powered = true →
    (s.rf TW_STAT_ROLE = 1 → s.epochsOn = true → s.isSable = false → s.recorded = [] → (∀ p, p < 32 → s.rf FR_STAT_ROLE p ≠ 2) → s.tn.insts = [] → s.sg.slots = [] → s.cy.slots = [] →
      ∃ u : State, Does .epochBarrier s u ∧ u.recorded = [] ∧ u.tw.stretch = false ∧ u.rf TW_EPOCH_NUMBER = (s.rf TW_EPOCH_NUMBER + 1) % 2 ^ 48 ∧
        u.tw.cuts = s.tw.cuts ++ [(s.rf TW_EPOCH_NUMBER, s.now, [])]) ∧
    ((s.rf TW_STAT_ROLE ≠ 1 ∨ s.epochsOn = false ∨ s.isSable = true) → Does .epochBarrier s s) ∧
    (s.isActiveRunning = true → s.tw.stretch = false → s.rf TW_STAT_LANES * 3750 < s.recorded.length →
      let y : State := { s with tw := { s.tw with stretch := true } }
      Does .epochStretch s (((y.raiseMs 0x342).twRec 0x1105 slate (64 * y.recorded.length)).bump rTW_STRETCH_CNT)) ∧
    (s.recorded.length ≤ s.rf TW_STAT_LANES * 3750 → Does .epochStretch s s) ∧
    (∀ (e : Epoch), ((s.isStandby = false ∨ s.epochsOn = false ∨ e.number ≠ s.rf TW_ACKED_EPOCH + 1) → ∀ w, Does (.epochAcknowledge e w) s s) ∧
      (s.isStandby = true → s.epochsOn = true → e.number = s.rf TW_ACKED_EPOCH + 1 →
        let x := s.twRec 0x110A slate e.number
        (x.tw.asked = true → Does (.epochAcknowledge e false) s x) ∧
        (x.tw.asked = false → Does (.epochAcknowledge e false) s (({ x with tw := { x.tw with asked := true } } : State).emit (.twin 8 (toBytes e.number 8)))) ∧
        (let y := ((s.standbyLines e.lines).bwBytes 0x31 (73 * e.lines.length)).each e.ctrs (fun s x => s.setSlot x.1.toNat (fun k => { k with ctr := x.2, acked := x.2 }))
         let z : State := { y with tw := { y.tw with hold := some { e with lines := [] }, asked := false } }
         let w := ((z.sf TW_ACKED_EPOCH e.number).sf TW_EPOCH_NUMBER (e.number + 1)).emit (.twin 4 (toBytes e.number 8))
         (w.isRunning = true → Does (.epochAcknowledge e true) s w.fitCheck) ∧ (w.isRunning = false → Does (.epochAcknowledge e true) s w.syncDone.fitCheck)))) ∧
    (∀ (n : BitVec 48) (r : BitVec 8) (t : Nat) (ctrs : List (Nat × Nat)),
      let v := s.linkFrames r.toNat
      v.rf TW_STAT_ROLE = 1 → v.epochsOn = true → v.rf TW_ACKED_EPOCH < n.toNat →
      v.tw.cuts.find? (fun (x : Nat × Nat × List (Nat × Nat)) => x.1 == n.toNat) = some (n.toNat, t, ctrs) →
      let x := (v.sf TW_ACKED_EPOCH n.toNat).sf TW_ACKED_ACK_US (satN 16 ((v.now - t) / 1000))
      let y := x.each ctrs (fun s x => s.setSlot x.1 (fun k => { k with acked := x.2 }))
      let z : State := { y with tw := { y.tw with cuts := y.tw.cuts.filter (fun (x : Nat × Nat × List (Nat × Nat)) => decide (n.toNat < x.1)) } }
      let w := z.when (!z.isSable) (fun s => s.releaseStaged (fun x => decide ((n.toNat % 65536 + 65536 - x) % 65536 < 32768)))
      (w.isRunning = true → Does (.epochAckReceive n r) s w) ∧ (w.isRunning = false → Does (.epochAckReceive n r) s w.syncDone)) ∧
    (∀ (n : BitVec 48) (r : BitVec 8),
      let v := s.linkFrames r.toNat
      n.toNat ≤ v.rf TW_ACKED_EPOCH → Does (.epochAckReceive n r) s v) ∧
    (s.isStandby = false → ∀ m b, Does (.mirrorCommit m b) s s) ∧
    (s.isStandby = true →
      (∀ b key top, key < 1024 → Does (.mirrorCommit (.area key top) b) s { s with ch := { s.ch with tops := Map.put s.ch.tops key (max top (Map.getD s.ch.tops key 0)) } }) ∧
      (∀ b c ids, Does (.mirrorCommit (.session c ids) b) s { s with ch := { s.ch with sess := Map.put s.ch.sess c.toNat ids } }) ∧
      (∀ (e : JEnt) (t : Txn), e.txn = some t → e.kind ≠ 7 → s.ch.txns.any (fun (x : Txn) => x.tid == e.tid) = true →
        let y : State := { s with ch := { s.ch with txns := s.ch.txns.map (fun (x : Txn) => if x.tid == e.tid then t else x), jsn := e.jsn % 2 ^ 48 } }
        Does (.mirrorCommit (.entry e) 0) s ((y.jrnPush e.kind e.tid e.txn).emit (.twin 10 (toBytes e.jsn 6)))) ∧
      (∀ b src op inst ps pay, viaJournal.contains op.toNat = false →
        let c : Cmd := ⟨1000 + src.toNat, 0, op.toNat, 0, inst.toNat, s.gen inst.toNat, false, ps.map (·.toNat), pay.map (·.toNat), 0, s.mp.seq, s.now, false, 0, 2, false, false, .none⟩
        Does (.mirrorCommit (.command src op inst ps pay) b) s { s with mp := { s.mp with seq := s.mp.seq + 1, cmds := s.mp.cmds ++ [c] } }) ∧
      (∀ b k reg kb prev, Does (.mirrorCommit (.key k reg kb prev) b) s (s.carryKey k.toNat reg.toNat (kb.map (·.toNat)) (prev.map (·.toNat))))) ∧
    (∀ (p : Fin 32) (c : Word) (k : BitVec 16) (delta : Word) (a b : Nat), s.isStandby = true → s.isRunning = true →
      (Map.getD s.sg.pairs p.val []).find? (fun (y : Nat × Nat) => y.1 == c.toNat) = some (c.toNat, a) →
      (Map.getD s.sg.pairs p.val []).find? (fun (y : Nat × Nat) => y.1 == c.toNat - k.toNat) = some (c.toNat - k.toNat, b) →
      let put := fun (n : Nat) (bad : Bool) =>
        let x : State := { s with tw := { s.tw with streak := Map.set s.tw.streak 0 p.val n } }
        let y := x.sf TW_DIGEST_MISMATCH (setBit (s.rf TW_DIGEST_MISMATCH) p.val bad)
        y.sf TW_DIGEST_STREAK (satN 8 (y.tw.streak.foldl (fun m (e : Nat × Nat) => max m e.2) 0))
      ((a + 2 ^ 64 - b) % 2 ^ 64 = delta.toNat → Does (.digestCompare p c k delta) s (put 0 false)) ∧
      ((a + 2 ^ 64 - b) % 2 ^ 64 ≠ delta.toNat →
        let z := ((put (Map.getD s.tw.streak p.val 0 + 1) true).twRec 0x1106 slate p.val).bump rTW_MISMATCH_CNT
        (Map.getD s.tw.streak p.val 0 ≠ 0 → Does (.digestCompare p c k delta) s z.fitCheck) ∧
        (Map.getD s.tw.streak p.val 0 = 0 → Does (.digestCompare p c k delta) s (z.raise 0x343).fitCheck)))

/-- Pairing, switching and takeover (16 R663, R666, R667, R683-R686): each command is accepted in its states and DENIED in the others; a pair whose conditions fail is answered the number
of the condition; a requested yield closes the gate and stops the claim; a takeover makes the standby active and alone. -/
def Obligations.PairsFormSwitchAndTakeOver : Prop :=
  ∀ (s : State), s.powered = true →
    (∀ (c : Cmd) (f : PeerFacts), s.startedCmd 0x0901 (fun c => c.p 0 % 4 == 0) = some c → (∃ o, opInfo 0x0901 = some o ∧ paramsNamed o c.ps = true) →
      (s.rf TW_STAT_STATE ≠ 0 → Does (.twinPair (.command f)) s (s.finish c stDENIED)) ∧
      (s.rf TW_STAT_STATE = 0 → (c.p 1 < 250 ∨ 10000 < c.p 1) → Does (.twinPair (.command f)) s (s.finish c stBAD_PARAM [0, 0])) ∧
      (s.rf TW_STAT_STATE = 0 → 250 ≤ c.p 1 → c.p 1 ≤ 10000 →
        (s.pairFails f (c.p 1) ≠ 0 → Does (.twinPair (.command f)) s (s.finish c stBAD_PARAM [0, s.pairFails f (c.p 1)])) ∧
        (s.pairFails f (c.p 1) = 0 →
          Does (.twinPair (.command f)) s (((((s.sf TW_EPOCH_EPOCH_US (c.p 1)).sb TW_STAT_INDEX f.lower).syncStart 1 1).twTell (0 :: toBytes (c.p 1) 2)).finish c stOK [1])))) ∧
    (s.rf TW_STAT_STATE ≠ 1 → Does (.twinPair .step) s s ∧ Does (.twinPair .failed) s s) ∧
    (∀ (c : Cmd), s.startedCmd 0x0901 (fun c => c.p 0 % 4 == 1) = some c → (∃ o, opInfo 0x0901 = some o ∧ paramsNamed o c.ps = true) →
      ((s.rf TW_STAT_STATE ≠ 1 ∧ s.rf TW_STAT_STATE ≠ 2) → Does (.twinSuspend false) s (s.finish c stDENIED)) ∧
      (s.rf TW_STAT_STATE = 2 → Does (.twinSuspend false) s (((s.twTo 3 (s.rf TW_STAT_ROLE)).twTell [1]).finish c stOK [s.rf TW_STAT_ROLE]))) ∧
    (s.rf TW_STAT_STATE = 2 → Does (.twinSuspend true) s (s.twTo 3 (s.rf TW_STAT_ROLE))) ∧
    (∀ (c : Cmd) (reach : Bool), s.startedCmd 0x0901 (fun c => c.p 0 % 4 == 2) = some c → (∃ o, opInfo 0x0901 = some o ∧ paramsNamed o c.ps = true) →
      ((s.rf TW_STAT_STATE = 3 ∨ (s.rf TW_STAT_STATE = 4 ∧ reach = true)) → Does (.twinResume false reach) s ((s.resumeSync.twTell [2]).finish c stOK [s.rf TW_STAT_ROLE])) ∧
      (s.rf TW_STAT_STATE ≠ 3 → (s.rf TW_STAT_STATE ≠ 4 ∨ reach = false) → Does (.twinResume false reach) s (s.finish c stDENIED))) ∧
    (∀ (c : Cmd), s.startedCmd 0x0901 (fun c => c.p 0 % 4 == 3) = some c → (∃ o, opInfo 0x0901 = some o ∧ paramsNamed o c.ps = true) →
      (s.rf TW_STAT_STATE = 0 → Does (.twinUnpair false) s (s.finish c stDENIED)) ∧
      (s.rf TW_STAT_STATE ≠ 0 → Does (.twinUnpair false) s ((s.unpair.twTell [3]).finish c stOK [0]))) ∧
    (s.tw.switch = none →
      (∀ (c : Cmd), s.starts 0x0902 c → (s.isRunning = false ∨ s.rb TW_STAT_FIT = false) → Does (.twinSwitch false) s (s.finish c stDENIED)) ∧
      (∀ (c : Cmd), s.starts 0x0902 c → s.isRunning = true → s.rb TW_STAT_FIT = true → s.isStandby = false →
        Does (.twinSwitch false) s { s with tw := { s.tw with switch := some (s.rf TW_EPOCH_NUMBER) } })) ∧
    (∀ e, s.tw.switch = some e → s.isActiveRunning = true → s.canYield = true → s.rf TW_ACKED_EPOCH < e → ∀ b, Does (.twinSwitch b) s s) ∧
    (∀ (c : Cmd) e, s.tw.switch = some e → s.isActiveRunning = true → s.canYield = true → e ≤ s.rf TW_ACKED_EPOCH → s.yieldNow.starts 0x0902 c →
      ∀ b, Does (.twinSwitch b) s (s.yieldNow.finish c stOK [s.yieldNow.rf TW_STAT_ROLE])) ∧
    (s.yieldReq = false → Does .yieldRequest s s) ∧
    (s.yieldReq = true → let y : State := { s with yieldReq := false, yieldFor := [] }
      (y.canYield = true → Does .yieldRequest s y.yieldNow) ∧ (y.canYield = false → Does .yieldRequest s (y.each s.yieldFor State.soloPath))) ∧
    ((s.isStandby = false ∨ s.isSable = true) → ∀ w us, Does (.takeover w us) s s.chSync) ∧
    (∀ (us : BitVec 16), s.isStandby = true → s.isSable = false → s.rf TW_STAT_STATE = 2 → s.tw.peerYield = true → s.tw.hold = none → s.ch.txns = [] → s.tn.insts = [] → s.leases = [] →
      ∃ u : State, Does (.takeover false us) s u ∧ u.rf TW_STAT_STATE = 4 ∧ u.rf TW_STAT_ROLE = 1 ∧ u.tw.took = true ∧ u.tw.taking = true ∧ u.rf TW_TAKE_KIND = 1 ∧
        u.rf TW_TAKE_RESUME_US = us.toNat)

/-- The Vault (17 R703, R706, R710, R726): its own errors, a granule's change of world, a recall's deadline, and the debug challenge and token. -/
def Obligations.VaultReportsGranulesAndTokens : Prop :=
  ∀ (s : State), s.powered = true →
    Does (.vaultIntegrity .integrity) s ((s.sf VT_STAT_INTEGRITY 0).report { org := org 0x14 0, cause := 0x1401, cls := sable }) ∧
    Does (.vaultIntegrity (.corrected true)) s (s.report { org := org 0x14 0, cause := 0x1402, cls := slate }) ∧
    (∀ (g : BitVec 21),
      (s.granMapped g.toNat = false → s.secGran.contains g.toNat = false → (g.toNat + 1) * 2 ^ 21 ≤ s.fwBase → Does (.granuleChange g true) s (s.granAdd g.toNat)) ∧
      ((s.granMapped g.toNat = true ∨ s.fwBase < (g.toNat + 1) * 2 ^ 21) → Does (.granuleChange g true) s s) ∧
      (s.secGran.contains g.toNat = true → Does (.granuleChange g false) s (s.granDel g.toNat)) ∧
      (s.secGran.contains g.toNat = false → Does (.granuleChange g false) s s)) ∧
    (∀ (k : Fin 32) (l : Lease), s.leases.find? (fun (l : Lease) => l.idx == k.val && l.deadline.isSome) = some l → 0 < l.holder → l.holder ≤ 512 →
      Does (.recallDeadline k) s ((((s.putLease { l with deadline := none, posted := false }).raise 0x3F1).report
        { org := org 0x14 0, cause := 0x1404, cls := slate, subj := some (l.holder - 1, s.gen (l.holder - 1)), d0 := l.handle }).leaseSync)) ∧
    (∀ (k : Fin 32), (∀ l ∈ s.leases, l.idx ≠ k.val ∨ l.deadline = none) → Does (.recallDeadline k) s s) ∧
    (s.rb VT_DEBUG_LOCKED = true → Does .dbgAuthChallenge s s ∧ ∀ t, Does (.dbgAuthToken t) s s) ∧
    (s.rb VT_DEBUG_LOCKED = false → ∃ (u : State) (b : List Nat), Does .dbgAuthChallenge s u ∧ u.vt.challenge = some b ∧ b.length = 64 ∧
      b.take 16 = toBytes (s.reg rVT_UID_LO 0) 8 ++ toBytes (s.reg rVT_UID_HI 0) 8) ∧
    (∀ (t : List Byte), s.rb VT_DEBUG_LOCKED = false → t.length = 224 →
      let b := byteNats t
      let x : State := { s with vt := { s.vt with challenge := none } }
      let level := b.getD 0 0 % 16
      let key := bit (b.getD 1 0) 0
      let part := fun (o n : Nat) => (b.drop o).take n
      (level = 0 → Does (.dbgAuthToken t) s (((x.sf VT_DEBUG_LEVEL 0).sf VT_DEBUG_FAILS 0).raise 0x3E2)) ∧
      (level ≠ 0 → s.vt.challenge = none → Does (.dbgAuthToken t) s x.dbgReject) ∧
      (∀ c, level ≠ 0 → s.vt.challenge = some c →
        let good := (if key then x.rb VT_KEYS_DBG_OLINEL else x.rb VT_KEYS_DBG_OWNER) = true ∧ sha384 (part 0x20 96) = (Config.debugHash key).toNat ∧ level ≤ (Config.debugMax key).toNat ∧
          ecdsaOk (ofBytes (part 0x20 48)) (ofBytes (part 0x50 48)) (ofBytes (part 0x80 48)) (ofBytes (part 0xB0 48)) (sha384 (c ++ part 0 0x80)) = true
        let y := if level = 3 then x.taint else x
        (good → Does (.dbgAuthToken t) s (((((y.sf VT_DEBUG_LEVEL level).sb VT_DEBUG_KEY key).sf VT_DEBUG_FAILS 0).incSat VT_DEBUG_GRANTS).raise 0x3E2)) ∧
        (¬ good → Does (.dbgAuthToken t) s x.dbgReject)))

/-- Boot and staging (17 R717, R720, R723): a boot that cannot continue stops with its code, one in Maintenance stops there, and only a module that is booting boots; a staged image is
taken block by block, and a failure leaves its reason. -/
def Obligations.BootStopsByCodeAndStagingTakesBlocks : Prop :=
  ∀ (s : State), s.powered = true →
    (∀ env finds, s.rf VT_BOOT_STATE ≠ 0 → Does (.boot env finds) s s.chSync) ∧
    (∀ (env : BootEnv) finds, s.rf VT_BOOT_STATE = 0 →
      let x : State := match env.spi with | some (a, b) => { s with vt := { s.vt with slotA := a, slotB := b } } | none => s
      let y := x.sf VT_BOOT_ELAPSED_MS env.elapsedMs.toNat
      let step := fun (z : State) (n : Nat) => z.sf VT_BOOT_STEP n
      (env.vaultOk = false → Does (.boot env finds) s (((y.sf VT_STAT_INTEGRITY 0).report { org := org 0x14 0, cause := 0x1401, cls := sable }).bootTo 2 0x0A).chSync) ∧
      (env.vaultOk = true → y.rf VT_STAT_LIFECYCLE = 0 → Does (.boot env finds) s (y.bootTo 2 8).chSync) ∧
      (env.vaultOk = true → y.rf VT_STAT_LIFECYCLE ≠ 0 → y.rf VT_STAT_LIFECYCLE ≠ 1 → Does (.boot env finds) s (y.bootTo 2 9).chSync) ∧
      (env.vaultOk = true → y.rf VT_STAT_LIFECYCLE = 1 → y.rf VT_BOOT_BOOT_SRC = 3 → Does (.boot env finds) s ((step y 1).bootTo 4 0).chSync) ∧
      (env.vaultOk = true → y.rf VT_STAT_LIFECYCLE = 1 → y.rf VT_BOOT_BOOT_SRC ≠ 3 →
        match y.pickSlot with
        | .error (e, fb) => Does (.boot env finds) s
            ((((step y (if e = 7 then 3 else 1)).sb VT_BOOT_FALLBACK fb).when (e == 7) (fun z => (z.sf VT_STAT_PATCH_LOCKED 1).sf KC_UCODE_ID_LOCKED 1)).bootTo 2 e).chSync
        | .ok (slot, fb, a, p) =>
          let z := step ((y.useSections slot fb a p).bootStaging env.stage) 4
          (sharedPop env.dimms = none → Does (.boot env finds) s (z.bootTo 2 0x0B).chSync) ∧
          (∀ pop, sharedPop env.dimms = some pop → (2 < (z.bootMemory env pop).notUp ∨ env.hbm = false) →
            Does (.boot env finds) s ((z.bootMemory env pop).bootTo 2 0x0C).chSync) ∧
          (∀ pop, sharedPop env.dimms = some pop → (z.bootMemory env pop).notUp ≤ 2 → env.hbm = true →
            let w := (step (((z.bootMemory env pop).bootCores env).bootIsles.bootLinks env) 6).keepRetired
            let v := step (if w.isSable then w else (step w 7).bootJournal env finds) 8
            let r := (((v.bootTo 1 0).sf MP_STAT_STATE 0).svnCommit a p)
            (v.isSable = true → Does (.boot env finds) s (v.bootTo 3 0).chSync) ∧
            (v.isSable = false → (r.tw.strap && !r.peerRecent) = false → Does (.boot env finds) s r.fltSync.chSync.chSync) ∧
            (v.isSable = false → (r.tw.strap && !r.peerRecent) = true → Does (.boot env finds) s (({ r with tw := { r.tw with train := true } } : State).fltSync.chSync.chSync))))) ∧
    (∀ (c : Cmd) blk ok, s.starts 0x0A01 c →
      let img := c.p 0 % 16
      let t := s.rf VT_STAGE_TARGET
      (((img ≠ 1 ∧ img ≠ 2) ∨ c.p 3 = 0 ∨ (if img = 1 then 2 ^ 24 else 65536) < c.p 3) → Does (.fwStage blk ok) s (s.finish c stBAD_PARAM)) ∧
      (img = 1 → 0 < c.p 3 → c.p 3 ≤ 2 ^ 24 → s.rb VT_STAGE_BUSY = true → Does (.fwStage blk ok) s (s.finish c stDENIED)) ∧
      (img = 1 → 0 < c.p 3 → c.p 3 ≤ 2 ^ 24 → s.rb VT_STAGE_BUSY = false →
        ∃ (u : State) (l : List Nat), Does (.fwStage blk ok) s (u.longPhase c 2 (c.p 3) l) ∧ u.vt.staged = [] ∧ u.rf VT_STAGE_BUSY = 1 ∧
          u.flash t = List.replicate 4096 0 ++ (s.flash t).drop 4096 ∧ u.flash (1 - t) = s.flash (1 - t))) ∧
    (∀ (e : Cmd) (b : List Byte), s.startedCmd 0x0A01 = none → s.mp.cmds.filter (fun (d : Cmd) => d.op == 0x0A01 && d.phase == 3) = [e] →
      let c := s.curCmd e
      (c.lop.cancel = true → ∀ blk ok, Does (.fwStage blk ok) s (s.stageEnd c stCANCELLED 9)) ∧
      (c.lop.cancel = false → ∀ ok, Does (.fwStage none ok) s (s.stageEnd c stFAULTED 7)) ∧
      (c.lop.cancel = false → Does (.fwStage (some b) false) s (s.stageEnd c stFAULTED 8)) ∧
      (c.lop.cancel = false → b.length = 65536 → s.vt.staged.length + 65536 < c.lop.total →
        let y : State := { s with vt := { s.vt with staged := s.vt.staged ++ b } }
        Does (.fwStage (some b) true) s (y.longPos c y.vt.staged.length)))

/-- The resets and the supply's warnings (19 R790, R792-R796): a power-on and a module reset keep the Journal, the fault journal, the boot slots and the waiting commands, and a module
reset a Sable fault and the retired units too; a loss of power stops everything; a warm reset ends the host's commands. -/
def Obligations.ResetsKeepAndDiscardState : Prop :=
  ∀ (s : State),
    (∀ x : Straps, ∃ u : State, Does (.powerOn x) s u ∧ u.ch.ring = s.ch.ring ∧ u.ch.jsn = s.ch.jsn ∧ u.fc.fj = s.fc.fj ∧ u.vt.slotA = s.vt.slotA ∧ u.vt.slotB = s.vt.slotB ∧
      u.fc.units = [] ∧ u.fc.log = [] ∧ u.tn = State.reset.tn ∧ u.leases = [] ∧ u.ma = State.reset.ma ∧ u.tw.strap = x.twinEn ∧ u.powered = true ∧
      u.rf FC_FJ_POWER_ON = (s.rf FC_FJ_POWER_ON + 1) % 65536 ∧ u.rf FC_STAT_SABLE = 0 ∧ u.rf VT_BOOT_STATE = 0 ∧ u.rf VT_BOOT_BOOT_SRC = x.bootSrc.val) ∧
    (∀ x : Straps, s.powered = true → ∃ u : State, Does (.moduleReset x) s u ∧ u.ch.ring = s.ch.ring ∧ u.ch.jsn = s.ch.jsn ∧ u.fc.fj = s.fc.fj ∧ u.vt.slotA = s.vt.slotA ∧
      u.vt.slotB = s.vt.slotB ∧ u.fc.log = [] ∧ u.tn = State.reset.tn ∧ u.leases = [] ∧ u.ma = State.reset.ma ∧ u.tw.strap = x.twinEn ∧ u.rf FC_STAT_SABLE = s.rf FC_STAT_SABLE ∧
      u.rf FC_FJ_POWER_ON = s.rf FC_FJ_POWER_ON ∧ u.rf VT_STAT_TAINTED = s.rf VT_STAT_TAINTED ∧ u.rf VT_BOOT_STATE = 0 ∧
      (∀ o n, o ≠ org 0x13 0 → Map.find s.fc.units o = some n → n.st = 3 → (u.unit o).st = 3)) ∧
    (s.powered = true → ∃ u : State, Does (.powerLoss false) s u ∧ u.powered = false ∧ u.ch.ring = s.ch.ring ∧ u.fc.fltA = false ∧ u.fc.fltB = false) ∧
    (s.powered = true → s.ch.ring.length < ringSize → ∃ u : State, Does (.powerLoss true) s u ∧ u.powered = false ∧ u.ch.ring = s.ch.ring ++ [⟨s.ch.jsn, 0, 0, none, false⟩]) ∧
    (s.powered = true → s.rf VT_BOOT_STATE ≠ 1 → s.rf VT_BOOT_STATE ≠ 3 → Does .warmDeviceReset s s.chSync) ∧
    (s.powered = true → s.rf VT_BOOT_STATE = 1 →
      let x := (s.report { org := org 0x10 0, cause := 0x1004, cls := slate }).dropHostCmds
      let y := ((x.wreg rCH_HOST_CQ_CFG 0 (rCH_HOST_CQ_CFG.resetVal 0)).wreg rCH_HOST_CQ_TAIL 0 0).wreg rCH_HOST_CQ_HEAD 0 0
      let z := ((y.sf CH_STAT_JOURNAL 1).sf CH_REPLAY_TRIGGER 2).replay []
      y.isSable = false → z.rf MP_STAT_STATE ≠ 2 → Does .warmDeviceReset s ((((z.sf MP_STAT_STATE 1).raise 0x3C0).restartCmds.sf MP_STAT_STATE 0).raise 0x3C0).chSync) ∧
    (s.powered = true → (∀ b, s.vt.pwrFail = b → Does (.pwrFailN b) s s) ∧
      (s.vt.pwrFail = true → Does (.pwrFailN false) s { s with vt := { s.vt with pwrFail := false } }) ∧
      (s.vt.pwrFail = false → let y : State := { s with vt := { s.vt with pwrFail := true } }
        Does (.pwrFailN true) s ((y.report { org := org 0x18 164, cause := 0x0008, cls := slate }).raise 0x3C6).askTakeover)) ∧
    (∀ r : Fin 11, s.powered = true →
      let y := s.report { org := org 0x18 164, cause := 0x0008, cls := ochre }
      (4 ≤ r.val → Does (.supplyFault r) s y) ∧ (r.val < 4 → Does (.supplyFault r) s (y.each (List.range 16) (fun s k => s.checkStop (16 * r.val + k)))))

/-- Power states, declarations and reports (18 R744-R747, R763, R765, 14 R605): an idle core enters a deeper state that its limit allows and wakes to Run, a declaration is kept and its
cores wake, and the queries answer what the registers hold. -/
def Obligations.CoresSleepWithinTheirLimits : Prop :=
  ∀ (s : State), s.powered = true →
    (∀ (k : Fin 64),
      let enters := fun (p : Nat) => s.coreIdle k.val = true ∧ p ≤ s.coreLimit k.val ∧ s.rf KC_PCS_POWER k.val < p
      (enters 1 → Does (.idleGate k) s (s.setPower k.val 1)) ∧ (¬ enters 1 → Does (.idleGate k) s s) ∧
      (enters 2 → Does (.napEntry k) s (s.setPower k.val 2)) ∧ (¬ enters 2 → Does (.napEntry k) s s) ∧
      (enters 3 → Does (.darkEntry k) s (s.setPower k.val 3)) ∧ (¬ enters 3 → Does (.darkEntry k) s s)) ∧
    (∀ (k : Fin 64), s.rf KC_PCS_ROLE k.val = 0 →
      ((∃ e, e < 64 ∧ s.runnable k.val e = true) → Does (.coreWake k) s (s.setPower k.val 0)) ∧
      ((∀ e, e < 64 → s.runnable k.val e = false) → Does (.coreWake k) s s) ∧
      (∀ e i v, e < 64 → s.disp k.val e = some (i, v) → s.vcRuns i v = true → (s.vc (vkey i v)).wfi = true → bit ((s.vc (vkey i v)).getCr 0x10) 0 = true →
        (s.vc (vkey i v)).getCr 0x12 ≤ s.now + wakeLat (s.rf KC_PCS_POWER k.val) → Does (.timerWake k) s (s.setPower k.val 0)) ∧
      ((∀ e, e < 64 → s.disp k.val e = none) → Does (.timerWake k) s s)) ∧
    (∀ (c : Cmd), s.starts 0x0201 c → s.wrongWorld c = false → s.ist c.inst ≠ 0 → s.ist c.inst ≠ 8 →
      (c.p 0 ≠ 0x80 → s.rf TN_INST_VCORES c.inst < c.p 0 → Does .latencySet s (s.finish c stBAD_PARAM)) ∧
      (c.p 0 = 0x80 →
        let y := (s.mirrorCmd c).setInst c.inst (fun x => { x with decl := Map.put x.decl 0x80 (c.p 1) })
        Does .latencySet s (y.finish c stOK [if 3000 ≤ c.p 1 then 1 else 0]))) ∧
    (∀ (c : Cmd), s.starts 0x0202 c →
      (c.p 0 = 0 → c.sender ≠ 0 → Does .powerQuery s (s.finish c stDENIED)) ∧ (c.p 0 = 0 → c.sender = 0 → Does .powerQuery s (s.finish c stOK [s.rf IS_STAT_POWER_MW])) ∧
      (c.p 0 = 2 → c.sender = 0 → Does .powerQuery s (s.finish c stOK [s.rf KC_PCS_POWER (c.p 1)])) ∧ (2 < c.p 0 → Does .powerQuery s (s.finish c stBAD_PARAM))) ∧
    (∀ (c : Cmd) (y : State), s.starts 0x0710 c → c.p 0 = 1 → 2672 ≤ c.p 3 →
      s.bufWrite c (c.p64 1) ((List.range 167).flatMap (fun i => s.isleRecord i)) = (y, true) → Does .healthQuery s (y.finish c stOK [2672])) ∧
    (∀ (c : Cmd), s.starts 0x0710 c → c.p 0 = 0 → Does .healthQuery s (s.finish c stBAD_PARAM [0])) ∧
    (∀ (c : Cmd), s.starts 0x0801 c →
      let y := s.snap 0
      Does .counterSnapshot s (y.finish c stOK [y.reg rPM_SNAP_TIME 0 % 2 ^ 32, y.reg rPM_SNAP_TIME 0 / 2 ^ 32]))

/-- Power, ageing and parking (18 R742, R748-R752): self-refresh under its conditions, the throttle and its calm, the islands' margins, planned parking and its return, handshake errors and
lost clocks. -/
def Obligations.IslandsThrottleAgeAndPark : Prop :=
  ∀ (s : State), s.powered = true →
    (∀ r : Fin 8, (s.srPermit r.val = true → bit (s.rf IS_MEM_SR_ACTIVE) r.val = false →
        Does (.selfRefreshEntry r) s ((s.sf IS_MEM_SR_ACTIVE (setBit (s.rf IS_MEM_SR_ACTIVE) r.val true)).raiseMs 0x375)) ∧
      ((s.srPermit r.val = false ∨ bit (s.rf IS_MEM_SR_ACTIVE) r.val = true) → Does (.selfRefreshEntry r) s s)) ∧
    (∀ (mw : BitVec 32) (ts : List (BitVec 12)) (rs : List (BitVec 32)),
      let t := fun (k : Nat) => (ts.map (·.toNat)).getD k 0
      let x := (((((s.sf IS_STAT_POWER_MW mw.toNat).sf IS_THERM_CT0 (t 0)).sf IS_THERM_CT1 (t 1)).sf IS_THERM_CT2 (t 2)).sf IS_THERM_CT3 (t 3)).sf IS_THERM_HUB (t 4)
      let calm := decide (mw.toNat * 100 ≤ x.rf IS_CFG_PWR_LIMIT_W * 95000) && (List.range 5).all (fun k => decide (t k < 100 * 16))
      let y : State := { x with pw := { x.pw with rails := rs.map (·.toNat), cool := if calm then x.pw.cool + 1 else 0 } }
      (y.hotLevel ≠ 0 → Does (.powerEstimate mw ts rs) s (y.setLevel y.hotLevel)) ∧
      (y.hotLevel = 0 → y.pw.steps = [] → Does (.powerEstimate mw ts rs) s (y.setLevel 0)) ∧
      (y.hotLevel = 0 → y.pw.steps ≠ [] → Does (.powerEstimate mw ts rs) s y)) ∧
    (s.hotLevel = 0 → s.pw.cool < 100 → Does .throttleStep s s) ∧
    (s.hotLevel ≠ 0 →
      let lowers := fun (k : Nat) => (List.range 64).filter (fun c => s.coreClass c == some k && decide (s.isleSteps c < 26))
      let down := fun (l : List Nat) => ({ s with pw := { s.pw with steps := l.foldl (fun m c => Map.set m 0 c (Map.getD m c 0 + 1)) s.pw.steps } } : State).stepSync
      (lowers 2 ≠ [] → Does .throttleStep s (down (lowers 2))) ∧
      (lowers 2 = [] → lowers 1 ≠ [] → Does .throttleStep s (down (lowers 1))) ∧
      (lowers 2 = [] → lowers 1 = [] → lowers 0 ≠ [] → Does .throttleStep s (down (lowers 0)))) ∧
    (∀ m : BitVec 16, Does (.ageingSample [m]) s (s.ageIsle 0 m.toNat)) ∧
    (∀ l : List (BitVec 16), Does (.ageingSample l) s (s.each (((l.map (·.toNat)).take 167).zipIdx) (fun s (p : Nat × Nat) => s.ageIsle p.2 p.1))) ∧
    (∀ i : Fin 167, s.rf IS_ISL_CTL_RESULT i.val = 1 → Does (.park i) s s ∧ ∀ b, Does (.unpark i b) s s) ∧
    (∀ i : Fin 167, s.rf IS_ISL_CTL_RESULT i.val ≠ 1 →
      let x := s.report { org := org 0x18 i.val, cause := 0x1806, cls := slate }
      let k := i.val - 125
      (isleKind i.val ≠ 1 → isleKind i.val ≠ 0xB → isleKind i.val ≠ 0xC → x.isleLeased i.val = false →
        Does (.park i) s (x.parkEnds i.val 4) ∧ ∀ b, Does (.unpark i b) s (x.parkEnds i.val 4)) ∧
      (isleKind i.val = 0xB → x.isleLeased i.val = false → x.rb IS_ISL_STAT_PARKED i.val = false → (x.unit (org 0xA k)).st = 0 →
        (x.czUps.length < 3 → Does (.park i) s (x.parkEnds i.val 5)) ∧
        (3 ≤ x.czUps.length → Does (.park i) s ((x.pipeOff (org 0xA k)).parkDone i.val (org 0xA k)))) ∧
      (isleKind i.val = 0xB → x.rb IS_ISL_STAT_PARKED i.val = true →
        let y := x.sf IS_ISL_STAT_PARKED 0 i.val
        Does (.unpark i true) s (((y.setUnit (org 0xA k) (fun u => { u with st := 0 })).czReturn k).parkEnds i.val 2) ∧
        Does (.unpark i false) s ((((y.testFailed (org 0xA k) 6).retireUnit (org 0xA k)).unitReg (org 0xA k) 3).parkEnds i.val 2))) ∧
    (∀ (i : Fin 167) (u : Fin 8),
      let x := ((s.bump rIS_HS_ERR_CNT).report { org := org 0x18 i.val, cause := 0x1801, cls := slate }).raiseMs 0x373
      (isleKind i.val = 1 → Does (.handshakeError i u) s (x.countRetry i.val)) ∧ (isleKind i.val = 7 → Does (.handshakeError i u) s (x.laneRepeats (8 * (i.val - 111) + u.val) 1)) ∧
      (isleKind i.val = 4 → Does (.handshakeError i u) s x)) ∧
    (∀ (i : Fin 167),
      let x := s.each (isleUnits i.val) (fun s o => s.report { org := o, cause := 0x0007, cls := ochre })
      (isleKind i.val = 1 → Does (.islandClockLoss i) s (x.checkStop i.val).chSync) ∧ (isleKind i.val = 0xB → Does (.islandClockLoss i) s (x.czRetire (i.val - 125)).chSync) ∧
      (isleKind i.val = 8 → Does (.islandClockLoss i) s x.storeLoss.chSync) ∧ (isleKind i.val = 0x14 → Does (.islandClockLoss i) s x.chSync))

/-- Device time and the monitors (18 R753-R758, R762-R764): corrections step or slew, sources select and lose the time base, PPS_OUT marks the second, a snapshot copies every counter to
its shadow, and a window keeps its greatest. -/
def Obligations.DeviceTimeAndMonitorsFollowTheirInputs : Prop :=
  ∀ (s : State), s.powered = true →
    (∀ (v : Word) (ref : Bool),
      let x := s.refSeen ref
      let c := sextInt 64 v.toNat
      (x.usesPps = true → c % 1000000000 ≠ 0 → Does (.tmAdj v ref) s x) ∧
      ((x.usesPps = false ∨ c % 1000000000 = 0) → Does (.tmAdj v ref) s (((x.srcFlag TM_STAT_PTP_OK true).tmMeasure c x.usesPtp).correct c))) ∧
    (∀ (c : Int), (0 < c → (s.rf TM_CFG_STEP_MS : Int) * 1000000 < c → (s.correct c).pw.slew = 0) ∧
      ((c ≤ 0 ∨ c ≤ (s.rf TM_CFG_STEP_MS : Int) * 1000000) → s.correct c = { s with pw := { s.pw with slew := c } })) ∧
    (∀ (v : BitVec 4) (ref : Bool), (4 < v.toNat → Does (.tmSourceWrite v ref) s (s.refSeen ref)) ∧
      (v.toNat = 0 → Does (.tmSourceWrite v ref) s (((s.refSeen ref).sf TM_CFG_SOURCE 0).tmTo 0)) ∧
      (v.toNat = 1 → Does (.tmSourceWrite v ref) s (((s.refSeen ref).sf TM_CFG_SOURCE 1).tmTo 1)) ∧
      (2 ≤ v.toNat → v.toNat ≤ 4 → Does (.tmSourceWrite v ref) s ((((s.refSeen ref).sf TM_CFG_SOURCE v.toNat).servoRate).tmTo 1))) ∧
    (∀ (fall soon ref : Bool),
      let x := s.refSeen ref
      let y := x.wreg rTM_PPS_IN 0 x.now
      (fall ≠ x.rb TM_CFG_PPS_IN_FALL → Does (.ppsInEdge fall soon ref) s x) ∧
      (fall = x.rb TM_CFG_PPS_IN_FALL → soon = false → y.usesPps = false → Does (.ppsInEdge fall soon ref) s y) ∧
      (fall = x.rb TM_CFG_PPS_IN_FALL → soon = true → (y.srcFlag TM_STAT_PPS_OK true).usesPps = false → Does (.ppsInEdge fall soon ref) s (y.srcFlag TM_STAT_PPS_OK true))) ∧
    (∀ (k : Fin 3),
      let f := match k.val with | 0 => TM_STAT_PPS_OK | 1 => TM_STAT_REFCLK_OK | _ => TM_STAT_PTP_OK
      let uses := match k.val with | 0 => s.usesPps | 1 => s.usesRef | _ => s.usesPtp
      let y := s.srcFlag f false
      (uses = true → (y.rf TM_STAT_STATE = 1 ∨ y.rf TM_STAT_STATE = 2) → Does (.holdover k) s (y.tmTo 3)) ∧ (uses = false → Does (.holdover k) s y)) ∧
    Does .oscFault s ((((s.sf TM_STAT_OSC (1 - s.rf TM_STAT_OSC)).sf TM_STAT_OSC_FAULT 1).raise 0x361).report { org := org 0x12 0, cause := 0x1205, cls := ochre }) ∧
    (s.rb TM_PPS_OUT_EN = true → 2 ≤ s.rf TM_STAT_STATE → Does .ppsOut s (s.emit (.pps s.now (s.rf TM_PPS_OUT_WIDTH_US)))) ∧
    (s.rb TM_PPS_OUT_EN = false → Does .ppsOut s s) ∧
    (s.rf PM_SNAP_STAT_COUNT ≠ 0 → s.now < s.reg rPM_SNAP_TIME 0 + 1000 → Does .snap s (s.incSat PM_SNAP_STAT_MISSED)) ∧
    ((s.rf PM_SNAP_STAT_COUNT = 0 ∨ s.reg rPM_SNAP_TIME 0 + 1000 ≤ s.now) →
      (∃ u : State, Does .snap s u ∧ (∀ n, n < 64 → u.reg rPM_SHD_CNT n = s.reg rPM_CNT n) ∧ u.reg rPM_SHD_CYCLE 0 = s.reg rPM_CYCLE 0 ∧
        (∀ k, k < 16 → u.reg rPM_SHD_BW k = s.reg rPM_BW k) ∧ u.reg rPM_SNAP_TIME 0 = s.now) ∧
      (s.rb PM_CTL_PIN_EN = true → Does .pmuSnapEdge s (s.snap 2))) ∧
    (s.rb PM_CTL_PIN_EN = false → Does .pmuSnapEdge s s) ∧
    (∀ b : Bool, Does (.freeze b) s ((s.sb PM_CTL_FREEZE b).sb PM_CTL_FROZEN b)) ∧
    (∀ k : Fin 16,
      (s.rb PM_CTL_FROZEN = true → Does (.bandwidthWindowEnd k) s s) ∧
      (∀ n, s.rb PM_CTL_FROZEN = false → s.rb PM_BW_CFG_EN k.val = true → Map.find s.pw.bw k.val = some n →
        let y := (s.sf PM_BW_LAST (satN 32 (n / 64)) k.val).sf PM_BW_MAX (max (satN 32 (n / 64)) ((s.sf PM_BW_LAST (satN 32 (n / 64)) k.val).rf PM_BW_MAX k.val)) k.val
        Does (.bandwidthWindowEnd k) s { y with pw := { y.pw with bw := Map.put y.pw.bw k.val 0 } }))

/-- The ports of 19 (R807-R809, R811-R814, R822, 06 R254, R805): Ethernet frames and links, gate banks and address refreshes, PCIe links, their ranges and inbound requests, the
Management Port's link and its configuration, and host memory that is written only while Bus Master Enable is 1. -/
def Obligations.PortsFollowTheirLinksAndFrames : Prop :=
  ∀ (s : State), s.powered = true →
    (∀ (p : Fin 4) (b : List Byte) (ok : Bool),
      ((s.rb NT_CFG_EN p.val = false ∨ s.rb NT_STAT_LINK p.val = false) → Does (.ethernetFrameReceive p b ok) s s.chSync) ∧
      (s.rb NT_CFG_EN p.val = true → s.rb NT_STAT_LINK p.val = true →
        let x := (s.bump rNT_RX_CNT p.val).bwBytes (0x24 + p.val) b.length
        Does (.ethernetFrameReceive p b false) s (((s.bump rNT_FCS_ERR p.val).report { org := org 0xE p.val, cause := 0x0E02, cls := slate }).raiseMs (0x322 + 4 * p.val)).chSync ∧
        ((b.length < 14 ∨ 9022 < b.length) → Does (.ethernetFrameReceive p b true) s (x.ntDiscard p.val).chSync) ∧
        (14 ≤ b.length → b.length ≤ 9022 → isPtp (parseEth (byteNats b)) = true → Does (.ethernetFrameReceive p b true) s x.chSync) ∧
        (∀ v6 sa da sp dp data ch, 14 ≤ b.length → b.length ≤ 9022 → isPtp (parseEth (byteNats b)) = false → (parseEth (byteNats b)).tag = none → parseArp (parseEth (byteNats b)) = none →
          parseUdp (parseEth (byteNats b)) = some (v6, sa, da, sp, dp, data) →
          (x.netChans p.val).find? (fun c => let d := x.cdef c
            tagFits d none && dfld d 4 2 2 == b2n v6 && chanAddr d 0x10 == da && chanAddr d 0x20 == sa && dfld d 8 15 0 == dp && dfld d 8 31 16 == sp) = some ch →
          Does (.ethernetFrameReceive p b true) s ({ x with ch := { x.ch with inbox := x.ch.inbox ++ [⟨ch, data⟩] } } : State).chSync))) ∧
    (∀ (c : BitVec 10) (d : Nat), s.chanKind c.toNat = 2 → s.rf CH_CHAN_STATE c.toNat = 1 → Map.find s.ch.defs c.toNat = some d →
      let p := Map.getD s.ch.peers c.toNat (0, 0, 0)
      (p.2.2 < 3 → Does (.arpRefresh c) s (s.arpAsk c.toNat)) ∧
      (3 ≤ p.2.2 → Does (.arpRefresh c) s ((({ s with ch := { s.ch with peers := Map.put s.ch.peers c.toNat (p.1, 0, 0) } } : State).report
        { org := org 0xE (dfld (s.cdef c.toNat) 4 1 0), cause := 0x0E03, cls := slate }).raise (ntSrc (dfld (s.cdef c.toNat) 4 1 0) 3)))) ∧
    (∀ (p : Fin 4),
      (∀ m fec, s.rb NT_CFG_EN p.val = true → s.rb NT_STAT_LINK p.val = false →
        Does (.ethernetLinkChange p (some (m, fec))) s ((((s.sf NT_STAT_LINK 1 p.val).sf NT_STAT_MODE m.val p.val).sb NT_STAT_FEC fec p.val).raise (ntSrc p.val 0)).chSync) ∧
      (s.rb NT_STAT_LINK p.val = true → Does (.ethernetLinkChange p none) s
        ((((s.sf NT_STAT_LINK 0 p.val).sf NT_STAT_MODE 0 p.val).sf NT_STAT_FEC 0 p.val).report { org := org 0xE p.val, cause := 0x0E01, cls := slate } |>.raise (ntSrc p.val 0)).chSync) ∧
      Does (.switch p) s (s.sf NT_GCL_CFG_PENDING 1 p.val) ∧
      (s.rb NT_GCL_CFG_PENDING p.val = true →
        Does (.gateBankChange p) s (((s.sf NT_GCL_CFG_ACTIVE (1 - s.rf NT_GCL_CFG_ACTIVE p.val) p.val).sf NT_GCL_CFG_PENDING 0 p.val).raise (ntSrc p.val 1))) ∧
      (s.rb NT_GCL_CFG_PENDING p.val = false → Does (.gateBankChange p) s s)) ∧
    Does .mpPerstN s (({ s with mp := { s.mp with busMaster := false, msixEn := false, msixMask := false } }.report { org := org 0x10 0, cause := 0x1001, cls := slate }).raise 0x3C5) ∧
    (∀ addr bs, s.hostWrite addr bs = if s.mp.busMaster then (s.emit (.hostWrite addr bs), true) else (s, false)) ∧
    (∀ bm en mask : Bool, s.mp.msixPend = [] →
      Does (.registerWrite (.config bm en mask)) s { s with mp := { s.mp with busMaster := bm, msixEn := en, msixMask := mask } }) ∧
    (∀ (l : Fin 16),
      (s.rf PX_LINK_STAT_STATE l.val = 0 → ∀ e, Does (.pcieLinkChange l e) s s.chSync) ∧
      (s.rf PX_LINK_STAT_STATE l.val ≠ 0 → s.rb PX_LINK_CFG_EN l.val = true →
        Does (.pcieLinkChange l .down) s (s.pxDown l.val 2).chSync ∧
        (s.rf PX_LINK_STAT_STATE l.val ≠ 4 → Does (.pcieLinkChange l .training) s (s.pxState l.val 3).chSync) ∧
        Does (.pcieLinkChange l .correctable) s (s.pxReport (l.val / 4) (some l.val) 0x0F02 0).chSync)) ∧
    (∀ (a : Agent) (l : Fin 16) (v : Word), s.rb PX_LINK_CFG_EN l.val = false → s.rf PX_LINK_STAT_STATE l.val ≠ 0 →
      let u := bits v.toNat 44 20
      (s.rf PX_LINK_LIMIT_ADDR l.val < u → Does (.linkRangeWrite a l false v) s (s.regAccess (agentOrg a) (rPX_LINK_BASE.addr l.val) 8 true)) ∧
      (u ≤ s.rf PX_LINK_LIMIT_ADDR l.val → s.rf PX_LINK_LIMIT_ADDR l.val < 0x1FFFF00 →
        (∀ k, k < 4 → l.val / 4 * 4 + k ≠ l.val → s.rf PX_LINK_STAT_STATE (l.val / 4 * 4 + k) = 0) → Does (.linkRangeWrite a l false v) s (s.sf PX_LINK_BASE_ADDR u l.val))) ∧
    (∀ (a : Agent) (l : Fin 16) (v : Word) (b : Bool), s.rb PX_LINK_CFG_EN l.val = true → Does (.linkRangeWrite a l b v) s s) ∧
    (∀ (l : Fin 16) (rid : BitVec 16) (addr : Word) (ide sp : Bool) (far : FarEnd),
      let x := fun (n : Nat) => s.bwBytes (0x10 + l.val / 4) n
      (∀ (n : Fin 4097), (x n.val).rf PX_LINK_STAT_STATE l.val = 4 → (x n.val).stream (l.val / 4) rid.toNat = none →
        Does (.pcieInboundRequest l rid addr ide sp none n far) s ((x n.val).emit (.pcieCpl (l.val / 4) 1 false []))) ∧
      (∀ (b : List Byte) n, (x b.length).rf PX_LINK_STAT_STATE l.val = 4 → (x b.length).stream (l.val / 4) rid.toNat = none →
        Does (.pcieInboundRequest l rid addr ide sp (some b) n far) s (x b.length)) ∧
      (∀ (b : List Byte) (n : Fin 4097) (k pa : Nat) (pr : Bool) (y : State), 0 < b.length → addr.toNat % 4096 + b.length ≤ 4096 →
        (x b.length).rf PX_LINK_STAT_STATE l.val = 4 → (x b.length).stream (l.val / 4) rid.toNat = some k → sp = false → addr.toNat + b.length ≤ 2 ^ 46 →
        (x b.length).rb PX_STREAM_IDE k = false → (x b.length).isSable = false →
        let i := (x b.length).rf PX_STREAM_INSTANCE k
        (x b.length).ioXlat (64 + l.val / 4) (org 0xF (l.val / 4)) i ((x b.length).gen i) addr.toNat true = (y, .ok pa pr) →
        Does (.pcieInboundRequest l rid addr ide sp (some b) n far) s (y.pxWriteAt pa pr (byteNats b))))

/-- Reads that clear (00 R11, 01 R38, 05 R221, 08 R346, 12 R538, 14 R613, 18 R782, R784): each of the seven registers goes to the reader as it stood, then its RC fields are zero, and no
other register changes. -/
def Obligations.ReadsReturnThenClear : Prop :=
  ∀ (s : State) (a : Agent) (l : Fin 64) (p : Fin 32) (n : Fin 256) (m : Fin 16), s.powered = true → s.barOpen a = true →
    let clears := fun (r : Reg) (i : Nat) (fs : List RF) (u : State) =>
      u.outs = s.outs ++ [.readData (r.addr i) (s.view r i)] ∧ (∀ f ∈ fs, u.rf f i = 0) ∧ (∀ (x : Reg) (j : Nat), x.addr j ≠ r.addr i → u.reg x j = s.reg x j) ∧
        u = { s with regs := u.regs, outs := u.outs }
    (∃ u, Does (.mpEvtDropRead a) s u ∧ clears rMP_EVT_DROP 0 [MP_EVT_DROP_COUNT] u) ∧
    (∃ u, Does (.mxLatMaxRead a) s u ∧ clears rMX_LAT_MAX 0 [MX_LAT_MAX_MEM_NS, MX_LAT_MAX_STOP_NS] u) ∧
    (∃ u, Does (.depthMaxRead a l) s u ∧ clears rSG_LANE_STAT l.val [SG_LANE_STAT_DEPTH_MAX] u) ∧
    (∃ u, Does (.edgeMaxRead a p n) s u ∧ clears rFR_NODE (p.val * 256 + n.val) [FR_NODE_EDGE_MAX_NS] u) ∧
    (∃ u, Does (.utilMaxRead a) s u ∧ clears rMP_LOAD 0 [MP_LOAD_UTIL_MAX] u) ∧
    (∃ u, Does (.missedRead a) s u ∧ clears rPM_SNAP_STAT 0 [PM_SNAP_STAT_MISSED] u) ∧
    (∃ u, Does (.bandwidthMaxRead a m) s u ∧ clears rPM_BW m.val [PM_BW_MAX] u)

/-- A field of a register under a write (00 R13): "If you write a reserved encoding to a field, the module ignores the write to that field, and the field keeps its previous value." The other
fields in the same write take effect. -/
def Obligations.ReservedEncodingsKeepTheirField : Prop :=
  (∀ (r : Reg) (old w : Nat) (f : Fld), (r.flds.Pairwise (fun g h => g.hi < h.lo ∨ h.hi < g.lo)) → (∀ g ∈ r.flds, g.lo ≤ g.hi ∧ g.hi < 64) → f ∈ r.flds → f.acc = .rw →
    (f.assigned (bits w f.hi f.lo) = false → bits (r.write old w (2 ^ 64 - 1)) f.hi f.lo = bits old f.hi f.lo) ∧
    (f.assigned (bits w f.hi f.lo) = true → bits (r.write old w (2 ^ 64 - 1)) f.hi f.lo = bits w f.hi f.lo)) ∧
  (∀ (s : State) (a : Agent) (v : Word), s.powered = true → s.barOpen a = true → (∀ r ∈ [rMP_CMD_CFG, rTW_CFG, rFC_UNIT_SEL],
    Does (.registerWrite (.space a (BitVec.ofNat 64 (r.addr 0)) 8 v)) s (s.wreg r 0 (r.write (s.reg r 0) v.toNat (2 ^ 64 - 1)))))

/-- Register writes by each route (00 R16, 01 R31, 13 R558, 14 R581, 18 R760): a malformed access is recorded and writes nothing, the host's slots and an instance's page take their bytes, a
counter takes the written value, and an increment that collides is lost with LOST_INC. -/
def Obligations.WritesGoByTheirRoutes : Prop :=
  ∀ (s : State), s.powered = true →
    (∀ (a : Agent) (addr : Word) (n : BitVec 8) (v : Word), s.barOpen a = true → addr.toNat < 0x7F1000000000 + 0x1300000 → n.toNat ≠ 4 → n.toNat ≠ 8 →
      Does (.registerWrite (.space a addr n v)) s (s.regAccess (agentOrg a) addr.toNat n.toNat true)) ∧
    (∀ (off : BitVec 19) (b : List Byte), s.barOpen .host = true → off.toNat + b.length ≤ 0x40000 → 0 < b.length →
      ∃ u : State, Does (.registerWrite (.bar2 off b)) s u ∧ (∀ k, k < b.length → Bytes.rd u.mp.bar2 (off.toNat + k) = b.getD k 0) ∧
        (∀ x, x < off.toNat ∨ off.toNat + b.length ≤ x → Bytes.rd u.mp.bar2 x = Bytes.rd s.mp.bar2 x) ∧ u = { s with mp := { s.mp with bar2 := u.mp.bar2 } }) ∧
    (∀ (i : BitVec 9) (v : Fin 64) (off : BitVec 16) (x : Word) bad, s.ist i.toNat ≠ 0 → 0x2000 ≤ off.toNat → off.toNat + 8 ≤ 0x3000 → off.toNat % 8 = 0 →
      ((s.inst i.toNat).outPosted = true → Does (.registerWrite (.page i v off true x bad)) s s) ∧
      ((s.inst i.toNat).outPosted = false →
        Does (.registerWrite (.page i v off true x bad)) s (s.setInst i.toNat (fun r => { r with mbxOut := Bytes.wrN r.mbxOut (off.toNat - 0x2000) 8 x.toNat })))) ∧
    (∀ (a : Agent) (v : Word), s.barOpen a = true → ∀ r ∈ [rMP_CMD_CNT, rCH_FAIL_CNT, rFC_LOST_CNT],
      let y := s.wreg r 0 (r.write (s.reg r 0) v.toNat (2 ^ 64 - 1))
      Does (.counterWrite a (BitVec.ofNat 64 (r.addr 0)) v .alone) s y ∧
      Does (.counterWrite a (BitVec.ofNat 64 (r.addr 0)) v .increment) s (y.wreg r 0 (setBit (y.reg r 0) 49 true)) ∧
      Does (.counterWrite a (BitVec.ofNat 64 (r.addr 0)) v .wrap) s (y.wreg r 0 (setBit (y.reg r 0) 48 (bit (s.reg r 0) 48))))
end

