-- ==== Sys2Proof/Laws/Bits.lean ====
section
/-! SUPPORT. Bit fields: reading a field after a write of it or of another field, and bounds. -/

namespace Sys2Proof.Machine

theorem bits_lt (n hi lo : Nat) : bits n hi lo < 2 ^ (hi + 1 - lo) := Nat.mod_lt _ (Nat.two_pow_pos _)

theorem testBit_bits (n hi lo k : Nat) : (bits n hi lo).testBit k = (decide (k < hi + 1 - lo) && n.testBit (lo + k)) := by
  unfold bits
  rw [Nat.testBit_mod_two_pow, Nat.testBit_shiftRight]

/-- The bits of a number after a field is written. -/
theorem testBit_setBits (n hi lo v k : Nat) (h : lo ≤ hi + 1) :
    (setBits n hi lo v).testBit k = if k < lo then n.testBit k else if k < hi + 1 then v.testBit (k - lo) else n.testBit k := by
  have e : setBits n hi lo v = 2 ^ lo * (2 ^ (hi + 1 - lo) * (n >>> (hi + 1)) + v % 2 ^ (hi + 1 - lo)) + n % 2 ^ lo := by
    have hp : 2 ^ (hi + 1) = 2 ^ lo * 2 ^ (hi + 1 - lo) := by rw [← pow_add]; congr 1; omega
    unfold setBits
    simp only []
    rw [hp]
    ring
  rw [e, Nat.testBit_two_pow_mul_add _ (Nat.mod_lt _ (Nat.two_pow_pos _))]
  by_cases h1 : k < lo
  · simp [h1, Nat.testBit_mod_two_pow]
  · rw [if_neg h1, if_neg h1, Nat.testBit_two_pow_mul_add _ (Nat.mod_lt _ (Nat.two_pow_pos _))]
    by_cases h2 : k < hi + 1
    · have : k - lo < hi + 1 - lo := by omega
      simp [h2, this, Nat.testBit_mod_two_pow]
    · have : ¬ k - lo < hi + 1 - lo := by omega
      rw [if_neg h2, if_neg this, Nat.testBit_shiftRight]
      congr 1; omega

/-- Reading the field just written. -/
theorem bits_setBits_same (n hi lo v : Nat) (h : lo ≤ hi + 1) : bits (setBits n hi lo v) hi lo = v % 2 ^ (hi + 1 - lo) := by
  apply Nat.eq_of_testBit_eq
  intro k
  rw [testBit_bits, testBit_setBits _ _ _ _ _ h, Nat.testBit_mod_two_pow]
  by_cases hk : k < hi + 1 - lo
  · have h1 : ¬ lo + k < lo := by omega
    have h2 : lo + k < hi + 1 := by omega
    simp [hk, h1, h2]
  · simp [hk]

/-- A write of one field leaves the others alone. -/
theorem bits_setBits_other (n hi lo v hi' lo' : Nat) (h : lo ≤ hi + 1) (hd : hi' < lo ∨ hi < lo') :
    bits (setBits n hi lo v) hi' lo' = bits n hi' lo' := by
  apply Nat.eq_of_testBit_eq
  intro k
  rw [testBit_bits, testBit_bits, testBit_setBits _ _ _ _ _ h]
  by_cases hk : k < hi' + 1 - lo'
  · rcases hd with hd | hd
    · have : lo' + k < lo := by omega
      simp [this]
    · have h1 : ¬ lo' + k < lo := by omega
      have h2 : ¬ lo' + k < hi + 1 := by omega
      simp [h1, h2]
  · simp [hk]

theorem setBits_lt (n hi lo v w : Nat) (h : lo ≤ hi + 1) (hw : hi < w) (hn : n < 2 ^ w) : setBits n hi lo v < 2 ^ w := by
  apply Nat.lt_pow_two_of_testBit
  intro k hk
  rw [testBit_setBits _ _ _ _ _ h]
  have h1 : ¬ k < hi + 1 := by omega
  have h2 : n.testBit k = false := Nat.testBit_lt_two_pow (lt_of_lt_of_le hn (Nat.pow_le_pow_right (by omega) hk))
  by_cases h3 : k < lo
  · simp [h3, h2]
  · simp [h3, h1, h2]

/-- The low w bits of a number hold the same fields. -/
theorem bits_mod (n hi lo w : Nat) (h : hi < w) : bits (n % 2 ^ w) hi lo = bits n hi lo := by
  apply Nat.eq_of_testBit_eq
  intro k
  rw [testBit_bits, testBit_bits, Nat.testBit_mod_two_pow]
  by_cases hk : k < hi + 1 - lo
  · have : lo + k < w := by omega
    simp [hk, this]
  · simp [hk]

/-- Clearing a bit of a mask. -/
theorem testBit_setBit (n i k : Nat) (b : Bool) : (setBit n i b).testBit k = if k = i then b else n.testBit k := by
  unfold setBit
  rw [testBit_setBits _ _ _ _ _ (by omega)]
  by_cases h : k = i
  · subst h; cases b <;> simp
  · have : ¬(i ≤ k ∧ k < i + 1) := by omega
    cases b <;> simp [h] <;> omega

theorem setBit_zero (i : Nat) : setBit 0 i false = 0 := by
  apply Nat.eq_of_testBit_eq
  intro k
  rw [testBit_setBit]
  split <;> simp

end Sys2Proof.Machine
end

