-- ==== Sys2Proof/Laws/Commands.lean ====
section
/-! SUPPORT. What the row of an opcode does with the oldest started command (14 R593, R594, R602). -/

namespace Sys2Proof.Machine

/-- A row without phases runs its effect on the oldest started command. -/
theorem State.onCmd_starts {s : State} {op : Nat} {c : Cmd} (h : s.starts op c) (f : State → Cmd → State) :
    s.onCmd op (fun _ => true) f = f s c := by
  obtain ⟨h, o, ho, hp⟩ := h
  unfold State.onCmd
  rw [h, ho]
  exact if_pos hp

/-- A command that sets an unnamed parameter bit is answered BAD_PARAM and has no other effect. -/
theorem State.onCmd_unnamed {s : State} {op : Nat} {c : Cmd} {o : OpInfo} (h : s.startedCmd op = some c) (ho : opInfo op = some o)
    (hp : paramsNamed o c.ps = false) (f : State → Cmd → State) : s.onCmd op (fun _ => true) f = s.finish c stBAD_PARAM := by
  unfold State.onCmd
  rw [h, ho]
  exact if_neg (by simp [hp])

/-- A long operation begins with the oldest started command. -/
theorem State.onLong_starts {s : State} {op : Nat} {c : Cmd} (h : s.starts op c) (f g : State → Cmd → State) : s.onLong op f g = f s c := by
  unfold State.onLong
  rw [h.1]
  exact State.onCmd_starts h f

/-- With nothing to begin, the one operation under way goes on. -/
theorem State.onLong_next {s : State} {op : Nat} {c : Cmd} (h : s.startedCmd op = none)
    (hc : s.mp.cmds.filter (fun (c : Cmd) => c.op == op && c.phase == 3) = [c]) (f g : State → Cmd → State) :
    s.onLong op f g = g s (s.curCmd c) := by
  unfold State.onLong
  rw [h, hc]
  rfl

/-- A row that the Vault firmware may give runs its effect on the command that it acts on. -/
theorem State.onVia_starts {s t : State} {v : Via} {op : Nat} {p : Cmd → Bool} {c : Cmd} (h : s.startsVia v op p t c) (f : State → Cmd → State) :
    s.onVia v op p f = f t c := by
  obtain ⟨⟨o, ho, hp⟩, h⟩ := h
  cases v with
  | packet =>
    obtain ⟨rfl, h⟩ := h
    unfold State.onVia State.onCmd
    dsimp only
    rw [h, ho]
    exact if_pos hp
  | vault i ps pay =>
    unfold State.onVia
    dsimp only at h ⊢
    rw [ho, h]
    exact if_pos hp

/-- A long operation that the Vault firmware may give begins. -/
theorem State.onLongVia_starts {s t : State} {v : Via} {op : Nat} {c : Cmd} (h : s.startsVia v op (fun _ => true) t c) (f g : State → Cmd → State) :
    s.onLongVia v op f g = f t c := by
  cases v with
  | packet =>
    obtain ⟨hp, rfl, h⟩ := h
    exact State.onLong_starts ⟨h, hp⟩ f g
  | vault i ps pay => exact State.onVia_starts h f

/-- A unit that goes out of service below its recovery limit is Retired for now (15 R629). -/
theorem State.outOfService_below (s : State) (o : Nat) (h : s.recoveries o < s.rf FC_CFG_RECOV_LIMIT) :
    s.outOfService o = (s.setUnit o (fun u => { u with st := 1 }), false) := by
  unfold State.outOfService
  rw [if_neg (by omega)]

/-- A lane's failed checks leave the state of the Signal Store (08 R335). -/
theorem State.laneRepeats_rf_store (s : State) (l n : Nat) : (s.laneRepeats l n).rf SG_STAT_STORE = s.rf SG_STAT_STORE := by
  unfold State.laneRepeats
  generalize List.range n = xs
  induction xs generalizing s with
  | nil => rfl
  | cons x xs ih =>
    show (State.each _ xs _).rf _ = _
    rw [ih]; rfl

/-- A lane's step without an ECC outcome, while the Signal Store is up: the failed checks, the update, its count. -/
theorem State.laneStep_up (s : State) (l : Nat) (n : Fin 3) (p : State → Bool) (f : State → State) (h : s.storeLost = false) :
    s.laneStep l ⟨n, none⟩ p f = (f (s.laneRepeats l n.val)).when (p (s.laneRepeats l n.val)) (fun x => x.laneCount l) := by
  have e : (s.laneRepeats l n.val).storeLost = false := by unfold State.storeLost at *; rw [State.laneRepeats_rf_store]; exact h
  show (if (s.laneRepeats l n.val).storeLost then (s.laneRepeats l n.val) else _) = _
  rw [e]; rfl

end Sys2Proof.Machine
end

