-- ==== Sys2Proof/Laws/Store.lean ====
section
/-! SUPPORT. Sparse maps and byte stores: reading after writing, and the canonical form kept by every operation. -/

namespace Sys2Proof.Machine

variable {α : Type}

@[simp] theorem Map.find_nil (k : Nat) : Map.find ([] : Map α) k = none := rfl

theorem Map.find_cons (j k : Nat) (a : α) (r : Map α) : Map.find ((j, a) :: r) k = if j = k then some a else Map.find r k := rfl

/-- Reading the key just written. -/
@[simp] theorem Map.find_put_same (m : Map α) (k : Nat) (a : α) : Map.find (Map.put m k a) k = some a := by
  induction m with
  | nil => simp [Map.put, Map.find]
  | cons e r ih =>
    obtain ⟨j, b⟩ := e
    unfold Map.put
    split
    · simp [Map.find]
    · split
      · simp [Map.find]
      · rename_i h
        simp [Map.find, Ne.symm h, ih]

/-- A write leaves every other key alone. -/
theorem Map.find_put_other (m : Map α) {k l : Nat} (a : α) (h : l ≠ k) : Map.find (Map.put m k a) l = Map.find m l := by
  induction m with
  | nil => simp [Map.put, Map.find, Ne.symm h]
  | cons e r ih =>
    obtain ⟨j, b⟩ := e
    unfold Map.put
    split
    · simp [Map.find, Ne.symm h]
    · split
      · rename_i h'; subst h'; simp [Map.find, Ne.symm h]
      · simp [Map.find, ih]

theorem Map.find_del_same (m : Map α) (k : Nat) : Map.find (Map.del m k) k = none := by
  induction m with
  | nil => rfl
  | cons e r ih =>
    obtain ⟨j, b⟩ := e
    by_cases h : j = k
    · subst h; simpa [Map.del] using ih
    · have : Map.del ((j, b) :: r) k = (j, b) :: Map.del r k := by simp [Map.del, h]
      rw [this, Map.find_cons, if_neg h, ih]

theorem Map.find_del_other (m : Map α) {k l : Nat} (h : l ≠ k) : Map.find (Map.del m k) l = Map.find m l := by
  induction m with
  | nil => rfl
  | cons e r ih =>
    obtain ⟨j, b⟩ := e
    by_cases hj : j = k
    · subst hj
      have : Map.del ((j, b) :: r) j = Map.del r j := by simp [Map.del]
      rw [this, ih, Map.find_cons, if_neg (Ne.symm h)]
    · have : Map.del ((j, b) :: r) k = (j, b) :: Map.del r k := by simp [Map.del, hj]
      rw [this, Map.find_cons, Map.find_cons, ih]

theorem Map.getD_set_same [DecidableEq α] (m : Map α) (d : α) (k : Nat) (a : α) : Map.getD (Map.set m d k a) k d = a := by
  unfold Map.set
  split
  · rename_i h; simp [Map.getD, Map.find_del_same, h]
  · simp [Map.getD]

theorem Map.getD_set_other [DecidableEq α] (m : Map α) (d : α) {k l : Nat} (a : α) (h : l ≠ k) :
    Map.getD (Map.set m d k a) l d = Map.getD m l d := by
  unfold Map.set Map.getD
  split
  · rw [Map.find_del_other m h]
  · rw [Map.find_put_other m a h]

/-- Every key of the map is above `b`. -/
def Map.above (b : Nat) (m : Map α) : Prop := ∀ e ∈ m, b < e.1

theorem Map.rising_cons (j : Nat) (a : α) (m : Map α) : Map.rising ((j, a) :: m) = true ↔ Map.above j m ∧ Map.rising m = true := by
  induction m generalizing j a with
  | nil => simp [Map.rising, Map.above]
  | cons e r ih =>
    obtain ⟨k, b⟩ := e
    simp only [Map.rising, Bool.and_eq_true, decide_eq_true_eq]
    constructor
    · rintro ⟨h1, h2⟩
      refine ⟨?_, h2⟩
      intro e he
      rcases List.mem_cons.1 he with rfl | he
      · exact h1
      · exact Nat.lt_trans h1 (((ih k b).1 h2).1 e he)
    · rintro ⟨h1, h2⟩
      exact ⟨h1 (k, b) (List.mem_cons_self ..), h2⟩

theorem Map.mem_put {m : Map α} {k : Nat} {a : α} {e : Nat × α} (h : e ∈ Map.put m k a) : e = (k, a) ∨ e ∈ m := by
  induction m with
  | nil => simpa [Map.put] using h
  | cons x r ih =>
    obtain ⟨j, b⟩ := x
    unfold Map.put at h
    split at h
    · simpa using h
    · split at h
      · rcases List.mem_cons.1 h with h | h
        · exact .inl h
        · exact .inr (List.mem_cons_of_mem _ h)
      · rcases List.mem_cons.1 h with h | h
        · exact .inr (h ▸ List.mem_cons_self ..)
        · exact (ih h).imp id (List.mem_cons_of_mem _)

/-- A write keeps the keys rising. -/
theorem Map.rising_put (m : Map α) (k : Nat) (a : α) (h : Map.rising m = true) : Map.rising (Map.put m k a) = true := by
  induction m with
  | nil => rfl
  | cons x r ih =>
    obtain ⟨j, b⟩ := x
    have hr := (Map.rising_cons j b r).1 h
    unfold Map.put
    split
    · rename_i hk
      refine (Map.rising_cons k a _).2 ⟨?_, h⟩
      intro e he
      rcases List.mem_cons.1 he with rfl | he
      · exact hk
      · exact Nat.lt_trans hk (hr.1 e he)
    · split
      · rename_i hk; subst hk; exact (Map.rising_cons k a r).2 hr
      · refine (Map.rising_cons j b _).2 ⟨?_, ih hr.2⟩
        intro e he
        rcases Map.mem_put he with rfl | he
        · show j < k; omega
        · exact hr.1 e he

/-- So does a removal. -/
theorem Map.rising_del (m : Map α) (k : Nat) (h : Map.rising m = true) : Map.rising (Map.del m k) = true := by
  induction m with
  | nil => rfl
  | cons x r ih =>
    obtain ⟨j, b⟩ := x
    have hr := (Map.rising_cons j b r).1 h
    by_cases hj : j = k
    · subst hj
      have e : Map.del ((j, b) :: r) j = Map.del r j := by simp [Map.del]
      rw [e]; exact ih hr.2
    · have e : Map.del ((j, b) :: r) k = (j, b) :: Map.del r k := by simp [Map.del, hj]
      rw [e]
      refine (Map.rising_cons j b _).2 ⟨?_, ih hr.2⟩
      intro e he
      exact hr.1 e (List.mem_filter.1 he).1

theorem Map.rising_set [DecidableEq α] (m : Map α) (d : α) (k : Nat) (a : α) (h : Map.rising m = true) :
    Map.rising (Map.set m d k a) = true := by
  unfold Map.set
  split
  · exact Map.rising_del m k h
  · exact Map.rising_put m k a h

/-! ### Byte stores -/

@[simp] theorem Bytes.rd_wr_same (m : Bytes) (a : Nat) (b : BitVec 8) : Bytes.rd (Bytes.wr m a b) a = b := Map.getD_set_same m 0 a b

theorem Bytes.rd_wr_other (m : Bytes) {a c : Nat} (b : BitVec 8) (h : c ≠ a) : Bytes.rd (Bytes.wr m a b) c = Bytes.rd m c :=
  Map.getD_set_other m 0 b h

/-- A byte written keeps the canonical form. -/
theorem Bytes.wf_wr (m : Bytes) (a : Nat) (b : BitVec 8) (h : Bytes.wf m = true) : Bytes.wf (Bytes.wr m a b) = true := by
  unfold Bytes.wf at *
  rw [Bool.and_eq_true] at *
  refine ⟨Map.rising_set m 0 a b h.1, ?_⟩
  rw [List.all_eq_true] at *
  intro e he
  unfold Bytes.wr Map.set at he
  split at he
  · exact h.2 e (List.mem_filter.1 he).1
  · rename_i hb
    rcases Map.mem_put he with rfl | he
    · simpa using hb
    · exact h.2 e he

theorem Bytes.wf_wrN (m : Bytes) (a n v : Nat) (h : Bytes.wf m = true) : Bytes.wf (Bytes.wrN m a n v) = true := by
  induction n generalizing m a v with
  | zero => exact h
  | succ n ih => exact ih _ _ _ (Bytes.wf_wr _ _ _ h)

/-- A write of n bytes leaves every byte outside them alone. -/
theorem Bytes.rd_wrN_other (m : Bytes) (a n v c : Nat) (h : c < a ∨ a + n ≤ c) : Bytes.rd (Bytes.wrN m a n v) c = Bytes.rd m c := by
  induction n generalizing m a v with
  | zero => rfl
  | succ n ih =>
    unfold Bytes.wrN
    rw [ih _ _ _ (by omega), Bytes.rd_wr_other _ _ (by omega)]

/-- Reading n bytes just written. -/
theorem Bytes.rdN_wrN_same (m : Bytes) (a n v : Nat) : Bytes.rdN (Bytes.wrN m a n v) a n = v % 256 ^ n := by
  induction n generalizing m a v with
  | zero => simp [Bytes.rdN, Nat.mod_one]
  | succ n ih =>
    unfold Bytes.rdN
    have h1 : Bytes.rd (Bytes.wrN m a (n + 1) v) a = BitVec.ofNat 8 v := by
      unfold Bytes.wrN
      rw [Bytes.rd_wrN_other _ _ _ _ _ (by omega), Bytes.rd_wr_same]
    rw [h1]
    have h2 : Bytes.rdN (Bytes.wrN m a (n + 1) v) (a + 1) n = v / 256 % 256 ^ n := ih (Bytes.wr m a (BitVec.ofNat 8 v)) (a + 1) (v / 256)
    rw [h2]
    simp only [BitVec.toNat_ofNat]
    rw [pow_succ 256 n, Nat.mul_comm (256 ^ n) 256, Nat.mod_mul]

end Sys2Proof.Machine
end

