-- ==== Sys2Proof/Laws/Regs.lean ====
section
/-! SUPPORT. Registers and their fields: reading after writing, and what a register write leaves alone. -/

namespace Sys2Proof.Machine

/-- Every field of the register lies within its 64 bits. -/
def Reg.fits (r : Reg) : Bool := r.flds.all (fun f => decide (f.hi < 64) && decide (f.lo ≤ f.hi))

theorem foldl_setBits_lt (l : List Fld) (i v : Nat) (h : l.all (fun f => decide (f.hi < 64) && decide (f.lo ≤ f.hi)) = true) (hv : v < 2 ^ 64) :
    l.foldl (fun v f => setBits v f.hi f.lo (f.rst.eval i)) v < 2 ^ 64 := by
  induction l generalizing v with
  | nil => exact hv
  | cons f r ih =>
    simp only [List.all_cons, Bool.and_eq_true, decide_eq_true_eq] at h
    exact ih _ (by simpa using h.2) (setBits_lt _ _ _ _ _ (by omega) h.1.1 hv)

/-- Reset values are 64 bits wide. -/
theorem Reg.resetVal_lt (r : Reg) (i : Nat) (h : r.fits = true) : r.resetVal i < 2 ^ 64 := foldl_setBits_lt _ _ _ h (by decide)

/-- A register reads as it was written. -/
theorem State.reg_wreg_same (s : State) (r : Reg) (i v : Nat) (h : r.fits = true) : (s.wreg r i v).reg r i = v % 2 ^ 64 := by
  have hr := r.resetVal_lt i h
  unfold State.reg State.wreg Map.set
  dsimp only
  by_cases he : BitVec.ofNat 64 v = BitVec.ofNat 64 (r.resetVal i)
  · have e := congrArg BitVec.toNat he
    simp only [BitVec.toNat_ofNat, Nat.mod_eq_of_lt hr] at e
    rw [if_pos he, Map.find_del_same]
    exact e.symm
  · rw [if_neg he, Map.find_put_same]
    simp

/-- A register write leaves every register at another address alone. -/
theorem State.reg_wreg_other (s : State) (r r' : Reg) (i i' v : Nat) (h : r'.addr i' ≠ r.addr i) :
    (s.wreg r i v).reg r' i' = s.reg r' i' := by
  unfold State.reg State.wreg Map.set
  dsimp only
  by_cases he : BitVec.ofNat 64 v = BitVec.ofNat 64 (r.resetVal i)
  · rw [if_pos he, Map.find_del_other _ h]
  · rw [if_neg he, Map.find_put_other _ _ h]

/-- A field reads as it was written. -/
theorem State.rf_sf_same (s : State) (f : RF) (v i : Nat) (h : f.reg.fits = true) (h1 : f.hi < 64) (h2 : f.lo ≤ f.hi) :
    (s.sf f v i).rf f i = v % 2 ^ (f.hi + 1 - f.lo) := by
  unfold State.rf State.sf
  rw [State.reg_wreg_same _ _ _ _ h, bits_mod _ _ _ _ h1, bits_setBits_same _ _ _ _ (by omega)]

/-- A field write leaves the other fields of its register alone. -/
theorem State.rf_sf_field (s : State) (f g : RF) (v i : Nat) (h : f.reg.fits = true) (hr : g.reg = f.reg) (h1 : g.hi < 64) (h2 : f.lo ≤ f.hi)
    (hd : g.hi < f.lo ∨ f.hi < g.lo) : (s.sf f v i).rf g i = s.rf g i := by
  unfold State.rf State.sf
  rw [hr, State.reg_wreg_same _ _ _ _ h, bits_mod _ _ _ _ h1, bits_setBits_other _ _ _ _ _ _ (by omega) hd]

/-- A field write leaves every register at another address alone. -/
theorem State.rf_sf_other (s : State) (f g : RF) (v i j : Nat) (h : g.reg.addr j ≠ f.reg.addr i) : (s.sf f v i).rf g j = s.rf g j := by
  unfold State.rf State.sf
  rw [State.reg_wreg_other _ _ _ _ _ _ h]

/-- A write keeps the registers' canonical form. -/
theorem State.rising_wreg (s : State) (r : Reg) (i v : Nat) (h : Map.rising s.regs = true) : Map.rising (s.wreg r i v).regs = true :=
  Map.rising_set _ _ _ _ h

theorem State.rising_sf (s : State) (f : RF) (v i : Nat) (h : Map.rising s.regs = true) : Map.rising (s.sf f v i).regs = true :=
  State.rising_wreg _ _ _ _ h

theorem State.rising_bump (s : State) (r : Reg) (i n : Nat) (h : Map.rising s.regs = true) : Map.rising (s.bump r i n).regs = true :=
  State.rising_wreg _ _ _ _ h

/-- Operations that write no register leave every field as it was. -/
theorem State.rf_of_regs {s t : State} (h : t.regs = s.regs) (f : RF) (i : Nat) : t.rf f i = s.rf f i := by
  unfold State.rf State.reg; rw [h]

end Sys2Proof.Machine
end

