-- ==== Sys2Proof/Laws/State.lean ====
section
/-! SUPPORT. What the shared updates of State leave alone: one lemma per field per update. -/

namespace Sys2Proof.Machine

variable (s : State)

@[simp] theorem State.wreg_ma (r : Reg) (i v : Nat) : (s.wreg r i v).ma = s.ma := rfl
@[simp] theorem State.wreg_coh (r : Reg) (i v : Nat) : (s.wreg r i v).coh = s.coh := rfl
@[simp] theorem State.wreg_tlb (r : Reg) (i v : Nat) : (s.wreg r i v).tlb = s.tlb := rfl
@[simp] theorem State.wreg_fc (r : Reg) (i v : Nat) : (s.wreg r i v).fc = s.fc := rfl
@[simp] theorem State.wreg_tn (r : Reg) (i v : Nat) : (s.wreg r i v).tn = s.tn := rfl
@[simp] theorem State.wreg_kc (r : Reg) (i v : Nat) : (s.wreg r i v).kc = s.kc := rfl
@[simp] theorem State.wreg_sg (r : Reg) (i v : Nat) : (s.wreg r i v).sg = s.sg := rfl
@[simp] theorem State.wreg_cz (r : Reg) (i v : Nat) : (s.wreg r i v).cz = s.cz := rfl
@[simp] theorem State.wreg_mp (r : Reg) (i v : Nat) : (s.wreg r i v).mp = s.mp := rfl
@[simp] theorem State.wreg_cy (r : Reg) (i v : Nat) : (s.wreg r i v).cy = s.cy := rfl
@[simp] theorem State.wreg_ch (r : Reg) (i v : Nat) : (s.wreg r i v).ch = s.ch := rfl
@[simp] theorem State.wreg_fr (r : Reg) (i v : Nat) : (s.wreg r i v).fr = s.fr := rfl
@[simp] theorem State.wreg_tw (r : Reg) (i v : Nat) : (s.wreg r i v).tw = s.tw := rfl
@[simp] theorem State.wreg_vt (r : Reg) (i v : Nat) : (s.wreg r i v).vt = s.vt := rfl
@[simp] theorem State.wreg_pw (r : Reg) (i v : Nat) : (s.wreg r i v).pw = s.pw := rfl
@[simp] theorem State.wreg_leases (r : Reg) (i v : Nat) : (s.wreg r i v).leases = s.leases := rfl
@[simp] theorem State.wreg_leaseSerial (r : Reg) (i v : Nat) : (s.wreg r i v).leaseSerial = s.leaseSerial := rfl
@[simp] theorem State.wreg_secGran (r : Reg) (i v : Nat) : (s.wreg r i v).secGran = s.secGran := rfl
@[simp] theorem State.wreg_recorded (r : Reg) (i v : Nat) : (s.wreg r i v).recorded = s.recorded := rfl
@[simp] theorem State.wreg_yieldReq (r : Reg) (i v : Nat) : (s.wreg r i v).yieldReq = s.yieldReq := rfl
@[simp] theorem State.wreg_yieldFor (r : Reg) (i v : Nat) : (s.wreg r i v).yieldFor = s.yieldFor := rfl
@[simp] theorem State.wreg_outs (r : Reg) (i v : Nat) : (s.wreg r i v).outs = s.outs := rfl
@[simp] theorem State.wreg_raised (r : Reg) (i v : Nat) : (s.wreg r i v).raised = s.raised := rfl
@[simp] theorem State.wreg_powered (r : Reg) (i v : Nat) : (s.wreg r i v).powered = s.powered := rfl
@[simp] theorem State.wreg_freeCtr (r : Reg) (i v : Nat) : (s.wreg r i v).freeCtr = s.freeCtr := rfl
@[simp] theorem State.wreg_pending (r : Reg) (i v : Nat) : (s.wreg r i v).pending = s.pending := rfl

@[simp] theorem State.sf_ma (f : RF) (v i : Nat) : (s.sf f v i).ma = s.ma := State.wreg_ma s f.reg i _
@[simp] theorem State.sf_coh (f : RF) (v i : Nat) : (s.sf f v i).coh = s.coh := State.wreg_coh s f.reg i _
@[simp] theorem State.sf_tlb (f : RF) (v i : Nat) : (s.sf f v i).tlb = s.tlb := State.wreg_tlb s f.reg i _
@[simp] theorem State.sf_fc (f : RF) (v i : Nat) : (s.sf f v i).fc = s.fc := State.wreg_fc s f.reg i _
@[simp] theorem State.sf_tn (f : RF) (v i : Nat) : (s.sf f v i).tn = s.tn := State.wreg_tn s f.reg i _
@[simp] theorem State.sf_kc (f : RF) (v i : Nat) : (s.sf f v i).kc = s.kc := State.wreg_kc s f.reg i _
@[simp] theorem State.sf_sg (f : RF) (v i : Nat) : (s.sf f v i).sg = s.sg := State.wreg_sg s f.reg i _
@[simp] theorem State.sf_cz (f : RF) (v i : Nat) : (s.sf f v i).cz = s.cz := State.wreg_cz s f.reg i _
@[simp] theorem State.sf_mp (f : RF) (v i : Nat) : (s.sf f v i).mp = s.mp := State.wreg_mp s f.reg i _
@[simp] theorem State.sf_cy (f : RF) (v i : Nat) : (s.sf f v i).cy = s.cy := State.wreg_cy s f.reg i _
@[simp] theorem State.sf_ch (f : RF) (v i : Nat) : (s.sf f v i).ch = s.ch := State.wreg_ch s f.reg i _
@[simp] theorem State.sf_fr (f : RF) (v i : Nat) : (s.sf f v i).fr = s.fr := State.wreg_fr s f.reg i _
@[simp] theorem State.sf_tw (f : RF) (v i : Nat) : (s.sf f v i).tw = s.tw := State.wreg_tw s f.reg i _
@[simp] theorem State.sf_vt (f : RF) (v i : Nat) : (s.sf f v i).vt = s.vt := State.wreg_vt s f.reg i _
@[simp] theorem State.sf_pw (f : RF) (v i : Nat) : (s.sf f v i).pw = s.pw := State.wreg_pw s f.reg i _
@[simp] theorem State.sf_leases (f : RF) (v i : Nat) : (s.sf f v i).leases = s.leases := State.wreg_leases s f.reg i _
@[simp] theorem State.sf_leaseSerial (f : RF) (v i : Nat) : (s.sf f v i).leaseSerial = s.leaseSerial := State.wreg_leaseSerial s f.reg i _
@[simp] theorem State.sf_secGran (f : RF) (v i : Nat) : (s.sf f v i).secGran = s.secGran := State.wreg_secGran s f.reg i _
@[simp] theorem State.sf_recorded (f : RF) (v i : Nat) : (s.sf f v i).recorded = s.recorded := State.wreg_recorded s f.reg i _
@[simp] theorem State.sf_yieldReq (f : RF) (v i : Nat) : (s.sf f v i).yieldReq = s.yieldReq := State.wreg_yieldReq s f.reg i _
@[simp] theorem State.sf_yieldFor (f : RF) (v i : Nat) : (s.sf f v i).yieldFor = s.yieldFor := State.wreg_yieldFor s f.reg i _
@[simp] theorem State.sf_outs (f : RF) (v i : Nat) : (s.sf f v i).outs = s.outs := State.wreg_outs s f.reg i _
@[simp] theorem State.sf_raised (f : RF) (v i : Nat) : (s.sf f v i).raised = s.raised := State.wreg_raised s f.reg i _
@[simp] theorem State.sf_powered (f : RF) (v i : Nat) : (s.sf f v i).powered = s.powered := State.wreg_powered s f.reg i _
@[simp] theorem State.sf_freeCtr (f : RF) (v i : Nat) : (s.sf f v i).freeCtr = s.freeCtr := State.wreg_freeCtr s f.reg i _
@[simp] theorem State.sf_pending (f : RF) (v i : Nat) : (s.sf f v i).pending = s.pending := State.wreg_pending s f.reg i _

@[simp] theorem State.sb_ma (f : RF) (b : Bool) (i : Nat) : (s.sb f b i).ma = s.ma := State.wreg_ma s f.reg i _
@[simp] theorem State.sb_coh (f : RF) (b : Bool) (i : Nat) : (s.sb f b i).coh = s.coh := State.wreg_coh s f.reg i _
@[simp] theorem State.sb_tlb (f : RF) (b : Bool) (i : Nat) : (s.sb f b i).tlb = s.tlb := State.wreg_tlb s f.reg i _
@[simp] theorem State.sb_fc (f : RF) (b : Bool) (i : Nat) : (s.sb f b i).fc = s.fc := State.wreg_fc s f.reg i _
@[simp] theorem State.sb_tn (f : RF) (b : Bool) (i : Nat) : (s.sb f b i).tn = s.tn := State.wreg_tn s f.reg i _
@[simp] theorem State.sb_kc (f : RF) (b : Bool) (i : Nat) : (s.sb f b i).kc = s.kc := State.wreg_kc s f.reg i _
@[simp] theorem State.sb_sg (f : RF) (b : Bool) (i : Nat) : (s.sb f b i).sg = s.sg := State.wreg_sg s f.reg i _
@[simp] theorem State.sb_cz (f : RF) (b : Bool) (i : Nat) : (s.sb f b i).cz = s.cz := State.wreg_cz s f.reg i _
@[simp] theorem State.sb_mp (f : RF) (b : Bool) (i : Nat) : (s.sb f b i).mp = s.mp := State.wreg_mp s f.reg i _
@[simp] theorem State.sb_cy (f : RF) (b : Bool) (i : Nat) : (s.sb f b i).cy = s.cy := State.wreg_cy s f.reg i _
@[simp] theorem State.sb_ch (f : RF) (b : Bool) (i : Nat) : (s.sb f b i).ch = s.ch := State.wreg_ch s f.reg i _
@[simp] theorem State.sb_fr (f : RF) (b : Bool) (i : Nat) : (s.sb f b i).fr = s.fr := State.wreg_fr s f.reg i _
@[simp] theorem State.sb_tw (f : RF) (b : Bool) (i : Nat) : (s.sb f b i).tw = s.tw := State.wreg_tw s f.reg i _
@[simp] theorem State.sb_vt (f : RF) (b : Bool) (i : Nat) : (s.sb f b i).vt = s.vt := State.wreg_vt s f.reg i _
@[simp] theorem State.sb_pw (f : RF) (b : Bool) (i : Nat) : (s.sb f b i).pw = s.pw := State.wreg_pw s f.reg i _
@[simp] theorem State.sb_leases (f : RF) (b : Bool) (i : Nat) : (s.sb f b i).leases = s.leases := State.wreg_leases s f.reg i _
@[simp] theorem State.sb_leaseSerial (f : RF) (b : Bool) (i : Nat) : (s.sb f b i).leaseSerial = s.leaseSerial := State.wreg_leaseSerial s f.reg i _
@[simp] theorem State.sb_secGran (f : RF) (b : Bool) (i : Nat) : (s.sb f b i).secGran = s.secGran := State.wreg_secGran s f.reg i _
@[simp] theorem State.sb_recorded (f : RF) (b : Bool) (i : Nat) : (s.sb f b i).recorded = s.recorded := State.wreg_recorded s f.reg i _
@[simp] theorem State.sb_yieldReq (f : RF) (b : Bool) (i : Nat) : (s.sb f b i).yieldReq = s.yieldReq := State.wreg_yieldReq s f.reg i _
@[simp] theorem State.sb_yieldFor (f : RF) (b : Bool) (i : Nat) : (s.sb f b i).yieldFor = s.yieldFor := State.wreg_yieldFor s f.reg i _
@[simp] theorem State.sb_outs (f : RF) (b : Bool) (i : Nat) : (s.sb f b i).outs = s.outs := State.wreg_outs s f.reg i _
@[simp] theorem State.sb_raised (f : RF) (b : Bool) (i : Nat) : (s.sb f b i).raised = s.raised := State.wreg_raised s f.reg i _
@[simp] theorem State.sb_powered (f : RF) (b : Bool) (i : Nat) : (s.sb f b i).powered = s.powered := State.wreg_powered s f.reg i _
@[simp] theorem State.sb_freeCtr (f : RF) (b : Bool) (i : Nat) : (s.sb f b i).freeCtr = s.freeCtr := State.wreg_freeCtr s f.reg i _
@[simp] theorem State.sb_pending (f : RF) (b : Bool) (i : Nat) : (s.sb f b i).pending = s.pending := State.wreg_pending s f.reg i _

@[simp] theorem State.bump_ma (r : Reg) (i n : Nat) : (s.bump r i n).ma = s.ma := State.wreg_ma s r i _
@[simp] theorem State.bump_coh (r : Reg) (i n : Nat) : (s.bump r i n).coh = s.coh := State.wreg_coh s r i _
@[simp] theorem State.bump_tlb (r : Reg) (i n : Nat) : (s.bump r i n).tlb = s.tlb := State.wreg_tlb s r i _
@[simp] theorem State.bump_fc (r : Reg) (i n : Nat) : (s.bump r i n).fc = s.fc := State.wreg_fc s r i _
@[simp] theorem State.bump_tn (r : Reg) (i n : Nat) : (s.bump r i n).tn = s.tn := State.wreg_tn s r i _
@[simp] theorem State.bump_kc (r : Reg) (i n : Nat) : (s.bump r i n).kc = s.kc := State.wreg_kc s r i _
@[simp] theorem State.bump_sg (r : Reg) (i n : Nat) : (s.bump r i n).sg = s.sg := State.wreg_sg s r i _
@[simp] theorem State.bump_cz (r : Reg) (i n : Nat) : (s.bump r i n).cz = s.cz := State.wreg_cz s r i _
@[simp] theorem State.bump_mp (r : Reg) (i n : Nat) : (s.bump r i n).mp = s.mp := State.wreg_mp s r i _
@[simp] theorem State.bump_cy (r : Reg) (i n : Nat) : (s.bump r i n).cy = s.cy := State.wreg_cy s r i _
@[simp] theorem State.bump_ch (r : Reg) (i n : Nat) : (s.bump r i n).ch = s.ch := State.wreg_ch s r i _
@[simp] theorem State.bump_fr (r : Reg) (i n : Nat) : (s.bump r i n).fr = s.fr := State.wreg_fr s r i _
@[simp] theorem State.bump_tw (r : Reg) (i n : Nat) : (s.bump r i n).tw = s.tw := State.wreg_tw s r i _
@[simp] theorem State.bump_vt (r : Reg) (i n : Nat) : (s.bump r i n).vt = s.vt := State.wreg_vt s r i _
@[simp] theorem State.bump_pw (r : Reg) (i n : Nat) : (s.bump r i n).pw = s.pw := State.wreg_pw s r i _
@[simp] theorem State.bump_leases (r : Reg) (i n : Nat) : (s.bump r i n).leases = s.leases := State.wreg_leases s r i _
@[simp] theorem State.bump_leaseSerial (r : Reg) (i n : Nat) : (s.bump r i n).leaseSerial = s.leaseSerial := State.wreg_leaseSerial s r i _
@[simp] theorem State.bump_secGran (r : Reg) (i n : Nat) : (s.bump r i n).secGran = s.secGran := State.wreg_secGran s r i _
@[simp] theorem State.bump_recorded (r : Reg) (i n : Nat) : (s.bump r i n).recorded = s.recorded := State.wreg_recorded s r i _
@[simp] theorem State.bump_yieldReq (r : Reg) (i n : Nat) : (s.bump r i n).yieldReq = s.yieldReq := State.wreg_yieldReq s r i _
@[simp] theorem State.bump_yieldFor (r : Reg) (i n : Nat) : (s.bump r i n).yieldFor = s.yieldFor := State.wreg_yieldFor s r i _
@[simp] theorem State.bump_outs (r : Reg) (i n : Nat) : (s.bump r i n).outs = s.outs := State.wreg_outs s r i _
@[simp] theorem State.bump_raised (r : Reg) (i n : Nat) : (s.bump r i n).raised = s.raised := State.wreg_raised s r i _
@[simp] theorem State.bump_powered (r : Reg) (i n : Nat) : (s.bump r i n).powered = s.powered := State.wreg_powered s r i _
@[simp] theorem State.bump_freeCtr (r : Reg) (i n : Nat) : (s.bump r i n).freeCtr = s.freeCtr := State.wreg_freeCtr s r i _
@[simp] theorem State.bump_pending (r : Reg) (i n : Nat) : (s.bump r i n).pending = s.pending := State.wreg_pending s r i _

@[simp] theorem State.incSat_ma (f : RF) (i n : Nat) : (s.incSat f i n).ma = s.ma := State.wreg_ma s f.reg i _
@[simp] theorem State.incSat_coh (f : RF) (i n : Nat) : (s.incSat f i n).coh = s.coh := State.wreg_coh s f.reg i _
@[simp] theorem State.incSat_tlb (f : RF) (i n : Nat) : (s.incSat f i n).tlb = s.tlb := State.wreg_tlb s f.reg i _
@[simp] theorem State.incSat_fc (f : RF) (i n : Nat) : (s.incSat f i n).fc = s.fc := State.wreg_fc s f.reg i _
@[simp] theorem State.incSat_tn (f : RF) (i n : Nat) : (s.incSat f i n).tn = s.tn := State.wreg_tn s f.reg i _
@[simp] theorem State.incSat_kc (f : RF) (i n : Nat) : (s.incSat f i n).kc = s.kc := State.wreg_kc s f.reg i _
@[simp] theorem State.incSat_sg (f : RF) (i n : Nat) : (s.incSat f i n).sg = s.sg := State.wreg_sg s f.reg i _
@[simp] theorem State.incSat_cz (f : RF) (i n : Nat) : (s.incSat f i n).cz = s.cz := State.wreg_cz s f.reg i _
@[simp] theorem State.incSat_mp (f : RF) (i n : Nat) : (s.incSat f i n).mp = s.mp := State.wreg_mp s f.reg i _
@[simp] theorem State.incSat_cy (f : RF) (i n : Nat) : (s.incSat f i n).cy = s.cy := State.wreg_cy s f.reg i _
@[simp] theorem State.incSat_ch (f : RF) (i n : Nat) : (s.incSat f i n).ch = s.ch := State.wreg_ch s f.reg i _
@[simp] theorem State.incSat_fr (f : RF) (i n : Nat) : (s.incSat f i n).fr = s.fr := State.wreg_fr s f.reg i _
@[simp] theorem State.incSat_tw (f : RF) (i n : Nat) : (s.incSat f i n).tw = s.tw := State.wreg_tw s f.reg i _
@[simp] theorem State.incSat_vt (f : RF) (i n : Nat) : (s.incSat f i n).vt = s.vt := State.wreg_vt s f.reg i _
@[simp] theorem State.incSat_pw (f : RF) (i n : Nat) : (s.incSat f i n).pw = s.pw := State.wreg_pw s f.reg i _
@[simp] theorem State.incSat_leases (f : RF) (i n : Nat) : (s.incSat f i n).leases = s.leases := State.wreg_leases s f.reg i _
@[simp] theorem State.incSat_leaseSerial (f : RF) (i n : Nat) : (s.incSat f i n).leaseSerial = s.leaseSerial := State.wreg_leaseSerial s f.reg i _
@[simp] theorem State.incSat_secGran (f : RF) (i n : Nat) : (s.incSat f i n).secGran = s.secGran := State.wreg_secGran s f.reg i _
@[simp] theorem State.incSat_recorded (f : RF) (i n : Nat) : (s.incSat f i n).recorded = s.recorded := State.wreg_recorded s f.reg i _
@[simp] theorem State.incSat_yieldReq (f : RF) (i n : Nat) : (s.incSat f i n).yieldReq = s.yieldReq := State.wreg_yieldReq s f.reg i _
@[simp] theorem State.incSat_yieldFor (f : RF) (i n : Nat) : (s.incSat f i n).yieldFor = s.yieldFor := State.wreg_yieldFor s f.reg i _
@[simp] theorem State.incSat_outs (f : RF) (i n : Nat) : (s.incSat f i n).outs = s.outs := State.wreg_outs s f.reg i _
@[simp] theorem State.incSat_raised (f : RF) (i n : Nat) : (s.incSat f i n).raised = s.raised := State.wreg_raised s f.reg i _
@[simp] theorem State.incSat_powered (f : RF) (i n : Nat) : (s.incSat f i n).powered = s.powered := State.wreg_powered s f.reg i _
@[simp] theorem State.incSat_freeCtr (f : RF) (i n : Nat) : (s.incSat f i n).freeCtr = s.freeCtr := State.wreg_freeCtr s f.reg i _
@[simp] theorem State.incSat_pending (f : RF) (i n : Nat) : (s.incSat f i n).pending = s.pending := State.wreg_pending s f.reg i _

@[simp] theorem State.raise_regs (n : Nat) : (s.raise n).regs = s.regs := rfl
@[simp] theorem State.raise_ma (n : Nat) : (s.raise n).ma = s.ma := rfl
@[simp] theorem State.raise_coh (n : Nat) : (s.raise n).coh = s.coh := rfl
@[simp] theorem State.raise_tlb (n : Nat) : (s.raise n).tlb = s.tlb := rfl
@[simp] theorem State.raise_fc (n : Nat) : (s.raise n).fc = s.fc := rfl
@[simp] theorem State.raise_tn (n : Nat) : (s.raise n).tn = s.tn := rfl
@[simp] theorem State.raise_kc (n : Nat) : (s.raise n).kc = s.kc := rfl
@[simp] theorem State.raise_sg (n : Nat) : (s.raise n).sg = s.sg := rfl
@[simp] theorem State.raise_cz (n : Nat) : (s.raise n).cz = s.cz := rfl
@[simp] theorem State.raise_mp (n : Nat) : (s.raise n).mp = s.mp := rfl
@[simp] theorem State.raise_cy (n : Nat) : (s.raise n).cy = s.cy := rfl
@[simp] theorem State.raise_ch (n : Nat) : (s.raise n).ch = s.ch := rfl
@[simp] theorem State.raise_fr (n : Nat) : (s.raise n).fr = s.fr := rfl
@[simp] theorem State.raise_tw (n : Nat) : (s.raise n).tw = s.tw := rfl
@[simp] theorem State.raise_vt (n : Nat) : (s.raise n).vt = s.vt := rfl
@[simp] theorem State.raise_pw (n : Nat) : (s.raise n).pw = s.pw := rfl
@[simp] theorem State.raise_leases (n : Nat) : (s.raise n).leases = s.leases := rfl
@[simp] theorem State.raise_leaseSerial (n : Nat) : (s.raise n).leaseSerial = s.leaseSerial := rfl
@[simp] theorem State.raise_secGran (n : Nat) : (s.raise n).secGran = s.secGran := rfl
@[simp] theorem State.raise_recorded (n : Nat) : (s.raise n).recorded = s.recorded := rfl
@[simp] theorem State.raise_yieldReq (n : Nat) : (s.raise n).yieldReq = s.yieldReq := rfl
@[simp] theorem State.raise_yieldFor (n : Nat) : (s.raise n).yieldFor = s.yieldFor := rfl
@[simp] theorem State.raise_outs (n : Nat) : (s.raise n).outs = s.outs := rfl
@[simp] theorem State.raise_powered (n : Nat) : (s.raise n).powered = s.powered := rfl
@[simp] theorem State.raise_freeCtr (n : Nat) : (s.raise n).freeCtr = s.freeCtr := rfl
@[simp] theorem State.raise_pending (n : Nat) : (s.raise n).pending = s.pending := rfl

@[simp] theorem State.report_regs (r : Report) : (s.report r).regs = s.regs := rfl
@[simp] theorem State.report_ma (r : Report) : (s.report r).ma = s.ma := rfl
@[simp] theorem State.report_coh (r : Report) : (s.report r).coh = s.coh := rfl
@[simp] theorem State.report_tlb (r : Report) : (s.report r).tlb = s.tlb := rfl
@[simp] theorem State.report_tn (r : Report) : (s.report r).tn = s.tn := rfl
@[simp] theorem State.report_kc (r : Report) : (s.report r).kc = s.kc := rfl
@[simp] theorem State.report_sg (r : Report) : (s.report r).sg = s.sg := rfl
@[simp] theorem State.report_cz (r : Report) : (s.report r).cz = s.cz := rfl
@[simp] theorem State.report_mp (r : Report) : (s.report r).mp = s.mp := rfl
@[simp] theorem State.report_cy (r : Report) : (s.report r).cy = s.cy := rfl
@[simp] theorem State.report_ch (r : Report) : (s.report r).ch = s.ch := rfl
@[simp] theorem State.report_fr (r : Report) : (s.report r).fr = s.fr := rfl
@[simp] theorem State.report_tw (r : Report) : (s.report r).tw = s.tw := rfl
@[simp] theorem State.report_vt (r : Report) : (s.report r).vt = s.vt := rfl
@[simp] theorem State.report_pw (r : Report) : (s.report r).pw = s.pw := rfl
@[simp] theorem State.report_leases (r : Report) : (s.report r).leases = s.leases := rfl
@[simp] theorem State.report_leaseSerial (r : Report) : (s.report r).leaseSerial = s.leaseSerial := rfl
@[simp] theorem State.report_secGran (r : Report) : (s.report r).secGran = s.secGran := rfl
@[simp] theorem State.report_recorded (r : Report) : (s.report r).recorded = s.recorded := rfl
@[simp] theorem State.report_yieldReq (r : Report) : (s.report r).yieldReq = s.yieldReq := rfl
@[simp] theorem State.report_yieldFor (r : Report) : (s.report r).yieldFor = s.yieldFor := rfl
@[simp] theorem State.report_outs (r : Report) : (s.report r).outs = s.outs := rfl
@[simp] theorem State.report_raised (r : Report) : (s.report r).raised = s.raised := rfl
@[simp] theorem State.report_powered (r : Report) : (s.report r).powered = s.powered := rfl
@[simp] theorem State.report_freeCtr (r : Report) : (s.report r).freeCtr = s.freeCtr := rfl
@[simp] theorem State.report_pending (r : Report) : (s.report r).pending = s.pending := rfl

@[simp] theorem State.emit_regs (o : Output) : (s.emit o).regs = s.regs := rfl
@[simp] theorem State.emit_ma (o : Output) : (s.emit o).ma = s.ma := rfl
@[simp] theorem State.emit_coh (o : Output) : (s.emit o).coh = s.coh := rfl
@[simp] theorem State.emit_tlb (o : Output) : (s.emit o).tlb = s.tlb := rfl
@[simp] theorem State.emit_fc (o : Output) : (s.emit o).fc = s.fc := rfl
@[simp] theorem State.emit_tn (o : Output) : (s.emit o).tn = s.tn := rfl
@[simp] theorem State.emit_kc (o : Output) : (s.emit o).kc = s.kc := rfl
@[simp] theorem State.emit_sg (o : Output) : (s.emit o).sg = s.sg := rfl
@[simp] theorem State.emit_cz (o : Output) : (s.emit o).cz = s.cz := rfl
@[simp] theorem State.emit_mp (o : Output) : (s.emit o).mp = s.mp := rfl
@[simp] theorem State.emit_cy (o : Output) : (s.emit o).cy = s.cy := rfl
@[simp] theorem State.emit_ch (o : Output) : (s.emit o).ch = s.ch := rfl
@[simp] theorem State.emit_fr (o : Output) : (s.emit o).fr = s.fr := rfl
@[simp] theorem State.emit_tw (o : Output) : (s.emit o).tw = s.tw := rfl
@[simp] theorem State.emit_vt (o : Output) : (s.emit o).vt = s.vt := rfl
@[simp] theorem State.emit_pw (o : Output) : (s.emit o).pw = s.pw := rfl
@[simp] theorem State.emit_leases (o : Output) : (s.emit o).leases = s.leases := rfl
@[simp] theorem State.emit_leaseSerial (o : Output) : (s.emit o).leaseSerial = s.leaseSerial := rfl
@[simp] theorem State.emit_secGran (o : Output) : (s.emit o).secGran = s.secGran := rfl
@[simp] theorem State.emit_recorded (o : Output) : (s.emit o).recorded = s.recorded := rfl
@[simp] theorem State.emit_yieldReq (o : Output) : (s.emit o).yieldReq = s.yieldReq := rfl
@[simp] theorem State.emit_yieldFor (o : Output) : (s.emit o).yieldFor = s.yieldFor := rfl
@[simp] theorem State.emit_raised (o : Output) : (s.emit o).raised = s.raised := rfl
@[simp] theorem State.emit_powered (o : Output) : (s.emit o).powered = s.powered := rfl
@[simp] theorem State.emit_freeCtr (o : Output) : (s.emit o).freeCtr = s.freeCtr := rfl
@[simp] theorem State.emit_pending (o : Output) : (s.emit o).pending = s.pending := rfl

@[simp] theorem State.setUnit_regs (o : Nat) (f : UnitSt → UnitSt) : (s.setUnit o f).regs = s.regs := rfl
@[simp] theorem State.setUnit_ma (o : Nat) (f : UnitSt → UnitSt) : (s.setUnit o f).ma = s.ma := rfl
@[simp] theorem State.setUnit_coh (o : Nat) (f : UnitSt → UnitSt) : (s.setUnit o f).coh = s.coh := rfl
@[simp] theorem State.setUnit_tlb (o : Nat) (f : UnitSt → UnitSt) : (s.setUnit o f).tlb = s.tlb := rfl
@[simp] theorem State.setUnit_tn (o : Nat) (f : UnitSt → UnitSt) : (s.setUnit o f).tn = s.tn := rfl
@[simp] theorem State.setUnit_kc (o : Nat) (f : UnitSt → UnitSt) : (s.setUnit o f).kc = s.kc := rfl
@[simp] theorem State.setUnit_sg (o : Nat) (f : UnitSt → UnitSt) : (s.setUnit o f).sg = s.sg := rfl
@[simp] theorem State.setUnit_cz (o : Nat) (f : UnitSt → UnitSt) : (s.setUnit o f).cz = s.cz := rfl
@[simp] theorem State.setUnit_mp (o : Nat) (f : UnitSt → UnitSt) : (s.setUnit o f).mp = s.mp := rfl
@[simp] theorem State.setUnit_cy (o : Nat) (f : UnitSt → UnitSt) : (s.setUnit o f).cy = s.cy := rfl
@[simp] theorem State.setUnit_ch (o : Nat) (f : UnitSt → UnitSt) : (s.setUnit o f).ch = s.ch := rfl
@[simp] theorem State.setUnit_fr (o : Nat) (f : UnitSt → UnitSt) : (s.setUnit o f).fr = s.fr := rfl
@[simp] theorem State.setUnit_tw (o : Nat) (f : UnitSt → UnitSt) : (s.setUnit o f).tw = s.tw := rfl
@[simp] theorem State.setUnit_vt (o : Nat) (f : UnitSt → UnitSt) : (s.setUnit o f).vt = s.vt := rfl
@[simp] theorem State.setUnit_pw (o : Nat) (f : UnitSt → UnitSt) : (s.setUnit o f).pw = s.pw := rfl
@[simp] theorem State.setUnit_leases (o : Nat) (f : UnitSt → UnitSt) : (s.setUnit o f).leases = s.leases := rfl
@[simp] theorem State.setUnit_leaseSerial (o : Nat) (f : UnitSt → UnitSt) : (s.setUnit o f).leaseSerial = s.leaseSerial := rfl
@[simp] theorem State.setUnit_secGran (o : Nat) (f : UnitSt → UnitSt) : (s.setUnit o f).secGran = s.secGran := rfl
@[simp] theorem State.setUnit_recorded (o : Nat) (f : UnitSt → UnitSt) : (s.setUnit o f).recorded = s.recorded := rfl
@[simp] theorem State.setUnit_yieldReq (o : Nat) (f : UnitSt → UnitSt) : (s.setUnit o f).yieldReq = s.yieldReq := rfl
@[simp] theorem State.setUnit_yieldFor (o : Nat) (f : UnitSt → UnitSt) : (s.setUnit o f).yieldFor = s.yieldFor := rfl
@[simp] theorem State.setUnit_outs (o : Nat) (f : UnitSt → UnitSt) : (s.setUnit o f).outs = s.outs := rfl
@[simp] theorem State.setUnit_raised (o : Nat) (f : UnitSt → UnitSt) : (s.setUnit o f).raised = s.raised := rfl
@[simp] theorem State.setUnit_powered (o : Nat) (f : UnitSt → UnitSt) : (s.setUnit o f).powered = s.powered := rfl
@[simp] theorem State.setUnit_freeCtr (o : Nat) (f : UnitSt → UnitSt) : (s.setUnit o f).freeCtr = s.freeCtr := rfl
@[simp] theorem State.setUnit_pending (o : Nat) (f : UnitSt → UnitSt) : (s.setUnit o f).pending = s.pending := rfl

@[simp] theorem State.setInst_regs (i : Nat) (f : InstSt → InstSt) : (s.setInst i f).regs = s.regs := rfl
@[simp] theorem State.setInst_ma (i : Nat) (f : InstSt → InstSt) : (s.setInst i f).ma = s.ma := rfl
@[simp] theorem State.setInst_coh (i : Nat) (f : InstSt → InstSt) : (s.setInst i f).coh = s.coh := rfl
@[simp] theorem State.setInst_tlb (i : Nat) (f : InstSt → InstSt) : (s.setInst i f).tlb = s.tlb := rfl
@[simp] theorem State.setInst_fc (i : Nat) (f : InstSt → InstSt) : (s.setInst i f).fc = s.fc := rfl
@[simp] theorem State.setInst_kc (i : Nat) (f : InstSt → InstSt) : (s.setInst i f).kc = s.kc := rfl
@[simp] theorem State.setInst_sg (i : Nat) (f : InstSt → InstSt) : (s.setInst i f).sg = s.sg := rfl
@[simp] theorem State.setInst_cz (i : Nat) (f : InstSt → InstSt) : (s.setInst i f).cz = s.cz := rfl
@[simp] theorem State.setInst_mp (i : Nat) (f : InstSt → InstSt) : (s.setInst i f).mp = s.mp := rfl
@[simp] theorem State.setInst_cy (i : Nat) (f : InstSt → InstSt) : (s.setInst i f).cy = s.cy := rfl
@[simp] theorem State.setInst_ch (i : Nat) (f : InstSt → InstSt) : (s.setInst i f).ch = s.ch := rfl
@[simp] theorem State.setInst_fr (i : Nat) (f : InstSt → InstSt) : (s.setInst i f).fr = s.fr := rfl
@[simp] theorem State.setInst_tw (i : Nat) (f : InstSt → InstSt) : (s.setInst i f).tw = s.tw := rfl
@[simp] theorem State.setInst_vt (i : Nat) (f : InstSt → InstSt) : (s.setInst i f).vt = s.vt := rfl
@[simp] theorem State.setInst_pw (i : Nat) (f : InstSt → InstSt) : (s.setInst i f).pw = s.pw := rfl
@[simp] theorem State.setInst_leases (i : Nat) (f : InstSt → InstSt) : (s.setInst i f).leases = s.leases := rfl
@[simp] theorem State.setInst_leaseSerial (i : Nat) (f : InstSt → InstSt) : (s.setInst i f).leaseSerial = s.leaseSerial := rfl
@[simp] theorem State.setInst_secGran (i : Nat) (f : InstSt → InstSt) : (s.setInst i f).secGran = s.secGran := rfl
@[simp] theorem State.setInst_recorded (i : Nat) (f : InstSt → InstSt) : (s.setInst i f).recorded = s.recorded := rfl
@[simp] theorem State.setInst_yieldReq (i : Nat) (f : InstSt → InstSt) : (s.setInst i f).yieldReq = s.yieldReq := rfl
@[simp] theorem State.setInst_yieldFor (i : Nat) (f : InstSt → InstSt) : (s.setInst i f).yieldFor = s.yieldFor := rfl
@[simp] theorem State.setInst_outs (i : Nat) (f : InstSt → InstSt) : (s.setInst i f).outs = s.outs := rfl
@[simp] theorem State.setInst_raised (i : Nat) (f : InstSt → InstSt) : (s.setInst i f).raised = s.raised := rfl
@[simp] theorem State.setInst_powered (i : Nat) (f : InstSt → InstSt) : (s.setInst i f).powered = s.powered := rfl
@[simp] theorem State.setInst_freeCtr (i : Nat) (f : InstSt → InstSt) : (s.setInst i f).freeCtr = s.freeCtr := rfl
@[simp] theorem State.setInst_pending (i : Nat) (f : InstSt → InstSt) : (s.setInst i f).pending = s.pending := rfl

@[simp] theorem State.setVc_regs (k : Nat) (f : VCore → VCore) : (s.setVc k f).regs = s.regs := rfl
@[simp] theorem State.setVc_ma (k : Nat) (f : VCore → VCore) : (s.setVc k f).ma = s.ma := rfl
@[simp] theorem State.setVc_coh (k : Nat) (f : VCore → VCore) : (s.setVc k f).coh = s.coh := rfl
@[simp] theorem State.setVc_tlb (k : Nat) (f : VCore → VCore) : (s.setVc k f).tlb = s.tlb := rfl
@[simp] theorem State.setVc_fc (k : Nat) (f : VCore → VCore) : (s.setVc k f).fc = s.fc := rfl
@[simp] theorem State.setVc_tn (k : Nat) (f : VCore → VCore) : (s.setVc k f).tn = s.tn := rfl
@[simp] theorem State.setVc_sg (k : Nat) (f : VCore → VCore) : (s.setVc k f).sg = s.sg := rfl
@[simp] theorem State.setVc_cz (k : Nat) (f : VCore → VCore) : (s.setVc k f).cz = s.cz := rfl
@[simp] theorem State.setVc_mp (k : Nat) (f : VCore → VCore) : (s.setVc k f).mp = s.mp := rfl
@[simp] theorem State.setVc_cy (k : Nat) (f : VCore → VCore) : (s.setVc k f).cy = s.cy := rfl
@[simp] theorem State.setVc_ch (k : Nat) (f : VCore → VCore) : (s.setVc k f).ch = s.ch := rfl
@[simp] theorem State.setVc_fr (k : Nat) (f : VCore → VCore) : (s.setVc k f).fr = s.fr := rfl
@[simp] theorem State.setVc_tw (k : Nat) (f : VCore → VCore) : (s.setVc k f).tw = s.tw := rfl
@[simp] theorem State.setVc_vt (k : Nat) (f : VCore → VCore) : (s.setVc k f).vt = s.vt := rfl
@[simp] theorem State.setVc_pw (k : Nat) (f : VCore → VCore) : (s.setVc k f).pw = s.pw := rfl
@[simp] theorem State.setVc_leases (k : Nat) (f : VCore → VCore) : (s.setVc k f).leases = s.leases := rfl
@[simp] theorem State.setVc_leaseSerial (k : Nat) (f : VCore → VCore) : (s.setVc k f).leaseSerial = s.leaseSerial := rfl
@[simp] theorem State.setVc_secGran (k : Nat) (f : VCore → VCore) : (s.setVc k f).secGran = s.secGran := rfl
@[simp] theorem State.setVc_recorded (k : Nat) (f : VCore → VCore) : (s.setVc k f).recorded = s.recorded := rfl
@[simp] theorem State.setVc_yieldReq (k : Nat) (f : VCore → VCore) : (s.setVc k f).yieldReq = s.yieldReq := rfl
@[simp] theorem State.setVc_yieldFor (k : Nat) (f : VCore → VCore) : (s.setVc k f).yieldFor = s.yieldFor := rfl
@[simp] theorem State.setVc_outs (k : Nat) (f : VCore → VCore) : (s.setVc k f).outs = s.outs := rfl
@[simp] theorem State.setVc_raised (k : Nat) (f : VCore → VCore) : (s.setVc k f).raised = s.raised := rfl
@[simp] theorem State.setVc_powered (k : Nat) (f : VCore → VCore) : (s.setVc k f).powered = s.powered := rfl
@[simp] theorem State.setVc_freeCtr (k : Nat) (f : VCore → VCore) : (s.setVc k f).freeCtr = s.freeCtr := rfl
@[simp] theorem State.setVc_pending (k : Nat) (f : VCore → VCore) : (s.setVc k f).pending = s.pending := rfl

@[simp] theorem State.setCore_regs (c : Nat) (f : CoreSt → CoreSt) : (s.setCore c f).regs = s.regs := rfl
@[simp] theorem State.setCore_ma (c : Nat) (f : CoreSt → CoreSt) : (s.setCore c f).ma = s.ma := rfl
@[simp] theorem State.setCore_coh (c : Nat) (f : CoreSt → CoreSt) : (s.setCore c f).coh = s.coh := rfl
@[simp] theorem State.setCore_tlb (c : Nat) (f : CoreSt → CoreSt) : (s.setCore c f).tlb = s.tlb := rfl
@[simp] theorem State.setCore_fc (c : Nat) (f : CoreSt → CoreSt) : (s.setCore c f).fc = s.fc := rfl
@[simp] theorem State.setCore_tn (c : Nat) (f : CoreSt → CoreSt) : (s.setCore c f).tn = s.tn := rfl
@[simp] theorem State.setCore_sg (c : Nat) (f : CoreSt → CoreSt) : (s.setCore c f).sg = s.sg := rfl
@[simp] theorem State.setCore_cz (c : Nat) (f : CoreSt → CoreSt) : (s.setCore c f).cz = s.cz := rfl
@[simp] theorem State.setCore_mp (c : Nat) (f : CoreSt → CoreSt) : (s.setCore c f).mp = s.mp := rfl
@[simp] theorem State.setCore_cy (c : Nat) (f : CoreSt → CoreSt) : (s.setCore c f).cy = s.cy := rfl
@[simp] theorem State.setCore_ch (c : Nat) (f : CoreSt → CoreSt) : (s.setCore c f).ch = s.ch := rfl
@[simp] theorem State.setCore_fr (c : Nat) (f : CoreSt → CoreSt) : (s.setCore c f).fr = s.fr := rfl
@[simp] theorem State.setCore_tw (c : Nat) (f : CoreSt → CoreSt) : (s.setCore c f).tw = s.tw := rfl
@[simp] theorem State.setCore_vt (c : Nat) (f : CoreSt → CoreSt) : (s.setCore c f).vt = s.vt := rfl
@[simp] theorem State.setCore_pw (c : Nat) (f : CoreSt → CoreSt) : (s.setCore c f).pw = s.pw := rfl
@[simp] theorem State.setCore_leases (c : Nat) (f : CoreSt → CoreSt) : (s.setCore c f).leases = s.leases := rfl
@[simp] theorem State.setCore_leaseSerial (c : Nat) (f : CoreSt → CoreSt) : (s.setCore c f).leaseSerial = s.leaseSerial := rfl
@[simp] theorem State.setCore_secGran (c : Nat) (f : CoreSt → CoreSt) : (s.setCore c f).secGran = s.secGran := rfl
@[simp] theorem State.setCore_recorded (c : Nat) (f : CoreSt → CoreSt) : (s.setCore c f).recorded = s.recorded := rfl
@[simp] theorem State.setCore_yieldReq (c : Nat) (f : CoreSt → CoreSt) : (s.setCore c f).yieldReq = s.yieldReq := rfl
@[simp] theorem State.setCore_yieldFor (c : Nat) (f : CoreSt → CoreSt) : (s.setCore c f).yieldFor = s.yieldFor := rfl
@[simp] theorem State.setCore_outs (c : Nat) (f : CoreSt → CoreSt) : (s.setCore c f).outs = s.outs := rfl
@[simp] theorem State.setCore_raised (c : Nat) (f : CoreSt → CoreSt) : (s.setCore c f).raised = s.raised := rfl
@[simp] theorem State.setCore_powered (c : Nat) (f : CoreSt → CoreSt) : (s.setCore c f).powered = s.powered := rfl
@[simp] theorem State.setCore_freeCtr (c : Nat) (f : CoreSt → CoreSt) : (s.setCore c f).freeCtr = s.freeCtr := rfl
@[simp] theorem State.setCore_pending (c : Nat) (f : CoreSt → CoreSt) : (s.setCore c f).pending = s.pending := rfl

@[simp] theorem State.setL2_regs (q line : Nat) (l : L2Line) : (s.setL2 q line l).regs = s.regs := rfl
@[simp] theorem State.setL2_ma (q line : Nat) (l : L2Line) : (s.setL2 q line l).ma = s.ma := rfl
@[simp] theorem State.setL2_tlb (q line : Nat) (l : L2Line) : (s.setL2 q line l).tlb = s.tlb := rfl
@[simp] theorem State.setL2_fc (q line : Nat) (l : L2Line) : (s.setL2 q line l).fc = s.fc := rfl
@[simp] theorem State.setL2_tn (q line : Nat) (l : L2Line) : (s.setL2 q line l).tn = s.tn := rfl
@[simp] theorem State.setL2_kc (q line : Nat) (l : L2Line) : (s.setL2 q line l).kc = s.kc := rfl
@[simp] theorem State.setL2_sg (q line : Nat) (l : L2Line) : (s.setL2 q line l).sg = s.sg := rfl
@[simp] theorem State.setL2_cz (q line : Nat) (l : L2Line) : (s.setL2 q line l).cz = s.cz := rfl
@[simp] theorem State.setL2_mp (q line : Nat) (l : L2Line) : (s.setL2 q line l).mp = s.mp := rfl
@[simp] theorem State.setL2_cy (q line : Nat) (l : L2Line) : (s.setL2 q line l).cy = s.cy := rfl
@[simp] theorem State.setL2_ch (q line : Nat) (l : L2Line) : (s.setL2 q line l).ch = s.ch := rfl
@[simp] theorem State.setL2_fr (q line : Nat) (l : L2Line) : (s.setL2 q line l).fr = s.fr := rfl
@[simp] theorem State.setL2_tw (q line : Nat) (l : L2Line) : (s.setL2 q line l).tw = s.tw := rfl
@[simp] theorem State.setL2_vt (q line : Nat) (l : L2Line) : (s.setL2 q line l).vt = s.vt := rfl
@[simp] theorem State.setL2_pw (q line : Nat) (l : L2Line) : (s.setL2 q line l).pw = s.pw := rfl
@[simp] theorem State.setL2_leases (q line : Nat) (l : L2Line) : (s.setL2 q line l).leases = s.leases := rfl
@[simp] theorem State.setL2_leaseSerial (q line : Nat) (l : L2Line) : (s.setL2 q line l).leaseSerial = s.leaseSerial := rfl
@[simp] theorem State.setL2_secGran (q line : Nat) (l : L2Line) : (s.setL2 q line l).secGran = s.secGran := rfl
@[simp] theorem State.setL2_recorded (q line : Nat) (l : L2Line) : (s.setL2 q line l).recorded = s.recorded := rfl
@[simp] theorem State.setL2_yieldReq (q line : Nat) (l : L2Line) : (s.setL2 q line l).yieldReq = s.yieldReq := rfl
@[simp] theorem State.setL2_yieldFor (q line : Nat) (l : L2Line) : (s.setL2 q line l).yieldFor = s.yieldFor := rfl
@[simp] theorem State.setL2_outs (q line : Nat) (l : L2Line) : (s.setL2 q line l).outs = s.outs := rfl
@[simp] theorem State.setL2_raised (q line : Nat) (l : L2Line) : (s.setL2 q line l).raised = s.raised := rfl
@[simp] theorem State.setL2_powered (q line : Nat) (l : L2Line) : (s.setL2 q line l).powered = s.powered := rfl
@[simp] theorem State.setL2_freeCtr (q line : Nat) (l : L2Line) : (s.setL2 q line l).freeCtr = s.freeCtr := rfl
@[simp] theorem State.setL2_pending (q line : Nat) (l : L2Line) : (s.setL2 q line l).pending = s.pending := rfl


@[simp] theorem State.setDir_regs (line : Nat) (d : DirEnt) : (s.setDir line d).regs = s.regs := rfl
@[simp] theorem State.setDir_ma (line : Nat) (d : DirEnt) : (s.setDir line d).ma = s.ma := rfl
@[simp] theorem State.setDir_tlb (line : Nat) (d : DirEnt) : (s.setDir line d).tlb = s.tlb := rfl
@[simp] theorem State.setDir_fc (line : Nat) (d : DirEnt) : (s.setDir line d).fc = s.fc := rfl
@[simp] theorem State.setDir_tn (line : Nat) (d : DirEnt) : (s.setDir line d).tn = s.tn := rfl
@[simp] theorem State.setDir_kc (line : Nat) (d : DirEnt) : (s.setDir line d).kc = s.kc := rfl
@[simp] theorem State.setDir_sg (line : Nat) (d : DirEnt) : (s.setDir line d).sg = s.sg := rfl
@[simp] theorem State.setDir_cz (line : Nat) (d : DirEnt) : (s.setDir line d).cz = s.cz := rfl
@[simp] theorem State.setDir_mp (line : Nat) (d : DirEnt) : (s.setDir line d).mp = s.mp := rfl
@[simp] theorem State.setDir_cy (line : Nat) (d : DirEnt) : (s.setDir line d).cy = s.cy := rfl
@[simp] theorem State.setDir_ch (line : Nat) (d : DirEnt) : (s.setDir line d).ch = s.ch := rfl
@[simp] theorem State.setDir_fr (line : Nat) (d : DirEnt) : (s.setDir line d).fr = s.fr := rfl
@[simp] theorem State.setDir_tw (line : Nat) (d : DirEnt) : (s.setDir line d).tw = s.tw := rfl
@[simp] theorem State.setDir_vt (line : Nat) (d : DirEnt) : (s.setDir line d).vt = s.vt := rfl
@[simp] theorem State.setDir_pw (line : Nat) (d : DirEnt) : (s.setDir line d).pw = s.pw := rfl
@[simp] theorem State.setDir_leases (line : Nat) (d : DirEnt) : (s.setDir line d).leases = s.leases := rfl
@[simp] theorem State.setDir_leaseSerial (line : Nat) (d : DirEnt) : (s.setDir line d).leaseSerial = s.leaseSerial := rfl
@[simp] theorem State.setDir_secGran (line : Nat) (d : DirEnt) : (s.setDir line d).secGran = s.secGran := rfl
@[simp] theorem State.setDir_recorded (line : Nat) (d : DirEnt) : (s.setDir line d).recorded = s.recorded := rfl
@[simp] theorem State.setDir_yieldReq (line : Nat) (d : DirEnt) : (s.setDir line d).yieldReq = s.yieldReq := rfl
@[simp] theorem State.setDir_yieldFor (line : Nat) (d : DirEnt) : (s.setDir line d).yieldFor = s.yieldFor := rfl
@[simp] theorem State.setDir_outs (line : Nat) (d : DirEnt) : (s.setDir line d).outs = s.outs := rfl
@[simp] theorem State.setDir_raised (line : Nat) (d : DirEnt) : (s.setDir line d).raised = s.raised := rfl
@[simp] theorem State.setDir_powered (line : Nat) (d : DirEnt) : (s.setDir line d).powered = s.powered := rfl
@[simp] theorem State.setDir_freeCtr (line : Nat) (d : DirEnt) : (s.setDir line d).freeCtr = s.freeCtr := rfl
@[simp] theorem State.setDir_pending (line : Nat) (d : DirEnt) : (s.setDir line d).pending = s.pending := rfl

/-- What an update of one field leaves. -/
@[simp] theorem State.emit_outs (o : Output) : (s.emit o).outs = s.outs ++ [o] := rfl
@[simp] theorem State.raise_raised (n : Nat) : (s.raise n).raised = s.raised ++ [n] := rfl

/-- A conditional update, its condition known. -/
@[simp] theorem State.when_true (f : State → State) : s.when true f = f s := rfl
@[simp] theorem State.when_false (f : State → State) : s.when false f = s := rfl

end Sys2Proof.Machine
end

