-- ==== Sys2Proof/Laws/Frames.lean ====
section
/-! SUPPORT. What counting for the performance monitors and leaving self-refresh change, and what the value of a line depends on. -/

namespace Sys2Proof.Machine

/-- A fold of steps that each keep a property keeps it. -/
theorem foldl_keeps {α β : Type} (P : β → Prop) (f : β → α → β) (l : List α) (b : β) (hb : P b) (hf : ∀ x a, P x → a ∈ l → P (f x a)) : P (l.foldl f b) := by
  induction l generalizing b with
  | nil => exact hb
  | cons a r ih =>
    exact ih _ (hf b a hb (by simp)) (fun x c hx hc => hf x c hx (by simp [hc]))

/-- What stays when only registers change. -/
structure OnlyRegs (s t : State) : Prop where
  rest : { t with regs := s.regs } = s

theorem OnlyRegs.refl (s : State) : OnlyRegs s s := ⟨rfl⟩

theorem OnlyRegs.trans {s t u : State} (h : OnlyRegs s t) (k : OnlyRegs t u) : OnlyRegs s u := by
  obtain ⟨h⟩ := h; obtain ⟨k⟩ := k
  constructor
  cases s; cases t; cases u
  simp only [State.mk.injEq] at h k ⊢
  simp_all

theorem OnlyRegs.wreg (s : State) (r : Reg) (i v : Nat) : OnlyRegs s (s.wreg r i v) := ⟨rfl⟩

theorem OnlyRegs.sf (s : State) (f : RF) (v i : Nat) : OnlyRegs s (s.sf f v i) := OnlyRegs.wreg s f.reg i _

theorem OnlyRegs.bump (s : State) (r : Reg) (i n : Nat) : OnlyRegs s (s.bump r i n) := OnlyRegs.wreg s r i _

theorem OnlyRegs.recorded {s t : State} (h : OnlyRegs s t) : t.recorded = s.recorded := by rw [← h.rest]
theorem OnlyRegs.ma {s t : State} (h : OnlyRegs s t) : t.ma = s.ma := by rw [← h.rest]
theorem OnlyRegs.coh {s t : State} (h : OnlyRegs s t) : t.coh = s.coh := by rw [← h.rest]
theorem OnlyRegs.fc {s t : State} (h : OnlyRegs s t) : t.fc = s.fc := by rw [← h.rest]
theorem OnlyRegs.raised {s t : State} (h : OnlyRegs s t) : t.raised = s.raised := by rw [← h.rest]
theorem OnlyRegs.secGran {s t : State} (h : OnlyRegs s t) : t.secGran = s.secGran := by rw [← h.rest]

theorem pmCnt_addr (k : Nat) : rPM_CNT.addr k = rPM_CNT.addr 0 + 8 * k := by
  simp [Reg.addr, rPM_CNT, dimOffs, dimProd]; omega

/-- Counting for the performance monitors, said once: a property that every count of one of its 64 counters keeps is kept (18 R761). -/
theorem State.pmEvent_keeps (P : State → Prop) (s : State) (ev unit : Nat) (inst : Option Nat) (n : Nat) (hs : P s)
    (hb : ∀ x k, k < 64 → P x → P (x.bump rPM_CNT k n)) : P (s.pmEvent ev unit inst n) := by
  unfold State.pmEvent
  generalize (s.rb PM_CTL_FROZEN || _ : Bool) = c
  cases c with
  | true => exact hs
  | false =>
    simp only [Bool.false_eq_true, if_false]
    refine foldl_keeps P _ _ s hs ?_
    intro x a hx ha
    split
    · refine hb x _ ?_ hx
      have hm := (List.mem_filter.mp ha).2
      simp only [Bool.and_eq_true, decide_eq_true_eq] at hm
      have e : PM_SEL_EN.reg.addr 63 = PM_SEL_EN.reg.addr 0 + 504 := by decide
      omega
    · exact hx

/-- Counting changes nothing but the 64 counters. -/
theorem State.pmEvent_only (s : State) (ev unit : Nat) (inst : Option Nat) (n : Nat) : OnlyRegs s (s.pmEvent ev unit inst n) :=
  State.pmEvent_keeps (fun x => OnlyRegs s x) s ev unit inst n (.refl s) (fun x _ _ hx => hx.trans (.bump x _ _ _))

theorem State.reg_pmEvent (s : State) (ev unit : Nat) (inst : Option Nat) (n : Nat) (r : Reg) (i : Nat)
    (h : r.addr i < rPM_CNT.addr 0 ∨ rPM_CNT.addr 63 < r.addr i) : (s.pmEvent ev unit inst n).reg r i = s.reg r i :=
  State.pmEvent_keeps (fun (x : State) => x.reg r i = s.reg r i) s ev unit inst n rfl (fun x k hk hx => by
    rw [← hx]
    refine State.reg_wreg_other _ _ _ _ _ _ ?_
    rw [pmCnt_addr]
    rw [pmCnt_addr 63] at h
    omega)

/-- A line at its home depends on the stores and the channel registers alone. -/
theorem State.homeLine_congr {s t : State} (hc : t.coh = s.coh) (hm : t.ma = s.ma) (h1 : ∀ m, m < 10 → t.reg rMA_CH_STAT m = s.reg rMA_CH_STAT m)
    (h2 : t.reg rMA_REBUILD 0 = s.reg rMA_REBUILD 0) (line : Nat) : t.homeLine line = s.homeLine line := by
  have hr : ∀ i k, t.chReads (slotChan i k) k = s.chReads (slotChan i k) k := by
    intro i k
    have e1 : t.rf MA_CH_STAT_STATE (slotChan i k) = s.rf MA_CH_STAT_STATE (slotChan i k) :=
      congrArg (fun v => bits v 63 60) (h1 _ (Nat.mod_lt _ (by decide)))
    have e2 : t.rf MA_REBUILD_BUSY = s.rf MA_REBUILD_BUSY := congrArg (fun v => bits v 63 63) h2
    have e3 : t.rf MA_REBUILD_CHANNELS = s.rf MA_REBUILD_CHANNELS := congrArg (fun v => bits v 59 50) h2
    have e4 : t.rf MA_REBUILD_POS = s.rf MA_REBUILD_POS := congrArg (fun v => bits v 33 0) h2
    unfold State.chReads State.rb
    rw [e1, e2, e3, e4]
  have hb : ∀ k b ers, t.stripeByte k b ers = s.stripeByte k b ers := by
    intro k b ers; funext i
    unfold State.stripeByte
    rw [hr, hm]
  have ha : t.arrayLine line = s.arrayLine line := by
    unfold State.arrayLine State.stripeLine
    have hp : t.poisoned line = s.poisoned line := by
      unfold State.poisoned State.sigOf State.maskOf
      simp only [hr, hm]
    simp only [hb, hp]
  unfold State.homeLine State.meshOf; rw [hc, ha]

/-- The value of a line depends on the stores, the directory and the channel registers alone. -/
theorem State.lineNow_congr {s t : State} (hc : t.coh = s.coh) (hm : t.ma = s.ma) (h1 : ∀ m, m < 10 → t.reg rMA_CH_STAT m = s.reg rMA_CH_STAT m)
    (h2 : t.reg rMA_REBUILD 0 = s.reg rMA_REBUILD 0) (line : Nat) : t.lineNow line = s.lineNow line := by
  have hh := State.homeLine_congr hc hm h1 h2 line
  unfold State.lineNow State.dirOf State.l2
  simp only [hc, hh]

theorem chStat_addr (m : Nat) : rMA_CH_STAT.addr m = rMA_CH_STAT.addr 0 + 8 * m := by
  simp [Reg.addr, rMA_CH_STAT, dimOffs, dimProd]; omega

theorem State.lineNow_pmEvent (s : State) (ev unit : Nat) (inst : Option Nat) (n line : Nat) : (s.pmEvent ev unit inst n).lineNow line = s.lineNow line := by
  have o := s.pmEvent_only ev unit inst n
  refine State.lineNow_congr o.coh o.ma (fun m hm => State.reg_pmEvent _ _ _ _ _ _ _ ?_) (State.reg_pmEvent _ _ _ _ _ _ _ (.inl (by decide))) line
  left
  rw [chStat_addr]
  have e : rMA_CH_STAT.addr 0 + 80 < rPM_CNT.addr 0 := by decide
  omega

theorem State.raiseMs_coh (s : State) (n : Nat) :
    (s.raiseMs n).coh = s.coh ∧ (s.raiseMs n).ma = s.ma ∧ (s.raiseMs n).recorded = s.recorded := by
  unfold State.raiseMs
  split
  · split
    · exact ⟨rfl, rfl, rfl⟩
    · simp
  · simp

/-- A rank set that leaves self-refresh leaves the caches and the array alone (18 R748). -/
theorem State.srTouch_coh (s : State) (line : Nat) : (s.srTouch line).coh = s.coh ∧ (s.srTouch line).ma = s.ma ∧ (s.srTouch line).recorded = s.recorded := by
  unfold State.srTouch
  dsimp only
  split
  · exact ⟨rfl, rfl, rfl⟩
  · split
    · refine foldl_keeps (fun (x : State) => x.coh = s.coh ∧ x.ma = s.ma ∧ x.recorded = s.recorded) _ _ _ ?_ ?_
      · have h := (s.sf IS_MEM_SR_ACTIVE (setBit (s.rf IS_MEM_SR_ACTIVE) (line * s.rf MA_CH_STAT_RANKS 0 / s.usableLines) false) 0).raiseMs_coh 0x375
        exact ⟨h.1.trans (State.sf_coh ..), h.2.1.trans (State.sf_ma ..), h.2.2.trans (State.sf_recorded ..)⟩
      · intro x a hx _
        have o := x.pmEvent_only 0x0405 a none 1
        exact ⟨o.coh.trans hx.1, o.ma.trans hx.2.1, o.recorded.trans hx.2.2⟩
    · exact ⟨rfl, rfl, rfl⟩

end Sys2Proof.Machine
end

