-- ==== Sys2Proof/Laws/Stores.lean ====
section
/-! SUPPORT. Updates that leave the caches, the directory and the memory array as they are, and what a line's value takes from them. -/

namespace Sys2Proof.Machine

theorem State.sameStores.refl (s : State) : s.sameStores s := ⟨rfl, rfl, fun _ _ => rfl, rfl, rfl⟩

theorem State.sameStores.trans {s t u : State} (h : s.sameStores t) (k : t.sameStores u) : s.sameStores u :=
  ⟨k.coh.trans h.coh, k.ma.trans h.ma, fun m hm => (k.chan m hm).trans (h.chan m hm), k.rebuild.trans h.rebuild, k.array.trans h.array⟩

/-- A line's value is the same in states that agree in the stores. -/
theorem State.sameStores.lineNow {s t : State} (h : s.sameStores t) (line : Nat) : t.lineNow line = s.lineNow line :=
  State.lineNow_congr h.coh h.ma h.chan h.rebuild line

/-- Whether the array is Exhausted is the same. -/
theorem State.sameStores.exhausted {s t : State} (h : s.sameStores t) : t.exhausted = s.exhausted :=
  congrArg (fun v => bits v MA_STAT_STATE.hi MA_STAT_STATE.lo == 3) h.array

/-- Taking a request up from its sender keeps the agreement. -/
theorem State.sameStores.takeUp {s t : State} (h : s.sameStores t) (r : CohReq) : (s.takeUp r).sameStores (t.takeUp r) := by
  refine ⟨?_, h.ma, h.chan, h.rebuild, h.array⟩
  unfold State.takeUp
  rw [h.coh]

theorem State.sameStores_pmEvent (s : State) (ev unit : Nat) (inst : Option Nat) (n : Nat) : s.sameStores (s.pmEvent ev unit inst n) := by
  have o := s.pmEvent_only ev unit inst n
  refine ⟨o.coh, o.ma, fun m hm => State.reg_pmEvent _ _ _ _ _ _ _ (.inl ?_), State.reg_pmEvent _ _ _ _ _ _ _ (.inl (by decide)),
    State.reg_pmEvent _ _ _ _ _ _ _ (.inl (by decide))⟩
  rw [chStat_addr]
  have e : rMA_CH_STAT.addr 0 + 80 < rPM_CNT.addr 0 := by decide
  omega

theorem State.reg_raiseMs (s : State) (n : Nat) (r : Reg) (i : Nat) : (s.raiseMs n).reg r i = s.reg r i := by
  unfold State.raiseMs
  split
  · split <;> rfl
  · rfl

theorem State.sameStores_srTouch (s : State) (line : Nat) : s.sameStores (s.srTouch line) := by
  unfold State.srTouch
  dsimp only
  split
  · exact .refl s
  · split
    · refine foldl_keeps (fun (x : State) => s.sameStores x) _ _ _ ?_ (fun x a hx _ => hx.trans (State.sameStores_pmEvent ..))
      have h := (s.sf IS_MEM_SR_ACTIVE (setBit (s.rf IS_MEM_SR_ACTIVE) (line * s.rf MA_CH_STAT_RANKS 0 / s.usableLines) false) 0).raiseMs_coh 0x375
      refine ⟨h.1.trans (State.sf_coh ..), h.2.1.trans (State.sf_ma ..), fun m hm => ?_, ?_, ?_⟩
      · rw [State.reg_raiseMs]
        refine State.reg_wreg_other _ _ _ _ _ _ ?_
        rw [chStat_addr]
        have e : rMA_CH_STAT.addr 0 + 80 < IS_MEM_SR_ACTIVE.reg.addr 0 := by decide
        omega
      · rw [State.reg_raiseMs]; exact State.reg_wreg_other _ _ _ _ _ _ (by decide)
      · rw [State.reg_raiseMs]; exact State.reg_wreg_other _ _ _ _ _ _ (by decide)
    · exact .refl s

/-- Whether the home serves a request depends on the caches, the directory and the states of the slices alone. -/
theorem State.mayServe_congr {s t : State} (h : t.coh = s.coh) (hr : ∀ i, t.reg rMX_SLICE_STAT i = s.reg rMX_SLICE_STAT i) (r : CohReq) :
    t.mayServe r = s.mayServe r := by
  have h1 : ∀ line, t.homeNow line = s.homeNow line := fun line => congrArg (fun v => bits v MX_SLICE_STAT_HOME.hi MX_SLICE_STAT_HOME.lo) (hr _)
  have h2 : ∀ i, t.rf MX_SLICE_STAT_STATE i = s.rf MX_SLICE_STAT_STATE i :=
    fun i => congrArg (fun v => bits v MX_SLICE_STAT_STATE.hi MX_SLICE_STAT_STATE.lo) (hr i)
  have h3 : ∀ line, t.meshOf line = s.meshOf line := fun line => by unfold State.meshOf; rw [h]
  unfold State.mayServe State.busyOf State.rehoming State.lacksRoom State.earlierWrite State.dirFull State.dirMates State.dirOf
  simp only [h, h1, h2, h3]

theorem State.dirOf_congr {s t : State} (h : t.coh = s.coh) (line : Nat) : t.dirOf line = s.dirOf line := by unfold State.dirOf; rw [h]

theorem State.l2_congr {s t : State} (h : t.coh = s.coh) (q line : Nat) : t.l2 q line = s.l2 q line := by unfold State.l2; rw [h]

theorem State.sameStores_bwBytes (s : State) (p n : Nat) (i : Option Nat) : s.sameStores (s.bwBytes p n i) := by
  unfold State.bwBytes
  split <;> exact ⟨rfl, rfl, fun _ _ => rfl, rfl, rfl⟩

theorem State.bwBytes_recorded (s : State) (p n : Nat) (i : Option Nat) : (s.bwBytes p n i).recorded = s.recorded := by
  unfold State.bwBytes
  split <;> rfl

/-- Agreement in the stores and in the recorded lines. -/
def State.sameRec (s t : State) : Prop := s.sameStores t ∧ t.recorded = s.recorded

theorem State.sameRec.step {s t u : State} (h : s.sameRec t) (k : t.sameRec u) : s.sameRec u := ⟨h.1.trans k.1, k.2.trans h.2⟩

theorem State.sameRec_pmEvent (s : State) (ev unit : Nat) (inst : Option Nat) (n : Nat) : s.sameRec (s.pmEvent ev unit inst n) :=
  ⟨State.sameStores_pmEvent .., (State.pmEvent_only ..).recorded⟩

theorem State.sameRec_bwBytes (s : State) (p n : Nat) (i : Option Nat) : s.sameRec (s.bwBytes p n i) :=
  ⟨State.sameStores_bwBytes .., State.bwBytes_recorded ..⟩

theorem State.sameRec_readSlots (s : State) (k : Nat) (is : List Nat) : s.sameRec (s.readSlots k is) :=
  foldl_keeps (fun (x : State) => s.sameRec x) _ _ _ ⟨.refl s, rfl⟩
    (fun _ _ hx _ => (hx.step (State.sameRec_pmEvent ..)).step (State.sameRec_bwBytes ..))

theorem State.sameRec_readTransfers (s : State) (line : Nat) : s.sameRec (s.readTransfers line) := by
  unfold State.readTransfers
  dsimp only
  split
  · exact State.sameRec_readSlots ..
  · exact (State.sameRec_readSlots ..).step (State.sameRec_pmEvent ..)

/-- A read of an array that is not Exhausted, with nothing found, is counted and changes nothing else (07 R263). -/
theorem State.sameRec_readMeets (s : State) (line : Nat) (h : s.exhausted = false) : s.sameRec (s.readMeets line []) := by
  have e : s.readMeets line [] = s.readTransfers line := by
    unfold State.readMeets State.codeFindings State.findingErasures State.liveFinds
    simp [h, State.each]
  rw [e]
  exact State.sameRec_readTransfers ..

/-- What a request meets, said once: with no dead quad, and the line not read from the array, or from one that is not Exhausted with nothing found, only counters change. -/
theorem State.meets_same (s : State) (r : CohReq) (fs : List ChanFinding) (hd : s.coh.deadQuads = 0)
    (h : s.fromMemory r = false ∨ (fs = [] ∧ s.exhausted = false)) : s.sameRec (s.meets r fs) := by
  have e0 : s.onDemand r.line = s := by unfold State.onDemand; rw [if_pos hd]
  unfold State.meets
  rw [e0]
  dsimp only
  refine (State.sameRec.step ?_ (State.sameRec_bwBytes ..))
  generalize hz : s.pmEvent (if (s.meshOf r.line).isSome then 0x0301 else 0x0302) (s.homeNow r.line) = z
  have hs : s.sameRec z := hz ▸ State.sameRec_pmEvent ..
  have hf : z.fromMemory r = s.fromMemory r := by
    unfold State.fromMemory State.dirOf State.meshOf; rw [hs.1.coh]
  unfold State.when
  rw [hf]
  cases hb : s.fromMemory r with
  | false => exact hs
  | true =>
    rcases h with h | ⟨rfl, h⟩
    · rw [h] at hb; exact absurd hb (by decide)
    · refine hs.step (State.sameRec_readMeets _ _ ?_)
      exact (hs.1.exhausted).trans h

/-- Counting a NACK writes registers alone. -/
theorem State.countNack_only (s : State) (r : CohReq) : OnlyRegs s (s.countNack r) := by
  have h := (OnlyRegs.bump s rMX_NACK 0 1).trans (State.pmEvent_only (s.bump rMX_NACK) 0x0304 (s.homeNow r.line) none 1)
  unfold State.countNack State.when
  cases r.quad.isSome with
  | true =>
    rw [cond_true]
    exact h.trans (State.pmEvent_only ..)
  | false =>
    rw [cond_false]
    exact h

theorem addNack_mem (l : List NackEnt) (r : CohReq) : (addNack l r).any (fun n => n.req.same r) = true := by
  have hs : CohReq.same r r = true := by simp [CohReq.same]
  unfold addNack
  split
  · next h =>
    rw [List.any_map]
    rw [List.any_eq_true] at h ⊢
    obtain ⟨n, hn, hq⟩ := h
    exact ⟨n, hn, by simp only [Function.comp]; split <;> simp_all⟩
  · simp [hs]

/-- A NACK, said once: the caches, the directory and the requests being served are as they were, and the request waits at its sender (05 R185). -/
theorem State.nack_spec (s : State) (r : CohReq) :
    (s.nack r).ma = s.ma ∧ (s.nack r).coh = { s.coh with nacked := addNack s.coh.nacked r } := by
  have o := s.countNack_only r
  refine ⟨o.ma, ?_⟩
  show { (s.countNack r).coh with nacked := addNack (s.countNack r).coh.nacked r } = _
  rw [o.coh]

theorem State.putCell_coh (s : State) (i k b v : Nat) : (s.putCell i k b v).coh = s.coh := by
  unfold State.putCell; dsimp only; split <;> rfl

theorem State.putByte_coh (s : State) (k j b v : Nat) : (s.putByte k j b v).coh = s.coh := by
  unfold State.putByte
  dsimp only
  split <;> split <;> simp only [State.putCell_coh]

theorem State.setSig_coh (s : State) (j k : Nat) (p : Bool) : (s.setSig j k p).coh = s.coh := by unfold State.setSig; split <;> rfl

theorem State.setMask_coh (s : State) (i k v : Nat) : (s.setMask i k v).coh = s.coh := by unfold State.setMask; split <;> rfl

theorem State.setPoison_coh (s : State) (line : Nat) (p : Bool) : (s.setPoison line p).coh = s.coh := by
  unfold State.setPoison
  simp only [State.setMask_coh, State.setSig_coh]

/-- A write of the array leaves the caches and the directory alone. -/
theorem State.arrayPut_coh (s : State) (line : Nat) (data : Line) (mask : BitVec 64) (poison : Bool) : (s.arrayPut line data mask poison).coh = s.coh := by
  unfold State.arrayPut
  dsimp only
  split
  · simp [State.maElog]
  · have h : ∀ (f : State → Nat → State), (∀ t b, (f t b).coh = t.coh) → (s.each (List.range 64) f).coh = s.coh := fun f hf =>
      foldl_keeps (fun (x : State) => x.coh = s.coh) _ _ _ rfl (fun x a hx _ => (hf x a).trans hx)
    have e := h (fun t b => if mask.toNat.testBit b then t.putByte (line / 8) (line % 8) b (byteOf data.toNat b) else t)
      (fun t b => by split <;> simp only [State.putByte_coh])
    split
    · exact (State.setPoison_coh ..).trans e
    · split
      · exact (State.setPoison_coh ..).trans e
      · exact e

theorem State.memPut_coh (s : State) (line : Nat) (data : Line) (mask : BitVec 64) (p : Bool) : (s.memPut line data mask p).coh = s.coh := by
  unfold State.memPut
  rw [State.arrayPut_coh]
  unfold State.writeTransfers State.writeSlots
  have h := (s.sameRec_readSlots (line / 8) (s.writeReads (line / 8) [line % 8] (if mask = BitVec.allOnes 64 then [] else [line % 8]))).1.coh
  refine foldl_keeps (fun (x : State) => x.coh = s.coh) _ _ _ h (fun x a hx _ => ?_)
  rw [(State.sameStores_bwBytes ..).coh, (State.sameStores_pmEvent ..).coh]
  exact hx

/-- A write at the home changes no copy in a quad. -/
theorem State.homePut_l2 (s : State) (line : Nat) (data : Line) (p : Bool) (w : Nat) : (s.homePut line data p w).coh.l2 = s.coh.l2 := by
  unfold State.homePut
  split
  · rfl
  · rw [State.memPut_coh]

theorem State.writeBackM_l2 (s : State) (q line : Nat) : (s.writeBackM q line).coh.l2 = s.coh.l2 := by
  unfold State.writeBackM
  split
  · split
    · exact State.homePut_l2 ..
    · rfl
  · rfl

/-- A line at its home is the same in states that agree in the stores. -/
theorem State.sameStores.homeLine {s t : State} (h : s.sameStores t) (line : Nat) : t.homeLine line = s.homeLine line :=
  State.homeLine_congr h.coh h.ma h.chan h.rebuild line

/-- A command whose arm runs f on a powered module has f's effect. -/
theorem does_of_run {c : Instr} {s : State} {f : State → State} (h : s.powered = true) (he : exec c s = run f s) : Does c s (f s) := by
  unfold Does
  rw [he]
  simp [run, h]

end Sys2Proof.Machine
end

