-- ==== Sys2Proof/Tests/Slice0.lean ====
section
/-! SUPPORT. Tests of the model against the spec's worked examples, the checks that WellFormed makes, and the witnesses of the statements' hypotheses. -/

namespace Sys2Proof.Machine

-- One theorem after another: the checks of long evaluations, run side by side, take more threads than the memory limit allows.
set_option Elab.async false

/-! ### Small states -/

/-- The state after reset with fields of registers set: field, index, value. -/
def mkS (l : List (RF × Nat × Nat)) : State := l.foldl (fun s x => s.sf x.1 x.2.2 x.2.1) State.reset

/-- A command of the Operator Host: opcode, parameters, payload, subject, phase, long operation. -/
def mkC (op : Nat) (ps : List Nat := []) (pay : List Nat := []) (inst : Nat := 0) (phase : Nat := 2) (lop : LongOp := ⟨0, 0, 0, 0, 0, false, []⟩) : Cmd :=
  ⟨0, 0, op, 0, inst, 0, false, ps, pay, 0, 0, 0, false, 0, phase, true, true, lop⟩

/-- s with one open command. -/
def State.withCmd (s : State) (c : Cmd) : State := { s with mp := { s.mp with cmds := [c] } }

/-- A state of l's registers with a command of the Operator Host started. -/
def mkO (l : List (RF × Nat × Nat)) (c : Cmd) : State := (mkS l).withCmd c

/-- `starts` and `startsVia` as checks. -/
theorem starts_iff {s : State} {op : Nat} {c : Cmd} : s.starts op c ↔ s.startedCmd op = some c ∧ (opInfo op).any (fun o => paramsNamed o c.ps) = true := by
  simp [State.starts, Option.any_eq_true]

theorem via_iff {s : State} {op : Nat} {p : Cmd → Bool} {c : Cmd} : s.startsVia .packet op p s c ↔ s.startedCmd op p = some c ∧ (opInfo op).any (fun o => paramsNamed o c.ps) = true := by
  simp [State.startsVia, Option.any_eq_true, and_comm]

/-! ### What WellFormed refuses: one ill-formed command for each check -/

theorem test_wf_mesh_line : Instr.wf (.readShared 0 none 0 ⟨0, 0, some (2 ^ 46), none, none, []⟩) = false := by decide
theorem test_wf_dir_line : Instr.wf (.readOwn 0 none 0 ⟨0, 0, none, some (2 ^ 46), none, []⟩) = false := by decide
theorem test_wf_error_line : Instr.wf (.recall 0 0 (some (.l2Data 0 (2 ^ 46) false))) = false := by decide
theorem test_wf_mesh_single : Instr.wf (.recall 0 0 (some (.meshSingle (2 ^ 46)))) = false := by decide
theorem test_wf_mesh_data : Instr.wf (.recall 0 0 (some (.meshData (2 ^ 46)))) = false := by decide
theorem test_wf_dir_entry : Instr.wf (.recall 0 0 (some (.dirEntry (2 ^ 46)))) = false := by decide
theorem test_wf_no_writes : Instr.wf (.arrayWrite [] []) = false := by decide
theorem test_wf_two_stripes : Instr.wf (.arrayWrite [⟨0, 0, 0, false⟩, ⟨8, 0, 0, false⟩] []) = false := by decide
theorem test_wf_same_line : Instr.wf (.arrayWrite [⟨1, 0, 0, false⟩, ⟨1, 0, 0, false⟩] []) = false := by decide
theorem test_wf_empty_pcie_write : Instr.wf (.pcieInboundRequest 0 0 0 false false (some []) 0 .timeout) = false := by decide
theorem test_wf_empty_pcie_read : Instr.wf (.pcieInboundRequest 0 0 0 false false none 0 .timeout) = false := by decide
theorem test_wf_empty_slot_write : Instr.wf (.registerWrite (.bar2 0 [])) = false := by decide
theorem test_wf_empty_msix_write : Instr.wf (.registerWrite (.bar4 0 [])) = false := by decide
theorem test_wf_long_message : Instr.wf (.postIn .host 0 0 (List.replicate 4097 0)) = false := by decide +kernel
theorem test_wf_samples : Instr.wf (.nodeSlotSend 0 0 (List.replicate 257 0)) = false := by decide +kernel
theorem test_wf_goose : Instr.wf (.gooseReceive true []) = false := by decide
theorem test_wf_boot : Instr.wf (.boot ⟨none, true, none, [], 0, true, 0, .silent, 0, none, [], []⟩ []) = false := by decide
theorem test_wf_dimms : Instr.wf (.channelTrainingEnd 0 ⟨List.replicate 3 ⟨0, false, 0, true, false⟩, true⟩) = false := by decide
theorem test_wf_temperatures : Instr.wf (.powerEstimate 0 [] []) = false := by decide
theorem test_wf_margins : Instr.wf (.ageingSample []) = false := by decide
theorem test_wf_accepts : Instr.wf (.arrayWrite [⟨0, 0, 0, false⟩, ⟨7, 0, 0, false⟩] []) = true := by decide

/-! ### The spec's worked examples -/

/-- 00, "a transaction ID in memory". -/
theorem test_transaction_id : mkTid 37 5 1000 = 0x12802800000003E8 ∧ toBytes (mkTid 37 5 1000) 8 = [0xE8, 3, 0, 0, 0, 0x28, 0x80, 0x12] := by decide

/-- 01, "placing one kiln signal and its events": the route register of event 0x1E0, and the lane of the signal (08). -/
theorem test_event_route : rMP_EVT_ROUTE.addr 0x1E0 = 0x7F1000108F00 ∧ laneOf 0xC2907 = 34 := by decide

/-- 02, "a loop bundle with a long immediate". -/
def loopBundle : List Nat := [0x10005148, 0x203030E2, 0x1000A280, 0x60000040, 0xB187FFFC]

theorem test_loop_bundle :
    (List.range 5).map (decAt loopBundle) = [some (.alu .add 5 5 (.imm 8), true), some (.ld 8 false 6 ⟨0, 7, 16, 2⟩, true),
      some (.alu .add 10 10 (.imm 4096), true), some (.long, true), some (.br false (2 ^ 64 - 4), true)] ∧
    illegalBundle loopBundle = none ∧ sylStop 0xB187FFFC = true ∧ sylPred 0xB187FFFC = 3 := by decide

/-- 03, "adding two totaliser vectors". -/
theorem test_vadds_word : decSyl 0xC0006110 [] = some (.vec .adds 3 1 2 0, true) := by decide

theorem test_vadds_lanes :
    let v := VOp.run .adds 0 (ofWords32 [0x007FF000, 0x01001000, 0x02020000, 0x00800000]) (ofWords32 [0x00002000, 0x00FFF000, 0x00000001, 0x03FFFFFF]) 0 0 0
    (List.range 8).map (lane v) = [0x017FFFFF, 0x01000000, 0x02020001, 0x03800000, 0, 0, 0, 0] := by decide +kernel

/-- 06, "a historian page through both stages": the tables, with 2 MiB of them mapped one to one by stage 2. -/
def historianPage : State :=
  let b := (mkS [(MA_CAP_USABLE_GIB, 0, 64), (TN_INST_STATE, 0, 2), (TN_INST_VCORES, 0, 1)]).setInst 0 (fun _ => { InstSt.empty with s2root := 0x1000, ipage := 0x80000 })
  let lines := [0x1000, 0x2000, 0x3000, 0x3900, 0x4080, 0x100400, 0x101000, 0x102D00]
  let s : State := { b with coh := { b.coh with mesh := lines.map (fun a => (a / 64, ⟨0, false, false, 512⟩)) } }
  [(0x1000, 0x2001), (0x2000, 0x3001), (0x3000, s2Leaf 0 15 false true), (0x3000 + 8 * 0x122, 0x4001), (0x4000 + 8 * 0x15, 0x3C81506F),
   (0x100408, 0x101001), (0x101010, 0x102001), (0x102D18, 0x2440002F)].foldl (fun s e => s.coWriteN e.1 8 e.2) s

def historianLoad (k : AccKind) : Except XFault Trans := historianPage.coreWalk 0 0 0 0x1000 0x0007000000100001 0x4080B4615A48 k true

theorem test_historian_page :
    (match historianLoad .load with
      | .ok t => t.pa == 0x3C815A48 && t.pr && (t.fill.map (fun e => (e.1, e.2.pages, e.2.asid, e.2.en))) == [(dtlb 0, 1, some 7, true), (tlb2 0, 1, some 7, true)] &&
          (t.upds.map (fun u => (u.addr, u.old ||| u.bits))).contains (0x102D18, 0x244000AF) && (t.upds.map (fun u => (u.addr, u.old ||| u.bits))).contains (0x40A8, 0x3C8150EF)
      | .error _ => false) = true := by decide +kernel

theorem test_historian_store :
    (match historianLoad .store with
      | .ok t => (t.upds.map (fun u => (u.addr, u.old ||| u.bits))).contains (0x102D18, 0x244001AF) && (t.upds.map (fun u => (u.addr, u.old ||| u.bits))).contains (0x40A8, 0x3C8151EF)
      | .error _ => false) = true := by decide +kernel

/-- 07, "reading through two lost channels": the channels of stripe 0x91A7. -/
theorem test_stripe_channels : 0x1234FC0 / 512 = 37287 ∧ (List.range 10).map (fun i => slotChan i 37287) = [7, 8, 9, 0, 1, 2, 3, 4, 5, 6] := by decide

/-- 08, "a firing-end temperature alarm": linear, GAIN 256, OFFSET 0. -/
theorem test_linear_conversion : State.reset.convert (2 ^ 254 + 256 * 2 ^ 256) 0x450000 = (17664, false) := by decide +kernel

/-- 09, "one corridor break on a felt-moisture signal": the break at 3,000 us, and the block after. -/
theorem test_corridor_break :
    corridor 8 (0x800007D0 + 1000 * 2 ^ 32 + 130304 * 2 ^ 64 + 128256 * 2 ^ 96) 2000000 1010 3000000 1030 =
      ([(2000000, 1010)], 0x800003E8 + 1010 * 2 ^ 32 + (1038 * 128) * 2 ^ 64 + (1022 * 128) * 2 ^ 96) ∧
    corridor 8 (0x800003E8 + 1000 * 2 ^ 32 + (1012 * 128) * 2 ^ 64 + (996 * 128) * 2 ^ 96) 1000000 1004 2000000 1010 =
      ([], 0x800007D0 + 1000 * 2 ^ 32 + 130304 * 2 ^ 64 + 128256 * 2 ^ 96) := by decide +kernel

/-- 12, "a finishing-mill ring at 500 us": the slots of nodes 1 to 24 and 25 to 40, and node 30's points in a cycle. -/
theorem test_finishing_mill : cycNs 1 = 500000 ∧ NodeCfg.slotNs ⟨1, 12, 0, List.replicate 32 0x10 ++ List.replicate 8 0x18⟩ + 320 = 1080 ∧
    NodeCfg.slotNs ⟨25, 12, 0, List.replicate 32 0x10 ++ List.replicate 64 0x13⟩ + 320 = 1208 := by decide +kernel

theorem test_due_points : (duePts (List.replicate 32 0x10 ++ List.replicate 64 0x13) 5).drop 32 = [37, 45, 53, 61, 69, 77, 85, 93] := by decide +kernel

/-- 14, "a signal batch across a restart": the words of the three packets' headers. -/
theorem test_signal_batch_header :
    let h := 0x01020401 + 0x5A01 * 2 ^ 32 + 0x001FFE00 * 2 ^ 64 + 0xFC0 * 2 ^ 96
    let c := parseCmd 0 5 h [] 0 0
    c.op = 0x0401 ∧ c.tag = 0x5A01 ∧ c.inst = 0 ∧ c.gen = 0xFFF ∧ hdrOk 0 h c = true := by decide +kernel

/-- 15, "a failing DIMM folded into one record": the record's words. -/
theorem test_folded_record :
    let b := (FRec.bytes ⟨0, 41000, 0x2F41, 0x040007, 0x0404, 1, false, false, none, false, 66, 0x1A7, 5, 0, 4, 0, 1⟩)
    let w := fun (o : Nat) => ofBytes ((b.drop o).take 4)
    w 0x14 = 0x00040007 ∧ w 0x18 = 0x00010404 ∧ w 0x1C = 0x01A70042 ∧ w 0x24 = 5 ∧ b.length = 64 := by decide +kernel

/-- 17, "recalling a cipher lease"; 18, "one dispatched core, three classes"; 19, "a storage drive behind root port 2". -/
theorem test_lease_handle : Lease.handle ⟨2, 3, 1, 8, [6, 7], [], [], none, none, false⟩ = 0x00030002 := by decide
theorem test_latency_limits : deepest 10000 = 2 ∧ deepest 20000 = 2 ∧ deepest 1000000 = 3 ∧ deepest 20 = 1 := by decide
theorem test_stream_entry : rPX_STREAM.addr 512 = 0x7F1001202000 := by decide
/-! ### Witnesses: states and operands that meet the hypotheses of the statements, a conjunct for each clause -/

theorem witness_IdleModuleLetsTimePass : State.reset.pending = [] ∧ State.reset.powered = true ∧ State.reset.rf TM_RATE_RATE = 0 ∧ State.reset.pw.slew = 0 ∧
    -256000000000 < State.reset.pw.frac ∧ State.reset.pw.frac < 256000000000 ∧ (mkS [(PM_CTL_FROZEN, 0, 1)]).rb PM_CTL_FROZEN = true ∧
    ({ State.reset with powered := false } : State).powered = false := by decide +kernel

theorem witness_EveryCommandAnswersAndNoneActsUnpowered : ∃ (c : Instr) (s : State), s.powered = false ∧ ∀ x, c ≠ .powerOn x :=
  ⟨.demand, { State.reset with powered := false }, rfl, fun _ => nofun⟩

theorem witness_EveryStepStaysSettled : ∃ s t : State, s.settled ∧ step s = .next t := ⟨State.reset, _, rfl, rfl⟩

theorem witness_EventsFollowTheirRoutes : let s := mkS [(MP_EVT_ROUTE_VEC_EN, 0x3FF, 1), (MP_EVT_ROUTE_VECTOR, 0x3FF, 63)]
    let t : State := { s with raised := [0x3FF], mp := { s.mp with busMaster := true, msixEn := true, msix := [(63, 0xFEE00000)] } }
    s.rb MP_EVT_ROUTE_EQ_EN 0x3FF = false ∧ s.rb MP_EVT_ROUTE_VEC_EN 0x3FF = true ∧ s.rb MP_EVT_ROUTE_VEC_EN 0 = false ∧ s.raised = [] ∧
    t.raised = [0x3FF] ∧ t.rb MP_EVT_ROUTE_EQ_EN 0x3FF = false ∧ t.rb MP_EVT_ROUTE_VEC_EN 0x3FF = true ∧ t.mp.busMaster = true ∧ t.mp.msixEn = true ∧ t.mp.msixMask = false ∧
    bit (t.msixEntry (t.rf MP_EVT_ROUTE_VECTOR 0x3FF)) 96 = false := by decide +kernel

theorem witness_ExceptionEntrySavesAndVectors : (2 ^ 64 - 1 : Nat) < 2 ^ 64 ∧ (1 : Nat) ≤ 1 ∧ (0x12 : Nat) ≤ 0x12 ∧ (7 : Nat) < 8 := by decide
/-- Core 0 runs virtual core 0 of instance 0 at F, with a bundle of words at 0x1000. -/
def wRun (ws : List Nat) : State :=
  ((mkS [(MA_CAP_USABLE_GIB, 0, 64), (TN_INST_STATE, 0, 2), (TN_INST_VCORES, 0, 1), (TN_DISP_VALID, 0, 1), (KC_PCS_ROLE, 0, 0), (KC_PCS_POWER, 0, 0)]).setVc 0
    (fun k => { k.setCr 0 2 with pc := 0x1000 })).coWriteN 0x1000 (4 * ws.length) (ofBytes (ws.flatMap (fun w => toBytes w 4)))

/-- A bundle of one cycle in which nothing fails. -/
def wEnv : BundleEnv := ⟨0, 0, 1, 0, [], .clean, 0, false⟩

/-- Core 0 is about to run a bundle, no bundle waits, no interrupt is due, and f holds of the core, the state of the fetch and the bundle fetched. -/
def wBundle (s : State) (f : State → Hart → Except Stop (List Nat × List (Nat × Trans)) → Bool) : Bool :=
  match s.hart 0 0 with
  | none => false
  | some h => s.powered && (s.waiting 0 0).isNone && h.irqDue.isNone && (match (s.takeIrq h).hart 0 0 with
    | none => false
    | some k =>
      let x := ((s.takeIrq h).bundleMeets k wEnv).loadS2 0 k.inst
      k.pc % 4 == 0 && f x k (x.fetch k 8 k.pc [] []))

/-- The bundle passes its encoding checks, and f holds of its run. -/
def wGo (s : State) (f : Hart → Run → Option Stop → Bool) : Bool :=
  wBundle s (fun x k e => match e with
    | .error _ => false
    | .ok (ws, ts) =>
      let g := { k with next := (k.pc + 4 * ws.length) % 2 ^ 64 }
      let r := Run.go g ws (List.range ws.length) ⟨(x.each ts (fun s p => s.useTrans g p.2)).fetchFill g ws.length ts, [], [], [], none, none, false, false, none, none, none⟩
      g.encodingFault ws == none && !(x.core g.core).ucodeBad && f g r.1 r.2)

theorem witness_BundlesCommitOrStop_stops :
    (let s := (wRun []).setVc 0 (fun k => { k with wait := some ⟨[.done 5], [], [], 8, false, none⟩ })
     s.powered = true ∧ (s.waiting 0 0).isSome = true ∧ bundleStops { wEnv with fails := 3 } = true ∧ bundleStops { wEnv with fails := 1, restore := .lost } = true ∧ bundleStops wEnv = false ∧
     wEnv.fails = 0 ∧ wEnv.late = false) ∧
    (let s := (wRun []).setVc 0 (fun k => { k with pc := 0x1002 })
     (match s.hart 0 0 with | some h => (match (s.takeIrq h).hart 0 0 with | some k => k.pc % 4 != 0 | none => false) | none => false) = true) ∧
    wBundle ((wRun []).setVc 0 (fun k => { k with pc := 0x1000000000000 })) (fun _ _ e => match e with | .error _ => true | .ok _ => false) = true ∧
    wBundle (wRun [0x84000000 + 0x78000000]) (fun _ k e => match e with
      | .error _ => false
      | .ok (ws, _) => ({ k with next := (k.pc + 4 * ws.length) % 2 ^ 64 } : Hart).encodingFault ws == some (2, 0)) = true := by decide +kernel

/-- A load of a poisoned line; a division by zero; BREAK; FCALL. -/
theorem witness_BundlesCommitOrStop_raises :
    (let b := wRun [0xA03030E2]; let s : State := { b with coh := { b.coh with mesh := Map.put b.coh.mesh 0 ⟨0, false, true, 512⟩ } }
     wGo s (fun g r _ => (State.poisonCheck g r).isSome) = true) ∧
    wGo (wRun [0xB8141080]) (fun g r e => (State.poisonCheck g r).isNone && (match e with | some (.exc 0xC _ _ none none) => true | _ => false)) = true ∧
    wGo (wRun [0xB0300123]) (fun g r e => (State.poisonCheck g r).isNone && e.isNone && r.brk == some (0, 0x123)) = true ∧
    wGo (wRun [0xE81C0000]) (fun g r e => (State.poisonCheck g r).isNone && e.isNone && r.brk == none && r.fcall == some (0, 0)) = true := by decide +kernel

/-- Two additions; a load, whose bundle commits at once; a load of register space, whose bundle waits. -/
theorem witness_BundlesCommitOrStop :
    wGo (wRun [0x10005148, 0x90006188]) (fun g r e => (State.poisonCheck g r).isNone && e.isNone && r.brk == none && r.fcall == none && r.plan.isEmpty && r.sysc == none &&
      r.writes == [(.g 5, .val 8), (.g 6, .val 8)]) = true ∧
    (let f := fun (q : Nat → Nat → Bool) (g : Hart) (r : Run) (e : Option Stop) => (State.poisonCheck g r).isNone && e.isNone && r.brk == none && r.fcall == none && r.sysc == none &&
       (let y := (r.s.each r.uses (fun s t => s.useTrans g t)).issue g 0 false [] (r.plan.map (fun p => .todo p.2.2)); q y.2.1.length (autoResp y.2.1 []).length)
     wGo (wRun [0xA03030E2]) (f (fun n k => n == 1 && k == 1)) = true ∧
     wGo ((wRun [0xA03030E2]).setVc 0 (fun k => k.setG 7 (0x7F1000000000 - 16))) (f (fun n k => n == 1 && k == 0)) = true) := by decide +kernel

/-- Virtual core 0 of instance 0 waits for the response to one access. -/
def wWait (s : State) (a : Acc1) (sysc : Option (Nat × Nat)) : State := s.setVc 0 (fun k => { k with wait := some ⟨[a], [], [], 8, false, sysc⟩ })

theorem witness_VirtualCoresAreAnswered :
    (let s := (wRun []).setVc 0 (fun k => (k.setCr 0 0).setCr 0x10 1 |>.setCr 0x12 0)
     s.powered = true ∧ (s.hart 0 0).any (fun h => h.irqDue == some 0) = true) ∧
    (let s := State.reset.setVc (vkey 511 63) (fun k => { (k.setCr 0x10 4).setCr 0x11 4 with wfi := true })
     s.powered = true ∧ (s.vc (vkey 511 63)).wfi = true ∧ s.irqReady (vkey 511 63) = true) ∧
    (∀ l ∈ [[Acc1.done 5, .done 6], [.done 5]], let w : Wait := ⟨l, [], [], 8, false, none⟩
     let s := State.reset.setVc 0 (fun k => { k with wait := some w })
     (s.vc (vkey 0 0)).wait = some w ∧ w.accs[w.resp.length]? = some (.done 5) ∧ (s.hartOf 0 0 0).isNone = true ∧ w.sysc = none ∧
     (let resp := w.resp ++ 5 :: autoResp (w.accs.drop (w.resp.length + 1)) []; (resp.length < w.accs.length ↔ l.length = 2))) ∧
    (∀ a ∈ [Acc1.done 5, .amo 3 ⟨0x2000, 8, 0, false⟩ 0 7 0], let w : Wait := ⟨[a], [], [], 8, false, none⟩
     let s := wWait (wRun []) a none
     (s.vc (vkey 0 0)).wait = some w ∧ w.accs[w.resp.length]? = some a ∧ (s.hartOf 0 0 0).isSome = true) ∧
    (let w : Wait := ⟨[.pcie 15 0x200000000000 8], [], [], 8, false, none⟩
     ((wWait State.reset (.pcie 15 0x200000000000 8) none).vc 0).wait = some w ∧ w.accs[w.resp.length]? = some (.pcie 15 0x200000000000 8)) ∧
    (let w : Wait := ⟨[.csub 0x1000 3], [], [], 8, false, none⟩
     ((wWait State.reset (.csub 0x1000 3) none).vc 0).wait = some w ∧ w.accs[w.resp.length]? = some (.csub 0x1000 3)) := by decide +kernel

/-- A core with a virtual core whose G1 is 2^63. -/
def wHart : Hart := ⟨0, 0, 0, State.reset, (VCore.empty.setG 1 (2 ^ 63)).setG 2 (2 ^ 31), 0, 8, 0⟩

theorem witness_MultiplyAndDivideAreExact : Alu.divuw ∈ [Alu.mul, .mulh, .mulhu, .mulhsu, .mulw, .div, .divu, .rem, .remu, .divw, .divuw] ∧
    Alu.divZero .divuw (wHart.opnd (.imm 1)) = false ∧ (1 : Word) ≠ 0 ∧ (1 : Word).truncate 32 ≠ (0 : BitVec 32) := by decide +kernel

theorem witness_DivisionByZeroRaises : wHart.opnd (.reg 0) = 0 ∧ wHart.opnd (.imm (2 ^ 32)) % 2 ^ 32 = 0 ∧ wHart.img.getP (sylPred ([0x00800000].getD 0 0)) = false ∧
    wHart.g 1 = 2 ^ 63 ∧ wHart.opnd (.imm (2 ^ 64 - 1)) = 2 ^ 64 - 1 ∧ wHart.g 2 % 2 ^ 32 = 2 ^ 31 ∧ wHart.opnd (.imm (2 ^ 64 - 1)) % 2 ^ 32 = 2 ^ 32 - 1 := by decide +kernel

theorem witness_ComputingBundlesTouchNoMemory : decAt [0x10005148, 0x88001000] 0 = some (.alu .add 5 5 (.imm 8), true) ∧ (decAt [0x10005148, 0x88001000] 1).map (·.1) = some (.mfsr 1 0) ∧
    (let r := Run.go wHart [0x10005148, 0x88001000] [0, 1] ⟨State.reset, [], [], [], none, none, false, false, none, none, none⟩; r.2.isNone && r.1.writes.length == 2) = true ∧
    wGo (wRun [0x90005148]) (fun g _ e => e.isNone && decAt [0x90005148] 0 == some (.alu .add 5 5 (.imm 8), true) && !Alu.divZero .add (g.opnd (.imm 8)) && g.img.getP (sylPred 0x90005148)) = true := by
  decide +kernel

theorem witness_CheckedCoresAreSpared :
    (let s := mkS [(KC_PCS_ROLE, 63, 0)]
     s.powered = true ∧ s.rf KC_PCS_ROLE 63 = 0 ∧ s.recoveries (org 1 63) < s.rf FC_CFG_RECOV_LIMIT ∧ s.headHeld 63 = false) ∧
    (let s := wRun []
     s.curVc 0 = some (0, 0) ∧ s.rf KC_PCS_POWER 0 = 0 ∧ s.vcRuns 0 0 = true ∧ (s.vc (vkey 0 0)).wfi = false ∧ (s.vc (vkey 0 0)).wait.isNone = true ∧ (s.core 0).stalled = false ∧
     s.rf KC_PCS_ROLE 0 = 0 ∧ s.recoveries (org 1 0) < s.rf FC_CFG_RECOV_LIMIT) ∧
    (let b := (mkS [(TW_STAT_STATE, 0, 2), (TW_STAT_ROLE, 0, 1)]).setCore 63 (fun k => { k with sb := [⟨false, 5, 7, 0xFF, 1, 0, true⟩] })
     ({ b with tw := { b.tw with stretch := true } } : State).headHeld 63 = true) ∧
    (let s := State.reset.setSpareQ 3 [(48, 0)]
     s.rf KC_SPARE_STAT_BUSY 3 = 0 ∧ (s.spareQ 3).find? (fun x => x.2 == 0) = some (48, 0)) ∧
    (let s := mkS [(KC_SPARE_STAT_BUSY, 3, 1), (KC_SPARE_STAT_SRC, 3, 48), (KC_PCS_ROLE, 49, 1), (KC_ST_LAST_OK, 49, 1)]
     s.rf KC_SPARE_STAT_BUSY 3 = 1 ∧ s.pickSpare (s.rf KC_SPARE_STAT_SRC 3) = some 49) ∧
    (let s := (mkS [(KC_PCS_ROLE, 63, 2), (KC_ST_LAST_OK, 63, 1)]).setSpareQ 3 [(48, 1)]
     s.rf KC_SPARE_STAT_BUSY 3 = 0 ∧ s.kc.degr = [] ∧ (s.spareQ 3).find? (fun x => x.2 != 0) = some (48, 1) ∧ s.pickSpare 48 = some 63 ∧ s.between 48 = true ∧
     (s.setSpareQ 3 ((s.spareQ 3).filter (fun x => x.1 != 48))).recoveries (org 1 48) < (s.setSpareQ 3 ((s.spareQ 3).filter (fun x => x.1 != 48))).rf FC_CFG_RECOV_LIMIT) := by decide +kernel

theorem witness_UnitsAreTestedScrubbedAndReclaimed :
    (let s := mkS [(KC_PCS_ROLE, 63, 1)]
     s.powered = true ∧ s.rf KC_PCS_ROLE 63 = 1 ∧ s.recoveries (org 1 63) < s.rf FC_CFG_RECOV_LIMIT) ∧
    (let s := mkS [(KC_PCS_ROLE, 63, 5)]
     s.rf QD_STAT_STATE 15 ≠ 2 ∧ s.rf KC_PCS_ROLE 63 = 5 ∧ s.rb IS_ISL_STAT_PARKED 63 = false ∧ (s.unit (org 1 63)).st ≠ 3) ∧
    (Agent.firmware ≠ Agent.host ∧ (mkS [(KC_PCS_ROLE, 0, 0)]).rf KC_PCS_ROLE 0 = 0 ∧ ((mkS [(KC_PCS_ROLE, 0, 0)]).spareQ 0).contains (0, 1) = false) ∧
    (let s := mkS [(QD_STAT_STATE, 15, 0)]; s.rf QD_STAT_STATE 15 = 0 ∧ s.recoveries (org 2 15) < s.rf FC_CFG_RECOV_LIMIT) ∧
    (mkS [(QD_STAT_STATE, 15, 1)]).rf QD_STAT_STATE 15 = 1 ∧ (mkS [(MX_SLICE_STAT_STATE, 63, 0)]).rf MX_SLICE_STAT_STATE 63 = 0 ∧
    (let s := mkS [(MX_SLICE_STAT_STATE, 63, 1)]; s.rf MX_SLICE_STAT_STATE 63 = 1 ∧ s.rf MX_SLICE_STAT_STATE (63 ^^^ 1) = 0) := by decide +kernel

theorem witness_StoresDrainAndEntriesRotate :
    (let e : SbEnt := ⟨false, 2 ^ 34, 7, 0xFF, 1, 0, false⟩
     let s := State.reset.setCore 63 (fun k => { k with sb := [e] })
     s.powered = true ∧ (s.core 63).sb = [e] ∧ e.sig = false ∧ e.pr = false ∧ bit s.coh.deadQuads 15 = false) ∧
    (let e : SbEnt := ⟨true, 0x400000000000 / 64, 7, 0xFF, 1, 0, false⟩
     let s := State.reset.setCore 0 (fun k => { k with sb := [e] })
     (s.core 0).sb = [e] ∧ e.sig = true) ∧
    (let e : SbEnt := ⟨false, 5, 7, 0xFF, 1, 512, false⟩
     let s := State.reset.setCore 0 (fun k => { k with sb := [e] })
     s.powered = true ∧ (s.core 0).sb = [e] ∧ e.sig = false ∧ e.pr = false ∧ e.inst = 512) ∧
    (let e : SbEnt := ⟨false, 2 ^ 34, 7, 0xFF, 1, 0, false⟩
     let s := State.reset.setCore 63 (fun k => { k with sb := [e] })
     s.powered = true ∧ (s.core 63).sb = [e] ∧ e.sig = false ∧ e.pr = false ∧ e.inst ≠ 512) ∧
    (let s := (wRun []).setCore 0 (fun k => { k with cur := 63 })
     s.between 0 = true ∧ s.runnable 0 63 = false ∧ s.isControl 0 63 = false ∧ (s.core 0).back = none ∧ s.nextEntry 0 = some 0) ∧
    (let s := mkS [(MA_CAP_USABLE_GIB, 0, 64), (TN_INST_STATE, 0, 2), (TN_INST_STATE, 1, 2), (TN_INST_CLASS, 0, 1), (TN_INST_CLASS, 1, 0), (TN_DISP_VALID, 0, 1), (TN_DISP_VALID, 63, 1), (TN_DISP_INSTANCE, 63, 1)]
     s.between 0 = true ∧ s.runnable 0 (s.core 0).cur = true ∧ s.isControl 0 (s.core 0).cur = false ∧
     (List.range 64).find? (fun x => s.isControl 0 x && s.runnable 0 x && !(s.core 0).used.contains x) = some 63) := by decide +kernel

theorem witness_HomeServesReadsAndWrites_meets :
    let r : CohReq := ⟨.readShared, 2 ^ 24 - 1, some 15, org 2 15, 512⟩
    State.reset.coh.deadQuads = 0 ∧ State.reset.exhausted = false ∧ (State.reset.setL2 15 (2 ^ 24 - 1) ⟨.m, 1, false⟩).coh.deadQuads = 0 ∧
    (let s := State.reset.setDir (2 ^ 24 - 1) ⟨0, some 14, false, 512⟩; s.fromMemory r = false) := by decide +kernel

theorem witness_HomeServesReadsAndWrites :
    let s := mkS [(MA_CAP_USABLE_GIB, 0, 1)]
    let n := 2 ^ 24 - 1
    let side : HomeSide := ⟨0, 0, none, none, none, []⟩
    -- the state at which the home acts, for a request of quad 15 (k), of an agent (a), with the directory and a line of quad 15 set
    let at_ := fun (dir : DirEnt) (l : Option L2Line) => let y := s.setDir n dir; match l with | some l => y.setL2 15 n l | none => y
    let w := fun (y : State) => (y.noteLat side).homeSide side
    let z := fun (y : State) (r : CohReq) => (((w y).srTouch n).takeUp r).meets r []
    let rq := fun (k : ReqKind) => (⟨k, n, some 15, org 2 15, 512⟩ : CohReq)
    let ok := fun (y : State) (r : CohReq) => !bit (w y).coh.deadQuads 15 && decide (n < (w y).usableLines) && !(w y).secGran.contains (n / 32768) && ((w y).srTouch n).mayServe r
    let none_ : DirEnt := ⟨0, none, false, 512⟩
    let shared : DirEnt := ⟨1, none, false, 512⟩
    let other : DirEnt := ⟨0, some 14, false, 512⟩
    let own : DirEnt := ⟨0, some 15, false, 512⟩
    s.powered = true ∧
    (∀ d ∈ [none_, shared, other], ok (at_ d none) (rq .readShared) = true ∧ ((z (at_ d none) (rq .readShared)).l2 15 n).isNone = true ∧ (z (at_ d none) (rq .readShared)).dirOf n = d) ∧
    (ok (at_ own none) (rq .readShared) = true ∧ (z (at_ own none) (rq .readShared)).dirOf n = own ∧ ((z (at_ own none) (rq .readShared)).l2 15 n).isNone = true) ∧
    (∀ d ∈ [none_, other], let r : CohReq := ⟨.readSnoop, n, none, 2 ^ 24 - 1, 512⟩; ok (at_ d none) r = true ∧ (z (at_ d none) r).dirOf n = d) ∧
    (∀ d ∈ [none_, shared, other, own], ok (at_ d none) (rq .readOwn) = true ∧ (z (at_ d none) (rq .readOwn)).dirOf n = d) ∧
    (∀ d ∈ [none_, shared], ok (at_ d (some ⟨.s, 0, false⟩)) (rq .upgrade) = true ∧ (z (at_ d (some ⟨.s, 0, false⟩)) (rq .upgrade)).dirOf n = d ∧ d.owner = none) ∧
    (let y := at_ own (some ⟨.e, 0, false⟩); ok y (rq .writerChange) = true ∧ (z y (rq .writerChange)).l2 15 n = some ⟨.e, 0, false⟩ ∧ (z y (rq .writerChange)).dirOf n = own) ∧
    (∀ d ∈ [none_, shared], let y := at_ d none; y.heldWrite false n = false ∧ y.heldWrite true n = false ∧ ok y ⟨.writeLine 0 (2 ^ 64 - 1), n, none, 2 ^ 24 - 1, 512⟩ = true ∧
      ((w y).srTouch n |>.recordLine n).mayServe ⟨.writeLine 0 (2 ^ 64 - 1), n, none, 2 ^ 24 - 1, 512⟩ = true ∧ (z y ⟨.writeLine 0 (2 ^ 64 - 1), n, none, 2 ^ 24 - 1, 512⟩).dirOf n = d) := by decide +kernel

theorem witness_HoldersAnswer :
    let st := fun (k : ReqKind) (own : Bool) =>
      let s := State.reset.setBusy ⟨⟨k, 5, some 15, org 2 15, 512⟩, some 0, 0, 0, false⟩
      if own then s.setL2 0 5 ⟨.m, 1, false⟩ else s
    ∀ k ∈ [ReqKind.readShared, .readOwn, .upgrade, .readSnoop], ∀ own ∈ [true, false], (st k own).powered = true ∧
      (st k own).busyOf 5 = some ⟨⟨k, 5, some 15, org 2 15, 512⟩, some 0, 0, 0, false⟩ ∧ ((st k own).l2 0 5).isSome = own := by decide +kernel

theorem witness_QuadsGiveUpLinesAndBusyLinesAnswerNack :
    let s := mkS [(MA_CAP_USABLE_GIB, 0, 1)]
    let n := 2 ^ 24 - 1
    let t : HomeTxn := ⟨⟨.readOwn, n, some 0, org 2 0, 512⟩, none, 0x8002, 0, false⟩
    let b := s.setBusy t
    let m := s.setL2 15 n ⟨.m, 1, true⟩
    let r : CohReq := ⟨.upgrade, n, some 15, org 2 15, 512⟩
    let side : HomeSide := ⟨0, 0, none, none, none, []⟩
    s.powered = true ∧ b.busyOf n = some t ∧ t.req.kind ≠ .recall ∧ bit t.invs 15 = true ∧ b.l2 15 n = none ∧ setBit t.invs 15 false ≠ 0 ∧
    ((s.setBusy { t with invs := 0x8000 }).busyOf n = some { t with invs := 0x8000 } ∧ setBit 0x8000 15 false = 0 ∧ t.fwdTo = none ∧ ((s.setBusy { t with invs := 0x8000 }).setL2 15 n ⟨.m, 1, true⟩).l2 15 n = some ⟨.m, 1, true⟩) ∧
    m.l2 15 n = some ⟨.m, 1, true⟩ ∧ bit m.coh.deadSlices (homeOf (n * 64)) = false ∧ bit m.coh.deadQuads 15 = false ∧ n < m.usableLines ∧ m.busyOf n = none ∧ s.l2 15 n = none ∧
    (∀ st ∈ [CSt.f, .e, .s], (s.setL2 15 n ⟨st, 1, false⟩).l2 15 n = some ⟨st, 1, false⟩) ∧
    (let w := (b.noteLat side).homeSide side
     bit w.coh.deadQuads 15 = false ∧ n < w.usableLines ∧ w.secGran.contains (n / 32768) = false ∧ (w.srTouch n).mayServe r = false ∧ (w.busyOf n).isSome = true) ∧
    (let e : NackEnt := ⟨r, 0, 255, false, false⟩
     let y : State := { s with coh := { s.coh with nacked := [e] } }
     r.line = n ∧ r.quad = some 15 ∧ y.coh.nacked = [e] ∧
     let z : State := { s with coh := { s.coh with nacked := [{ e with scheduled := true }] } }
     z.coh.nacked.find? (fun n' => n'.req.line == n && n'.req.quad == some 15 && n'.scheduled) = some { e with scheduled := true } ∧ z.mayServe r = true) := by decide +kernel
/-- Instance 0, Running, with one stage-2 leaf of 1 GiB at tenant address 0 (R, W, X and IO), and fields of registers set. -/
def wInst (l : List (RF × Nat × Nat)) : State :=
  (((mkS ((MA_CAP_USABLE_GIB, 0, 64) :: (TN_INST_STATE, 0, 2) :: (TN_INST_VCORES, 0, 1) :: (TN_INST_WEIGHT, 0, 16) :: l)).setInst 0
    (fun _ => { InstSt.empty with s2root := 0x1000, ipage := 0x80000 })).coWriteN 0x1000 8 0x2001).coWriteN 0x2000 8 (s2Leaf 0 15 false true)

theorem witness_IoRequestsAreTranslated :
    let s := wInst []
    let find := fun (x : State) (tpa : Nat) => x.tlbFind 68 0 0 false 0 (tpa / 4096)
    let t : TlbEnt := ⟨0, 0, false, false, none, 0, 0, 0, 2 ^ 18, 27, false, 1⟩
    s.powered = true ∧ (mkS [(TN_INST_GENERATION, 511, 1)]).gen 511 ≠ 0 ∧ s.gen 0 = 0 ∧ (2 : Nat) ^ 46 ≤ 2 ^ 46 ∧ (2 ^ 46 - 1 : Nat) < 2 ^ 46 ∧ find s 0x3FFFFFFF = none ∧
    (∀ e ∈ [t, { t with perm := 9 }, { t with ppage := 2 ^ 24 - 2 ^ 18 }], find (s.setTlb 68 [e]) 0 = some e) ∧
    (ioAllowed t.perm true = true ∧ bit t.dirty (t.chunk 0) = true ∧ ioAllowed 9 true = false ∧ s.outRefused 0 0 = false ∧ s.instTarget 0 0 ≠ .unmapped ∧ s.outRefused 0 ((2 ^ 24 - 1) * 4096) = true) ∧
    (match s.leaf2 0 (2 ^ 46 - 1) with | .error _ => true | .ok _ => false) = true ∧
    (match s.leaf2 0 0x3FFFFFFF with
      | .ok l => ioAllowed (perm2 l.ent) true && !s.outRefused 0 (l.out 51 0x3FFFFFFF) && s.instTarget 0 (l.out 51 0x3FFFFFFF) != .unmapped | .error _ => false) = true ∧
    (match (s.coWriteN 0x2000 8 (s2Leaf 0 1 false true)).leaf2 0 0x3FFFFFFF with | .ok l => !ioAllowed (perm2 l.ent) true | .error _ => false) = true := by decide +kernel

theorem witness_ArrayServesReadsAndWrites : (mkS [(MA_CAP_USABLE_GIB, 0, 1)]).powered = true ∧ (2 ^ 24 - 1 : Nat) < (mkS [(MA_CAP_USABLE_GIB, 0, 1)]).usableLines ∧
    (mkS [(MA_CAP_USABLE_GIB, 0, 1)]).exhausted = false ∧
    (let s := mkS [(MA_CAP_USABLE_GIB, 0, 1), (MA_STAT_STATE, 0, 3)]; s.exhausted = true ∧ s.chReads (slotChan 7 (2 ^ 21 - 1)) (2 ^ 21 - 1) = true) := by decide +kernel

theorem witness_ChannelsChangeState : (∀ n ∈ [0, 1, 2, 3, 4, 5], let s := mkS [(MA_CH_STAT_STATE, 9, n)]; s.powered = true ∧ s.rf MA_CH_STAT_STATE 9 = n) ∧
    (let s := mkS [(MA_CH_STAT_STATE, 0, 1)]
     (s.lossCause .training = some 2 ∧ s.lossCause .dimm = some 3 ∧ s.lossCause (.link 255) = some 1 ∧ (0 : Nat) ≤ s.rf MA_CFG_LINK_RETRY) ∧
     s.rf MA_CH_STAT_STATE 9 = 0 ∧ s.recoveries (org 4 9) < s.rf FC_CFG_RECOV_LIMIT ∧ s.notUp ≠ 2 ∧ s.notUp < 2) ∧
    (let s := mkS [(MA_CH_STAT_STATE, 0, 2), (MA_CH_STAT_STATE, 1, 2)]; s.rf MA_CH_STAT_STATE 9 = 0 ∧ 2 ≤ s.notUp) ∧
    (let ds : List Dimm := [⟨5, true, 3, true, false⟩, ⟨5, true, 3, true, true⟩]
     ∀ p ∈ [popOf ds, none], ∀ k ∈ [0, 1], let b := mkS [(MA_CH_STAT_STATE, 9, 3), (MA_REBUILD_BUSY, 0, k)]; let s : State := { b with ma := { b.ma with pop := p } }
     s.rf MA_CH_STAT_STATE 9 = 3 ∧ popOf ds ≠ none ∧ (popOf ds = s.ma.pop ↔ p ≠ none) ∧ ds.all (fun d => d.fast) = true ∧ (((s.clearMarks 9).spdRead 9 ds).setChan 9 4).rf MA_REBUILD_BUSY = k) := by decide +kernel

theorem witness_RebuildAndScrubAdvance :
    (let s := mkS [(MA_REBUILD_BUSY, 0, 1), (MA_REBUILD_POS, 0, 2), (MA_CAP_STRIPES, 0, 2 ^ 21)]
     s.powered = true ∧ s.rf MA_REBUILD_BUSY = 1 ∧ s.rf MA_REBUILD_POS + 1 < s.rf MA_CAP_STRIPES ∧ s.rf MA_REBUILD_POS * 100 / s.rf MA_CAP_STRIPES = (s.rf MA_REBUILD_POS + 1) * 100 / s.rf MA_CAP_STRIPES ∧
     s.rf MA_SCRUB_POS + 1 < s.rf MA_CAP_STRIPES) ∧
    State.reset.rf MA_REBUILD_BUSY = 0 ∧ State.reset.rf MA_STAT_REBUILDING = 0 ∧
    (let s := mkS [(MA_SCRUB_POS, 0, 2 ^ 21 - 1), (MA_CAP_STRIPES, 0, 2 ^ 21)]; s.rf MA_SCRUB_POS + 1 = s.rf MA_CAP_STRIPES) := by decide +kernel

theorem witness_AnyTwoErasuresAreRebuilt : (∀ i, i < 8 → (fun _ => 255 : Nat → Nat) i < 256) ∧ (9 : Nat) < 10 ∧ (8 : Nat) < 10 := by decide

theorem witness_LinesSurviveTwoLostChannels :
    let s := mkS [(MA_CAP_USABLE_GIB, 0, 1)]
    let t := mkS [(MA_CAP_USABLE_GIB, 0, 1), (MA_CH_STAT_STATE, 0, 1), (MA_CH_STAT_STATE, 9, 1)]
    t.ma = s.ma ∧ (∀ c, c < 10 → s.chReads c 0 = true) ∧ (∀ c, c < 10 → c ≠ 0 → c ≠ 9 → t.chReads c 0 = true) ∧
    (∀ b, b < 64 → let z := fun (i : Nat) => ((s.stripeByte 0 b [] i).getD 0); z 8 = codeP z ∧ z 9 = codeQ z) ∧
    (∀ j, j < 8 → bit (s.maskOf 8 0) j = s.sigOf j 0 ∧ bit (s.maskOf 9 0) j = s.sigOf j 0) := by decide +kernel

/-- The update waits at the front of lane 63's queue. -/
def wLane (u : Upd) : State := State.reset.setLaneQ 63 [u]

theorem witness_LanesTakeTheirQueuesFanOutAndFail :
    (∀ u ∈ [Upd.sample 63 1 2 3, .void 63 2 3, .define 63 0x200, .marker 31 3 63], let s := wLane u
      s.powered = true ∧ s.rf SG_LANE_STAT_STATE 63 = 0 ∧ s.rf SG_STAT_STORE ≠ 1 ∧ s.laneQ 63 = [u] ∧ u.isOutput = false ∧ s.laneNext 63 = some u ∧ s.outAhead 63 63 = false) ∧
    (State.reset.setLaneHeld 63 [.sample 63 1 2 3]).laneHeld 63 = [.sample 63 1 2 3] ∧ (State.reset.setLaneHeld 63 [.sample 63 1 2 3]).rf SG_LANE_STAT_STATE 63 = 0 ∧
    (let b := wInst []
     let x := ({ b with sg := { b.sg with slots := [(5, 63)] } } : State).setLaneQ 63 [.output 5]
     x.rf SG_LANE_STAT_STATE 63 = 0 ∧ x.takesOuts = true ∧ x.fieldNext 63 = false ∧ (x.grant 4 (x.outReqs 63)).2 = some 0 ∧
     (let y := (x.grant 4 (x.outReqs 63)).1
      (y.outSlots 63).find? (fun n => y.slotOwner n == 0) = some 5 ∧ ((y.setLaneQ 63 ((y.laneQ 63).erase (.output 5))).refillLane 63).storeLost = false)) ∧
    (let o : Offer := ⟨0, 63, 7, 0, 0, 0, 0, 0, 0⟩
     let x := { State.reset with sg := { State.reset.sg with fan := [(7, [o])] } }
     Map.getD x.sg.fan 7 [] = [o] ∧ x.isStandby = false) ∧
    (let s := State.reset
     let y := fun (x : State) => ((((x.setUnit (org 6 63) (fun u => { u with st := 1 })).sf SG_LANE_STAT_STATE 1 63).raise (0x100 + 63)).countLanes).report { org := org 6 63, cause := 0x0602, cls := ochre, react := 5 }
     s.rf SG_LANE_STAT_STATE 63 = 0 ∧ s.recoveries (org 6 63) < s.rf FC_CFG_RECOV_LIMIT ∧
     [8, 16, 24, 32, 40, 48, 56].find? (fun x => (y s).rf SG_LANE_STAT_STATE (63 ^^^ x) == 0) = some 8 ∧
     (let d := mkS ([7, 15, 23, 31, 39, 47, 55].map (fun l => (SG_LANE_STAT_STATE, l, 1)))
      [8, 16, 24, 32, 40, 48, 56].find? (fun x => (y d).rf SG_LANE_STAT_STATE (63 ^^^ x) == 0) = none)) ∧
    (let y := fun (s : State) => ((s.sf SG_STAT_STORE 1).raise 0x140).report { org := org 7 0, cause := 0x0707, cls := ochre, react := 5 }
     State.reset.rf SG_STAT_STORE ≠ 1 ∧ (y State.reset).canYield = false ∧
     (let s := mkS [(TW_STAT_STATE, 0, 2), (TW_STAT_ROLE, 0, 1), (TW_STAT_FIT, 0, 1)]; s.rf SG_STAT_STORE ≠ 1 ∧ (y s).canYield = true)) := by decide +kernel

theorem witness_SamplesVoidsAndDefinitionsChangeTheirRecord :
    let s := State.reset.setRec (2 ^ 21 - 1) (2 ^ 233)
    recDef (s.sigRec (2 ^ 21 - 1)) = true ∧ recOut (s.sigRec (2 ^ 21 - 1)) = false ∧ recRoc (s.sigRec (2 ^ 21 - 1)) = 0 ∧ (2 ^ 21 - 1 : Nat) < 2 ^ 21 ∧ (2 ^ 32 - 1 : Nat) < 2 ^ 32 ∧ (2 ^ 64 - 1 : Nat) < 2 ^ 64 ∧
    recDef (s.sigRec 0) = false ∧ (2 ^ 9 : Nat) < 2 ^ 288 ∧ bit (2 ^ 9) 9 = true := by decide +kernel

/-- The records of signals 62 and 63: defined, corrected. -/
def wCorr : State := (State.reset.setRec 62 (2 ^ 233 + 2 ^ 250)).setRec 63 (2 ^ 233 + 2 ^ 250)

/-- Instance 0 with tables for the tenant pages from 0x40000 on. -/
def wTab : State := ((wInst []).coWriteN 0x2008 8 0x3001).coWriteN 0x3000 8 0x4001

theorem witness_SignalCommandsAnswer_1 : ∀ n ∈ [39, 40], let c := mkC 0x0401 [] (List.replicate n 0); (mkO [] c).powered = true ∧ (mkO [] c).starts 0x0401 c := by
  simp -zeta only [starts_iff]; decide +kernel

theorem witness_SignalCommandsAnswer_2 : let c := mkC 0x0401 [] (List.replicate 40 0) 0 3 ⟨2, 1, 1, 0, 0, false, []⟩; let s := mkO [] c
     s.startedCmd 0x0401 = none ∧ s.mp.cmds.filter (fun (x : Cmd) => x.op == 0x0401 && x.phase == 3) = [c] ∧ s.curCmd c = c ∧ c.lop.items = [] ∧ c.lop.total ≤ c.lop.pos := by
  decide +kernel

theorem witness_SignalCommandsAnswer_3 : let c := mkC 0x0402 [0, 2 ^ 21 - 64, 64, 0x40000000, 0]; let s := wTab.withCmd c
     s.starts 0x0402 c ∧ s.wrongWorld c = false ∧ s.mapState c.inst = true ∧ c.p 0 = 0 ∧ 0 < c.p 2 ∧ c.p 1 + c.p 2 ≤ 2 ^ 21 ∧ c.p 1 % 64 = 0 ∧ c.p 2 % 64 = 0 ∧ s.sigClash c.inst ⟨0, c.p 1, c.p 2, c.p64 3 / 4096⟩ = false ∧
     c.p64 3 % 4096 = 0 ∧ c.p64 3 + 4096 ≤ 2 ^ 46 ∧ s.tenantBusy c.inst (c.p64 3 / 4096) 1 = false ∧
     (s.s2Map c.inst (c.p64 3 / 4096) (⟨0, c.p 1, c.p 2, c.p64 3 / 4096⟩ : SigMap).dpage 1 1 3 false).isSome = true := by
  simp -zeta only [starts_iff]; decide +kernel

theorem witness_SignalCommandsAnswer_4 : let c := mkC 0x0403 [0, 0, 64]; let s := ((wInst []).setInst 0 (fun r => { r with sigMaps := [⟨0, 0, 64, 0x40000⟩] })).withCmd c
     s.starts 0x0403 c ∧ s.wrongWorld c = false ∧ s.mapState c.inst = true ∧
     (s.inst c.inst).sigMaps.find? (fun (x : SigMap) => x.kind == c.p 0 && x.first == c.p 1 && x.count == c.p 2) = some ⟨0, 0, 64, 0x40000⟩ := by
  simp -zeta only [starts_iff]; decide +kernel

theorem witness_SignalCommandsAnswer_5 : let c := mkC 0x0404 [2 ^ 21 - 1, 0, 0]; let b := mkO [] c; let s : State := { b with mp := { b.mp with busMaster := true } }
     s.starts 0x0404 c ∧ (s.bufWrite c (c.p64 1) (toBytes (s.sgRd (0x08000000 + 64 * c.p 0) 64) 64)).2 = true := by
  simp -zeta only [starts_iff]; decide +kernel

theorem witness_SignalCommandsAnswer_6 : ∀ op ∈ [0x0410, 0x0411], let c := mkC op [1, 31, 0]; let s := (wInst []).withCmd c
     s.starts op c ∧ s.ist c.inst ≠ 0 ∧ s.wrongWorld c = false ∧ bit (c.p 0) 0 = true ∧ c.p 1 < 32 ∧ c.p 2 = 0 := by
  simp -zeta only [starts_iff]; decide +kernel

theorem witness_SignalCommandsAnswer_7 : let c := mkC 0x0420 [0, 2 ^ 21]; let s := mkO [] c; s.starts 0x0420 c ∧ 0 < c.p 1 ∧ c.p 0 + c.p 1 ≤ 2 ^ 21 ∧ s.rb SG_REPROC_BUSY = false := by
  simp -zeta only [starts_iff]; decide +kernel

theorem witness_SignalCommandsAnswer_8 : let s := { wCorr with sg := { wCorr.sg with reproc := [62, 63] } }
     s.sg.reproc = [62, 63] ∧ recDef (s.sigRec 62) = true ∧ recCorr (s.sigRec 62) = true ∧
     (let l := s.rf SG_LANE_STAT_HOME (laneOf 62)
      s.longCmd 0x0420 (fun c => c.lop.cancel) = none ∧ s.rf SG_LANE_STAT_STATE l = 0 ∧ s.rf SG_STAT_STORE ≠ 1) := by
  decide +kernel

theorem witness_SignalCommandsAnswer_9 : let c := mkC 0x0430 [4095] ((List.range 17).flatMap (fun k => toBytes k 8) ++ List.replicate 120 0); let s := mkO [] c
     s.starts 0x0430 c ∧ c.pay.length = 256 ∧ tableOk c.pay = true ∧ s.definedSids.filter (fun i => recMode (s.sigRec i) == 2 && recTable (s.sigRec i) == c.p 0) = [] := by
  simp -zeta only [starts_iff]; decide +kernel

/-- Instance 0 with queue 0 of engine class k enabled, its descriptor v at tenant address 0x10000, and fields of registers set. -/
def wQueue (k v : Nat) (l : List (RF × Nat × Nat)) : State :=
  ((wInst ((IP_Q_CFG_EN, qIdx 0 k 0 0, 1) :: (IP_Q_CFG_EN, qIdx 0 k 1 0, 1) :: (IP_Q_CFG_LOG2, qIdx 0 k 0 0, 4) :: (IP_Q_CFG_LOG2, qIdx 0 k 1 0, 4) ::
    (IP_Q_CFG_BASE, qIdx 0 k 0 0, 16) :: (IP_Q_CFG_BASE, qIdx 0 k 1 0, 17) :: l)).wreg rIP_Q_TAIL (qIdx 0 k 0 0) 1).coWriteN 0x10000 64 v

/-- A pipe fetches the descriptor, and f holds of what it reads. -/
def wCzFetch (s : State) (f : State → Nat → CzCtx → Bool) : Bool :=
  decide (s.cz.ctxs.length < 16) && (match s.grant 1 ((s.qWaiting 1).map (fun i => (i, 1))) with
    | (y, some i) => (match y.qPick i 1 15 with
      | some d => y.czUp 3 && (match y.qFetch (org 0xA 3) i 1 d with
        | (z, some v) => f z v { czParse i (z.gen i) d 3 v with charged := true }
        | _ => false)
      | none => false)
    | _ => false)

/-- A compression request: OP, FMT, source and its length, 0x30000 as its destination with 64 KiB of room. -/
def wCz (op fmt src len : Nat) : Nat := op + fmt * 256 + src * 2 ^ 64 + len * 2 ^ 128 + 0x30000 * 2 ^ 192 + 65536 * 2 ^ 256
def wCtx (op fmt len : Nat) : CzCtx := { czParse 0 0 0 3 (wCz op fmt 0x20000 len) with charged := true }

/-- A TBF stream of two blocks at 0x20000. -/
def wTbf : List Nat := tbfStream false ++ tbfCompress [1, 2, 3] false ++ tbfCompress [4] true

/-- The result of pipe 3's next chunk, which is no drain's. -/
def wChunk (s : State) : CzEnd :=
  if !s.czUp 3 || s.drainTurn 3 then .fail (wCtx 0 0 0) 0 0 0 0
  else match s.czNext 3 with
  | none => .fail (wCtx 0 0 0) 0 0 0 0
  | some b =>
    let w := (if b.charged then s else s.chargeTokens 1 b.inst 1).czCredit 3 false
    let x := (w.sf CZ_PIPE_STAT_INSTANCE b.inst 3).pmEvent 0x0701 3 (some b.inst)
    let y := { x with cz := { x.cz with ctxs := w.cz.ctxs.filter (fun x => x != b) ++ [{ b with ran := 3, charged := true }] } }
    let c := { b with ran := 3, chunks := b.chunks + 1 }
    (if c.op = 1 then y.czCompress c else if c.fmt = 3 then y.czUntbf c else y.czInflate c).2

def wCzRun (c : CzCtx) (mem : List Nat) : State := let s := (wInst []).coWriteN 0x20000 mem.length (ofBytes mem); { s with cz := { s.cz with ctxs := [c] } }

theorem witness_CompressionRunsItsRequests_fetch :
    wCzFetch (wQueue 1 0 []) (fun _ v c => czBad v c) = true ∧
    wCzFetch (wQueue 1 (wCz 1 3 0x20000 100) []) (fun _ v c => !czBad v c && c.op != 3) = true ∧
    wCzFetch (wQueue 1 (wCz 3 3 0 0) []) (fun z v c => !czBad v c && c.op == 3 && !z.isSink c) = true ∧
    wCzFetch (wQueue 1 (wCz 3 3 0 0) [(CZ_HIST_CFG_EN, 0, 1), (CZ_HIST_CFG_INSTANCE, 0, 0), (CZ_HIST_CFG_QUEUE, 0, 0)]) (fun z v c => !czBad v c && c.op == 3 && z.isSink c) = true := by decide +kernel

theorem witness_CompressionRunsItsRequests_chunk :
    (wCzRun (wCtx 1 3 3) [1, 2, 3]).powered = true ∧
    (match wChunk (wCzRun (wCtx 1 3 3) [1, 2, 3]) with | .ok _ _ _ _ => true | _ => false) = true ∧
    (match wChunk (wCzRun (wCtx 2 3 wTbf.length) wTbf) with | .ok _ _ _ n => n == 4 | _ => false) = true ∧
    (match wChunk (wCzRun (wCtx 2 3 8) []) with | .fail _ e _ _ _ => e == 4 | _ => false) = true := by decide +kernel

theorem witness_CompressionRunsItsRequests :
    (let s := State.reset
     s.czUp 3 = true ∧ s.recoveries (org 0xA 3) < s.rf FC_CFG_RECOV_LIMIT ∧
     ((((s.setUnit (org 0xA 3) (fun u => { u with st := 1 })).sf CZ_PIPE_STAT_STATE 1 3).raise (0x300 + 3)).report { org := org 0xA 3, cause := 0x0A03, cls := ochre, react := 5 }).czUps ≠ []) ∧
    (let s := State.reset.stage 63 5 7 0; s.stageFill 63 ≠ 0 ∧ s.cz.ready.contains 63 = false) ∧
    -- the drain writes a segment, has its write refused, or finds only an entry that it cannot read
    (∀ x ∈ [(0x30000, false), (0x40000000, false), (0x30000, true)], let c := { { czParse 0 0 0 3 (wCz 3 3 0 0) with charged := true } with dst := x.1 }
     let b := (wInst []).stage 63 5 7 0
     let s := { b with cz := { b.cz with held := [c], ready := [63] }, sg := { b.sg with bad := if x.2 then [stageOff 63 (stagePos (b.reg rSG_STAGE_TAIL 63)) / 16] else [] } }
     s.czUp 3 = true ∧ s.drainTurn 3 = true ∧ s.cz.held = [c] ∧ s.readyLane = some 63 ∧
     (let y := s.czCredit 3 true
      let tail := stagePos (y.reg rSG_STAGE_TAIL 63)
      let k := min c.cap (y.stageFill 63)
      let d := y.drainEntries 63 tail k (y.cz.gaps.contains 63)
      let bs := segBytes 63 (Map.getD y.cz.segs 63 0) tail d.1
      (d.1 = [] ↔ x.2 = true) ∧ (match (y.ioWrite (org 0xA 3) c.inst c.gen c.dst bs.length (ofBytes bs)).2 with | .ok () => true | .error _ => false) = decide (x.1 = 0x30000))) := by decide +kernel

theorem witness_TbfBlocksRoundTrip : ([] : List Nat).length ≤ 65536 ∧ (∀ b ∈ ([] : List Nat), b < 256) ∧ (([] : List Nat) ≠ [] ∨ true = true) ∧ [255].length ≤ 65536 ∧ (∀ b ∈ [255], b < 256) ∧
    ([255] ≠ [] ∨ false = true) := by decide

/-- A cipher request: OP, slot, length, from 0x20000 to 0x30000. -/
def wCy (op slot len : Nat) : Nat := op + slot * 2 ^ 16 + 0x20000 * 2 ^ 64 + len * 2 ^ 128 + 0x30000 * 2 ^ 192

/-- The engine fetches the descriptor, and f holds of what it reads, the side's pipes and the context. -/
def wCyFetch (s : State) (f : State → Nat → List Nat → CyCtx → Bool) : Bool :=
  decide (s.cy.ctxs.length < 32) && !s.isStandby && (match s.grant 2 ((s.qWaiting 2).map (fun i => (i, 1))) with
    | (y, some i) => (match y.qPick i 2 0 with
      | some d => (match y.qFetch (org 0xB 0) i 2 d with
        | (z, some v) =>
          let b := cyParse i (z.gen i) d v
          let side := z.cySide (z.rb CY_SLOT_LEASED b.slot)
          f z v side { b with pa := side.getD 0 0, pb := side.getD 1 0, lease := z.rb CY_SLOT_LEASED b.slot }
        | _ => false)
      | none => false)
    | _ => false)

theorem witness_CipherRunsItsRequests_fetch :
    let key := [(CY_SLOT_STATE, 4095, 1), (CY_SLOT_ALG, 4095, 1), (CY_SLOT_OWNER, 4095, 0)]
    wCyFetch (wQueue 2 0 []) (fun _ v _ c => cyBad v c) = true ∧
    wCyFetch (wQueue 2 (wCy 1 4095 16) []) (fun z v _ c => !cyBad v c && z.cyKeyBad c) = true ∧
    wCyFetch (wQueue 2 (wCy 1 4095 16) (key ++ (List.range 7).map (fun p => (CY_PIPE_STAT_STATE, p, 1)))) (fun z v side c => !cyBad v c && !z.cyKeyBad c && decide (side.length < 2)) = true ∧
    wCyFetch (wQueue 2 (wCy 1 4095 16) key) (fun z v side c => !cyBad v c && !z.cyKeyBad c && decide (2 ≤ side.length) && !c.auto && !z.cyHold c) = true ∧
    (let b := wQueue 2 (wCy 3 4095 16 + 2 ^ 9 + 16 * 2 ^ 48 + 12 * 2 ^ 352 + 0x50000 * 2 ^ 384 + 0x60000 * 2 ^ 448) ((CY_SLOT_AUTO, 4095, 1) :: [(CY_SLOT_STATE, 4095, 1), (CY_SLOT_ALG, 4095, 2), (CY_SLOT_OWNER, 4095, 0)])
     wCyFetch (b.setSlot 4095 (fun x => { x with autoWin := [(b.now, 65536)] })) (fun z v _ c => !cyBad v c && !z.cyKeyBad c && z.cyHold c) = true) := by decide +kernel

/-- Slot 4095 and pipes 6 and 7 are leased, and one request of the lease waits for its next chunk on them; f holds of the chunk's end. -/
def wCySt (c : CyCtx) : State :=
  let b := wInst [(CY_SLOT_LEASED, 4095, 1), (CY_PIPE_STAT_LEASED, 6, 1), (CY_PIPE_STAT_LEASED, 7, 1)]
  { b with cy := { b.cy with ctxs := [c], slots := [(4095, { Slot.empty with k0 := List.range 64 })] } }

def wCyRun (b : CyCtx) (f : CyEnd → Bool) : Bool :=
  let c := { b with lease := true }
  let s := wCySt c
  let y := ((s.servedBy { c with pa := 6, pb := 7 }).setCy []).servedBy { c with pa := 6, pb := 7, arbs := min 15 (c.arbs + 0) }
  c.charged && decide (2 ≤ (s.cySide true).length) && (s.cySide true).contains 6 && (s.cySide true).contains 7 &&
  f (if c.op ≤ 2 then y.cyXts { c with pa := 6, pb := 7 } ((y.slot c.slot).key c.half) else y.cyGcm { c with pa := 6, pb := 7 } ((y.slot c.slot).key c.half) (y.slot c.slot).fixed).2

theorem witness_CipherRunsItsRequests :
    wCyRun (cyParse 0 0 0 (wCy 1 4095 16)) (fun e => match e with | .ok c => c.pos == 16 | _ => false) = true ∧
    wCyRun { cyParse 0 0 0 (wCy 4 4095 16400) with begun := true } (fun e => match e with | .more c => c.pos == 16384 | _ => false) = true ∧
    wCyRun { cyParse 0 0 0 (wCy 1 4095 16) with src := 0x40000000 } (fun e => match e with | .fail _ r => r == 2 | _ => false) = true ∧
    (let c := { cyParse 0 0 0 (wCy 1 4095 16) with lease := true }; let s : State := { State.reset with cy := { State.reset.cy with ctxs := [c] } }
     s.cy.ctxs = [c] ∧ (s.cySide c.lease).length < 2) ∧
    State.reset.cyUp 7 = true ∧ State.reset.recoveries (org 0xB 7) < State.reset.rf FC_CFG_RECOV_LIMIT ∧
    ((((State.reset.setUnit (org 0xB 7) (fun u => { u with st := 1 })).sf CY_PIPE_STAT_STATE 1 7).raise (0x308 + 7)).report
      { org := org 0xB 7, cause := 0x0B03, cls := ochre, react := 5 }).cyLeased 7 = false := by decide +kernel
/-- Which payload a KEK opens rests on Config.kek, which has no value: given one that it opens, the clauses' other hypotheses are met. -/
theorem witness_KeysAndLeasesFollowTheirCommands_bundle (pay : List Nat) (b : KeyBundle) (hl : pay.length = 96) (ha : b.alg = 1)
    (ho : ∀ s : State, bit (s.rf VT_KEYS_KEK_PRESENT) 0 = true → s.openBundle pay = (some b, false)) :
    (let c := mkC 0x0501 [4095] pay 511
     let s := mkO [(TN_INST_STATE, 511, 1), (VT_KEYS_KEK_PRESENT, 0, 1)] c
     s.startsVia .packet 0x0501 (fun _ => true) s c ∧ s.rb CY_SLOT_LEASED (c.p 0) = false ∧ s.tainted = false ∧ s.rf CY_SLOT_STATE (c.p 0) = 0 ∧ s.ist c.inst ≠ 0 ∧ s.takeBundle c.pay = (s, some b)) ∧
    (let c := mkC 0x0502 [4095] pay
     let s := mkO [(VT_KEYS_KEK_PRESENT, 0, 1), (CY_SLOT_STATE, 4095, 1), (CY_SLOT_ALG, 4095, 1)] c
     let k := 4095
     s.startsVia .packet 0x0502 (fun _ => true) s c ∧ s.rb CY_SLOT_LEASED k = false ∧ s.tainted = false ∧ s.rb CY_ROTATE_BUSY = false ∧ s.rf CY_SLOT_STATE k = 1 ∧ s.rf CY_SLOT_ALG k = 1 ∧
     c.pay.length = 96 ∧ bit (c.p 0) 16 = false ∧ s.takeBundle (c.pay.take 96) = (s, some b) ∧ b.alg = 1) ∧
    (let r : Rot := ⟨0, 4095, 0, 0, 0, 0, pay, false⟩
     let x := mkS [(VT_KEYS_KEK_PRESENT, 0, 1), (CY_ROTATE_PHASE, 0, 1)]
     let s : State := { x with cy := { x.cy with rot := some r } }
     s.powered = true ∧ s.cy.rot = some r ∧ s.rf CY_ROTATE_PHASE = 1 ∧ s.holders r.slot = 0 ∧ s.openBundle r.bundle = (some b, false) ∧ r.len = 0) := by
  have ht : pay.take 96 = pay := List.take_of_length_le (by omega)
  have h1 : ∀ (l : List (RF × Nat × Nat)) (c : Cmd) (f : RF) (n : Nat), (mkO l c).rf f n = (mkS l).rf f n := fun _ _ _ _ => rfl
  have h2 : ∀ (l : List (RF × Nat × Nat)) (c : Cmd) (f : RF) (n : Nat), (mkO l c).rb f n = (mkS l).rb f n := fun _ _ _ _ => rfl
  have hp : ∀ (op i : Nat), (mkC op [4095] pay i).p 0 = 4095 := fun _ _ => rfl
  have h3 : ∀ (x : State) (r : Option Rot) (f : RF) (n : Nat), ({ x with cy := { x.cy with rot := r } } : State).rf f n = x.rf f n := fun _ _ _ _ => rfl
  refine ⟨⟨via_iff.2 ⟨rfl, show (opInfo 0x0501).any (fun o => paramsNamed o [4095]) = true by decide +kernel⟩, ?_, ?_, ?_, ?_, ?_⟩, ⟨via_iff.2 ⟨rfl, show (opInfo 0x0502).any (fun o => paramsNamed o [4095]) = true by decide +kernel⟩, ?_, ?_, ?_, ?_, ?_, hl, show bit 4095 16 = false by decide, ?_, ha⟩, rfl, rfl, ?_, rfl, ho _ (by rw [h3]; decide +kernel), rfl⟩
  · rw [h2, hp]; decide +kernel
  · rw [State.tainted, h2]; decide +kernel
  · rw [h1, hp]; decide +kernel
  · rw [State.ist, h1, show (mkC 0x0501 [4095] pay 511).inst = 511 from rfl]; decide +kernel
  · rw [State.takeBundle, show (mkC 0x0501 [4095] pay 511).pay = pay from rfl, ho _ (by rw [h1]; decide +kernel)]
  · rw [h2]; decide +kernel
  · rw [State.tainted, h2]; decide +kernel
  · rw [h2]; decide +kernel
  · rw [h1]; decide +kernel
  · rw [h1]; decide +kernel
  · rw [State.takeBundle, show (mkC 0x0502 [4095] pay).pay.take 96 = pay from ht, ho _ (by rw [h1]; decide +kernel)]
  · rw [h3]; decide +kernel

theorem witness_KeysAndLeasesFollowTheirCommands_rewrapKey (pay : List Nat) (b : KeyBundle) (hl : pay.length = 96) (ha : b.alg = 1)
    (ho : ∀ s : State, bit (s.rf VT_KEYS_KEK_PRESENT) 0 = true → s.openBundle pay = (some b, false)) :
    let c := mkC 0x0502 [69631, 0x20000, 0, 16] (pay ++ List.replicate 16 0)
    let s := mkO [(VT_KEYS_KEK_PRESENT, 0, 1), (CY_SLOT_STATE, 4095, 1), (CY_SLOT_ALG, 4095, 1)] c
    let k := c.p 0 % 4096
    s.startsVia .packet 0x0502 (fun _ => true) s c ∧ s.rb CY_SLOT_LEASED k = false ∧ s.tainted = false ∧ s.rb CY_ROTATE_BUSY = false ∧ s.rf CY_SLOT_STATE k = 1 ∧ s.rf CY_SLOT_ALG k = 1 ∧
    bit (c.p 0) 16 = true ∧ c.pay.length = 96 + 16 ∧ 16 ≤ c.p64 3 ∧ c.p64 1 + c.p64 3 ≤ 2 ^ 46 ∧ badDu (c.p 5) (c.p64 3) = false ∧ s.takeBundle (c.pay.take 96) = (s, some b) ∧ b.alg = 1 := by
  have h1 : ∀ (l : List (RF × Nat × Nat)) (c : Cmd) (f : RF) (n : Nat), (mkO l c).rf f n = (mkS l).rf f n := fun _ _ _ _ => rfl
  have h2 : ∀ (l : List (RF × Nat × Nat)) (c : Cmd) (f : RF) (n : Nat), (mkO l c).rb f n = (mkS l).rb f n := fun _ _ _ _ => rfl
  have hp : ∀ y : List Nat, (mkC 0x0502 [69631, 0x20000, 0, 16] y).p 0 = 69631 := fun _ => rfl
  have hk : 69631 % 4096 = 4095 := by decide
  refine ⟨via_iff.2 ⟨rfl, show (opInfo 0x0502).any (fun o => paramsNamed o [69631, 0x20000, 0, 16]) = true by decide +kernel⟩, ?_, ?_, ?_, ?_, ?_, ?_, ?_, ?_, ?_, ?_, ?_, ha⟩
  · rw [h2, hp, hk]; decide +kernel
  · rw [State.tainted, h2]; decide +kernel
  · rw [h2]; decide +kernel
  · rw [h1, hp, hk]; decide +kernel
  · rw [h1, hp, hk]; decide +kernel
  · rw [hp]; decide
  · simp [mkC, hl]
  · simp [mkC, Cmd.p64]
  · simp [mkC, Cmd.p64]
  · simp [mkC, Cmd.p64, Cmd.p, badDu]
  · rw [State.takeBundle, show (mkC 0x0502 [69631, 0x20000, 0, 16] (pay ++ List.replicate 16 0)).pay.take 96 = pay from List.take_left' hl, ho _ (by rw [h1]; decide +kernel)]

/-- A rewrap of 16 bytes at 0x20000 in slot 0. -/
def wRot : Rot := ⟨0, 0, 0x20000, 16, 0, 0, [], false⟩

theorem witness_KeysAndLeasesFollowTheirCommands_rewrap :
    (let b := mkS ((CY_ROTATE_PHASE, 0, 2) :: (List.range 7).map (fun p => (CY_PIPE_STAT_STATE, p, 1)))
     let s : State := { b with cy := { b.cy with rot := some wRot } }
     s.powered = true ∧ s.cy.rot = some wRot ∧ s.rf CY_ROTATE_PHASE = 2 ∧ (s.cySide (s.rb CY_SLOT_LEASED wRot.slot)).length < 2) ∧
    (let b := wInst [(CY_ROTATE_PHASE, 0, 2)]
     let s : State := { b with cy := { b.cy with rot := some wRot, slots := [(0, { Slot.empty with k0 := List.range 64, k1 := (List.range 64).reverse })] } }
     let side := s.cySide (s.rb CY_SLOT_LEASED wRot.slot)
     let c := { cyParse 0 (s.gen 0) 0 0 with pa := 0, slot := 0 }
     let rd := (s.chargeTokens 2 0 1).cyRead c wRot.base 16
     s.cy.rot = some wRot ∧ s.rf CY_ROTATE_PHASE = 2 ∧ 2 ≤ side.length ∧ side.contains 0 = true ∧ side.contains 1 = true ∧ s.eligible 2 0 1 = true ∧ s.rf CY_ROTATE_POS_POS = 0 ∧
     (match rd.2 with
      | .error _ => false
      | .ok l =>
        let old := xtsKeys ((rd.1.slot 0).key (1 - rd.1.rf CY_SLOT_CUR 0))
        let new := xtsKeys ((rd.1.slot 0).key (rd.1.rf CY_SLOT_CUR 0))
        let plain := (xtsSpan old.1 old.2 false 16 0 0 0 l (l.length + 1)).1
        (rd.1.cyWrite c wRot.base (xtsSpan new.1 new.2 true 16 0 0 0 plain (l.length + 1)).1).2) = true ∧
     0 + 1 = wRot.units ∧
     (let v : Rot := { wRot with len := 3200, du := 16, cmd := 7 }
      0 + 1 ≠ v.units ∧ 0 * 100 / v.units = (0 + 1) * 100 / v.units ∧ (s.withCmd { mkC 0x0502 with seq := 7 }).mp.cmds.find? (fun (c : Cmd) => c.seq == v.cmd) = some { mkC 0x0502 with seq := 7 })) := by decide +kernel

theorem witness_KeysAndLeasesFollowTheirCommands :
    (let c := mkC 0x0501 [4095]; ∀ l ∈ [[(CY_SLOT_LEASED, 4095, 1)], [(CY_SLOT_STATE, 4095, 1)]], let s := mkO l c
     s.startsVia .packet 0x0501 (fun _ => true) s c ∧ s.fromSecure c = false ∧ s.tainted = false ∧ (s.rb CY_SLOT_LEASED (c.p 0) = true ∨ s.rf CY_SLOT_STATE (c.p 0) ≠ 0)) ∧
    (let c := mkC 0x0503 [4095]; let s := mkO [(CY_SLOT_STATE, 4095, 1)] c
     s.startsVia .packet 0x0503 (fun c => c.lop.items.isEmpty) s c ∧ s.rb CY_SLOT_LEASED (c.p 0) = false ∧ s.rf CY_SLOT_STATE (c.p 0) ≠ 2) ∧
    (let s := mkS [(CY_SLOT_STATE, 4095, 3)]; s.rf CY_SLOT_STATE 4095 = 3 ∧ s.rf CY_SLOT_INFLIGHT 4095 = 0) ∧
    (∀ m ∈ [0, 1, 10], let c := mkC 0x0510 [1, m, 1] [0xFF, 0x0F]; let s := mkO [] c
     let slots := (List.range (c.p 2)).map (fun j => ofBytes ((c.pay.drop (2 * j)).take 2))
     let pipes := (List.range 8).filter (fun p => bit (c.p 1) (p / 2))
     s.startsVia .packet 0x0510 (fun c => c.p 0 != 2) s c ∧ c.p 0 = 1 ∧ c.p 1 < 16 ∧ c.p 2 ≤ 2016 ∧ 2 * c.p 2 ≤ c.pay.length ∧ s.tainted = false ∧
     (∀ k ∈ slots, k < 4096 ∧ s.rf CY_SLOT_STATE k = 0 ∧ s.rb CY_SLOT_LEASED k = false) ∧ (∀ p ∈ pipes, s.cyUp p = true ∧ s.cyLeased p = false) ∧
     4 ≤ ((s.cySide false).filter (fun p => !pipes.contains p)).length ∧ ((List.range 8).filter (fun p => s.cyLeased p)).length + pipes.length ≤ 4 ∧ s.leases.length < 32) ∧
    (let c := mkC 0x0510 [2, 1024, 0]; let s := mkO [] c
     s.startsVia .packet 0x0510 (fun c => c.p 0 == 2) s c ∧ c.p 2 = 0 ∧ c.p 1 % 4 = 0 ∧ 4 ≤ c.p 1 ∧ c.p 1 ≤ 1024 ∧ s.tainted = false ∧
     4 * (s.leases.flatMap (fun (l : Lease) => l.pages)).length + c.p 1 ≤ 1024 ∧ s.leases.length < 32) ∧
    (∀ h ∈ [0, 512], let l : Lease := ⟨2, 3, 1, h, [], [], [], none, none, false⟩; let c := mkC 0x0511 [0x00030002]; let s := { mkO [] c with leases := [l] }
     s.startsVia .packet 0x0511 (fun c => c.lop.items.isEmpty) s c ∧ s.leases.find? (fun (l : Lease) => l.handle == c.p 0) = some l ∧ (l.holder = c.sender ∨ (l.holder ≠ c.sender ∧ c.sender ≠ 600))) := by
  simp -zeta only [via_iff]; decide +kernel
/-- Fields of registers, the Journal open and the gate open, and one transaction. -/
def wTxn (l : List (RF × Nat × Nat)) (t : Txn) : State :=
  let s := mkS ((CH_STAT_JOURNAL, 0, 0) :: (TW_STAT_GATE, 0, 1) :: l)
  { s with ch := { s.ch with txns := [t] } }

/-- A transaction of the Operator Host, and one of instance 0, of the given state and first CCE. -/
def wHostTxn (st cc : Nat) : Txn := { Txn.fresh (mkTid 0 0xFFF 1) 0 (.host (List.replicate 32 0)) with state := st, chan := 1023, ccs := [cc] }
def wInstTxn (st cc : Nat) : Txn := { Txn.fresh (mkTid 0 0 1) 0 (.ring 0 0) with state := st, chan := 1023, ccs := [cc] }
def wSeg (st : Nat) : Seg := ⟨31, 255, 4, 0, 7, 0, 0, [], st, 0, 0, [], 0⟩

theorem witness_ChainsRunToTheirOutcome :
    (∀ n ∈ [0, 31, 4064, 32, 4032], let c := mkC 0x0308 [] (List.replicate n 0); let s := mkO [] c
     s.powered = true ∧ s.starts 0x0308 c ∧ ((c.pay.length = 0 ∨ c.pay.length % 32 ≠ 0 ∨ 126 * 32 < c.pay.length) ∨ (0 < c.pay.length ∧ c.pay.length % 32 = 0 ∧ c.pay.length ≤ 126 * 32))) ∧
    (let c := mkC 0x0308 [] (List.replicate 32 0) 0 3; let s := mkO [(CH_STAT_JOURNAL, 0, 0)] c
     s.startedCmd 0x0308 = none ∧ s.mp.cmds.filter (fun (c : Cmd) => c.op == 0x0308 && c.phase == 3) = [c] ∧ s.curCmd c = c ∧ (s.submit 512 0 (.host c.pay) 0 0).2 % 2 ^ 43 ≠ 0) ∧
    (let t := { Txn.fresh (mkTid 0 0xFFF 1) 0 (.host (List.replicate 32 0)) with chan := 0 }; let s := wTxn [] t
     s.chOn = true ∧ s.rf CH_PROC_STAT_STATE 0 = 0 ∧ s.rf CH_PROC_STAT_ACTIVE 0 < 64 ∧ s.takeable 0 = [t] ∧ t.host = true) ∧
    (let t := wInstTxn 1 0; let s := wTxn [(TN_INST_STATE, 0, 2), (TN_INST_WEIGHT, 0, 16)] t
     let g := s.grant 0 (([t].filter (fun x => !x.host)).map (fun x => (x.inst, 1))).eraseDups (16 + 0)
     s.chOn = true ∧ s.rf CH_PROC_STAT_STATE 0 = 0 ∧ s.rf CH_PROC_STAT_ACTIVE 0 < 64 ∧ s.takeable 0 = [t] ∧ t.host = false ∧ g.2 = some 0 ∧ [t].find? (fun x => !x.host && x.inst == 0) = some t) ∧
    (∀ cc ∈ [0x30, 0x11, 0x01], ∀ t ∈ [wHostTxn 3 cc, wInstTxn 3 cc], let s := wTxn [(TN_BUCKET_RATE, bucketIdx 0 0, 1), (TN_BUCKET_LEVEL, bucketIdx 0 0, 1)] t
     let x := if t.host then s else s.chargeTokens 0 t.inst 1
     s.txn t.tid = some t ∧ s.chOn = true ∧ s.drives = true ∧ t.state = 3 ∧ t.begun = false ∧ t.flush = false ∧ t.cancel = 0 ∧ s.procUp t.chan = true ∧ s.released t = true ∧
     (t.host || s.eligible 0 t.inst 1) = true ∧ ccOp (t.ccs.getD t.cce 0) = cc ∧ (cc = 1 → (x.mkSegs t).length = 1)) ∧
    (let t := { wHostTxn 3 1 with begun := true, segs := [wSeg 3] }; let s := wTxn [] t
     s.txn t.tid = some t ∧ s.chOn = true ∧ s.procUp t.chan = true ∧ t.state = 3 ∧ t.flush = false ∧ t.begun = true ∧ t.segs ≠ []) ∧
    (∀ k ∈ [0, 1], let t := { wHostTxn 3 0x10 with begun := true, cancel := k }; let b := wTxn [] t; let s : State := { b with ch := { b.ch with defs := [(1023, 0x1000)] } }
     s.txn t.tid = some t ∧ s.chOn = true ∧ s.drives = true ∧ s.procUp t.chan = true ∧ t.state = 3 ∧ t.begun = true ∧ t.flush = false ∧ s.chanKind t.chan = 1 ∧ t.cancel = k ∧ (s.chunkPaid t).isSome = true) ∧
    (∀ x ∈ [(0, true), (1448, false)], let t := { wInstTxn 3 (0x20 + 3000 * 2 ^ 64) with begun := true, sent := x.1 }
     let b := wTxn [(TN_BUCKET_RATE, bucketIdx 0 3, 1), (TN_BUCKET_LEVEL, bucketIdx 0 3, 1)] t; let s : State := { b with ch := { b.ch with defs := [(1023, 0x2000 + 1500 * 2 ^ 384)] } }
     s.txn t.tid = some t ∧ s.chOn = true ∧ s.drives = true ∧ s.procUp t.chan = true ∧ t.state = 3 ∧ t.begun = true ∧ t.flush = false ∧ t.cancel = 0 ∧ s.chanKind t.chan = 2 ∧ ccOp (t.ccs.getD t.cce 0) = 0x20 ∧
     s.nsendPart t ≠ [] ∧ s.nsendFresh t = x.2 ∧ (s.chunkPaid { t with off := t.sent }).isSome = true) ∧
    (let t := { wInstTxn 3 0x10 with begun := true }; let b := wTxn [] t; let s : State := { b with ch := { b.ch with defs := [(1023, 0x3000)] } }
     s.txn t.tid = some t ∧ s.chOn = true ∧ s.procUp t.chan = true ∧ t.state = 3 ∧ t.begun = true ∧ s.chanKind t.chan = 3 ∧ t.cancel = 0 ∧ s.ist (dfld (s.cdef t.chan) 4 8 0) = 0) ∧
    (∀ e ∈ [3, 5], let t := { wHostTxn 4 1 with begun := true, segs := [wSeg e] }; let s := wTxn [] t
     s.txn t.tid = some t ∧ t.state = 4 ∧ s.chOn = true ∧ s.drives = true ∧ s.procUp t.chan = true ∧ t.segs.all (fun g => g.st == 3 || g.st == 5) = true) ∧
    (let g := wSeg 2; let t := { wHostTxn 4 1 with begun := true, segs := [g] }; let b := wTxn [(FR_STAT_ROLE, 31, 2), (FR_NODE_STATE, nodeIdx 31 255, 2)] t
     let s : State := { b with ch := { b.ch with defs := [(1023, 10 * 2 ^ 64)] } }
     t.segs = [g] ∧ g.st ≠ 3 ∧ g.st ≠ 5 ∧ s.now < g.prepAt + dfld (s.cdef t.chan) 8 15 0 * 1000000 ∧ (s.port g.port).reqs.any (fun r => r.tid == t.tid && r.seg == 0) = false ∧
     ((s.frTake g.port (g.req t.tid 0 5)).txn t.tid).isSome = true) := by
  refine ⟨?_, ?_, ?_, ?_, ?_, ?_, ?_, ?_, ?_, ?_, ?_⟩ <;> (try simp -zeta only [starts_iff]) <;> decide +kernel

/-- A LOOP channel's transaction of instance 0 writes four bytes of its CCE to instance 0. -/
theorem witness_ChainsRunToTheirOutcome_loop :
    let c := 0x10 + 2 ^ 9 + 4 * 2 ^ 64 + 0x12345678 * 2 ^ 128
    let t := { wInstTxn 3 c with begun := true, chan := 0 }
    let b := wInst [(CH_STAT_JOURNAL, 0, 0)]
    let s : State := { b with ch := { b.ch with txns := [t], defs := [(0, 0x3000 + 0x20000 * 2 ^ 64)] } }
    let n := min 16384 (ccDataLen c - t.off)
    let u := (s.chunkPaid t).getD s
    let r := u.pwBytes t c n []
    s.txn t.tid = some t ∧ s.chanKind t.chan = 3 ∧ s.ist 0 = 2 ∧ s.ch.dead.contains t.chan = false ∧ t.off = 0 ∧ ccOp c ≠ 0x11 ∧ ccDataLen c ≤ t.off + n ∧ (s.chunkPaid t).isSome = true ∧
    (match r.2 with
      | .error _ => false
      | .ok bs => (match (r.1.ioWrite (u.chanOrg t.chan) 0 (r.1.gen 0) (dfld (s.cdef t.chan) 8 45 0 + ccArg c + t.off) n (ofBytes bs)).2 with | .ok () => true | .error _ => false)) = true := by
  decide +kernel

theorem witness_CompletionsArePosted :
    (let t := wInstTxn 5 1
     let q := fun (f : CplRes → Bool) (s : State) => s.txn t.tid = some t ∧ t.state = 5 ∧ t.orphan = false ∧ s.jrnOn = true ∧ s.isStandby = false ∧ s.txnStale t = false ∧ s.firstFinal t = true ∧ t.host = false ∧
       t.notBefore ≤ s.now ∧ f (s.cplTry (s.chanOrg t.chan) t.inst t.gen 0 t.queue t.entry).2 = true ∧ s.ch.txns.find? (fun (t : Txn) => t.state == 5 && !t.orphan && !t.host && t.inst == 0 && t.queue == 0 && decide (t.notBefore ≤ s.now) && s.firstFinal t) = some t
     let b := wQueue 0 0 [(CH_STAT_JOURNAL, 0, 0)]
     q (fun r => r == .posted) { b with ch := { b.ch with txns := [t] } } ∧
     q (fun r => r == .refused) { b.sf IP_Q_CFG_BASE 0x40000 (qIdx 0 0 1 0) with ch := { b.ch with txns := [t] } }) ∧
    (∀ tail ∈ [0, 63], let t := wHostTxn 5 1; let b := (wTxn [(CH_HOST_CQ_CFG_EN, 0, 1), (CH_HOST_CQ_CFG_SIZE, 0, 6)] t).wreg rCH_HOST_CQ_TAIL 0 tail; let s : State := { b with mp := { b.mp with busMaster := true } }
     let lg := s.rf CH_HOST_CQ_CFG_SIZE
     s.txn t.tid = some t ∧ t.state = 5 ∧ t.orphan = false ∧ s.jrnOn = true ∧ s.isStandby = false ∧ s.txnStale t = false ∧ s.firstFinal t = true ∧ t.host = true ∧ s.rb CH_HOST_CQ_CFG_EN = true ∧ s.mp.busMaster = true ∧
     ptrDist (ptrPos (s.reg rCH_HOST_CQ_HEAD 0) lg) (ptrPos (s.reg rCH_HOST_CQ_TAIL 0) lg) lg < 2 ^ lg) ∧
    (mkS []).rb CH_HOST_CQ_CFG_EN = false ∧ (∀ v ∈ [2 ^ 63 + 6, 2 ^ 63 + 16], bit v 63 = true ∧ 6 ≤ bits v 4 0 ∧ bits v 4 0 ≤ 16) ∧
    (let s := (mkS [(CH_HOST_CQ_CFG_SIZE, 0, 6)]).wreg rCH_HOST_CQ_TAIL 0 63
     let lg := s.rf CH_HOST_CQ_CFG_SIZE
     let d := fun (n : Nat) => ptrDist (ptrPos (s.reg rCH_HOST_CQ_HEAD 0) lg) (ptrPos n lg) lg
     bits 63 15 0 < 2 ^ lg ∧ d 63 ≤ d (s.reg rCH_HOST_CQ_TAIL 0) ∧ d (s.reg rCH_HOST_CQ_TAIL 0) < d (2 ^ 16)) := by decide +kernel
/-- More than the transaction ring's threshold of R449 leaves free. -/
theorem witness_JournalCommandsAndTrimKeepTransactions_carry :
    let t := wHostTxn 3 1
    let e : JEnt := ⟨0, 1, t.tid, some t, true⟩
    let s : State := { wTxn [] t with ch := { (wTxn [] t).ch with ring := e :: List.replicate 515072 e } }
    s.jrnOn = true ∧ s.ch.ring = e :: List.replicate 515072 e ∧ 519168 < s.ch.ring.length + 4096 ∧ s.txn e.tid = some t := by
  refine ⟨?_, rfl, ?_, rfl⟩
  · rw [show ∀ (c : ChSt), ({ wTxn [] (wHostTxn 3 1) with ch := c } : State).jrnOn = (wTxn [] (wHostTxn 3 1)).jrnOn from fun _ => rfl]; decide +kernel
  · rw [List.length_cons, List.length_replicate]; decide

theorem witness_JournalCommandsAndTrimKeepTransactions :
    (∀ p ∈ [(2, 1), (1, 2)], let b := mkS [(CH_STAT_JOURNAL, 0, 0)]
     let s : State := { b with ch := { b.ch with tail := 7, supA := ⟨p.1, 0, 0, true⟩, supB := ⟨p.2, 0, 0, true⟩ } }
     s.powered = true ∧ s.jrnOn = true ∧ (s.ch.supB.count < s.ch.supA.count ∨ s.ch.supA.count ≤ s.ch.supB.count) ∧ s.ch.supA.tail ≠ s.ch.tail ∧ s.ch.supB.tail ≠ s.ch.tail) ∧
    (let s := mkS [(CH_STAT_JOURNAL, 0, 1), (CH_REPLAY_TRIGGER, 0, 2)]; s.rf CH_STAT_JOURNAL = 1 ∧ 2 ≤ s.rf CH_REPLAY_TRIGGER ∧ s.ch.txns = []) ∧
    State.reset.rf CH_PROC_STAT_STATE 15 = 0 ∧ State.reset.recoveries (org 8 15) < State.reset.rf FC_CFG_RECOV_LIMIT ∧
    (let c := mkC 0x0306 [0, 0, 64, 0]; (mkO [] c).starts 0x0306 c) ∧
    (let t := { wHostTxn 5 1 with orphan := true }; let c := mkC 0x0307 [t.tid % 2 ^ 32, t.tid / 2 ^ 32]; let s := (wTxn [] t).withCmd c
     s.starts 0x0307 c ∧ s.orphans = [t] ∧ t.tid = c.p64 0) ∧
    (let e : JEnt := ⟨1, 3, 5, none, true⟩; latestOf [⟨0, 1, 5, none, true⟩, e, ⟨2, 0xF, 0, none, true⟩] 5 = some e ∧ e.kind ≠ 7) := by
  refine ⟨?_, ?_, ?_, ?_, ?_, ?_, ?_⟩ <;> (try simp -zeta only [starts_iff]) <;> decide +kernel

/-- A datagram of TYPE k on channel 5, a whole message of one byte of peer transaction 9. -/
def wGram (k : Nat) : Dgram := ⟨5, [1, k, 3, 0, 0, 0, 0, 0] ++ toBytes 9 8 ++ toBytes 0 8 ++ [0xAA]⟩
def wIn (s : State) (x : Dgram) (sess : Map (List Nat)) : State := { s with ch := { s.ch with inbox := [x], sess := sess } }

theorem witness_ChannelsFollowTheirCommands :
    (takeDgram false (wIn State.reset ⟨5, [1, 1]⟩ []).ch.inbox = (some ⟨5, [1, 1]⟩, []) ∧ State.reset.netOk ⟨5, [1, 1]⟩ = false) ∧
    (takeDgram true (wIn State.reset ⟨5, [1, 2]⟩ []).ch.inbox = (some ⟨5, [1, 2]⟩, []) ∧ State.reset.netOk ⟨5, [1, 2]⟩ = false) ∧
    (let s := wIn State.reset (wGram 1) [(5, [9])]; takeDgram false s.ch.inbox = (some (wGram 1), []) ∧ s.netOk (wGram 1) = true ∧ (Map.getD s.ch.sess 5 []).contains (ofBytes (((wGram 1).bytes.drop 8).take 8)) = true) ∧
    (let t := { wInstTxn 3 (0x21 + 2 ^ 64 + 0x20000 * 2 ^ 128) with chan := 5, begun := true }
     let b := wInst [(CH_STAT_JOURNAL, 0, 0), (TN_BUCKET_RATE, bucketIdx 0 0, 1), (TN_BUCKET_LEVEL, bucketIdx 0 0, 1)]
     let s : State := { b with ch := { b.ch with txns := [t] } }
     let x := wGram 1
     let cost := s.nrecvCost t 1
     s.netOk x = true ∧ (Map.getD s.ch.sess x.chan []).contains (ofBytes ((x.bytes.drop 8).take 8)) = false ∧ (Map.find s.ch.inbound x.chan).any (fun p => p.1 == ofBytes ((x.bytes.drop 8).take 8)) = false ∧
     s.nrecvFor x.chan 9 (0 == 0 && bit (x.bytes.getD 2 0) 0) = some t ∧ ofBytes ((x.bytes.drop 8).take 8) = 9 ∧ ofBytes ((x.bytes.drop 16).take 8) = t.off ∧ t.off = 0 ∧ bit (x.bytes.getD 2 0) 1 = true ∧
     t.off + (x.bytes.drop 24).length ≤ ccLen (t.ccs.headD 0) ∧ s.chOn = true ∧ s.procUp x.chan = true ∧ (x.bytes.drop 24).take (ccLen (t.ccs.headD 0) - t.off) = [0xAA] ∧ s.eligible 0 t.inst cost = true ∧
     (match ((s.chargeTokens 0 t.inst cost).ownWrite t (ccAddr (t.ccs.headD 0) + t.off) [0xAA]).2 with | .ok () => true | .error _ => false) = true) ∧
    (let t := { wHostTxn 3 (0x20 + 4 * 2 ^ 64) with chan := 5, begun := true, tid := 9, sent := 4 }
     let x : Dgram := ⟨5, [1, 2, 0, 0, 0, 0, 0, 0] ++ toBytes 9 8 ++ toBytes 4 8⟩
     let s := wTxn [] t
     s.netOk x = true ∧ s.txn (ofBytes ((x.bytes.drop 8).take 8)) = some t ∧ t.chan = x.chan ∧ t.state = 3 ∧ t.begun = true ∧ ccOp (t.ccs.getD t.cce 0) = 0x20 ∧ t.acked < 4 ∧ ccLen (t.ccs.getD t.cce 0) ≤ 4 ∧
     s.chOn = true ∧ s.procUp t.chan = true ∧ t.acked < t.sent ∧ dfld (s.cdef t.chan) 0x34 7 0 ≤ t.tries ∧
     (let z : State := { s with ch := { s.ch with defs := [(5, 255 * 2 ^ (8 * 0x34))] } }; t.tries < dfld (z.cdef t.chan) 0x34 7 0)) ∧
    (let c := mkC 0x0301 [] (toBytes (1023 + 0x3000 + 2 ^ 16 + 0x1000 * 2 ^ 128) 64); let s := mkO [(TN_INST_STATE, 0, 1), (TN_INST_STATE, 1, 1)] c
     s.starts 0x0301 c ∧ c.pay.length = 64 ∧ s.rf CH_CHAN_STATE (ofBytes c.pay % 1024) = 0 ∧ s.defOk (ofBytes c.pay) = true) ∧
    (let c := mkC 0x0302 [1023]; (mkO [] c).starts 0x0302 c ∧ (mkO [] c).rf CH_CHAN_STATE (c.p 0) = 0 ∧ (mkO [(CH_CHAN_STATE, 1023, 1)] c).rf CH_CHAN_STATE (c.p 0) ≠ 0) ∧
    (let c := mkC 0x0302 [1023] [] 0 3; let s := mkO [(CH_CHAN_STATE, 1023, 2)] c
     s.startedCmd 0x0302 = none ∧ s.mp.cmds.filter (fun (c : Cmd) => c.op == 0x0302 && c.phase == 3) = [c] ∧ s.curCmd c = c ∧ s.chanLeft (c.p 0) = 0) ∧
    (let c := mkC 0x0303 [1023, 0, 0]; let b := mkO [] c; let s : State := { b with mp := { b.mp with busMaster := true } }
     s.starts 0x0303 c ∧ c.sender = 0 ∧ (s.bufWrite c (c.p64 1) (toBytes (s.cdef (c.p 0)) 64)).2 = true) ∧
    (let t := wHostTxn 5 1; let c := mkC 0x0304 [t.tid % 2 ^ 32, t.tid / 2 ^ 32]; (mkO [] c).starts 0x0304 c ∧ mayTxn c (c.p64 0) = true ∧ mayTxn { c with src := 1 } (c.p64 0) = false ∧
     (let b := mkO [] { c with src := 1 }; b.starts 0x0304 { c with src := 1 }) ∧ (mkO [] c).txn (c.p64 0) = none ∧ (wTxn [] t).txn (c.p64 0) = some t) ∧
    (∀ st ∈ [4, 1], let t := wHostTxn st 1; let c := mkC 0x0305 [t.tid % 2 ^ 32, t.tid / 2 ^ 32]; let s := (wTxn [] t).withCmd c
     s.startedCmd 0x0305 (fun c => c.lop.items.isEmpty) = some c ∧ (opInfo 0x0305).any (fun o => paramsNamed o c.ps) = true ∧ mayTxn c (c.p64 0) = true ∧ (s.mirrorCmd c).txn (c.p64 0) = some t ∧
     ((mkO [] c).mirrorCmd c).txn (c.p64 0) = none ∧ t.cancel = 0 ∧ (4 ≤ t.state ∨ (t.state < 4 ∧ (((s.mirrorCmd c).jrn { t with cancel := 1 } 9 0).txn t.tid).any (fun u => decide (u.state < 3)) = true))) := by
  refine ⟨?_, ?_, ?_, ?_, ?_, ?_, ?_, ?_, ?_, ?_, ?_⟩ <;> (try simp -zeta only [starts_iff]) <;> decide +kernel

/-- Port 31 with one node, 255, in a state, and its table. -/
def wCfg : NodeCfg := ⟨255, 16, 0, List.replicate 256 0⟩
def wPort (l : List (RF × Nat × Nat)) : State :=
  (mkS ((FR_NODE_STATE, nodeIdx 31 255, 2) :: (TW_STAT_GATE, 0, 1) :: l)).setPort 31 (fun q => { q with tbl := some ⟨1, 1, 0, 0, [wCfg]⟩ })
def wSlot (flags : Nat) : List Byte := let b := [255, flags, 0, 0, 0, 0, 0, 0]; (b ++ toBytes (crc32c b) 4).map (BitVec.ofNat 8)
def wSync : List Byte := let b := [1] ++ List.replicate 63 0; (b ++ toBytes (crc32c b) 4).map (BitVec.ofNat 8)

theorem witness_RingPortsRunTheirCycles :
    let s := wPort [(FR_STAT_ROLE, 31, 2)]
    let l := wPort [(FR_STAT_ROLE, 31, 3)]
    s.powered = true ∧ (s.port 31).cfg 255 = some wCfg ∧ (l.port 31).cfg 255 = some wCfg ∧ s.drives = true ∧ s.rf FR_STAT_ROLE 31 = 2 ∧ (s.port 31).switchAt = none ∧ (s.port 31).healAt = none ∧
    (s.port 31).closed.contains 255 = false ∧ (parseSlot (byteNats [])).crcOk = false ∧ (s.port 31).heard.contains 255 = false ∧
    (let h := parseSlot (byteNats (wSlot 0))
     let x := s.setPort 31 (fun q => { q with heard := q.heard ++ [255] })
     let i := nodeIdx 31 255
     let y := (x.sf FR_NODE_EDGE_NS 0 i).sf FR_NODE_EDGE_MAX_NS (max (x.rf FR_NODE_EDGE_MAX_NS i) 0) i
     h.crcOk = true ∧ h.flag 5 = false ∧ h.flag 1 = false ∧ y.rf FR_NODE_STATE i = 2 ∧ y.slotFits 31 255 wCfg h = true ∧ (y.useSlot 31 255 wCfg h).rf FR_NODE_STATE i = 2) ∧
    (let b := (wPort [(FR_STAT_ROLE, 31, 2)]).setPort 31 (fun q => { q with used := [255], tbl := some ⟨1, 1, 0, 0, [wCfg, { wCfg with addr := 1 }]⟩ })
     (b.port 31).used.contains 255 = true ∧ ((b.setPort 31 (fun q => { q with closed := q.closed ++ [255] })).frDeadline 31 255).isLastSlot 31 255 = false) ∧
    (∀ p ∈ [2, 5], let b := wPort [(FR_STAT_ROLE, 31, 2), (FR_STAT_PATH, 31, p), (FR_CFG_HEAL_MS, 31, 1)]
     2 ≤ b.rf FR_STAT_PATH 31 ∧ b.rf FR_STAT_PATH 31 ≤ 5 ∧ b.rf FR_CFG_HEAL_MS 31 ≠ 0 ∧ (b.port 31).healAt = none ∧ (b.loopedNodes 31).all (fun a => (b.port 31).restored.contains a) = true) ∧
    (wSync.length = 68 ∧ crc32c ((byteNats wSync).take 64) = ofBytes ((byteNats wSync).drop 64) ∧ bit ((byteNats wSync).getD 1 0) 0 = false ∧ bit ((byteNats wSync).getD 1 0) 1 = false ∧ ofBytes (((byteNats wSync).drop 8).take 8) = l.rf FR_CYCLE_CYCLE 31 ∧
     l.rf FR_STAT_ROLE 31 = 3 ∧ (l.port 31).heard.contains 255 = false ∧ (l.port 31).closed.contains 255 = false ∧ (parseSlot (byteNats (wSlot 0))).crcOk = true ∧
     (l.setPort 31 (fun q => { q with heard := q.heard ++ [255] })).slotFits 31 255 wCfg (parseSlot (byteNats (wSlot 0))) = true) := by
  refine ⟨?_, ?_, ?_, ?_, ?_, ?_, ?_, ?_, ?_, ?_, ?_, ?_, ?_, ?_⟩ <;> decide +kernel
/-- Node 255 of port 31. -/
def wNode (n : NodeSt) : State := State.reset.putNode (31 * 256 + 255) n
def wSched : NodeSched := ⟨0, 1, 3, 0, 4, 0, []⟩

theorem witness_RingNodesActOnTheirInputs :
    (wNode NodeSt.empty).powered = true ∧ (wNode NodeSt.empty).node (31 * 256 + 255) = some NodeSt.empty ∧ wSync.length = 68 ∧
    crc32c ((byteNats wSync).take 64) = ofBytes ((byteNats wSync).drop 64) ∧ (byteNats wSync).getD 0 0 = 1 ∧ (byteNats wSync).getD 1 0 = 0 ∧ NodeSt.empty.ref = none ∧ NodeSt.empty.afterSwitch = none ∧ NodeSt.empty.preps = [] ∧
    (let n := { NodeSt.empty with sched := some wSched, ref := some (7, 0), sendDue := true, missed := 3, looped := 2, preps := [⟨65535, 65535, [], 0, 1⟩] }
     (wNode n).node (31 * 256 + 255) = some n ∧ n.sched = some wSched ∧ n.ref = some (7, 0) ∧ n.sendDue = true ∧ n.skip = false ∧ n.muted = false ∧ n.looped ≠ 0 ∧ wSched.hold ≤ n.missed ∧
     n.preps.any (fun e => e.source == 65535 && e.seq == 65535 && e.phase == 1) = true) ∧
    (let c := mkC 0x0310 [31]; let s := mkO [(FR_STAT_ROLE, 31, 3)] c; s.starts 0x0310 c ∧ c.src < 1000 ∧ s.rf FR_STAT_ROLE (c.p 0 % 32) = 3) ∧
    (∀ k ∈ [1, 2, 6], let c := mkC 0x0310 [31] [] 0 3; let m : Comm := ⟨0, true, ⟨1, 1, 0, 0, [wCfg]⟩, [], [], 16⟩
     let s := (mkO [(FR_COMM_STEP, 31, k)] c).setPort 31 (fun q => { q with comm := some m })
     s.startedCmd 0x0310 = none ∧ s.mp.cmds.filter (fun (c : Cmd) => c.op == 0x0310 && c.phase == 3) = [c] ∧ s.curCmd c = c ∧ (s.port 31).comm = some m ∧ s.rf FR_COMM_STEP 31 = k ∧ 16 ≤ m.good) := by
  refine ⟨?_, ?_, ?_, ?_, ?_, ?_, ?_, ?_, ?_, ?_, ?_, ?_⟩ <;> (try simp -zeta only [starts_iff]) <;> decide +kernel

theorem witness_RepeatedRequestsActOnce : ofBytes ((([1, 0, 0, 0, 1] : List Nat).drop 4).take 1) ≠ 5 ∧ ofBytes ((([1, 0, 0, 0, 1] : List Nat).drop 4).take 1) ≠ 6 := by decide

/-- The Operator Host's command on instance 511 of STATE st, and the same under way. -/
def wOn (op st : Nat) (ps : List Nat) (lop : LongOp := ⟨0, 0, 0, 0, 0, false, []⟩) (phase : Nat := 2) : State := mkO [(TN_INST_STATE, 511, st), (TN_INST_VCORES, 511, 1)] (mkC op ps [] 511 phase lop)
def wCmd (op : Nat) (ps : List Nat) (lop : LongOp := ⟨0, 0, 0, 0, 0, false, []⟩) (phase : Nat := 2) : Cmd := mkC op ps [] 511 phase lop

/-- A module whose region of 01 R26 is cached. -/
def wMesh (l : List (RF × Nat × Nat)) : State :=
  let s := mkS ((MA_CAP_USABLE_GIB, 0, 4) :: l)
  { s with coh := { s.coh with mesh := (List.range 256).map (fun k => (k, ⟨0, false, false, 512⟩)) } }

/-- INSTANCE_CREATE of instance 511 with one virtual core, where the first n cores are spares, and its tables. -/
def wCreate : Cmd := mkC 0x0101 [0x00010100, 0, 0, 0, 6] [] 511
def wCreateOn (n : Nat) : State := (wMesh ((List.range n).map (fun k => (KC_PCS_ROLE, k, 1)))).withCmd wCreate
def wTables (n : Nat) : Option State := ((wCreateOn n).newInst wCreate).newTables 511

theorem witness_InstancesFollowTheirLifecycle_create :
    ∀ n ∈ [0, 64], let s := wCreateOn n
     s.powered = true ∧ s.startedCmd 0x0101 (fun _ => true) = some wCreate ∧ s.ist 511 = 0 ∧ s.fromSecure wCreate = bit (wCreate.p 0) 0 ∧ bit (wCreate.p 0) 0 = false ∧ createOk wCreate = true ∧
     wCreate.inst = 511 ∧ bits (wCreate.p 0) 22 16 = 1 := by decide +kernel

theorem witness_InstancesFollowTheirLifecycle_placed : (wTables 0).any (fun y => (y.placeAll 511 1).isSome) = true := by decide +kernel

theorem witness_InstancesFollowTheirLifecycle_unplaced : (wTables 64).any (fun y => (y.placeAll 511 1).isNone) = true := by decide +kernel

theorem witness_InstancesFollowTheirLifecycle :
    (let s := wOn 0x0101 2 [0]; let c := wCmd 0x0101 [0]; s.startsVia .packet 0x0101 (fun _ => true) s c ∧ s.ist c.inst ≠ 0) ∧
    (let s := wOn 0x0101 0 [0]; let c := wCmd 0x0101 [0]; s.startsVia .packet 0x0101 (fun _ => true) s c ∧ s.ist c.inst = 0 ∧ s.fromSecure c = bit (c.p 0) 0 ∧ bit (c.p 0) 0 = false ∧ createOk c = false) ∧
    (∀ x ∈ [(5, 0), (2, 0), (1, 2), (1, 4)], let s := wOn 0x0102 x.1 [x.2, 0, 0, 0]; let c := wCmd 0x0102 [x.2, 0, 0, 0]
     s.startsVia .packet 0x0102 (fun _ => true) s c ∧ s.wrongWorld c = false ∧ s.ist c.inst = x.1 ∧ c.p64 0 = x.2) ∧
    (∀ st ∈ [0, 8, 3, 1, 2, 4, 5], let s := wOn 0x0103 st [0]; let c := wCmd 0x0103 [0]
     s.startsVia .packet 0x0103 (fun _ => true) s c ∧ s.wrongWorld c = false ∧ s.ist c.inst = st ∧ bit (c.p 0) 0 = false) ∧
    (let l : LongOp := ⟨2, 0, 7, 0, 0, false, [0, 1, 2, 0]⟩; let s := wOn 0x0103 3 [0] l 3; let c := wCmd 0x0103 [0] l 3
     s.startedCmd 0x0103 = none ∧ s.mp.cmds.filter (fun (d : Cmd) => d.op == 0x0103 && d.phase == 3) = [c] ∧ (s.curCmd c).lop.items = [0, 1, 2, 0] ∧ s.ist (s.curCmd c).inst = 3 ∧ bit ((s.curCmd c).p 0) 0 = false) ∧
    (∀ x ∈ [(2, 0), (2, 60001), (5, 1), (1, 60000), (2, 60000)], let s := wOn 0x0104 x.1 [x.2]; let c := wCmd 0x0104 [x.2]
     s.startsVia .packet 0x0104 (fun _ => true) s c ∧ s.wrongWorld c = false ∧ s.ist c.inst = x.1 ∧ c.p 0 = x.2) ∧
    (let s := wOn 0x0104 4 [0]; s.ist 511 = 4 ∧ s.instOutstanding 511 = 0 ∧ (∀ v, v < s.vcores 511 → (s.vc (vkey 511 v)).wait = none)) ∧
    (∀ st ∈ [0, 8, 1, 7], let s := wOn 0x0107 st []; let c := wCmd 0x0107 []
     s.startsVia .packet 0x0107 (fun _ => true) s c ∧ s.wrongWorld c = false ∧ s.ist c.inst = st ∧ s.longCmd 0x0103 (fun d => d.inst == c.inst && d.lop.items.length == 4) = none) ∧
    (let s := wOn 0x0107 8 [] ⟨2, 0, 0, 0, 0, false, []⟩ 3; let c := wCmd 0x0107 [] ⟨2, 0, 0, 0, 0, false, []⟩ 3
     s.startedCmd 0x0107 = none ∧ s.mp.cmds.filter (fun (d : Cmd) => d.op == 0x0107 && d.phase == 3) = [c] ∧ s.destroyLeft (s.curCmd c).inst = 0) := by
  refine ⟨?_, ?_, ?_, ?_, ?_, ?_, ?_, ?_, ?_⟩ <;> (try simp -zeta only [via_iff]) <;> decide +kernel

/-- A save of instance 511, and its image. -/
def wImg (st : Nat) : State := mkS [(TN_INST_STATE, 511, st), (TN_INST_VCORES, 511, 1), (PX_LINK_STAT_STATE, 15, 4)]

theorem witness_ImagesAndMappingsFollowTheirCommands_images :
    (∀ x ∈ [(1, 0), (0, 0), (0, 2 ^ 20)], let c := mkC 0x0105 [15, 0, 0, x.2, 0] [] 511; let s := ((wImg 5).sf TN_OP_BUSY x.1).withCmd c
     s.powered = true ∧ s.starts 0x0105 c ∧ s.wrongWorld c = false ∧ s.rb TN_INST_SECURE c.inst = false ∧ s.ist c.inst = 5 ∧ s.rf TN_OP_BUSY = x.1 ∧ sinkOk c = true ∧ s.sinkUp c = true ∧
     (c.p64 3 < s.imgLen c.inst ↔ x.2 = 0)) ∧
    (∀ l ∈ [[], [0, 0]], let c := mkC 0x0105 [15, 0, 0, 2 ^ 20, 0] [] 511 3 ⟨2, 0, 1, 0, 0, false, l⟩; let s := (wImg 6).withCmd c
     s.startedCmd 0x0105 = none ∧ s.mp.cmds.filter (fun (d : Cmd) => d.op == 0x0105 && d.phase == 3) = [c] ∧ s.ist (s.curCmd c).inst = 6 ∧ (s.curCmd c).lop.cancel = false ∧ s.sinkUp (s.curCmd c) = true ∧
     ((s.curCmd c).lop.items.length / 2 < s.imgBlocks 511 ↔ l = [])) ∧
    (let c := mkC 0x0106 [15, 0, 0, 2 ^ 20, 0] [] 511; let s := (wImg 1).withCmd c
     s.starts 0x0106 c ∧ s.wrongWorld c = false ∧ s.ist c.inst = 1 ∧ (s.inst c.inst).started = false ∧ s.rb TN_OP_BUSY = false ∧ s.imgMatch c.inst [] (c.p64 3) = none ∧ sinkOk c = true ∧
     s.imgMatch c.inst (s.imgHeader 511) (c.p64 3) = some []) ∧
    (∀ p ∈ [0, 1], let c := mkC 0x0106 [15, 0, 0, 2 ^ 20, 0] [] 511 3 ⟨2, p, 1, 0, 0, false, []⟩; let s := (wImg 7).withCmd c
     s.startedCmd 0x0106 = none ∧ s.mp.cmds.filter (fun (d : Cmd) => d.op == 0x0106 && d.phase == 3) = [c] ∧ s.ist (s.curCmd c).inst = 7 ∧ (s.curCmd c).lop.cancel = false ∧
     ((s.curCmd c).lop.pos < (s.curCmd c).lop.total ↔ p = 0) ∧ s.imgMatch 511 (s.imgHeader 511) ((s.curCmd c).p64 3) = some [] ∧ s.sinkUp (s.curCmd c) = true ∧
     crc32c (((s.imgHeader 511).drop 64).take (min 65536 (s.imgBody 511))) = ofBytes ((((s.imgHeader 511).drop (64 + s.imgBody 511)).take 132).take 4) ∧
     (let bad := s.imgHeader 511 ++ [1]
      s.imgMatch 511 bad ((s.curCmd c).p64 3) = some [] ∧ crc32c ((bad.drop 64).take (min 65536 (s.imgBody 511))) ≠ ofBytes (((bad.drop (64 + s.imgBody 511)).take 132).take 4))) := by
  refine ⟨?_, ?_, ?_, ?_⟩ <;> (try simp -zeta only [starts_iff]) <;> decide +kernel
/-- The Operator Host's command on instance 0, of `wTab`. -/
def wTabOn (op : Nat) (ps : List Nat) : State := wTab.withCmd (mkC op ps)

theorem witness_ImagesAndMappingsFollowTheirCommands :
    (let c := mkC 0x0108; let s := wOn 0x0108 3 []; s.startsVia .packet 0x0108 (fun _ => true) s (wCmd 0x0108 []) ∧ s.wrongWorld (wCmd 0x0108 []) = false ∧ s.ist 511 ≠ 1 ∧ s.ist 511 ≠ 2 ∧ s.ist 511 ≠ 5 ∧ c.op = 0x0108) ∧
    (let ps := [0x40000000, 0, 0x3000, 0, 0x1000, 0, 0x23]; let c := mkC 0x0108 ps; let s := wTabOn 0x0108 ps
     let tp := c.p64 0; let d := c.p64 2; let n := c.p64 4; let f := c.p 6
     s.startsVia .packet 0x0108 (fun _ => true) s c ∧ s.wrongWorld c = false ∧ s.ist 0 = 2 ∧ tp % 4096 = 0 ∧ d % 4096 = 0 ∧ n % 4096 = 0 ∧ 0 < n ∧ tp + n ≤ 2 ^ 46 ∧ s.tenantBusy 0 (tp / 4096) (n / 4096) = false ∧
     s.plainPages (d / 4096) (n / 4096) = true ∧ (bit f 1 = true → bit f 0 = true) ∧ (s.rb TN_INST_PROTECTED 0 = true → bit f 1 = true → bit f 4 = true) ∧
     (bit f 1 = true → s.writeClash 0 (d / 4096) (n / 4096) (bit f 5) = false) ∧ s.touchesSecure (d / 4096) (n / 4096) = false) ∧
    ((wTabOn 0x0108 [0x40000000, 0, 0x3000, 0, 0x1000, 0, 0x23]).s2Map 0 0x40000 3 1 (0x23 % 32) (mapLevel 0x40000 3 1) false).isSome = true ∧
    (let ps := [0x40000000, 0, 0x1000, 0]; let c := mkC 0x0109 ps; let m : Mapping := ⟨0x40000, 3, 1, 3⟩
     let s := (wTab.setInst 0 (fun r => { r with maps := [m] })).withCmd c
     (wTabOn 0x0109 ps).startsVia .packet 0x0109 (fun _ => true) (wTabOn 0x0109 ps) c ∧ s.wrongWorld c = false ∧ s.ist c.inst = 2 ∧
     (∀ m ∈ ((wTabOn 0x0109 ps).inst c.inst).maps, m.tpage * 4096 ≠ c.p64 0 ∨ m.pages * 4096 ≠ c.p64 2) ∧
     (s.inst c.inst).maps.find? (fun (m : Mapping) => m.tpage * 4096 == c.p64 0 && m.pages * 4096 == c.p64 2) = some m) ∧
    (let ps := [0, 0, 16]; let c := mkC 0x010A ps; let b := wTabOn 0x010A ps; let s : State := { b with mp := { b.mp with busMaster := true } }
     b.startsVia .packet 0x010A (fun _ => true) b c ∧ s.wrongWorld c = false ∧ (s.bufWrite c (c.p64 0) (((s.inst c.inst).maps.take (min (s.inst c.inst).maps.length (c.p 2 / 16))).flatMap Mapping.record)).2 = true) := by
  refine ⟨?_, ?_, ?_, ?_, ?_⟩ <;> (try simp -zeta only [via_iff]) <;> decide +kernel

theorem witness_MailboxesAndQueuesTakeTheirWrites :
    Agent.host ≠ .secure ∧
    (let s := mkS [(TN_INST_STATE, 511, 2), (TN_MBX_SEL_INSTANCE, 0, 511)]; s.powered = true ∧ s.mbxReach (s.rf TN_MBX_SEL_INSTANCE) = true ∧ s.rf IP_MBX_IN_ACK 511 = s.rf IP_MBX_IN_SEQ 511 ∧ (4096 : Nat) ≤ 4096 ∧
     s.ist 511 ≠ 0 ∧ (s.inst 511).outPosted = false ∧ s.rb TN_INST_SECURE 511 = false) ∧
    State.reset.mbxReach (State.reset.rf TN_MBX_SEL_INSTANCE) = false ∧
    (let s := mkS [(TN_INST_STATE, 511, 2), (TN_INST_SECURE, 511, 1)]; s.ist 511 ≠ 0 ∧ s.rb TN_INST_SECURE 511 = true ∧ s.rf IP_MBX_IN_ACK 511 = s.rf IP_MBX_IN_SEQ 511 ∧ (s.inst 511).outPosted = false) ∧
    (let s := (mkS [(TN_INST_STATE, 511, 2)]).setInst 511 (fun r => { r with outPosted := true }); s.ist 511 ≠ 0 ∧ (s.inst 511).outPosted = true) ∧
    bits (4096 * 2 ^ 32 + 1) 44 32 ≤ 4096 ∧ bit (4096 * 2 ^ 32 + 1) 0 = true ∧ bit (4096 * 2 ^ 32) 0 = false ∧
    (∀ q ∈ [qIdx 511 2 0 15, qIdx 0 0 0 0], let s := mkS [(TN_INST_STATE, 511, 2)]; let t := mkS [(TN_INST_STATE, 511, 2), (IP_Q_CFG_EN, q, 1)]; s.rb IP_Q_CFG_EN q = false ∧ t.rb IP_Q_CFG_EN q = true) ∧
    (∀ lg ∈ [4, 16], bit (2 ^ 63 + lg) 63 = true ∧ 4 ≤ bits (2 ^ 63 + lg) 4 0 ∧ bits (2 ^ 63 + lg) 4 0 ≤ 16) ∧
    (let q := qIdx 511 2 0 15; let s := mkS [(TN_INST_STATE, 511, 2), (IP_Q_CFG_LOG2, q, 4)]
     (∀ v ∈ [15, 2 ^ 16], bits v 15 0 < 2 ^ s.rf IP_Q_CFG_LOG2 q ∧ ptrDist (s.qHead q) (ptrPos v 4) 4 ≤ 2 ^ 4) ∧ 2 ^ s.rf IP_Q_CFG_LOG2 q ≤ bits 16 15 0) ∧
    (let q := qIdx 511 2 1 15; let s := (mkS [(TN_INST_STATE, 511, 2), (IP_Q_CFG_LOG2, q, 4)]).wreg rIP_Q_TAIL q 3
     bits 3 15 0 < 2 ^ s.rf IP_Q_CFG_LOG2 q ∧ ptrDist (s.qHead q) (ptrPos 3 4) 4 ≤ s.qFill q ∧ s.qFill q < ptrDist (s.qHead q) (ptrPos 4 4) 4) ∧
    (let s := (mkS [(TN_INST_STATE, 511, 2), (IP_EQ_CFG_LOG2, 511, 6)]).wreg rIP_EQ_TAIL 511 3
     let d := fun (v : Nat) => ptrDist (ptrPos (s.reg rIP_EQ_HEAD 511) 6) (ptrPos v 6) 6
     s.rf IP_EQ_CFG_LOG2 511 = 6 ∧ bits 3 15 0 < 2 ^ 6 ∧ d 3 ≤ d (s.reg rIP_EQ_TAIL 511) ∧ d (s.reg rIP_EQ_TAIL 511) < d 4) ∧
    (∀ i ∈ Map.keys (wInst []).tn.insts, ∀ k, k < 5 → (wInst []).rf TN_BUCKET_RATE (bucketIdx i k) ≠ 0 → (wInst []).rf TN_BUCKET_LEVEL (bucketIdx i k) ≠ 0) := by
  refine ⟨by decide, ?_, ?_, ?_, ?_, ?_, ?_, ?_, ?_, ?_, ?_, ?_, ?_, ?_⟩ <;> decide +kernel

/-- A header of NOP for slot 63 with TAG 7, its reply at an address, and its CRC. -/
def wHdr (reply crc : Nat) : Nat := let b := 2 ^ 24 + 7 * 2 ^ 32 + 0xFFF * 2 ^ 73 + reply * 2 ^ 384; b + (crc32c (toBytes b 60) ^^^ crc) * 2 ^ 480
def wHq (hdr : Nat) : State := let s := mkS [(VT_BOOT_STATE, 0, 1)]; { s with mp := { s.mp with bar2 := Bytes.wrN s.mp.bar2 (0x1000 * 63) 64 hdr } }

theorem witness_PacketsAreAdmittedAndStarted :
    (let s := (wHq 0).sf MP_HQ_FREE_FREE 0; s.powered = true ∧ s.takesPackets = true ∧ bit (s.rf MP_HQ_FREE_FREE) 63 = false) ∧
    (∀ x ∈ [(0, 1, 1), (1, 0, 2), (64, 0, 0)], let s := wHq (wHdr x.1 x.2.1); let h := Bytes.rdN s.mp.bar2 (0x1000 * 63) 64
     s.takesPackets = true ∧ bit (s.rf MP_HQ_FREE_FREE) 63 = true ∧ packetCheck h = x.2.2) ∧
    (let s := mkS [(IP_CMD_CFG_EN, 511, 1), (IP_CMD_STAT_FREE, 511, 7)]; s.rb IP_CMD_CFG_EN 510 = false ∧ s.rb IP_CMD_CFG_EN 511 = true ∧ bit (s.rf IP_CMD_STAT_FREE 511) 3 = false) ∧
    (let s := (wInst [(IP_CMD_CFG_EN, 0, 1), (IP_CMD_STAT_FREE, 0, 15), (IP_CMD_CFG_BASE, 0, 16)]).coWriteN 0x43000 64 (wHdr 64 0)
     s.rb IP_CMD_CFG_EN 0 = true ∧ bit (s.rf IP_CMD_STAT_FREE 0) 3 = true ∧
     (match (s.ioRead (org 0x13 0) 0 (s.gen 0) (s.rf IP_CMD_CFG_BASE 0 * 2 ^ 14 + 0x1000 * 3) 4096).2 with | .ok _ => true | .error _ => false) = true ∧
     (match (s.ioXlat hubUnit (org 0x13 0) 0 (s.gen 0) 0x43000 false).2 with | .ok pa _ => s.coRead pa 64 == wHdr 64 0 | _ => false) = true ∧ packetCheck (wHdr 64 0) = 0) ∧
    (let c := mkC 0 [] [] 0 0; let s := mkO [] c; (s.mp.cmds.filter (fun c => c.entry)).length < 2048 ∧ s.mp.cmds.find? (fun c => c.phase == 0) = some c) ∧
    (∀ x ∈ [(0x0000, 0xFFF, false, true), (0x0105, 0xFFF, true, true), (0x0000, 1, false, false)], let c := { mkC x.1 [] [] 0 1 with gen := x.2.1 }; let s := mkO [(MP_STAT_STATE, 0, 0)] c
     s.rf MP_STAT_STATE = 0 ∧ s.nextCmd = some c ∧ s.urgentAdmit.genOk c.src c = x.2.2.2 ∧ (opInfo c.op).any (fun o => o.long == x.2.2.1) = true ∧
     (s.urgentAdmit.mp.cmds.filter (fun x => decide (2 ≤ x.phase) && (opInfo x.op).any (·.long))).length < 32) ∧
    (let c := { mkC 0x0105 [] [] 0 1 with gen := 0xFFF }; let b := mkO [(MP_STAT_STATE, 0, 0)] c
     let s : State := { b with mp := { b.mp with cmds := c :: (List.range 32).map (fun k => { mkC 0x0308 [] [] (100 + k) 3 with seq := 1 + k, src := 1 + k }) } }
     s.rf MP_STAT_STATE = 0 ∧ s.nextCmd = some c ∧ s.urgentAdmit.genOk c.src c = true ∧ (opInfo c.op).any (fun o => o.long) = true ∧
     32 ≤ (s.urgentAdmit.mp.cmds.filter (fun x => decide (2 ≤ x.phase) && (opInfo x.op).any (·.long))).length) ∧
    (let c := mkC 0x0105 [] [] 0 1; (mkO [] c).mp.cmds.find? (fun c => c.phase == 1 && c.effClass == 2) = some c) ∧
    (let c := mkC 0x0105 [] [] 0 3 ⟨2, 1, 2, 0, 0, false, []⟩; (mkO [] c).mp.cmds.filter (fun (c : Cmd) => c.phase == 3 && c.lop.pos != c.lop.repPos) = [c]) ∧
    (∀ x ∈ [(0xFFF, true), (1, false)], let a : Asm := ⟨{ mkC 0x0401 with gen := x.1 }, 1, 0⟩; let s : State := { State.reset with mp := { State.reset.mp with asms := [a] } }
     s.mp.asms = [a] ∧ (s.dropAsm a.cmd).genOk a.cmd.src a.cmd = x.2) := by
  refine ⟨?_, ?_, ?_, ?_, ?_, ?_, ?_, ?_, ?_, ?_⟩ <;> decide +kernel
theorem witness_SheepdogShedsRestartsAndAnswers :
    (let s := mkS [(MP_STAT_STATE, 0, 0)]; let x := (s.sf MP_LOAD_UTIL 100).sf MP_LOAD_UTIL_MAX (max 100 (s.rf MP_LOAD_UTIL_MAX))
     s.powered = true ∧ x.rf MP_STAT_STATE = 0 ∧ x.rf MP_LOAD_LEVEL = 0 ∧ x.rf MP_CMD_CFG_SHED_PCT < 100 ∧ s.rf MP_STAT_STATE ≠ 2 ∧ s.recoveries (org 0x13 0) < s.rf FC_CFG_RECOV_LIMIT) ∧
    (let s := mkS [(MP_STAT_STATE, 0, 2)]; let x := (s.sf MP_LOAD_UTIL 100).sf MP_LOAD_UTIL_MAX (max 100 (s.rf MP_LOAD_UTIL_MAX)); x.rf MP_STAT_STATE ≠ 0 ∧ s.rf MP_STAT_STATE = 2) ∧
    (let c := mkC 0x0000; (mkO [] c).starts 0x0000 c) ∧
    (∀ k ∈ [0, 0xFFFF], let c := mkC 0x0001 [k, 0]; let d := { mkC 0x0308 [] [] 0 3 with tag := k, seq := 1 }; let s := mkO [] c; let t : State := { s with mp := { s.mp with cmds := [c, d] } }
     (s.startedCmd 0x0001 = some c ∧ (opInfo 0x0001).any (fun o => paramsNamed o c.ps) = true) ∧ bit (c.p 1) 0 = false ∧ (∀ d ∈ s.mp.cmds, d.src ≠ c.src ∨ d.tag ≠ c.p 0 ∨ d.seq = c.seq) ∧
     t.startedCmd 0x0001 = some c ∧ t.mp.cmds.find? (fun d => d.src == c.src && d.tag == c.p 0 && !d.same c) = some d ∧ s.assembling c = none ∧
     (let a : Asm := ⟨{ mkC 0x0401 with tag := k, seq := 1 }, 1, 0⟩; let t : State := { s with mp := { s.mp with asms := [a] } }; t.startedCmd 0x0001 = some c ∧ t.assembling c = some a ∧ t.mp.cmds = s.mp.cmds)) ∧
    (let c := mkC 0x0001 [0, 0x101]; (mkO [] c).starts 0x0001 c ∧ bit (c.p 1) 0 = true ∧ bits (c.p 1) 15 8 = 1) ∧
    (∀ x ∈ [(0, 0x0000), (1, 0x0000), (3, 0x0000)], let c := mkC 0x0002 [5]; let d := { mkC x.2 [] [] 0 x.1 with tag := 5, seq := 1 }; let s := mkO [] c; let t : State := { s with mp := { s.mp with cmds := [c, d] } }
     (s.startedCmd 0x0002 = some c ∧ (opInfo 0x0002).any (fun o => paramsNamed o c.ps) = true) ∧ (∀ d ∈ s.mp.cmds, d.src ≠ c.src ∨ d.tag ≠ c.p 0 ∨ d.seq = c.seq) ∧
     t.startedCmd 0x0002 = some c ∧ t.mp.cmds.find? (fun d => d.src == c.src && d.tag == c.p 0 && !d.same c) = some d ∧ (d.phase < 2 ∨ (2 ≤ d.phase ∧ canCancel d.op = false)) ∧ s.assembling c = none ∧
     (let a : Asm := ⟨{ mkC 0x0401 with tag := 5, seq := 1 }, 1, 0⟩; let t : State := { s with mp := { s.mp with asms := [a] } }; t.startedCmd 0x0002 = some c ∧ t.assembling c = some a ∧ t.mp.cmds = s.mp.cmds)) := by
  refine ⟨?_, ?_, ?_, ?_, ?_, ?_⟩ <;> (try simp -zeta only [starts_iff]) <;> decide +kernel

/-- The module's state after reset with the collector's changed. -/
def wFc (s : State) (f : FcSt → FcSt) : State := { s with fc := f s.fc }

theorem witness_TheCollectorRecordsAndClears :
    (∀ n ∈ [0, 1, 3], let r : Report := { org := org 1 63, cause := 0x0101, cls := n }; let s := wFc State.reset (fun x => { x with held := Map.put x.held 2047 [r] })
     s.powered = true ∧ Map.getD s.fc.held 2047 [] = r :: [] ∧ s.rf FC_PT_STATE 2047 = 0 ∧ (r.cls < 2 ∨ r.cls = 3)) ∧
    (∀ x ∈ [(2, 1, 0), (2, 0, 0), (2, 0, 1)], let r : Report := { org := org 1 63, cause := 0x0101, cls := 2, subj := some (511, x.2.1) }
     let s := wFc (mkS [(TN_INST_STATE, 511, x.1), (TN_INST_PROTECTED, 511, x.2.2), (TW_STAT_STATE, 0, 2), (TW_STAT_ROLE, 0, 1), (TW_STAT_FIT, 0, 1)]) (fun x => { x with held := Map.put x.held 0 [r] })
     let y := ({ s with fc := { s.fc with held := Map.del s.fc.held 0 } } : State).bump rFC_REPORT_CNT 0 r.cnt
     Map.getD s.fc.held 0 [] = r :: [] ∧ s.rf FC_PT_STATE 0 = 0 ∧ (y.gen 511 ≠ x.2.1 ∨ (y.gen 511 = x.2.1 ∧ y.ist 511 ≠ 0 ∧ y.ist 511 ≠ 3 ∧ y.ist 511 ≠ 8 ∧ (y.rb TN_INST_PROTECTED 511 && y.canYield) = decide (x.2.2 = 1)))) ∧
    (let r : Report := { org := org 1 63, cause := 0x0101, cls := 0 }; let w : FoldWin := ⟨org 1 63, none, false, none, 1, none, false, State.reset.newRec r none false, false⟩; let s := wFc State.reset (fun x => { x with wins := [w] })
     s.closeDue.fc.wins.find? (fun (w : FoldWin) => !w.kindWin && w.org == r.org && w.subj == r.subj) = some w ∧ s.fc.wins = [w]) ∧
    (let s := mkS [(FC_PT_UNIT, 2047, org 6 63)]; s.rf FC_PT_STATE 2047 = 0 ∧ s.ptUnit 2047 ≠ 0 ∧ s.recoveries (org 0x16 2047) < s.rf FC_CFG_RECOV_LIMIT) ∧
    (∀ k ∈ [1, 2], let s := mkS [(FC_PT_UNIT, 2047, org 6 63), (FC_PT_STATE, 2047, k)]; s.rf FC_PT_STATE 2047 = k ∧ s.rf FC_PT_STATE 2047 ≠ 0 ∧ s.ptUnit 2047 ≠ 0 ∧ (s.unit (org 0x16 2047)).st ≠ 3) ∧
    (let s := mkS [(FC_STAT_FLT_MODE, 0, 1), (FC_STAT_FLT_ASSERT, 0, 0)]; s.rb FC_STAT_FLT_MODE = true ∧ s.rb FC_STAT_FLT_ASSERT = false ∧ s.fc.selfCheck = false) ∧
    (mkS [(FC_STAT_FLT_MODE, 0, 0)]).rb FC_STAT_FLT_MODE = false ∧
    (let c := mkC 0x0701 [8191, 1, 0, 0]; let s : State := { mkO [] c with mp := { (mkO [] c).mp with busMaster := true } }
     ((mkO [] c).startedCmd 0x0701 = some c ∧ (opInfo 0x0701).any (fun o => paramsNamed o c.ps) = true) ∧ bit (c.p 0) 16 = false ∧ c.p 0 % 2 ^ 13 + c.p 1 ≤ 8192 ∧ (s.bufWrite c (c.p64 2) []).2 = true) ∧
    (let c := mkC 0x0702 [8191, 1]; (mkO [] c).starts 0x0702 c ∧ c.p 0 + c.p 1 ≤ 8192) := by
  refine ⟨?_, ?_, ?_, ?_, ?_, ?_, ?_, ?_, ?_⟩ <;> (try simp -zeta only [starts_iff]) <;> decide +kernel

theorem witness_UnitsReturnOrRetire :
    (∀ u ∈ [org 6 63, org 8 15, org 0xA 3, org 0xB 7], let s := State.reset.setUnit u (fun x => { x with st := 1 })
     s.powered = true ∧ u < 2 ^ 24 ∧ quickUnit u = true ∧ (s.unit u).st = 1 ∧ s.testUnit ≠ some u ∧ ((s.toQuiet u).unitReg u 2).testUnit ≠ some u ∧ (((s.testFailed u 6).retireUnit u).unitReg u 3).testUnit ≠ some u) ∧
    (∀ u ∈ [org 6 63, org 8 15, org 0xA 3, org 0xB 7, org 1 63], let s := State.reset.setUnit u (fun x => { x with st := 2 })
     u < 2 ^ 24 ∧ (s.unit u).st = 2 ∧ (u / 65536 = 6 ∨ u / 65536 = 8 ∨ u / 65536 = 0xA ∨ u / 65536 = 0xB ∨ (u / 65536 = 1 ∧ (s.unit (org 2 (u % 65536 / 4))).st ≠ 2)) ∧ (Map.find s.fc.units u).isSome = true ∧ u / 65536 ≠ 4) ∧
    (let s := State.reset.setUnit (org 4 9) (fun x => { x with returns := [7] }); (Map.find s.fc.units (org 4 9)).isSome = true ∧ org 4 9 / 65536 = 4) ∧
    (∀ x ∈ [(6, 63), (6, 64), (1, 63)], let c := mkC 0x0711 [x.1, x.2]; let s := mkO [(KC_PCS_ROLE, 63, 1), (FC_TEST_BUSY, 0, 0)] c
     s.longCmd 0x0711 = none ∧ (s.startedCmd 0x0711 = some c ∧ (opInfo 0x0711).any (fun o => paramsNamed o c.ps) = true) ∧
     (testRange (c.p 0) (c.p 1) = false ∨ (testRange (c.p 0) (c.p 1) = true ∧ s.testable (c.p 0) (c.p 1) = decide (x.1 = 1) ∧ s.rb FC_TEST_BUSY = false))) ∧
    (∀ b ∈ [true, false], let c := mkC 0x0711 [6, 63] [] 0 3 ⟨0, 0, 0, 0, 0, b, []⟩; let s := mkO [(FC_TEST_BUSY, 0, 1)] c
     s.longCmd 0x0711 = some c ∧ c.lop.cancel = b ∧ (s.unit (testOrg (c.p 0) (c.p 1))).st ≠ 1) := by
  refine ⟨?_, ?_, ?_, ?_, ?_⟩ <;> decide +kernel
/-- Registers set, and twin operation's state changed. -/
def wTw (l : List (RF × Nat × Nat)) (f : TwSt → TwSt) : State := { mkS l with tw := f (mkS l).tw }
/-- A Goose frame whose SEQ is n. -/
def wGoose (n : Nat) : List Byte :=
  let b := toBytes 0x00009200 4 ++ toBytes n 4 ++ List.replicate 20 0
  (b ++ toBytes (crc32c b) 4).map (fun x => BitVec.ofNat 8 x)

theorem witness_GooseClaimsAndLinkFollowTheirInputs :
    (∀ n ∈ [0, 1], let s := mkS [(TW_STAT_STATE, 0, 4), (TW_STAT_LANES, 0, n)]; let x := s.fitCheck; let y : State := { x with tw := { x.tw with seqOut := (x.tw.seqOut + 1) % 2 ^ 32 } }
     s.powered = true ∧ s.rf TW_STAT_STATE ≠ 0 ∧ (y.rf TW_STAT_LANES = 0 ↔ n = 0)) ∧
    (mkS [(TW_STAT_STATE, 0, 0)]).rf TW_STAT_STATE = 0 ∧
    (let b := byteNats (List.replicate 32 (1 : Byte)); crc32c (b.take 28) ≠ ofBytes ((b.drop 0x1C).take 4)) ∧
    (let s := wTw [] (fun x => { x with seqIn := [(0, 7)] }); let b := byteNats (wGoose 6); Map.find s.tw.seqIn (b2n false) = some 7 ∧ 2 ^ 31 ≤ (ofBytes ((b.drop 4).take 4) + 2 ^ 32 - 7) % 2 ^ 32) ∧
    (let s := wTw [(TW_STAT_STATE, 0, 2), (TW_STAT_GOOSE_LINK, 0, 1), (TW_STAT_GOOSE_SB, 0, 1)] (fun x => { x with seqIn := [(0, 7), (1, 7)] }); let b := byteNats (wGoose 8)
     (∀ p ∈ [true, false], let y : State := { s with tw := { s.tw with seqIn := Map.put s.tw.seqIn (b2n p) 8 } }
      Map.find s.tw.seqIn (b2n p) = some 7 ∧ s.rb (if p then TW_STAT_GOOSE_LINK else TW_STAT_GOOSE_SB) = true ∧ y.rb (if p then TW_STAT_GOOSE_LINK else TW_STAT_GOOSE_SB) = true ∧
      (let x := (((s.sf (if p then TW_STAT_GOOSE_LINK else TW_STAT_GOOSE_SB) 0).raise 0x341).bump rTW_GOOSE_MISS 0 2).twRec 0x1103 ochre (b2n p)
       let z : State := { x with tw := { x.tw with seqIn := Map.del x.tw.seqIn (b2n p) } }; (z.rb TW_STAT_GOOSE_LINK || z.rb TW_STAT_GOOSE_SB) = true)) ∧
     s.rf TW_STAT_STATE ≠ 0 ∧ b.length = 32 ∧ crc32c (b.take 28) = ofBytes ((b.drop 0x1C).take 4) ∧ (ofBytes ((b.drop 4).take 4) + 2 ^ 32 - 7) % 2 ^ 32 = 1) ∧
    (let s := mkS [(TW_STAT_GOOSE_LINK, 0, 0), (TW_STAT_GOOSE_SB, 0, 0)]; s.rb TW_STAT_GOOSE_LINK = false ∧ s.rb TW_STAT_GOOSE_SB = false ∧ s.tw.strap = false) ∧
    (∀ x ∈ [(1, false), (0, false), (0, true)], let s := wTw [(TW_STAT_CLAIM, 0, x.1)] (fun t => { t with strap := true, train := x.2 }); let g := (s.sf TW_STAT_GATE 0).sf TW_STAT_PEER_EDGE 1
     let y : State := { g with tw := { g.tw with edgeAt := s.now } }
     s.tw.strap = true ∧ s.rb TW_STAT_CLAIM = decide (x.1 = 1) ∧ y.tw.train = x.2) ∧
    (∀ t ∈ [false, true], let s := wTw [(TW_STAT_ROLE, 0, 1)] (fun x => { x with strap := true, train := true, taking := t })
     s.tw.strap = true ∧ s.tw.train = true ∧ s.isStandby = false ∧ s.isSable = false ∧ (((s.sf TW_STAT_PEER_EDGE 0).sf TW_STAT_CLAIM 1).sf TW_STAT_GATE 1).tw.taking = t) ∧
    (let s := wTw [(TW_STAT_STATE, 0, 0), (VT_BOOT_STATE, 0, 1)] (fun x => { x with strap := true, train := false }); s.tw.strap = true ∧ s.tw.train = false ∧ s.isSable = false ∧ s.rf TW_STAT_STATE = 0 ∧ s.takesPackets = true) ∧
    (let s := mkS [(TW_STAT_STATE, 0, 2), (TW_STAT_ROLE, 0, 2)]; s.isStandby = true ∧ s.tw.want = false ∧ s.rf TW_STAT_STATE ≠ 0) ∧
    (∀ l, l < 4 → let s := wTw [] (fun x => { x with lanes := 15 }); bit s.tw.lanes l = true ∧ ((s.setLanes (setBit s.tw.lanes l false)).twRec 0x1101 ochre l).tw.lanes ≠ 0 ∧ s.tw.lanes ≠ 0 ∧ bit State.reset.tw.lanes l = false ∧
      (State.reset.setLanes (setBit State.reset.tw.lanes l true)).tw.lanes ≠ 0 ∧ State.reset.tw.lanes = 0 ∧
      (let o := wTw [] (fun x => { x with lanes := 2 ^ l }); bit o.tw.lanes l = true ∧ ((o.setLanes (setBit o.tw.lanes l false)).twRec 0x1101 ochre l).tw.lanes = 0) ∧
      (let o := wTw [] (fun x => { x with lanes := 15 - 2 ^ l }); bit o.tw.lanes l = false ∧ (o.setLanes (setBit o.tw.lanes l true)).tw.lanes ≠ 0 ∧ o.tw.lanes ≠ 0)) ∧
    (∀ n ∈ [1, 2, 3], let s := wTw [(TW_STAT_STATE, 0, n)] (fun x => { x with lanes := 1 }); s.tw.lanes ≠ 0 ∧ ((s.setLanes 0).twRec 0x1102 ochre 0).rf TW_STAT_STATE = n) ∧
    (∀ b ∈ [true, false], let s := wTw [(TW_STAT_STATE, 0, 3), (TW_CFG_AUTO_RESUME, 0, 1)] (fun x => { x with byLoss := b }); let y := s.setLanes (2 ^ 4 - 1)
     s.tw.lanes = 0 ∧ y.rf TW_STAT_STATE = 3 ∧ y.tw.byLoss = b ∧ y.rb TW_CFG_AUTO_RESUME = true) := by
  refine ⟨?_, ?_, ?_, ?_, ?_, ?_, ?_, ?_, ?_, ?_, ?_, ?_, ?_⟩ <;> decide +kernel

theorem witness_EpochsAreSentWrittenAndReleased :
    (let s := mkS [(TW_STAT_STATE, 0, 2), (TW_STAT_ROLE, 0, 1)]
     s.powered = true ∧ s.rf TW_STAT_ROLE = 1 ∧ s.epochsOn = true ∧ s.isSable = false ∧ s.recorded = [] ∧ (∀ p, p < 32 → s.rf FR_STAT_ROLE p ≠ 2) ∧ s.tn.insts = [] ∧ s.sg.slots = [] ∧ s.cy.slots = []) ∧
    State.reset.rf TW_STAT_ROLE ≠ 1 ∧
    (∀ n ∈ [0, 1], let s : State := { wTw [(TW_STAT_STATE, 0, 2), (TW_STAT_ROLE, 0, 1), (TW_STAT_LANES, 0, 0)] id with recorded := (List.range n) }
     s.isActiveRunning = true ∧ s.tw.stretch = false ∧ (s.rf TW_STAT_LANES * 3750 < s.recorded.length ↔ n = 1)) ∧
    (∀ x ∈ [(2, false), (2, true), (1, false)], let e : Epoch := ⟨1, 0, 0, [], [], [], [], [], [], [], []⟩; let s := wTw [(TW_STAT_STATE, 0, x.1), (TW_STAT_ROLE, 0, 2), (TW_SYNC_PHASE, 0, 6)] (fun t => { t with asked := x.2 })
     let y := ((s.standbyLines e.lines).bwBytes 0x31 (73 * e.lines.length)).each e.ctrs (fun s x => s.setSlot x.1.toNat (fun k => { k with ctr := x.2, acked := x.2 }))
     let z : State := { y with tw := { y.tw with hold := some { e with lines := [] }, asked := false } }
     s.isStandby = true ∧ s.epochsOn = true ∧ e.number = s.rf TW_ACKED_EPOCH + 1 ∧ (s.twRec 0x110A slate e.number).tw.asked = x.2 ∧
     (((z.sf TW_ACKED_EPOCH e.number).sf TW_EPOCH_NUMBER (e.number + 1)).emit (.twin 4 (toBytes e.number 8))).isRunning = decide (x.1 = 2)) ∧
    (∀ n ∈ [2, 1], let s := (wTw [(TW_STAT_STATE, 0, n), (TW_STAT_ROLE, 0, 1), (TW_SYNC_PHASE, 0, 6)] (fun t => { t with cuts := [(1, 0, [])] })).linkFrames 255
     let x := (s.sf TW_ACKED_EPOCH 1).sf TW_ACKED_ACK_US (satN 16 ((s.now - 0) / 1000))
     let z : State := { x with tw := { x.tw with cuts := x.tw.cuts.filter (fun (x : Nat × Nat × List (Nat × Nat)) => decide (1 < x.1)) } }
     s.rf TW_STAT_ROLE = 1 ∧ s.epochsOn = true ∧ s.rf TW_ACKED_EPOCH < 1 ∧ s.tw.cuts.find? (fun (x : Nat × Nat × List (Nat × Nat)) => x.1 == 1) = some (1, 0, []) ∧
     (z.when (!z.isSable) (fun s => s.releaseStaged (fun x => decide ((1 % 65536 + 65536 - x) % 65536 < 32768)))).isRunning = decide (n = 2)) ∧
    (0 ≤ (State.reset.linkFrames 255).rf TW_ACKED_EPOCH ∧ State.reset.isStandby = false) ∧
    (let t := Txn.fresh 5 0 (.ring 0 0); let b := mkS [(TW_STAT_ROLE, 0, 2)]; let s : State := { b with ch := { b.ch with txns := [t] } }; let e : JEnt := ⟨0, 1, 5, some t, true⟩
     s.isStandby = true ∧ (1023 : Nat) < 1024 ∧ e.txn = some t ∧ e.kind ≠ 7 ∧ s.ch.txns.any (fun (x : Txn) => x.tid == e.tid) = true ∧ viaJournal.contains 0x0201 = false) ∧
    (∀ n ∈ [0, 1], let b := wTw [(TW_STAT_STATE, 0, 2), (TW_STAT_ROLE, 0, 2)] (fun x => { x with streak := Map.set x.streak 0 31 n }); let s : State := { b with sg := { b.sg with pairs := Map.put b.sg.pairs 31 [(9, 40), (5, 2 ^ 64 - 2)] } }
     s.isStandby = true ∧ s.isRunning = true ∧ (Map.getD s.sg.pairs 31 []).find? (fun (y : Nat × Nat) => y.1 == 9) = some (9, 40) ∧
     (Map.getD s.sg.pairs 31 []).find? (fun (y : Nat × Nat) => y.1 == 9 - 4) = some (9 - 4, 2 ^ 64 - 2) ∧ (40 + 2 ^ 64 - (2 ^ 64 - 2)) % 2 ^ 64 = 42 ∧ (40 + 2 ^ 64 - (2 ^ 64 - 2)) % 2 ^ 64 ≠ 43 ∧
     Map.getD s.tw.streak 31 0 = n) := by
  refine ⟨?_, ?_, ?_, ?_, ?_, ?_, ?_, ?_⟩ <;> decide +kernel

theorem witness_PairsFormSwitchAndTakeOver :
    (∀ x ∈ [(2, 1000, true), (0, 249, true), (0, 10001, true), (0, 250, true), (0, 10000, true), (0, 250, false)], let c := mkC 0x0901 [0, x.2.1]
     let s := (wTw [(TW_STAT_STATE, 0, x.1), (TW_STAT_LANES, 0, 4)] (fun t => { t with strap := true })).withCmd c; let f : PeerFacts := ⟨x.2.2, true, true, true, true⟩
     s.powered = true ∧ s.startedCmd 0x0901 (fun c => c.p 0 % 4 == 0) = some c ∧ (opInfo 0x0901).any (fun o => paramsNamed o c.ps) = true ∧
     (s.rf TW_STAT_STATE ≠ 0 ∨ (s.rf TW_STAT_STATE = 0 ∧ (c.p 1 < 250 ∨ 10000 < c.p 1 ∨ (s.pairFails f (c.p 1) = 0 ↔ x.2.2 = true))))) ∧
    State.reset.rf TW_STAT_STATE ≠ 1 ∧
    (∀ k ∈ [1, 2, 3], ∀ n ∈ [0, 2, 3, 4], let c := mkC 0x0901 [k, 0]; let s := mkO [(TW_STAT_STATE, 0, n)] c
     s.startedCmd 0x0901 (fun c => c.p 0 % 4 == k) = some c ∧ (opInfo 0x0901).any (fun o => paramsNamed o c.ps) = true ∧ s.rf TW_STAT_STATE = n) ∧
    (∀ x ∈ [(0, 0), (2, 0), (2, 1)], let c := mkC 0x0902 []; let s := mkO [(TW_STAT_STATE, 0, x.1), (TW_STAT_FIT, 0, x.2)] c
     s.tw.switch = none ∧ (s.startedCmd 0x0902 = some c ∧ (opInfo 0x0902).any (fun o => paramsNamed o c.ps) = true) ∧ s.isStandby = false ∧ (s.isRunning && s.rb TW_STAT_FIT) = decide (x = (2, 1))) ∧
    (∀ n ∈ [5, 4], let c := mkC 0x0902 []; let s := (wTw [(TW_STAT_STATE, 0, 2), (TW_STAT_ROLE, 0, 1), (TW_STAT_FIT, 0, 1), (TW_ACKED_EPOCH, 0, n)] (fun t => { t with switch := some 5 })).withCmd c
     s.tw.switch = some 5 ∧ s.isActiveRunning = true ∧ s.canYield = true ∧ (s.rf TW_ACKED_EPOCH < 5 ↔ n = 4) ∧ (s.yieldNow.startedCmd 0x0902 = some c ∧ (opInfo 0x0902).any (fun o => paramsNamed o c.ps) = true)) ∧
    (State.reset.yieldReq = false ∧ State.reset.isStandby = false ∧ (∀ n ∈ [0, 1], let s : State := { mkS [(TW_STAT_STATE, 0, 2), (TW_STAT_ROLE, 0, 1), (TW_STAT_FIT, 0, n)] with yieldReq := true, yieldFor := [none, some (511, 0)] }
     let y : State := { s with yieldReq := false, yieldFor := [] }
     s.yieldReq = true ∧ y.canYield = decide (n = 1))) ∧
    (let s := wTw [(TW_STAT_STATE, 0, 2), (TW_STAT_ROLE, 0, 2)] (fun t => { t with peerYield := true })
     s.isStandby = true ∧ s.isSable = false ∧ s.rf TW_STAT_STATE = 2 ∧ s.tw.peerYield = true ∧ s.tw.hold = none ∧ s.ch.txns = [] ∧ s.tn.insts = [] ∧ s.leases = []) := by
  refine ⟨?_, ?_, ?_, ?_, ?_, ?_, ?_⟩ <;> decide +kernel
/-- A held lease with a recall under way. -/
def wLease : Lease := ⟨31, 3, 1, 512, [7], [], [], some 10000000, some 0, false⟩
def wBoot (ok up : Bool) : BootEnv := ⟨none, ok, none, List.replicate (if up then 10 else 7) [⟨1, false, 1, true, false⟩] ++ List.replicate (if up then 0 else 3) [], 2 ^ 10 - 1, up, 0, .silent, 5, none, [], []⟩

theorem witness_VaultReportsGranulesAndTokens :
    (let s := mkS [(MA_CAP_USABLE_GIB, 0, 64)]; s.powered = true ∧ s.granMapped 0 = false ∧ s.secGran.contains 0 = false ∧ (0 + 1) * 2 ^ 21 ≤ s.fwBase ∧ s.fwBase < (2 ^ 21 - 1 + 1) * 2 ^ 21) ∧
    (let s : State := { State.reset with secGran := [5] }; s.secGran.contains 5 = true ∧ s.secGran.contains 4 = false) ∧
    (let s : State := { State.reset with leases := [wLease] }; s.leases.find? (fun (l : Lease) => l.idx == 31 && l.deadline.isSome) = some wLease ∧ 0 < wLease.holder ∧ wLease.holder ≤ 512 ∧ (∀ l ∈ s.leases, l.idx ≠ 30 ∨ l.deadline = none)) ∧
    (mkS [(VT_DEBUG_LOCKED, 0, 1)]).rb VT_DEBUG_LOCKED = true ∧
    (let t := List.replicate 224 (0 : Byte); let b := byteNats t; let s := mkS [(VT_DEBUG_LOCKED, 0, 0)]; s.rb VT_DEBUG_LOCKED = false ∧ t.length = 224 ∧ b.getD 0 0 % 16 = 0 ∧ s.vt.challenge = none) ∧
    (let t := List.replicate 224 (3 : Byte); let b := byteNats t; let s : State := { mkS [(VT_DEBUG_LOCKED, 0, 0), (VT_KEYS_DBG_OWNER, 0, 0), (VT_KEYS_DBG_OLINEL, 0, 0)] with vt := { State.reset.vt with challenge := some [] } }
     s.rb VT_DEBUG_LOCKED = false ∧ t.length = 224 ∧ b.getD 0 0 % 16 ≠ 0 ∧ s.vt.challenge = some [] ∧ (if bit (b.getD 1 0) 0 then s.rb VT_KEYS_DBG_OLINEL else s.rb VT_KEYS_DBG_OWNER) ≠ true) := by
  refine ⟨?_, ?_, ?_, ?_, ?_, ?_⟩ <;> decide +kernel

/-- A slot that boots needs a section whose key hash is the fused one (an opaque of Config), so the sections that it gives are taken as they may be; the last three clauses split on the state that those sections lead to. -/
theorem witness_BootStopsByCodeAndStagingTakesBlocks :
    (∀ n ∈ [0, 1], let s := mkS [(VT_BOOT_STATE, 0, n)]; s.powered = true ∧ s.rf VT_BOOT_STATE = n) ∧
    (∀ x ∈ [(0, 0), (1, 3), (1, 0), (2, 0)], let y := (mkS [(VT_BOOT_STATE, 0, 0), (VT_STAT_LIFECYCLE, 0, x.1), (VT_BOOT_BOOT_SRC, 0, x.2)]).sf VT_BOOT_ELAPSED_MS 5
     y.rf VT_STAT_LIFECYCLE = x.1 ∧ y.rf VT_BOOT_BOOT_SRC = x.2 ∧ (match y.pickSlot with | .error e => e.1 == 1 | .ok _ => false) = true) ∧
    (let env := wBoot true true; let z := (((mkS [(VT_BOOT_STATE, 0, 0), (VT_STAT_LIFECYCLE, 0, 1)]).useSections 0 false ⟨1, 2, 0, false, []⟩ none).bootStaging env.stage).sf VT_BOOT_STEP 4
     let pop : Population := ⟨1, 48, false, 2⟩; let few := { env with trains := 127 }
     env.vaultOk = true ∧ sharedPop (wBoot true false).dimms = none ∧ sharedPop env.dimms = some pop ∧ (z.bootMemory env pop).notUp ≤ 2 ∧ env.hbm = true ∧ 2 < (z.bootMemory few pop).notUp) ∧
    (∀ x ∈ [(0, 1, 0), (1, 0, 0), (1, 2 ^ 24 + 1, 0), (2, 65537, 0), (1, 2 ^ 24, 1), (1, 1, 0)], let c := mkC 0x0A01 [x.1, 0, 0, x.2.1]; let s := mkO [(VT_STAGE_BUSY, 0, x.2.2)] c
     (s.startedCmd 0x0A01 = some c ∧ (opInfo 0x0A01).any (fun o => paramsNamed o c.ps) = true) ∧
     ((c.p 0 % 16 ≠ 1 ∧ c.p 0 % 16 ≠ 2) ∨ c.p 3 = 0 ∨ (if c.p 0 % 16 = 1 then 2 ^ 24 else 65536) < c.p 3 ∨ (c.p 0 % 16 = 1 ∧ 0 < c.p 3 ∧ c.p 3 ≤ 2 ^ 24 ∧ s.rb VT_STAGE_BUSY = decide (x.2.2 = 1)))) ∧
    (∀ b ∈ [true, false], let e := mkC 0x0A01 [1, 0, 0, 65537] [] 0 3 ⟨0, 0, 65537, 0, 0, b, []⟩; let s := mkO [] e; let c := s.curCmd e
     s.startedCmd 0x0A01 = none ∧ s.mp.cmds.filter (fun (d : Cmd) => d.op == 0x0A01 && d.phase == 3) = [e] ∧ c.lop.cancel = b ∧ s.vt.staged.length + 65536 < c.lop.total) := by
  refine ⟨?_, ?_, ?_, ?_, ?_⟩ <;> decide +kernel

theorem witness_ResetsKeepAndDiscardState :
    (State.reset.powered = true ∧ State.reset.ch.ring.length < ringSize ∧ State.reset.rf VT_BOOT_STATE ≠ 1 ∧ State.reset.rf VT_BOOT_STATE ≠ 3) ∧
    (let s := State.reset.setUnit (org 1 5) (fun u => { u with st := 3 }); (Map.find s.fc.units (org 1 5)).any (fun n => n.st == 3) = true ∧ org 1 5 ≠ org 0x13 0) ∧
    (let s := mkS [(VT_BOOT_STATE, 0, 1), (MP_STAT_STATE, 0, 0)]; let x := (s.report { org := org 0x10 0, cause := 0x1004, cls := slate }).dropHostCmds
     let y := ((x.wreg rCH_HOST_CQ_CFG 0 (rCH_HOST_CQ_CFG.resetVal 0)).wreg rCH_HOST_CQ_TAIL 0 0).wreg rCH_HOST_CQ_HEAD 0 0
     s.rf VT_BOOT_STATE = 1 ∧ y.isSable = false ∧ (((y.sf CH_STAT_JOURNAL 1).sf CH_REPLAY_TRIGGER 2).replay []).rf MP_STAT_STATE ≠ 2) ∧
    (State.reset.vt.pwrFail = false ∧ ({ State.reset with vt := { State.reset.vt with pwrFail := true } } : State).vt.pwrFail = true) := by
  refine ⟨?_, ?_, ?_, ?_⟩ <;> decide +kernel

theorem witness_CoresSleepWithinTheirLimits :
    (let s := mkS [(KC_PCS_ROLE, 63, 0), (KC_PCS_POWER, 63, 0), (KC_SPARE_STAT_BUSY, 3, 0)]; s.powered = true ∧ s.coreIdle 63 = true ∧ 3 ≤ s.coreLimit 63 ∧ s.rf KC_PCS_POWER 63 < 1) ∧
    (mkS [(KC_PCS_ROLE, 63, 1)]).coreIdle 63 = false ∧
    ((wRun []).rf KC_PCS_ROLE 0 = 0 ∧ (wRun []).runnable 0 0 = true ∧ (∀ e, e < 64 → (mkS [(KC_PCS_ROLE, 63, 0)]).runnable 63 e = false) ∧ (∀ e, e < 64 → (mkS [(KC_PCS_ROLE, 63, 0)]).disp 63 e = none)) ∧
    (let s := (wRun []).setVc 0 (fun k => { (k.setCr 0x10 1).setCr 0x12 (2 ^ 64 - 1) with wfi := true }); let t := (wRun []).setVc 0 (fun k => { (k.setCr 0x10 1).setCr 0x12 20 with wfi := true })
     s.disp 0 0 = some (0, 0) ∧ s.vcRuns 0 0 = true ∧ (s.vc (vkey 0 0)).wfi = true ∧ bit ((s.vc (vkey 0 0)).getCr 0x10) 0 = true ∧ (t.setPower 0 3).rf KC_PCS_ROLE 0 = 0 ∧
     (t.setPower 0 3).disp 0 0 = some (0, 0) ∧ ((t.setPower 0 3).vc (vkey 0 0)).getCr 0x12 ≤ (t.setPower 0 3).now + wakeLat ((t.setPower 0 3).rf KC_PCS_POWER 0)) ∧
    (∀ k ∈ [2, 0x80], let c := mkC 0x0201 [k, 3000] [] 511; let s := mkO [(TN_INST_STATE, 511, 2), (TN_INST_VCORES, 511, 1)] c
     (s.startedCmd 0x0201 = some c ∧ (opInfo 0x0201).any (fun o => paramsNamed o c.ps) = true) ∧ s.wrongWorld c = false ∧ s.ist c.inst ≠ 0 ∧ s.ist c.inst ≠ 8 ∧ (c.p 0 = 0x80 ∨ s.rf TN_INST_VCORES c.inst < c.p 0)) ∧
    (∀ k ∈ [0, 2, 3], let c := mkC 0x0202 [k, 63]; (mkO [] c).startedCmd 0x0202 = some c ∧ (opInfo 0x0202).any (fun o => paramsNamed o c.ps) = true ∧ c.sender = 0) ∧
    (let c := { mkC 0x0202 [0, 0] with src := 1 }; (mkO [] c).startedCmd 0x0202 = some c ∧ (opInfo 0x0202).any (fun o => paramsNamed o c.ps) = true ∧ c.sender ≠ 0) ∧
    (∀ k ∈ [0, 1], let c := mkC 0x0710 [k, 0, 0, 2672]; let s : State := { mkO [] c with mp := { (mkO [] c).mp with busMaster := true } }
     (s.startedCmd 0x0710 = some c ∧ (opInfo 0x0710).any (fun o => paramsNamed o c.ps) = true) ∧ c.p 0 = k ∧ 2672 ≤ c.p 3 ∧ (s.bufWrite c (c.p64 1) []).2 = true) ∧
    (let c := mkC 0x0801; (mkO [] c).startedCmd 0x0801 = some c ∧ (opInfo 0x0801).any (fun o => paramsNamed o c.ps) = true) := by
  refine ⟨?_, ?_, ?_, ?_, ?_, ?_, ?_, ?_, ?_⟩ <;> decide +kernel

theorem witness_IslandsThrottleAgeAndPark :
    (let s := mkS [(MA_CAP_USABLE_GIB, 0, 64), (MA_CH_STAT_RANKS, 0, 8), (MA_REBUILD_BUSY, 0, 0)]; s.powered = true ∧ s.srPermit 0 = true ∧ bit (s.rf IS_MEM_SR_ACTIVE) 0 = false ∧ s.srPermit 7 = false) ∧
    (∀ mw ∈ [0, 2 ^ 32 - 1], let x := (((((State.reset.sf IS_STAT_POWER_MW mw).sf IS_THERM_CT0 0).sf IS_THERM_CT1 0).sf IS_THERM_CT2 0).sf IS_THERM_CT3 0).sf IS_THERM_HUB 0
     let calm := decide (mw * 100 ≤ x.rf IS_CFG_PWR_LIMIT_W * 95000); let y : State := { x with pw := { x.pw with rails := [], cool := if calm then x.pw.cool + 1 else 0 } }
     (y.hotLevel = 0 ↔ mw = 0) ∧ y.pw.steps = []) ∧
    (let s : State := { mkS [(IS_STAT_POWER_MW, 0, 0)] with pw := { State.reset.pw with steps := [(0, 1)], cool := 99 } }; s.hotLevel = 0 ∧ s.pw.cool < 100 ∧ s.pw.steps ≠ []) ∧
    (∀ k ∈ [2, 1, 0], let s := mkS [(IS_STAT_POWER_MW, 0, 2 ^ 32 - 1), (TN_DISP_VALID, 0, 1), (TN_INST_CLASS, 0, k)]; let lowers := fun (k : Nat) => (List.range 64).filter (fun c => s.coreClass c == some k && decide (s.isleSteps c < 26))
     s.hotLevel ≠ 0 ∧ lowers k ≠ [] ∧ (∀ j, j < 3 → k < j → lowers j = [])) ∧
    (∀ k ∈ [0, 1], (mkS [(IS_ISL_CTL_RESULT, 166, k)]).rf IS_ISL_CTL_RESULT 166 = k) ∧
    (let s := mkS [(IS_ISL_CTL_RESULT, 166, 0)]; let x := s.report { org := org 0x18 166, cause := 0x1806, cls := slate }; isleKind 166 ≠ 1 ∧ isleKind 166 ≠ 0xB ∧ isleKind 166 ≠ 0xC ∧ x.isleLeased 166 = false) ∧
    (∀ n ∈ [0, 3], let s := ((List.range n).foldl (fun s k => s.setUnit (org 0xA k) (fun u => { u with st := 3 })) (mkS [])); let x := s.report { org := org 0x18 128, cause := 0x1806, cls := slate }
     s.rf IS_ISL_CTL_RESULT 128 ≠ 1 ∧ isleKind 128 = 0xB ∧ x.isleLeased 128 = false ∧ x.rb IS_ISL_STAT_PARKED 128 = false ∧ (x.unit (org 0xA 3)).st = 0) ∧
    (let s := mkS [(IS_ISL_STAT_PARKED, 128, 1)]; (s.report { org := org 0x18 128, cause := 0x1806, cls := slate }).rb IS_ISL_STAT_PARKED 128 = true) ∧
    (isleKind 63 = 1 ∧ isleKind 118 = 7 ∧ isleKind 96 = 4 ∧ isleKind 119 = 8 ∧ isleKind 157 = 0x14) := by
  refine ⟨?_, ?_, ?_, ?_, ?_, ?_, ?_, ?_, ?_⟩ <;> decide +kernel
theorem witness_DeviceTimeAndMonitorsFollowTheirInputs :
    (∀ n ∈ [2, 1], let s := mkS [(TM_CFG_SOURCE, 0, n)]; let x := s.refSeen true; s.powered = true ∧ x.usesPps = decide (n = 2) ∧ sextInt 64 (2 ^ 64 - 1) % 1000000000 ≠ 0) ∧
    ((0 : Int) < 2 ^ 60 ∧ (State.reset.rf TM_CFG_STEP_MS : Int) * 1000000 < 2 ^ 60) ∧ (4 < 15 ∧ 2 ≤ 4) ∧
    (∀ f ∈ [0, 1], ∀ k ∈ [1, 3], let s := mkS [(TM_CFG_PPS_IN_FALL, 0, f), (TM_CFG_SOURCE, 0, k)]; let x := s.refSeen false; let y := x.wreg rTM_PPS_IN 0 x.now
     x.rb TM_CFG_PPS_IN_FALL = decide (f = 1) ∧ (k = 1 → y.usesPps = false ∧ (y.srcFlag TM_STAT_PPS_OK true).usesPps = false)) ∧
    (∀ x ∈ [(0, 2), (1, 3), (2, 4)], ∀ st ∈ [1, 2], let s := mkS [(TM_CFG_SOURCE, 0, x.2), (TM_STAT_STATE, 0, st)]; let f := match x.1 with | 0 => TM_STAT_PPS_OK | 1 => TM_STAT_REFCLK_OK | _ => TM_STAT_PTP_OK
     (match x.1 with | 0 => s.usesPps | 1 => s.usesRef | _ => s.usesPtp) = true ∧ (s.srcFlag f false).rf TM_STAT_STATE = st ∧
     (match x.1 with | 0 => State.reset.usesPps | 1 => State.reset.usesRef | _ => State.reset.usesPtp) = false) ∧
    (let s := mkS [(TM_PPS_OUT_EN, 0, 1), (TM_STAT_STATE, 0, 2)]; s.rb TM_PPS_OUT_EN = true ∧ 2 ≤ s.rf TM_STAT_STATE ∧ (mkS [(TM_PPS_OUT_EN, 0, 0)]).rb TM_PPS_OUT_EN = false) ∧
    (let s := mkS [(PM_SNAP_STAT_COUNT, 0, 1)]; s.rf PM_SNAP_STAT_COUNT ≠ 0 ∧ s.now < s.reg rPM_SNAP_TIME 0 + 1000 ∧ State.reset.rf PM_SNAP_STAT_COUNT = 0) ∧
    (∀ n ∈ [0, 1], (mkS [(PM_CTL_PIN_EN, 0, n)]).rb PM_CTL_PIN_EN = decide (n = 1) ∧ (mkS [(PM_CTL_FROZEN, 0, n)]).rb PM_CTL_FROZEN = decide (n = 1)) ∧
    (let b := mkS [(PM_CTL_FROZEN, 0, 0), (PM_BW_CFG_EN, 15, 1)]; let s : State := { b with pw := { b.pw with bw := Map.put b.pw.bw 15 640 } }; s.rb PM_CTL_FROZEN = false ∧ s.rb PM_BW_CFG_EN 15 = true ∧ Map.find s.pw.bw 15 = some 640) := by
  refine ⟨?_, ?_, ?_, ?_, ?_, ?_, ?_, ?_, ?_⟩ <;> decide +kernel

/-- A UDP datagram of two bytes from 10.0.0.1 port 0x1234 to 10.0.0.2 port 0x5678 in a frame, and the definition of the NET channel of port 3 that it fits. -/
def wFrame : List Nat := [2, 0, 0, 0, 0, 1, 2, 0, 0, 0, 0, 2, 8, 0, 69, 0, 0, 30, 0, 0, 0, 0, 64, 17, 102, 205, 10, 0, 0, 1, 10, 0, 0, 2, 18, 52, 86, 120, 0, 10, 124, 35, 7, 8]
def wNet : Nat := 2 * 2 ^ 12 + 3 * 2 ^ 32 + 0x12345678 * 2 ^ 64 + 0x0200000A * 2 ^ 128 + 0x0100000A * 2 ^ 256
def wNetOn : State := let b := mkS [(NT_CFG_EN, 3, 1), (NT_STAT_LINK, 3, 1), (CH_CHAN_STATE, 1023, 1)]; { b with ch := { b.ch with defs := Map.put b.ch.defs 1023 wNet } }

theorem witness_PortsFollowTheirLinksAndFrames :
    (State.reset.powered = true ∧ State.reset.rb NT_STAT_LINK 3 = false) ∧
    (wNetOn.rb NT_CFG_EN 3 = true ∧ wNetOn.rb NT_STAT_LINK 3 = true) ∧
    (let f := parseEth wFrame; let x := (wNetOn.bump rNT_RX_CNT 3).bwBytes (0x24 + 3) wFrame.length
     14 ≤ wFrame.length ∧ wFrame.length ≤ 9022 ∧ isPtp f = false ∧ f.tag = none ∧ (parseArp f).isNone = true ∧ (parseUdp f).any (fun p => p == (false, [10, 0, 0, 1], [10, 0, 0, 2], 0x1234, 0x5678, [7, 8])) = true ∧
     (x.netChans 3).find? (fun c => let d := x.cdef c
       tagFits d none && dfld d 4 2 2 == b2n false && chanAddr d 0x10 == [10, 0, 0, 2] && chanAddr d 0x20 == [10, 0, 0, 1] && dfld d 8 15 0 == 0x5678 && dfld d 8 31 16 == 0x1234) = some 1023) ∧
    isPtp (parseEth ([2, 0, 0, 0, 0, 1, 2, 0, 0, 0, 0, 2, 0x88, 0xF7])) = true ∧
    (∀ n ∈ [2, 3], let s : State := { wNetOn with ch := { wNetOn.ch with peers := Map.put wNetOn.ch.peers 1023 (5, 1, n) } }
     s.chanKind 1023 = 2 ∧ s.rf CH_CHAN_STATE 1023 = 1 ∧ Map.find s.ch.defs 1023 = some wNet ∧ (Map.getD s.ch.peers 1023 (0, 0, 0)).2.2 = n) ∧
    (∀ n ∈ [0, 1], let s := mkS [(NT_CFG_EN, 3, 1), (NT_STAT_LINK, 3, n), (NT_GCL_CFG_PENDING, 3, n)]; s.rb NT_CFG_EN 3 = true ∧ s.rb NT_STAT_LINK 3 = decide (n = 1) ∧ s.rb NT_GCL_CFG_PENDING 3 = decide (n = 1)) ∧
    State.reset.mp.msixPend = [] ∧
    (∀ n ∈ [0, 2, 4], let s := mkS [(PX_LINK_STAT_STATE, 15, n), (PX_LINK_CFG_EN, 15, 1)]; s.rf PX_LINK_STAT_STATE 15 = n ∧ s.rb PX_LINK_CFG_EN 15 = true) ∧
    (let s := mkS [(PX_LINK_STAT_STATE, 15, 1), (PX_LINK_CFG_EN, 15, 0), (PX_LINK_LIMIT_ADDR, 15, 0x1FFFEFF)]; let v := 0x1FFFEFF * 2 ^ 20
     s.rb PX_LINK_CFG_EN 15 = false ∧ s.rf PX_LINK_STAT_STATE 15 ≠ 0 ∧ bits v 44 20 ≤ s.rf PX_LINK_LIMIT_ADDR 15 ∧ s.rf PX_LINK_LIMIT_ADDR 15 < 0x1FFFF00 ∧ s.rf PX_LINK_LIMIT_ADDR 15 < bits (v + 2 ^ 20) 44 20 ∧
     (∀ k, k < 4 → 15 / 4 * 4 + k ≠ 15 → s.rf PX_LINK_STAT_STATE (15 / 4 * 4 + k) = 0)) ∧
    (let s := mkS [(PX_LINK_STAT_STATE, 15, 4)]; (∀ n ∈ [0, 4096], (s.bwBytes (0x10 + 15 / 4) n).rf PX_LINK_STAT_STATE 15 = 4 ∧ (s.bwBytes (0x10 + 15 / 4) n).stream (15 / 4) 0xFFFF = none)) ∧
    (let k := 256 * 3 + 255; let x := (wInst [(PX_LINK_STAT_STATE, 15, 4), (PX_STREAM_EN, k, 1), (PX_STREAM_RID, k, 0xFFFF), (PX_STREAM_INSTANCE, k, 0)]).bwBytes (0x10 + 15 / 4) 1
     x.rf PX_LINK_STAT_STATE 15 = 4 ∧ x.stream (15 / 4) 0xFFFF = some k ∧ 0x3FFFFFFF % 4096 + 1 ≤ 4096 ∧ 0x3FFFFFFF + 1 ≤ 2 ^ 46 ∧ x.rb PX_STREAM_IDE k = false ∧ x.isSable = false ∧ x.rf PX_STREAM_INSTANCE k = 0 ∧
     (match (x.ioXlat (64 + 15 / 4) (org 0xF (15 / 4)) 0 (x.gen 0) 0x3FFFFFFF true).2 with | .ok _ _ => true | _ => false) = true) := by
  refine ⟨?_, ?_, ?_, ?_, ?_, ?_, ?_, ?_, ?_, ?_, ?_⟩ <;> decide +kernel

theorem witness_ReadsReturnThenClear : State.reset.powered = true ∧ State.reset.barOpen .secure = true ∧ (State.reset.barOpen .host = true ∨ State.reset.rf VT_BOOT_STATE ≠ 1) := by decide +kernel

theorem witness_ReservedEncodingsKeepTheirField : (rTM_CFG.flds.Pairwise (fun g h => g.hi < h.lo ∨ h.hi < g.lo)) ∧ (∀ g ∈ rTM_CFG.flds, g.lo ≤ g.hi ∧ g.hi < 64) ∧
    rTM_CFG.flds.any (fun f => f.acc == .rw && !f.assigned 15 && f.assigned 0) = true ∧ State.reset.powered = true ∧ State.reset.barOpen .secure = true := by decide +kernel

theorem witness_WritesGoByTheirRoutes :
    (let s := mkS [(VT_BOOT_STATE, 0, 1)]; s.powered = true ∧ s.barOpen .host = true ∧ (0x7F1000000000 + 0x1300000 - 1 : Nat) < 0x7F1000000000 + 0x1300000 ∧ (0x3FFFF : Nat) + 1 ≤ 0x40000) ∧
    (∀ b ∈ [true, false], let s := (mkS [(TN_INST_STATE, 511, 2)]).setInst 511 (fun r => { r with outPosted := b }); s.ist 511 ≠ 0 ∧ (0x2FF8 : Nat) + 8 ≤ 0x3000 ∧ (0x2FF8 : Nat) % 8 = 0 ∧ (s.inst 511).outPosted = b) := by decide +kernel
end Sys2Proof.Machine
end

section
/-! PROOFS. Where an address leads (00 R10): the register array that claims it, its index, and that no other array claims it. -/

namespace Sys2Proof.Machine

/-- How many bytes a (stride, count) list spans. -/
def dimSpan : List (Nat × Nat) → Nat
  | [] => 8
  | (st, n) :: _ => st * n

/-- Every stride is a multiple of 8 and holds what is inside it. -/
def dimsFit : List (Nat × Nat) → Bool
  | [] => true
  | (st, _) :: r => decide (st % 8 = 0) && decide (dimSpan r ≤ st) && dimsFit r

/-- A check that no offset from lo to hi lies in a register of the list. -/
def dimsMiss : List (Nat × Nat) → Nat → Nat → Bool
  | [], lo, _ => decide (8 ≤ lo)
  | (st, n) :: r, lo, hi => decide (n ≤ lo / st) || (decide (lo / st = hi / st) && dimsMiss r (lo % st) (hi % st))

/-- A check that no address from lo to hi is one of register array x. -/
def Reg.misses (x : Reg) (lo hi : Nat) : Bool := decide (hi < x.base) || (decide (x.base ≤ lo) && dimsMiss x.dims (lo - x.base) (hi - x.base))

theorem dimOffs_lt {d : List (Nat × Nat)} {i : Nat} (hd : dimsFit d = true) (hi : i < dimProd d) : dimOffs d i < dimSpan d := by
  induction d generalizing i with
  | nil => exact Nat.zero_lt_succ 7
  | cons e r ih =>
    obtain ⟨st, n⟩ := e
    simp only [dimsFit, Bool.and_eq_true, decide_eq_true_eq] at hd
    obtain ⟨⟨-, hs⟩, hr⟩ := hd
    have hP : 0 < dimProd r := Nat.pos_of_ne_zero (by rintro h; simp [dimProd, h] at hi)
    have hq : i / dimProd r < n := (Nat.div_lt_iff_lt_mul hP).2 hi
    have hm : dimOffs r (i % dimProd r) < st := (ih hr (Nat.mod_lt _ hP)).trans_le hs
    calc i / dimProd r * st + dimOffs r (i % dimProd r) < (i / dimProd r + 1) * st := by rw [Nat.add_one_mul]; omega
      _ ≤ n * st := Nat.mul_le_mul_right _ hq
      _ = st * n := Nat.mul_comm ..

theorem dimOffs_aligned {d : List (Nat × Nat)} (hd : dimsFit d = true) (i : Nat) : dimOffs d i % 8 = 0 := by
  induction d generalizing i with
  | nil => rfl
  | cons e r ih =>
    simp only [dimsFit, Bool.and_eq_true, decide_eq_true_eq] at hd
    obtain ⟨⟨ha, -⟩, hr⟩ := hd
    simp [dimOffs, Nat.add_mod, Nat.mul_mod, ha, ih hr]

/-- The offset of an index leads back to it. -/
theorem dimIdx_dimOffs {d : List (Nat × Nat)} {i : Nat} (hd : dimsFit d = true) (hi : i < dimProd d) : dimIdx d (dimOffs d i) = some (i, 0) := by
  induction d generalizing i with
  | nil =>
    have h0 : i = 0 := Nat.lt_one_iff.1 hi
    simp [dimIdx, dimOffs, h0]
  | cons e r ih =>
    obtain ⟨st, n⟩ := e
    simp only [dimsFit, Bool.and_eq_true, decide_eq_true_eq] at hd
    obtain ⟨⟨-, hs⟩, hr⟩ := hd
    have hP : 0 < dimProd r := Nat.pos_of_ne_zero (by rintro h; simp [dimProd, h] at hi)
    have hq : i / dimProd r < n := (Nat.div_lt_iff_lt_mul hP).2 hi
    have hm : dimOffs r (i % dimProd r) < st := (dimOffs_lt hr (Nat.mod_lt _ hP)).trans_le hs
    have hdiv : dimOffs ((st, n) :: r) i / st = i / dimProd r := by
      rw [dimOffs, Nat.mul_comm, Nat.mul_add_div (by omega), Nat.div_eq_of_lt hm, Nat.add_zero]
    have hmod : dimOffs ((st, n) :: r) i % st = dimOffs r (i % dimProd r) := by
      rw [dimOffs, Nat.mul_comm, Nat.mul_add_mod, Nat.mod_eq_of_lt hm]
    rw [dimIdx, hdiv, hmod, if_pos hq, ih hr (Nat.mod_lt _ hP)]
    simp [Nat.div_add_mod']

theorem dimIdx_of_dimsMiss {d : List (Nat × Nat)} {lo hi o : Nat} (h : dimsMiss d lo hi = true) (h1 : lo ≤ o) (h2 : o ≤ hi) : dimIdx d o = none := by
  induction d generalizing lo hi o with
  | nil =>
    have h8 : 8 ≤ lo := of_decide_eq_true h
    rw [dimIdx, if_neg (by omega)]
  | cons e r ih =>
    obtain ⟨st, n⟩ := e
    have hlo : lo / st ≤ o / st := Nat.div_le_div_right h1
    have hhi : o / st ≤ hi / st := Nat.div_le_div_right h2
    simp only [dimsMiss, Bool.or_eq_true, Bool.and_eq_true, decide_eq_true_eq] at h
    rw [dimIdx]
    rcases h with h | ⟨hq, h⟩
    · rw [if_neg (by omega)]
    · have el := Nat.div_add_mod lo st
      have eo := Nat.div_add_mod o st
      have eh := Nat.div_add_mod hi st
      have e1 : o / st = lo / st := by omega
      rw [← hq] at eh
      rw [e1] at eo
      rw [ih h (by omega) (by omega)]
      simp

/-- What `findReg` asks of one register array. -/
def Reg.claim (addr : Nat) (r : Reg) : Option (Reg × Nat × Nat) :=
  if r.base ≤ addr then (dimIdx r.dims (addr - r.base)).map (fun (p : Nat × Nat) => (r, p.1, p.2)) else none

theorem findReg_eq_claim (addr : Nat) : findReg addr = allRegs.findSome? (Reg.claim addr) := rfl

theorem Reg.claim_of_misses {x : Reg} {lo hi addr : Nat} (h : x.misses lo hi = true) (h1 : lo ≤ addr) (h2 : addr ≤ hi) : x.claim addr = none := by
  simp only [Reg.misses, Bool.or_eq_true, Bool.and_eq_true, decide_eq_true_eq] at h
  unfold Reg.claim
  rcases h with h | ⟨hb, h⟩
  · rw [if_neg (by omega)]
  · rw [dimIdx_of_dimsMiss h (by omega) (by omega)]
    simp

theorem Reg.claim_addr {r : Reg} {i : Nat} (hd : dimsFit r.dims = true) (hi : i < dimProd r.dims) : r.claim (r.addr i) = some (r, i, 0) := by
  unfold Reg.claim Reg.addr
  rw [if_pos (Nat.le_add_right ..), Nat.add_sub_cancel_left, dimIdx_dimOffs hd hi]
  rfl

theorem findSome?_of_only {α β : Type} {f : α → Option β} {l : List α} {a : α} {b : β} (ha : a ∈ l) (hf : f a = some b)
    (h : ∀ x ∈ l, x = a ∨ f x = none) : l.findSome? f = some b := by
  have hs : (l.findSome? f).isSome = true := List.findSome?_isSome_iff.2 ⟨a, ha, by rw [hf]; rfl⟩
  obtain ⟨y, hy⟩ := Option.isSome_iff_exists.1 hs
  obtain ⟨x, hx, hxy⟩ := List.exists_of_findSome?_eq_some hy
  rcases h x hx with rfl | h
  · rw [hy, ← hxy, hf]
  · rw [h] at hxy; exact absurd hxy (by simp)

/-- The parts of device register space, by offset, that every agent reaches when its BAR is open: beyond the Vault's page, outside the fault log, the mailbox windows and the
blocks that the host does not see (00 R16, 01 R28). -/
def plainAreas : List (Nat × Nat) := [(0x100000, 0x280000), (0x300000, 0x3F0000), (0x3F2000, 0xB00000), (0xD00000, 0x1300000)]

/-- Every address from lo to hi lies in one of these parts. -/
def inPlainArea (lo hi : Nat) : Bool := plainAreas.any (fun p => decide (0x7F1000000000 + p.1 ≤ lo) && decide (hi < 0x7F1000000000 + p.2))

/-- Register array r alone claims the addresses from lo to hi, and every agent reaches them. -/
def Reg.owns (r : Reg) (lo hi : Nat) : Bool :=
  decide (r ∈ allRegs) && decide (r.base % 8 = 0) && dimsFit r.dims && inPlainArea lo hi && allRegs.all (fun x => decide (x = r) || x.misses lo hi)

/-- Register r with index i is found at its address, which is aligned and in a part that every agent reaches. -/
structure Reg.Located (r : Reg) (i : Nat) : Prop where
  found : findReg (r.addr i) = some (r, i, 0)
  aligned : r.addr i % 8 = 0
  area : inPlainArea (r.addr i) (r.addr i) = true

theorem inPlainArea_mono {lo hi addr : Nat} (h : inPlainArea lo hi = true) (h1 : lo ≤ addr) (h2 : addr ≤ hi) : inPlainArea addr addr = true := by
  unfold inPlainArea at *
  rw [List.any_eq_true] at *
  obtain ⟨p, hp, h⟩ := h
  simp only [Bool.and_eq_true, decide_eq_true_eq] at h
  exact ⟨p, hp, by simp only [Bool.and_eq_true, decide_eq_true_eq]; omega⟩

theorem Reg.located_of_owns {r : Reg} {i lo hi : Nat} (h : r.owns lo hi = true) (h1 : lo ≤ r.addr i) (h2 : r.addr i ≤ hi) (hi : i < dimProd r.dims) : r.Located i := by
  simp only [Reg.owns, Bool.and_eq_true, decide_eq_true_eq, List.all_eq_true, Bool.or_eq_true] at h
  obtain ⟨⟨⟨⟨hm, hb⟩, hd⟩, ha⟩, ho⟩ := h
  refine ⟨?_, ?_, inPlainArea_mono ha h1 h2⟩
  · rw [findReg_eq_claim]
    exact findSome?_of_only hm (Reg.claim_addr hd hi) (fun x hx => (ho x hx).imp_right (fun h => Reg.claim_of_misses h h1 h2))
  · rw [Reg.addr, Nat.add_mod, hb, dimOffs_aligned hd]

/-- A register that stands alone is located when it owns its own address. -/
theorem Reg.located_single {r : Reg} (h : r.owns (r.addr 0) (r.addr 0) = true) (hd : 0 < dimProd r.dims) : r.Located 0 :=
  Reg.located_of_owns h le_rfl le_rfl hd

end Sys2Proof.Machine
end

section
/-! PROOFS. A 64-bit access to a register by its own address (00 R11-R13, R16): what is read, what a read clears, what a write stores. -/

namespace Sys2Proof.Machine

/-- What the part of register space gives an access: none of the routes before the registers is taken. -/
theorem Reg.Located.route {r : Reg} {i : Nat} (h : r.Located i) :
    regOffset (r.addr i) < 0x1300000 ∧ 0x100000 ≤ regOffset (r.addr i) ∧ ¬ (0x280000 ≤ regOffset (r.addr i) ∧ regOffset (r.addr i) < 0x300000) ∧
    ¬ (0x3F0000 ≤ regOffset (r.addr i) ∧ regOffset (r.addr i) < 0x3F2000) ∧ ¬ (0xB00000 ≤ regOffset (r.addr i) ∧ regOffset (r.addr i) < 0xD00000) ∧
    accessOk (r.addr i) 8 = true := by
  obtain ⟨-, ha, hp⟩ := h
  have hok : accessOk (r.addr i) 8 = true := by simp [accessOk, ha]
  simp only [inPlainArea, plainAreas, List.any_cons, List.any_nil, Bool.or_false, Bool.or_eq_true, Bool.and_eq_true, decide_eq_true_eq] at hp
  unfold regOffset
  refine ⟨?_, ?_, ?_, ?_, ?_, hok⟩ <;> omega

/-- The registers whose bits `State.reach` can keep from an agent of the Normal world (01 R37, 10 R408, 13 R571). -/
def gatedRegs : List Reg :=
  [rMP_EVT_ROUTE, rTN_INST, rTN_STALE, rTN_EQ_DROP, rTN_BUCKET, rTN_DISP, rCY_PIPE_STAT, rCY_PIPE_BYTES, rCY_PIPE_RETRY, rCY_SLOT, rCY_ELOG]

/-- The registers of which `State.view` computes fields. -/
def computedRegs : List Reg :=
  [rTN_STAT, rTN_MBX_CTL, rTN_MBX_PEND, rTN_DISP, rFC_UNIT_STAT, rSG_STAT, rSG_LANE_STAT, rIS_ISL_STAT, rKC_SPARE_STAT, rIS_MEM_SR, rTW_STAT, rTW_STREAM, rIP_STATUS,
   rIP_TEL_STALE, rIP_TEL_EQ_DROP, rIP_TEL_BUCKET, rIP_TEL_VCORE]

/-- The registers whose write does more than `State.writeCodes`. -/
def actionRegs : List Reg :=
  [rMP_HQ_SUBMIT, rMP_EVT_ROUTE, rFC_CFG, rFC_STAT, rTN_INST, rTN_BUCKET, rTN_MBX_CTL, rMA_CH_CTL, rMA_SCRUB, rCZ_HIST_CFG, rCH_HOST_CQ_CFG, rCH_HOST_CQ_HEAD, rKC_PCS,
   rIS_ISL_CTL, rTM_CFG, rTM_ADJ, rTM_RATE, rPM_CTL, rPM_BW_CFG, rPX_LINK_CFG, rPX_LINK_BASE, rPX_LINK_LIMIT, rPX_STREAM, rNT_CFG, rNT_GCL_CFG, rNT_GCL]

/-- Register r is none of a list. -/
def Reg.outside (r : Reg) (l : List Reg) : Bool := l.all (fun x => !r.same x)

theorem State.reach_outside (s : State) (a : Agent) {r : Reg} (i : Nat) (h : r.outside gatedRegs = true) : s.reach a r i = 2 ^ 64 - 1 := by
  simp only [Reg.outside, gatedRegs, List.all_cons, List.all_nil, Bool.and_true, Bool.and_eq_true, Bool.not_eq_true'] at h
  simp [State.reach, h]

theorem State.view_outside (s : State) {r : Reg} (i : Nat) (h : r.outside computedRegs = true) : s.view r i = s.reg r i := by
  simp only [Reg.outside, computedRegs, List.all_cons, List.all_nil, Bool.and_true, Bool.and_eq_true, Bool.not_eq_true'] at h
  simp [State.view, h]

theorem State.writeReg_outside (s : State) (a : Agent) {r : Reg} (i w mask : Nat) (h : r.outside actionRegs = true) : s.writeReg a r i w mask = s.writeCodes r i w mask := by
  simp only [Reg.outside, actionRegs, List.all_cons, List.all_nil, Bool.and_true, Bool.and_eq_true, Bool.not_eq_true'] at h
  simp [State.writeReg, h]

/-- A register holds 64 bits. -/
theorem State.reg_lt (s : State) {r : Reg} (i : Nat) (h : r.fits = true) : s.reg r i < 2 ^ 64 := by
  unfold State.reg
  split
  · exact BitVec.isLt _
  · exact r.resetVal_lt i h

theorem and_mask64 {n : Nat} (h : n < 2 ^ 64) : n &&& (2 ^ 64 - 1) = n := by rw [Nat.and_two_pow_sub_one_eq_mod, Nat.mod_eq_of_lt h]

/-- A 64-bit write by an agent with a BAR that is open to a register without an action stores what the access codes give. -/
theorem State.regWrite_located (s : State) (a : Agent) {r : Reg} {i v : Nat} (hb : s.barOpen a = true) (hl : r.Located i) (hg : r.outside gatedRegs = true)
    (hw : r.outside actionRegs = true) (hv : v < 2 ^ 64) : s.regWrite a (r.addr i) 8 v = s.wreg r i (r.write (s.reg r i) v (2 ^ 64 - 1)) := by
  obtain ⟨h1, h2, -, h3, h4, hok⟩ := hl.route
  have c1 : ¬ 0x1300000 ≤ regOffset (r.addr i) := by omega
  have c2 : ¬ regOffset (r.addr i) < 0x1000 := by omega
  have c3 : ¬ regOffset (r.addr i) < 0x100000 := by omega
  have c4 : ¬ (a = .host ∧ 0xB00000 ≤ regOffset (r.addr i) ∧ regOffset (r.addr i) < 0xD00000) := fun h => h4 h.2
  have c5 : ¬ (0x3F1000 ≤ regOffset (r.addr i) ∧ regOffset (r.addr i) < 0x3F2000) := by omega
  have hm : (2 ^ (8 * 8) - 1) * 2 ^ (8 * 0) &&& s.reach a r i = 2 ^ 64 - 1 := by rw [s.reach_outside a i hg]; decide
  have hn : v * 2 ^ (8 * 0) % 2 ^ 64 = v := by rw [Nat.mul_zero, Nat.pow_zero, Nat.mul_one, Nat.mod_eq_of_lt hv]
  simp only [State.regWrite, c1, c2, c3, c4, c5, hb, hok, hl.found, hm, hn, s.writeReg_outside a i _ _ hw, State.writeCodes, if_false, Bool.not_true, Bool.false_eq_true,
    decide_false, Bool.and_false]

/-- A 64-bit read by an agent with a BAR that is open gives it the register's view, and clears what a read clears. -/
theorem State.readOut_located (s : State) (a : Agent) {r : Reg} {i : Nat} (hb : s.barOpen a = true) (hl : r.Located i) (hg : r.outside gatedRegs = true)
    (hv : s.view r i < 2 ^ 64) : s.readOut a r i = (s.clearOnRead r i 0 8).emit (.readData (r.addr i) (s.view r i)) := by
  obtain ⟨h1, h2, h3, h4, -, hok⟩ := hl.route
  have c1 : ¬ 0x1300000 ≤ regOffset (r.addr i) := by omega
  have c3 : ¬ regOffset (r.addr i) < 0x100000 := by omega
  have c5 : ¬ (0x3F0000 ≤ regOffset (r.addr i) ∧ regOffset (r.addr i) < 0x3F1000) := by omega
  have hn : s.view r i / 2 ^ (8 * 0) % 2 ^ (8 * 8) = s.view r i := by rw [Nat.mul_zero, Nat.pow_zero, Nat.div_one]; exact Nat.mod_eq_of_lt hv
  simp only [State.readOut, State.regRead, c1, c3, h3, c5, hb, hok, hl.found, s.reach_outside a i hg, and_mask64 hv, hn, if_false, Bool.not_true, Bool.false_eq_true,
    decide_false, Bool.and_false, Bool.false_and]

/-! ### What a read clears (R11) -/

/-- One field's part in a read of all 64 bits. -/
def Fld.clear (f : Fld) (v : Nat) : Nat := if f.acc = .rc then setBits v f.hi f.lo 0 else v

/-- A field of all ones. -/
theorem bits_mask64 {hi lo : Nat} (h : hi < 64) : bits (2 ^ 64 - 1) hi lo = 2 ^ (hi + 1 - lo) - 1 := by
  apply Nat.eq_of_testBit_eq
  intro k
  rw [testBit_bits, Nat.testBit_two_pow_sub_one, Nat.testBit_two_pow_sub_one]
  by_cases hk : k < hi + 1 - lo
  · simp [hk]; omega
  · simp [hk]

theorem Reg.cleared_eq (r : Reg) (v : Nat) : r.cleared v = r.flds.foldl (fun v f => f.clear v) v := by
  unfold Reg.cleared
  rw [List.foldl_ext _ (fun v f => f.clear v) _ (fun v f _ => ?_)]
  cases hacc : f.acc <;> simp [Fld.clear, hacc]

/-- A field of a register that fits lies within 64 bits. -/
theorem Reg.fits_field {r : Reg} {f : Fld} (h : r.fits = true) (hf : f ∈ r.flds) : f.hi < 64 ∧ f.lo ≤ f.hi := by
  simpa only [Bool.and_eq_true, decide_eq_true_eq] using List.all_eq_true.1 h f hf

/-- A read of all 64 bits stores the register with its RC fields cleared. -/
theorem State.clearOnRead_all (s : State) {r : Reg} (i : Nat) (h : r.fits = true) :
    s.clearOnRead r i 0 8 = if r.cleared (s.reg r i) = s.reg r i then s else s.wreg r i (r.cleared (s.reg r i)) := by
  unfold State.clearOnRead
  dsimp only
  rw [Reg.cleared_eq, List.foldl_ext _ (fun v f => f.clear v) _ (fun v f hm => ?_)]
  have hmask : (2 ^ (8 * 8) - 1) * 2 ^ (8 * 0) = 2 ^ 64 - 1 := rfl
  rw [hmask, if_pos (bits_mask64 (Reg.fits_field h hm).1)]
  cases hacc : f.acc <;> simp [Fld.clear, hacc]

/-- Clearing a field sets no bit. -/
theorem Fld.testBit_of_clear {f : Fld} {v k : Nat} (h : f.lo ≤ f.hi) (hk : (f.clear v).testBit k = true) : v.testBit k = true := by
  unfold Fld.clear at hk
  split at hk
  · rw [testBit_setBits _ _ _ _ _ (by omega)] at hk
    split at hk
    · exact hk
    · split at hk
      · simp at hk
      · exact hk
  · exact hk

/-- An RC field is zero once the register is cleared. -/
theorem Reg.bits_cleared {r : Reg} {f : Fld} (h : r.fits = true) (hf : f ∈ r.flds) (hacc : f.acc = .rc) (v : Nat) : bits (r.cleared v) f.hi f.lo = 0 := by
  obtain ⟨pre, post, hsplit⟩ := List.append_of_mem hf
  have hhead : ∀ u, bits (f.clear u) f.hi f.lo = 0 := fun u => by
    rw [Fld.clear, if_pos hacc, bits_setBits_same _ _ _ _ (by have := (Reg.fits_field h hf).2; omega), Nat.zero_mod]
  rw [Reg.cleared_eq, hsplit, List.foldl_append, List.foldl_cons]
  refine foldl_keeps (fun u => bits u f.hi f.lo = 0) _ _ _ (hhead _) (fun u g hu hg => ?_)
  have hgm : g ∈ r.flds := by rw [hsplit]; simp [hg]
  apply Nat.eq_of_testBit_eq
  intro k
  have hk : (bits u f.hi f.lo).testBit k = false := by rw [hu, Nat.zero_testBit]
  rw [testBit_bits] at hk
  rw [testBit_bits, Nat.zero_testBit]
  cases hb : (g.clear u).testBit (f.lo + k) with
  | false => exact Bool.and_false _
  | true => rwa [Fld.testBit_of_clear (Reg.fits_field h hgm).2 hb] at hk

/-- A read that clears leaves zero in each RC field. -/
theorem State.clearOnRead_rc (s : State) {r : Reg} {f : Fld} (i : Nat) (h : r.fits = true) (hf : f ∈ r.flds) (hacc : f.acc = .rc) :
    bits ((s.clearOnRead r i 0 8).reg r i) f.hi f.lo = 0 := by
  rw [State.clearOnRead_all s i h]
  split
  next he => rw [← he]; exact Reg.bits_cleared h hf hacc _
  next => rw [State.reg_wreg_same _ _ _ _ h, bits_mod _ _ _ _ (Reg.fits_field h hf).1]; exact Reg.bits_cleared h hf hacc _

/-- It leaves every other register as it was. -/
theorem State.clearOnRead_other (s : State) {r x : Reg} (i j : Nat) (h : r.fits = true) (hx : x.addr j ≠ r.addr i) :
    (s.clearOnRead r i 0 8).reg x j = s.reg x j := by
  rw [State.clearOnRead_all s i h]
  split
  next => rfl
  next => exact State.reg_wreg_other _ _ _ _ _ _ hx

/-- It writes registers alone. -/
theorem State.clearOnRead_only (s : State) {r : Reg} (i : Nat) (h : r.fits = true) : OnlyRegs s (s.clearOnRead r i 0 8) := by
  rw [State.clearOnRead_all s i h]
  split
  next => exact .refl s
  next => exact .wreg ..

theorem OnlyRegs.outs {s t : State} (h : OnlyRegs s t) : t.outs = s.outs := by rw [← h.rest]

/-- Driving a value out after writes of registers changes the registers and the outputs alone. -/
theorem OnlyRegs.emit_frame {s t : State} (h : OnlyRegs s t) (o : Output) : t.emit o = { s with regs := (t.emit o).regs, outs := (t.emit o).outs } :=
  congrArg (fun (z : State) => { z with regs := t.regs, outs := t.outs ++ [o] }) h.rest

/-! ### A read by an agent, whole -/

/-- Each of the fields is an RC field of register r. -/
def Reg.clearsFields (r : Reg) (fs : List RF) : Bool := fs.all (fun f => decide (f.reg = r) && r.flds.any (fun g => decide (g.acc = .rc ∧ g.hi = f.hi ∧ g.lo = f.lo)))

/-- A row that is a read of one register by an agent (R11): the register's view goes to the reader, its RC fields are zero, and no other register and nothing else changes. -/
theorem State.does_read {c : Instr} {s : State} {a : Agent} {r : Reg} {i : Nat} {fs : List RF} (hp : s.powered = true) (hb : s.barOpen a = true)
    (hc : exec c s = run (fun s => s.readOut a r i) s) (hl : r.Located i) (hv : s.view r i < 2 ^ 64) (hr : (r.fits && r.outside gatedRegs && r.clearsFields fs) = true) :
    ∃ u, Does c s u ∧ u.outs = s.outs ++ [.readData (r.addr i) (s.view r i)] ∧ (∀ f ∈ fs, u.rf f i = 0) ∧
      (∀ (x : Reg) (j : Nat), x.addr j ≠ r.addr i → u.reg x j = s.reg x j) ∧ u = { s with regs := u.regs, outs := u.outs } := by
  rw [Bool.and_eq_true, Bool.and_eq_true] at hr
  obtain ⟨⟨hfit, hg⟩, hfs⟩ := hr
  have ho := s.clearOnRead_only i hfit
  refine ⟨s.readOut a r i, does_of_run (f := fun s => s.readOut a r i) hp hc, ?_⟩
  rw [s.readOut_located a hb hl hg hv]
  refine ⟨?_, fun f hf => ?_, fun x j hx => s.clearOnRead_other i j hfit hx, ho.emit_frame _⟩
  · rw [State.emit_outs, ho.outs]
  · have h := List.all_eq_true.1 hfs f hf
    simp only [Bool.and_eq_true, decide_eq_true_eq, List.any_eq_true] at h
    obtain ⟨rfl, g, hgm, hacc, hhi, hlo⟩ := h
    have hz := s.clearOnRead_rc i hfit hgm hacc
    rwa [hhi, hlo] at hz

end Sys2Proof.Machine
end

section
/-! PROOFS. The seven reads that clear (00 R11, 01 R38, 05 R221, 08 R346, 12 R538, 14 R613, 18 R782, R784). -/

namespace Sys2Proof.Machine

theorem mpEvtDrop_located : rMP_EVT_DROP.Located 0 := Reg.located_single (by decide +kernel) (by decide)
theorem mxLatMax_located : rMX_LAT_MAX.Located 0 := Reg.located_single (by decide +kernel) (by decide)
theorem mpLoad_located : rMP_LOAD.Located 0 := Reg.located_single (by decide +kernel) (by decide)
theorem pmSnapStat_located : rPM_SNAP_STAT.Located 0 := Reg.located_single (by decide +kernel) (by decide)

theorem sgLaneStat_located (l : Fin 64) : rSG_LANE_STAT.Located l.val := by
  have ha : rSG_LANE_STAT.addr l.val = 0x7f1000600100 + 8 * l.val := by simp [Reg.addr, rSG_LANE_STAT, dimOffs, dimProd]; omega
  exact Reg.located_of_owns (lo := 0x7f1000600100) (hi := 0x7f1000600100 + 504) (by decide +kernel) (by omega) (by omega) l.isLt

theorem pmBw_located (m : Fin 16) : rPM_BW.Located m.val := by
  have ha : rPM_BW.addr m.val = 0x7f1000f00580 + 8 * m.val := by simp [Reg.addr, rPM_BW, dimOffs, dimProd]; omega
  exact Reg.located_of_owns (lo := 0x7f1000f00580) (hi := 0x7f1000f00580 + 120) (by decide +kernel) (by omega) (by omega) m.isLt

/-- The node entries of one port lie together, those of all ports between other arrays of the ring (12 R538): one window for each port. -/
theorem frNode_located (p : Fin 32) (n : Fin 256) : rFR_NODE.Located (p.val * 256 + n.val) := by
  have ha : rFR_NODE.addr (p.val * 256 + n.val) = 0x7f1000501000 + 32768 * p.val + 8 * n.val := by simp [Reg.addr, rFR_NODE, dimOffs, dimProd]; omega
  have ho : ∀ p : Fin 32, rFR_NODE.owns (0x7f1000501000 + 32768 * p.val) (0x7f1000501000 + 32768 * p.val + 2040) = true := by decide +kernel
  exact Reg.located_of_owns (ho p) (by omega) (by omega) (show p.val * 256 + n.val < 32 * (256 * 1) by omega)

/-- SG_LANE_STAT shows the lane's load in one of its fields (08 R294), within 64 bits. -/
theorem State.view_sgLaneStat_lt (s : State) (l : Nat) : s.view rSG_LANE_STAT l < 2 ^ 64 := by
  have he : s.view rSG_LANE_STAT l = setBits (s.reg rSG_LANE_STAT l) 47 40 (min 255 (s.laneLoad l)) := by
    unfold State.view
    rw [if_neg (by decide), if_neg (by decide), if_neg (by decide), if_neg (by decide), if_neg (by decide), if_neg (by decide), if_pos (by decide)]
  rw [he]
  exact setBits_lt _ _ _ _ _ (by decide) (by decide) (s.reg_lt l (by decide))

/-- A register of which the view computes nothing shows what it holds. -/
theorem State.view_lt (s : State) {r : Reg} (i : Nat) (h : (r.fits && r.outside computedRegs) = true) : s.view r i < 2 ^ 64 := by
  rw [Bool.and_eq_true] at h
  rw [s.view_outside i h.2]
  exact s.reg_lt i h.1

/-- Settles O58: each row is `State.readOut` of its register, which is found at its own address and reached by every agent. -/
theorem readsReturnThenClear : Obligations.ReadsReturnThenClear := by
  intro s a l p n m hp hb
  refine ⟨?_, ?_, ?_, ?_, ?_, ?_, ?_⟩
  · exact State.does_read hp hb rfl mpEvtDrop_located (s.view_lt 0 (by decide)) (by decide)
  · exact State.does_read hp hb rfl mxLatMax_located (s.view_lt 0 (by decide)) (by decide)
  · exact State.does_read hp hb rfl (sgLaneStat_located l) (s.view_sgLaneStat_lt l) (by decide)
  · exact State.does_read hp hb rfl (frNode_located p n) (s.view_lt _ (by decide)) (by decide)
  · exact State.does_read hp hb rfl mpLoad_located (s.view_lt 0 (by decide)) (by decide)
  · exact State.does_read hp hb rfl pmSnapStat_located (s.view_lt 0 (by decide)) (by decide)
  · exact State.does_read hp hb rfl (pmBw_located m) (s.view_lt m (by decide)) (by decide)

end Sys2Proof.Machine
end

section
/-! PROOFS. The fields of a register under a 64-bit write (00 R13). -/

namespace Sys2Proof.Machine

/-- A write of all the bits of an RW field: the written value if it is an assigned encoding, else the old one. -/
theorem Fld.bits_write_rw {f : Fld} (hacc : f.acc = .rw) (h : f.lo ≤ f.hi ∧ f.hi < 64) (was w old : Nat) :
    bits (f.write was w (2 ^ 64 - 1) old) f.hi f.lo = if f.assigned (bits w f.hi f.lo) then bits w f.hi f.lo else bits old f.hi f.lo := by
  have hm : bits (2 ^ 64 - 1) f.hi f.lo = 2 ^ (f.hi + 1 - f.lo) - 1 := bits_mask64 h.2
  have hand : ∀ n, bits n f.hi f.lo &&& (2 ^ (f.hi + 1 - f.lo) - 1) = bits n f.hi f.lo := fun n => by
    rw [Nat.and_two_pow_sub_one_eq_mod, Nat.mod_eq_of_lt (bits_lt ..)]
  simp only [Fld.write, hacc, hm, hand, Nat.xor_self, Nat.zero_or]
  split
  · rw [bits_setBits_same _ _ _ _ (by omega), Nat.mod_eq_of_lt (bits_lt ..)]
  · rfl

/-- A write of one field leaves a field of other bits alone, whatever its access code. -/
theorem Fld.bits_write_other {f g : Fld} (hg : g.lo ≤ g.hi) (hd : f.hi < g.lo ∨ g.hi < f.lo) (was w mask old : Nat) :
    bits (g.write was w mask old) f.hi f.lo = bits old f.hi f.lo := by
  have hset : ∀ v, bits (setBits old g.hi g.lo v) f.hi f.lo = bits old f.hi f.lo := fun v => bits_setBits_other _ _ _ _ _ _ (by omega) hd
  unfold Fld.write
  cases g.acc with
  | rw => dsimp only; split <;> simp only [hset]
  | rwEn0 => dsimp only; split <;> simp only [hset]
  | w1c => exact hset _
  | w1s => exact hset _
  | ro => rfl
  | wo => rfl
  | rc => rfl

/-- In a write of a register whose fields do not overlap, an RW field takes the written value if it is an assigned encoding, and else keeps its own. -/
theorem bits_foldl_write {l : List Fld} {f : Fld} (hl : l.Pairwise (fun g h => g.hi < h.lo ∨ h.hi < g.lo)) (hw : ∀ g ∈ l, g.lo ≤ g.hi ∧ g.hi < 64) (hf : f ∈ l)
    (hacc : f.acc = .rw) (was w v : Nat) :
    bits (l.foldl (fun v g => g.write was w (2 ^ 64 - 1) v) v) f.hi f.lo = if f.assigned (bits w f.hi f.lo) then bits w f.hi f.lo else bits v f.hi f.lo := by
  induction l generalizing v with
  | nil => exact absurd hf (by simp)
  | cons g r ih =>
    obtain ⟨hgr, hr⟩ := List.pairwise_cons.1 hl
    have hwr : ∀ h ∈ r, h.lo ≤ h.hi ∧ h.hi < 64 := fun h hm => hw h (List.mem_cons_of_mem _ hm)
    rw [List.foldl_cons]
    rcases List.mem_cons.1 hf with rfl | hm
    · have hkeep : ∀ u, bits (r.foldl (fun v g => g.write was w (2 ^ 64 - 1) v) u) f.hi f.lo = bits u f.hi f.lo := fun u =>
        foldl_keeps (fun x => bits x f.hi f.lo = bits u f.hi f.lo) _ _ _ rfl
          (fun x h hx hm => (Fld.bits_write_other (hwr h hm).1 (hgr h hm) ..).trans hx)
      rw [hkeep, Fld.bits_write_rw hacc (hw f hf)]
    · rw [ih hr hwr hm, Fld.bits_write_other (hw g (by simp)).1 (hgr f hm).symm]

theorem mpCmdCfg_located : rMP_CMD_CFG.Located 0 := Reg.located_single (by decide +kernel) (by decide)
theorem twCfg_located : rTW_CFG.Located 0 := Reg.located_single (by decide +kernel) (by decide)
theorem fcUnitSel_located : rFC_UNIT_SEL.Located 0 := Reg.located_single (by decide +kernel) (by decide)

/-- The part of register space lies below 2^64, so an address operand holds a register's address. -/
theorem Reg.Located.toNat_addr {r : Reg} {i : Nat} (h : r.Located i) : (BitVec.ofNat 64 (r.addr i)).toNat = r.addr i := by
  have hr := h.route
  unfold regOffset at hr
  rw [BitVec.toNat_ofNat, Nat.mod_eq_of_lt (by omega)]

/-- A row that writes a target does what the target's route gives. -/
theorem does_registerWrite {s u : State} {t : RegTarget} (hp : s.powered = true) (h : s.targetWrite t = u) : Does (.registerWrite t) s u :=
  h ▸ does_of_run (f := fun s => s.targetWrite t) hp rfl

theorem State.targetWrite_space (s : State) (a : Agent) (addr : Word) (n : BitVec 8) (v : Word) :
    s.targetWrite (.space a addr n v) = s.regWrite a addr.toNat n.toNat v.toNat := rfl

/-- A 64-bit write to a register by its address is `REGISTER_WRITE`'s route into register space. -/
theorem State.targetWrite_located (s : State) (a : Agent) {r : Reg} {i : Nat} (v : Word) (hl : r.Located i) :
    s.targetWrite (.space a (BitVec.ofNat 64 (r.addr i)) 8 v) = s.regWrite a (r.addr i) 8 v.toNat := by
  have h8 : (8 : BitVec 8).toNat = 8 := rfl
  rw [State.targetWrite_space, hl.toNat_addr, h8]

/-- Settles O59: a write goes field by field, and no field's write touches another's bits. -/
theorem reservedEncodingsKeepTheirField : Obligations.ReservedEncodingsKeepTheirField := by
  refine ⟨fun r old w f hl hw hf hacc => ?_, fun s a v hp hb r hr => ?_⟩
  · have h := bits_foldl_write hl hw hf hacc old w old
    exact ⟨fun ha => by rwa [ha, if_neg (by decide)] at h, fun ha => by rwa [if_pos ha] at h⟩
  · have hl : r.Located 0 ∧ r.outside gatedRegs = true ∧ r.outside actionRegs = true := by
      simp only [List.mem_cons, List.not_mem_nil, or_false] at hr
      rcases hr with rfl | rfl | rfl
      · exact ⟨mpCmdCfg_located, by decide, by decide⟩
      · exact ⟨twCfg_located, by decide, by decide⟩
      · exact ⟨fcUnitSel_located, by decide, by decide⟩
    obtain ⟨hloc, hg, ha⟩ := hl
    exact does_registerWrite hp ((s.targetWrite_located a v hloc).trans (s.regWrite_located a hb hloc hg ha v.isLt))

end Sys2Proof.Machine
end

section
/-! PROOFS. Register writes by each route (00 R16, 01 R31, 13 R558, 14 R581, 18 R760). -/

namespace Sys2Proof.Machine

theorem does_counterWrite {s u : State} {a : Agent} {addr v : Word} {e : CountEdge} (hp : s.powered = true) (h : s.counterWrite a addr.toNat v.toNat e = u) :
    Does (.counterWrite a addr v e) s u :=
  h ▸ does_of_run (f := fun s => s.counterWrite a addr.toNat v.toNat e) hp rfl

/-- An access to register space of another size than 4 or 8 bytes is recorded and writes nothing (R16). -/
theorem State.regWrite_badSize (s : State) (a : Agent) {addr n : Nat} (v : Nat) (hb : s.barOpen a = true) (ha : addr < 0x7F1000000000 + 0x1300000) (h4 : n ≠ 4) (h8 : n ≠ 8) :
    s.regWrite a addr n v = s.regAccess (agentOrg a) addr n true := by
  have ho : ¬ 0x1300000 ≤ regOffset addr := by unfold regOffset; omega
  have hok : accessOk addr n = false := by simp [accessOk, h4, h8]
  simp [State.regWrite, ho, hb, hok]

/-- A store of a byte list: each byte of its range, and no other. -/
theorem Bytes.rd_foldl_wr (l : List Nat) (m : Bytes) (off k c : Nat) :
    Bytes.rd ((l.zipIdx k).foldl (fun (m : Bytes) (x : Nat × Nat) => Bytes.wr m (off + x.2) (BitVec.ofNat 8 x.1)) m) c =
      if off + k ≤ c ∧ c < off + k + l.length then BitVec.ofNat 8 (l.getD (c - (off + k)) 0) else Bytes.rd m c := by
  induction l generalizing m k with
  | nil => rw [if_neg (by simp)]; rfl
  | cons b r ih =>
    rw [List.zipIdx_cons, List.foldl_cons, ih, List.length_cons]
    by_cases hc : c = off + k
    · subst hc
      rw [if_neg (by omega), if_pos (by omega), Bytes.rd_wr_same, Nat.sub_self]
      rfl
    · rw [Bytes.rd_wr_other _ _ hc]
      by_cases hr : off + (k + 1) ≤ c ∧ c < off + (k + 1) + r.length
      · have hs : c - (off + k) = c - (off + (k + 1)) + 1 := by omega
        rw [if_pos hr, if_pos (by omega), hs, List.getD_cons_succ]
      · rw [if_neg hr, if_neg (by omega)]

/-- BAR2 with a host slot's bytes stored (14 R581). -/
def storeSlot (m : Bytes) (off : Nat) (b : List Byte) : Bytes :=
  (byteNats b).zipIdx.foldl (fun (m : Bytes) (x : Nat × Nat) => Bytes.wr m (off + x.2) (BitVec.ofNat 8 x.1)) m

theorem State.bar2Write_slot (s : State) {off : Nat} {b : List Byte} (hb : s.barOpen .host = true) (h : off + b.length ≤ 0x40000) :
    s.bar2Write off (byteNats b) = { s with mp := { s.mp with bar2 := storeSlot s.mp.bar2 off b } } := by
  have hlen : (byteNats b).length = b.length := List.length_map ..
  unfold State.bar2Write
  rw [hb, hlen, if_neg (by decide), if_pos h]
  rfl

theorem rd_storeSlot_in (m : Bytes) (off : Nat) (b : List Byte) {k : Nat} (hk : k < b.length) : Bytes.rd (storeSlot m off b) (off + k) = b.getD k 0 := by
  have hlen : (byteNats b).length = b.length := List.length_map ..
  have hs : off + k - (off + 0) = k := by omega
  rw [storeSlot, Bytes.rd_foldl_wr, hlen, if_pos (by omega), hs]
  simp [byteNats, hk]

theorem rd_storeSlot_out (m : Bytes) (off : Nat) (b : List Byte) {x : Nat} (hx : x < off ∨ off + b.length ≤ x) : Bytes.rd (storeSlot m off b) x = Bytes.rd m x := by
  have hlen : (byteNats b).length = b.length := List.length_map ..
  rw [storeSlot, Bytes.rd_foldl_wr, hlen, if_neg (by omega)]

/-- A store to the outgoing mailbox of the page of a tenant that is not Free: nothing while a message is posted, else the bytes (13 R558). -/
theorem State.ipageWrite_mbxOut (s : State) {i v off size value bad : Nat} (hi : s.ist i ≠ 0) (h1 : 0x2000 ≤ off) (h2 : off < 0x3000) :
    s.ipageWrite i v off size value bad =
      if (s.inst i).outPosted then s else s.setInst i (fun (r : InstSt) => { r with mbxOut := Bytes.wrN r.mbxOut (off - 0x2000) size value }) := by
  have hl : s.pageLive i = true := by simp [State.pageLive, hi]
  unfold State.ipageWrite
  dsimp only
  rw [hl, if_neg (by decide), if_pos ⟨h1, h2⟩]

theorem mpCmdCnt_located : rMP_CMD_CNT.Located 0 := Reg.located_single (by decide +kernel) (by decide)
theorem chFailCnt_located : rCH_FAIL_CNT.Located 0 := Reg.located_single (by decide +kernel) (by decide)
theorem fcLostCnt_located : rFC_LOST_CNT.Located 0 := Reg.located_single (by decide +kernel) (by decide)

/-- Whether a register has the layout of a counter: LOST_INC at bit 49 (18 R759). -/
def Reg.isCounter (r : Reg) : Bool := r.flds.any (fun (f : Fld) => f.hi == 49 && f.acc == .w1c)

theorem State.writable_located (s : State) (a : Agent) {r : Reg} {i : Nat} (hb : s.barOpen a = true) (hl : r.Located i) : s.writable a (r.addr i) = true := by
  obtain ⟨h1, h2, -, -, h4, hok⟩ := hl.route
  have hblock : regOffset (r.addr i) < 0xB00000 ∨ 0xD00000 ≤ regOffset (r.addr i) := by omega
  simpa [State.writable, h1, h2, hb, hok, or_assoc] using Or.inr hblock

/-- A write of a counter by edge (18 R760). -/
theorem State.counterWrite_located (s : State) (a : Agent) {r : Reg} {i v : Nat} (hb : s.barOpen a = true) (hl : r.Located i)
    (hg : r.outside gatedRegs = true) (hw : r.outside actionRegs = true) (hc : r.isCounter = true) (hv : v < 2 ^ 64) :
    let y := s.wreg r i (r.write (s.reg r i) v (2 ^ 64 - 1))
    s.counterWrite a (r.addr i) v .alone = y ∧ s.counterWrite a (r.addr i) v .increment = y.wreg r i (setBit (y.reg r i) 49 true) ∧
    s.counterWrite a (r.addr i) v .wrap = y.wreg r i (setBit (y.reg r i) 48 (bit (s.reg r i) 48)) := by
  intro y
  have hy : s.regWrite a (r.addr i) 8 v = y := s.regWrite_located a hb hl hg hw hv
  have hreach : (r.isCounter && s.writable a (r.addr i) && s.reach a r i == 2 ^ 64 - 1) = true := by
    rw [hc, s.writable_located a hb hl, s.reach_outside a i hg]; decide
  unfold Reg.isCounter at hreach
  simp only [State.counterWrite, hl.found, hy, hreach, if_true, and_self]

/-- Settles O60: each route gives what its own lemma says. -/
theorem writesGoByTheirRoutes : Obligations.WritesGoByTheirRoutes := by
  intro s hp
  refine ⟨fun a addr n v hb ha h4 h8 => ?_, fun off b hb hlen _ => ?_, fun i v off x bad hi h1 h2 hal => ?_, fun a v hb r hr => ?_⟩
  · exact does_registerWrite hp ((s.targetWrite_space a addr n v).trans (s.regWrite_badSize a v.toNat hb ha h4 h8))
  · exact ⟨_, does_registerWrite hp (s.bar2Write_slot hb hlen), fun k hk => rd_storeSlot_in _ _ _ hk, fun y hy => rd_storeSlot_out _ _ _ hy, rfl⟩
  · have hw : s.targetWrite (.page i v off true x bad) = _ :=
      (if_pos hal).trans (s.ipageWrite_mbxOut (v := v.val) (size := 8) (value := x.toNat) (bad := bad.val) hi h1 (by omega))
    exact ⟨fun ho => does_registerWrite hp (hw.trans (if_pos ho)), fun ho => does_registerWrite hp (hw.trans (if_neg (by simp [ho])))⟩
  · have hl : r.Located 0 ∧ r.outside gatedRegs = true ∧ r.outside actionRegs = true ∧ r.isCounter = true := by
      simp only [List.mem_cons, List.not_mem_nil, or_false] at hr
      rcases hr with rfl | rfl | rfl
      · exact ⟨mpCmdCnt_located, by decide, by decide, by decide⟩
      · exact ⟨chFailCnt_located, by decide, by decide, by decide⟩
      · exact ⟨fcLostCnt_located, by decide, by decide, by decide⟩
    obtain ⟨hloc, hg, ha, hc⟩ := hl
    obtain ⟨halone, hinc, hwrap⟩ := s.counterWrite_located a hb hloc hg ha hc v.isLt
    rw [← hloc.toNat_addr] at halone hinc hwrap
    exact ⟨does_counterWrite hp halone, does_counterWrite hp hinc, does_counterWrite hp hwrap⟩

end Sys2Proof.Machine
end

section
/-! PROOFS. The state after reset. -/

namespace Sys2Proof.Machine

/-- After reset a field reads as its register's reset value (00 R14): no register is listed. -/
theorem State.rf_reset (f : RF) (i : Nat) : State.reset.rf f i = bits (f.reg.resetVal i) f.hi f.lo := rfl

/-- Settles O6: the stores list nothing, and the registers then read as their reset values. -/
theorem resetIsSettledAndEmpty : Obligations.ResetIsSettledAndEmpty := by
  refine ⟨rfl, rfl, by decide, rfl, ?_, ?_, ?_, ?_, ?_, rfl, rfl, rfl, rfl⟩ <;> rw [State.rf_reset] <;> decide

end Sys2Proof.Machine
end

section
/-! PROOFS. What a command and a step can do, said once, and the order of the queue (01 R36). -/

namespace Sys2Proof.Machine

@[simp] theorem State.settle_pending (s : State) (q : List Instr) : (s.settle q).pending = q := rfl
@[simp] theorem State.settle_raised (s : State) (q : List Instr) : (s.settle q).raised = [] := rfl

/-- Every command but the power-on runs its effect through `run`. -/
theorem exec_eq_run (c : Instr) (hc : ∀ x, c ≠ .powerOn x) : ∃ f, ∀ s, exec c s = run f s := by
  cases c with
  | powerOn x => exact absurd rfl (hc x)
  | _ => exact ⟨_, fun _ => rfl⟩

theorem exec_powerOn (x : Straps) (s : State) : exec (.powerOn x) s = .next ((s.rebooted true x).settle s.pending) := rfl

theorem run_unpowered (f : State → State) {s : State} (h : s.powered = false) : run f s = .next s := if_neg (by simp [h])

/-- What a command can do: its effect settles, or, without power, nothing happens. -/
theorem exec_cases (c : Instr) (s : State) : (∃ u : State, exec c s = .next (u.settle s.pending)) ∨ exec c s = .next s := by
  by_cases hc : ∀ x, c ≠ .powerOn x
  · obtain ⟨f, hf⟩ := exec_eq_run c hc
    cases hp : s.powered with
    | true => exact .inl ⟨f s, (hf s).trans (if_pos hp)⟩
    | false => exact .inr ((hf s).trans (run_unpowered f hp))
  · push Not at hc
    obtain ⟨x, rfl⟩ := hc
    exact .inl ⟨_, exec_powerOn x s⟩

/-- Settles O1: the queue of the state stepped is the one whose front was taken. -/
theorem frontCommandRuns : Obligations.FrontCommandRuns := fun _ _ => rfl

/-- Settles O3: a command's effect settles with the queue as it was, and without power `run` changes nothing. -/
theorem everyCommandAnswersAndNoneActsUnpowered : Obligations.EveryCommandAnswersAndNoneActsUnpowered := by
  refine ⟨fun c s => ?_, fun c s hp hc => ?_⟩
  · rcases exec_cases c s with ⟨u, hu⟩ | hs
    · exact ⟨_, hu, u.settle_pending _⟩
    · exact ⟨s, hs, rfl⟩
  · obtain ⟨f, hf⟩ := exec_eq_run c hc
    rw [hf, run_unpowered f hp]

/-- The passing of time takes no command and raises no event. -/
theorem State.idle_queues (s : State) : s.idle.pending = s.pending ∧ s.idle.raised = s.raised :=
  iteInduction (motive := fun (t : State) => t.pending = s.pending ∧ t.raised = s.raised)
    (fun _ => iteInduction (motive := fun (t : State) => t.pending = s.pending ∧ t.raised = s.raised) (fun _ => ⟨rfl, rfl⟩) (fun _ => ⟨rfl, rfl⟩))
    (fun _ => ⟨rfl, rfl⟩)

/-- What a step can do: time passes with nothing waiting, or the front command's effect settles, or it is dropped without power. -/
theorem step_cases (s : State) :
    (s.pending = [] ∧ step s = .next s.idle) ∨ (∃ u : State, step s = .next (u.settle s.pending.tail)) ∨ step s = .next { s with pending := s.pending.tail } := by
  unfold step
  split
  next hp => exact .inl ⟨hp, rfl⟩
  next c r hp =>
    rw [hp, List.tail_cons]
    exact .inr (exec_cases c _)

/-- A step answers a next state and takes one command of those that wait. -/
theorem step_takes_front (s : State) : ∃ t : State, step s = .next t ∧ t.pending = s.pending.tail := by
  rcases step_cases s with ⟨hp, h⟩ | ⟨u, h⟩ | h
  · exact ⟨_, h, by rw [s.idle_queues.1, hp, List.tail_nil]⟩
  · exact ⟨_, h, u.settle_pending _⟩
  · exact ⟨_, h, rfl⟩

/-- A run goes on from where a step that answers a next state leads. -/
theorem core_run_succ {M : Host.Core} {s t : M.State} (k : Nat) (h : M.step s = .next t) : M.run (k + 1) s = M.run k t := by
  rw [Host.Core.run, h]

/-- Settles O4, by induction on the number of steps: each takes the front command. -/
theorem queueDrainsInOrder : Obligations.QueueDrainsInOrder := by
  intro s k
  induction k generalizing s with
  | zero => exact ⟨s, rfl, rfl⟩
  | succ k ih =>
    obtain ⟨t, ht, hq⟩ := step_takes_front s
    obtain ⟨u, hu, hr⟩ := ih t
    exact ⟨u, (core_run_succ (M := core) k ht).trans hu, by rw [hr, hq, List.drop_tail]⟩

/-- Settles O5: an effect's events are delivered as it settles, and nothing else that a step does raises one. -/
theorem everyStepStaysSettled : Obligations.EveryStepStaysSettled := by
  intro s t hs ht
  rcases step_cases s with ⟨-, h⟩ | ⟨u, h⟩ | h <;> obtain rfl := Host.Outcome.next.inj (ht.symm.trans h)
  · exact s.idle_queues.2.trans hs
  · exact u.settle_raised _
  · exact hs

end Sys2Proof.Machine
end

section
/-! PROOFS. What the memory array, the caches, the directory and the translation leave alone (05, 06, 07): everything but the registers, their own stores,
the reports and events they make, the bandwidth monitors, the recorded lines and the free values. -/

namespace Sys2Proof.Machine

/-- The part of the state that no access to system memory touches. -/
def State.sansMemory (s : State) : State :=
  { s with regs := [], ma := .reset, coh := .reset, tlb := .reset, fc := .reset, pw := .reset, recorded := [], yieldReq := false, raised := [], freeCtr := 0 }

variable (s : State)

@[simp] theorem State.wreg_sansMemory (r : Reg) (i v : Nat) : (s.wreg r i v).sansMemory = s.sansMemory := (rfl)
@[simp] theorem State.sf_sansMemory (f : RF) (v i : Nat) : (s.sf f v i).sansMemory = s.sansMemory := s.wreg_sansMemory f.reg i _
@[simp] theorem State.bump_sansMemory (r : Reg) (i n : Nat) : (s.bump r i n).sansMemory = s.sansMemory := s.wreg_sansMemory r i _
@[simp] theorem State.raise_sansMemory (n : Nat) : (s.raise n).sansMemory = s.sansMemory := (rfl)
@[simp] theorem State.report_sansMemory (r : Report) : (s.report r).sansMemory = s.sansMemory := (rfl)
@[simp] theorem State.setUnit_sansMemory (o : Nat) (f : UnitSt → UnitSt) : (s.setUnit o f).sansMemory = s.sansMemory := (rfl)
@[simp] theorem State.fresh_sansMemory (w : Nat) : (s.fresh w).2.sansMemory = s.sansMemory := (rfl)
@[simp] theorem State.withCoh_sansMemory (c : CohSt) : ({ s with coh := c } : State).sansMemory = s.sansMemory := (rfl)
@[simp] theorem State.withMa_sansMemory (m : ArraySt) : ({ s with ma := m } : State).sansMemory = s.sansMemory := (rfl)
@[simp] theorem State.withRecorded_sansMemory (l : List Nat) : ({ s with recorded := l } : State).sansMemory = s.sansMemory := (rfl)

/-- The untouched part of a choice between two states. -/
@[simp] theorem sansMemory_ite (c : Prop) [Decidable c] (a b : State) : (if c then a else b).sansMemory = if c then a.sansMemory else b.sansMemory :=
  apply_ite ..

variable {s}

theorem OnlyRegs.sansMemory {t : State} (h : OnlyRegs s t) : t.sansMemory = s.sansMemory :=
  (congrArg State.sansMemory h.rest :)

@[simp] theorem State.each_sansMemory {α : Type} {l : List α} {f : State → α → State} (h : ∀ x a, (f x a).sansMemory = x.sansMemory) :
    (s.each l f).sansMemory = s.sansMemory :=
  foldl_keeps (fun (x : State) => x.sansMemory = s.sansMemory) _ _ _ rfl (fun x a hx _ => (h x a).trans hx)

@[simp] theorem State.when_sansMemory {c : Bool} {f : State → State} (h : ∀ x, (f x).sansMemory = x.sansMemory) : (s.when c f).sansMemory = s.sansMemory := by
  cases c
  · rfl
  · exact h s

variable (s)

/-! ### Counters, events and units -/

@[simp] theorem State.pmEvent_sansMemory (ev unit : Nat) (inst : Option Nat) (n : Nat) : (s.pmEvent ev unit inst n).sansMemory = s.sansMemory :=
  (s.pmEvent_only ev unit inst n).sansMemory

@[simp] theorem State.bwBytes_sansMemory (p n : Nat) (i : Option Nat) : (s.bwBytes p n i).sansMemory = s.sansMemory := by
  unfold State.bwBytes
  split <;> rfl

@[simp] theorem State.raiseMs_sansMemory (n : Nat) : (s.raiseMs n).sansMemory = s.sansMemory := by
  unfold State.raiseMs
  split
  · split <;> rfl
  · rfl

@[simp] theorem State.outOfService_sansMemory (o : Nat) : (s.outOfService o).1.sansMemory = s.sansMemory := by
  unfold State.outOfService
  split <;> rfl

@[simp] theorem State.crossInto_sansMemory (c : Nat) : (s.crossInto c).sansMemory = s.sansMemory := by
  simp [State.crossInto]

@[simp] theorem State.askTakeover_sansMemory : s.askTakeover.sansMemory = s.sansMemory := State.when_sansMemory (fun _ => rfl)

/-! ### The memory array (07) -/

@[simp] theorem State.setSig_sansMemory (j k : Nat) (p : Bool) : (s.setSig j k p).sansMemory = s.sansMemory := by simp [State.setSig]
@[simp] theorem State.setMask_sansMemory (i k v : Nat) : (s.setMask i k v).sansMemory = s.sansMemory := by simp [State.setMask]
@[simp] theorem State.setPoison_sansMemory (line : Nat) (p : Bool) : (s.setPoison line p).sansMemory = s.sansMemory := by simp [State.setPoison]
@[simp] theorem State.putCell_sansMemory (i k b v : Nat) : (s.putCell i k b v).sansMemory = s.sansMemory := by simp [State.putCell]

@[simp] theorem State.putByte_sansMemory (k j b v : Nat) : (s.putByte k j b v).sansMemory = s.sansMemory := by
  unfold State.putByte
  dsimp only
  split <;> split <;> simp

@[simp] theorem State.maElog_sansMemory (kind ch line : Nat) : (s.maElog kind ch line).sansMemory = s.sansMemory := by simp [State.maElog]

@[simp] theorem State.arrayPut_sansMemory (line : Nat) (data : Line) (mask : BitVec 64) (p : Bool) :
    (s.arrayPut line data mask p).sansMemory = s.sansMemory := by simp [State.arrayPut]

@[simp] theorem State.srTouch_sansMemory (line : Nat) : (s.srTouch line).sansMemory = s.sansMemory := by simp [State.srTouch]

@[simp] theorem State.setChan_sansMemory (m st : Nat) : (s.setChan m st).sansMemory = s.sansMemory := by simp [State.setChan, State.maRefresh]

@[simp] theorem State.leaveRebuild_sansMemory (m : Nat) : (s.leaveRebuild m).sansMemory = s.sansMemory := by
  simp [State.leaveRebuild, State.nextPass, State.startPass]

@[simp] theorem State.loseChan_sansMemory (m cause : Nat) : (s.loseChan m cause).sansMemory = s.sansMemory := by simp [State.loseChan]

@[simp] theorem State.deviceError_sansMemory (m rank dev : Nat) : (s.deviceError m rank dev).sansMemory = s.sansMemory := by
  unfold State.deviceError
  dsimp only
  split
  · exact s.withMa_sansMemory _
  · split
    · simp only [State.report_sansMemory, State.raise_sansMemory, State.sf_sansMemory]
      exact s.withMa_sansMemory _
    · split
      · exact s.withMa_sansMemory _
      · exact (State.loseChan_sansMemory ..).trans (s.withMa_sansMemory _)

@[simp] theorem State.lineCorrected_sansMemory (m : Nat) (f : ChanFinding) : (s.lineCorrected m f).sansMemory = s.sansMemory := by simp [State.lineCorrected]
@[simp] theorem State.reconstructed_sansMemory (m line : Nat) : (s.reconstructed m line).sansMemory = s.sansMemory := by
  have hrep : ∀ r : Report, (((s.bump rMA_CH_RECON m).pmEvent 0x0403 m).report r).sansMemory = s.sansMemory := by simp
  unfold State.reconstructed
  dsimp only
  split
  · exact (State.loseChan_sansMemory ..).trans ((State.withMa_sansMemory ..).trans (hrep _))
  · exact (State.withMa_sansMemory ..).trans (hrep _)

@[simp] theorem State.arrayPoison_sansMemory (line cause kind : Nat) : (s.arrayPoison line cause kind).sansMemory = s.sansMemory := by simp [State.arrayPoison]

@[simp] theorem State.codeFinding_sansMemory (k : Nat) (ers : List Nat) (f : ChanFinding) : (s.codeFinding k ers f).sansMemory = s.sansMemory := by
  unfold State.codeFinding
  dsimp only
  split
  · rfl
  · split
    · simp
    · split <;> simp

@[simp] theorem State.readSlots_sansMemory (k : Nat) (is : List Nat) : (s.readSlots k is).sansMemory = s.sansMemory := by simp [State.readSlots]
@[simp] theorem State.writeSlots_sansMemory (k : Nat) (is : List Nat) : (s.writeSlots k is).sansMemory = s.sansMemory := by simp [State.writeSlots]

@[simp] theorem State.readMeets_sansMemory (line : Nat) (fs : List ChanFinding) : (s.readMeets line fs).sansMemory = s.sansMemory := by
  simp [State.readMeets, State.readTransfers, State.codeFindings]

@[simp] theorem State.memPut_sansMemory (line : Nat) (data : Line) (mask : BitVec 64) (p : Bool) : (s.memPut line data mask p).sansMemory = s.sansMemory := by
  simp [State.memPut, State.writeTransfers]

/-! ### The caches and the directory (05) -/

@[simp] theorem State.setL2_sansMemory (q line : Nat) (l : L2Line) : (s.setL2 q line l).sansMemory = s.sansMemory := (rfl)
@[simp] theorem State.setDir_sansMemory (line : Nat) (d : DirEnt) : (s.setDir line d).sansMemory = s.sansMemory := (rfl)
@[simp] theorem State.unbusy_sansMemory (line : Nat) : (s.unbusy line).sansMemory = s.sansMemory := (rfl)
@[simp] theorem State.hold_sansMemory (r : CohReq) : (s.hold r).sansMemory = s.sansMemory := (rfl)
@[simp] theorem State.takeUp_sansMemory (r : CohReq) : (s.takeUp r).sansMemory = s.sansMemory := (rfl)

@[simp] theorem State.setBusy_sansMemory (t : HomeTxn) : (s.setBusy t).sansMemory = s.sansMemory :=
  (State.withCoh_sansMemory ..).trans (s.unbusy_sansMemory _)

@[simp] theorem State.l1Invalidate_sansMemory (q line : Nat) : (s.l1Invalidate q line).sansMemory = s.sansMemory :=
  (State.withCoh_sansMemory ..).trans (State.each_sansMemory (fun x c => x.crossInto_sansMemory c))

@[simp] theorem State.dropL2_sansMemory (q line : Nat) : (s.dropL2 q line).sansMemory = s.sansMemory :=
  (State.withCoh_sansMemory ..).trans (s.l1Invalidate_sansMemory q line)

@[simp] theorem State.dropAll_sansMemory (line : Nat) : (s.dropAll line).sansMemory = s.sansMemory := by simp [State.dropAll]

@[simp] theorem State.homePut_sansMemory (line : Nat) (data : Line) (p : Bool) (w : Nat) : (s.homePut line data p w).sansMemory = s.sansMemory := by
  unfold State.homePut
  split <;> simp

@[simp] theorem State.lineWrite_sansMemory (line : Nat) (data : Line) (mask : BitVec 64) (w : Nat) :
    (s.lineWrite line data mask w).sansMemory = s.sansMemory := by
  unfold State.lineWrite
  dsimp only
  split <;> simp

@[simp] theorem State.writeBackM_sansMemory (q line : Nat) : (s.writeBackM q line).sansMemory = s.sansMemory := by
  unfold State.writeBackM
  split <;> simp

@[simp] theorem State.l2Store_sansMemory (q line : Nat) (data : Line) (mask : BitVec 64) : (s.l2Store q line data mask).sansMemory = s.sansMemory := by
  unfold State.l2Store
  split <;> simp

@[simp] theorem State.leaveDir_sansMemory (q line : Nat) : (s.leaveDir q line).sansMemory = s.sansMemory := s.setDir_sansMemory line _

@[simp] theorem State.dirEvictNow_sansMemory (line : Nat) : (s.dirEvictNow line).sansMemory = s.sansMemory := by
  unfold State.dirEvictNow
  dsimp only
  split
  · rfl
  · split <;> simp

theorem State.dirVictim_sansMemory (line : Nat) : (s.dirVictim line).1.sansMemory = s.sansMemory := by
  unfold State.dirVictim
  dsimp only
  split
  · rfl
  · exact s.fresh_sansMemory 32

theorem State.sansMemory_of_dirVictim {s t : State} {line : Nat} {v : Option Nat} (h : s.dirVictim line = (t, v)) : t.sansMemory = s.sansMemory := by
  rw [← s.dirVictim_sansMemory line, h]

@[simp] theorem State.dirRoom_sansMemory (line : Nat) : (s.dirRoom line).sansMemory = s.sansMemory := by
  unfold State.dirRoom
  split
  · split
    next h => simp [State.sansMemory_of_dirVictim h]
    next h => exact State.sansMemory_of_dirVictim h
  · rfl

@[simp] theorem State.meshEvict_sansMemory (line : Nat) : (s.meshEvict line).sansMemory = s.sansMemory := by
  unfold State.meshEvict
  split
  next l _ =>
    have hput : ∀ x : State, (if l.dirty then x.memPut line l.data (BitVec.allOnes 64) l.poison else x).sansMemory = x.sansMemory := by simp
    refine (hput _).trans ((State.withCoh_sansMemory ..).trans ?_)
    split
    · split
      next h => simp [State.sansMemory_of_dirVictim h]
      next h => exact State.sansMemory_of_dirVictim h
    · rfl
  next => rfl

@[simp] theorem State.meshRoom_sansMemory (line : Nat) : (s.meshRoom line).sansMemory = s.sansMemory := by
  unfold State.meshRoom
  extract_lets l
  split
  · rfl
  · exact (State.meshEvict_sansMemory ..).trans (s.fresh_sansMemory 32)

@[simp] theorem State.writeback_sansMemory (q line : Nat) : (s.writeback q line).sansMemory = s.sansMemory := by
  unfold State.writeback
  dsimp only
  split
  · split
    · simp only [State.bwBytes_sansMemory, State.pmEvent_sansMemory, State.leaveDir_sansMemory, State.dropL2_sansMemory]
      split
      · exact s.memPut_sansMemory ..
      · exact (State.withCoh_sansMemory ..).trans (s.meshRoom_sansMemory line)
    · rfl
  · rfl

@[simp] theorem State.evictClean_sansMemory (q line : Nat) : (s.evictClean q line).sansMemory = s.sansMemory := by
  unfold State.evictClean
  split
  · split <;> simp
  · rfl

@[simp] theorem State.l2Room_sansMemory (q line : Nat) : (s.l2Room q line).sansMemory = s.sansMemory := by
  unfold State.l2Room
  extract_lets l
  split
  · rfl
  · exact (State.evictClean_sansMemory ..).trans ((State.writeback_sansMemory ..).trans (s.fresh_sansMemory 32))

@[simp] theorem State.fillL2_sansMemory (q line : Nat) (l : L2Line) : (s.fillL2 q line l).sansMemory = s.sansMemory := by simp [State.fillL2]

/-! ### Requests at the home slice (05 R182-R188) -/

@[simp] theorem State.grantM_sansMemory (q line inst : Nat) (data : Line) (p : Bool) : (s.grantM q line inst data p).sansMemory = s.sansMemory := by
  simp [State.grantM]

@[simp] theorem State.finishTxn_sansMemory (t : HomeTxn) : (s.finishTxn t).sansMemory = s.sansMemory := by
  unfold State.finishTxn
  cases hk : t.req.kind with
  | readOwn | upgrade => cases hq : t.req.quad <;> simp [hk, hq]
  | _ => simp [hk]

@[simp] theorem State.writerChange_sansMemory (q line inst : Nat) : (s.writerChange q line inst).sansMemory = s.sansMemory := by
  unfold State.writerChange
  dsimp only
  split
  · split <;> simp
  · rfl

/-- The home's answer to a request, kind by kind. -/
@[simp] theorem State.serveAs_sansMemory (r : CohReq) (d : DirEnt) (v : Line × Bool) : (s.serveAs r d v).sansMemory = s.sansMemory := by
  unfold State.serveAs
  cases hk : r.kind with
  | readShared | readOwn | upgrade => cases r.quad <;> cases d.owner <;> simp
  | writerChange => cases r.quad <;> simp
  | readSnoop => cases d.owner <;> simp
  | writeLine dt mask => simp
  | _ => rfl

@[simp] theorem State.loseLine_sansMemory (line : Nat) : (s.loseLine line).sansMemory = s.sansMemory := by simp [State.loseLine]
@[simp] theorem State.noteLost_sansMemory (k w : Nat) : (s.noteLost k w).sansMemory = s.sansMemory := by simp [State.noteLost]

@[simp] theorem State.reclaimLine_sansMemory (q line : Nat) : (s.reclaimLine q line).sansMemory = s.sansMemory := by
  unfold State.reclaimLine
  split <;> simp

@[simp] theorem State.onDemand_sansMemory (line : Nat) : (s.onDemand line).sansMemory = s.sansMemory := by simp [State.onDemand]

@[simp] theorem State.meets_sansMemory (r : CohReq) (fs : List ChanFinding) : (s.meets r fs).sansMemory = s.sansMemory := by simp [State.meets]

@[simp] theorem State.serve_sansMemory (r : CohReq) (fs : List ChanFinding) : (s.serve r fs).sansMemory = s.sansMemory :=
  (State.serveAs_sansMemory ..).trans (s.meets_sansMemory r fs)

@[simp] theorem State.nack_sansMemory (r : CohReq) : (s.nack r).sansMemory = s.sansMemory :=
  (State.hold_sansMemory ..).trans (s.countNack_only r).sansMemory

@[simp] theorem State.dirEvict_sansMemory (line : Nat) : (s.dirEvict line).sansMemory = s.sansMemory := by simp [State.dirEvict]

@[simp] theorem State.startEvict_sansMemory (line : Nat) : (s.startEvict line).sansMemory = s.sansMemory := by
  unfold State.startEvict
  split
  · rfl
  · split
    next h => simp [State.sansMemory_of_dirVictim h]
    next h => exact State.sansMemory_of_dirVictim h

@[simp] theorem State.request_sansMemory (r : CohReq) (fs : List ChanFinding) : (s.request r fs).sansMemory = s.sansMemory := by simp [State.request]

@[simp] theorem State.fwdShared_sansMemory (line : Nat) : (s.fwdShared line).sansMemory = s.sansMemory := by
  unfold State.fwdShared
  split
  · split <;> simp
  · rfl

@[simp] theorem State.fwdOwn_sansMemory (line : Nat) : (s.fwdOwn line).sansMemory = s.sansMemory := by
  unfold State.fwdOwn
  split
  · split <;> simp
  · rfl

@[simp] theorem State.snoop_sansMemory (line : Nat) : (s.snoop line).sansMemory = s.sansMemory := by
  unfold State.snoop
  split
  · split <;> simp
  · rfl

@[simp] theorem State.acknowledge_sansMemory (t : HomeTxn) (q : Nat) : (s.acknowledge t q).sansMemory = s.sansMemory := by simp [State.acknowledge]

@[simp] theorem State.invalidate_sansMemory (q line : Nat) : (s.invalidate q line).sansMemory = s.sansMemory := by
  unfold State.invalidate
  split <;> simp

@[simp] theorem State.recallReply_sansMemory (q line : Nat) : (s.recallReply q line).sansMemory = s.sansMemory := by
  unfold State.recallReply
  split
  · simp
  · dsimp only
    split <;> simp

@[simp] theorem State.recall_sansMemory (q line : Nat) : (s.recall q line).sansMemory = s.sansMemory := by
  unfold State.recall
  dsimp only
  split <;> simp

@[simp] theorem State.rebuildDir_sansMemory (line : Nat) : (s.rebuildDir line).sansMemory = s.sansMemory := by
  unfold State.rebuildDir
  dsimp only
  split
  · simp
  · split <;> simp

@[simp] theorem State.reclaimEnd_sansMemory (k : Nat) : (s.reclaimEnd k).sansMemory = s.sansMemory := by simp [State.reclaimEnd]

@[simp] theorem State.sliceTake_sansMemory (a : Nat) : (s.sliceTake a).sansMemory = s.sansMemory := by simp [State.sliceTake]

@[simp] theorem State.answerAll_sansMemory (line : Nat) : (s.answerAll line).sansMemory = s.sansMemory := by
  refine (State.each_sansMemory (fun x q => ?_)).trans (by simp)
  split
  · simp
  · rfl

@[simp] theorem State.settleLine_sansMemory (line : Nat) : (s.settleLine line).sansMemory = s.sansMemory := by
  unfold State.settleLine
  dsimp only
  split <;> simp

@[simp] theorem State.acquireM_sansMemory (q line inst : Nat) : (s.acquireM q line inst).sansMemory = s.sansMemory := by
  unfold State.acquireM
  dsimp only
  split
  · split <;> simp
  · simp

@[simp] theorem State.coWriteN_sansMemory (pa n v w : Nat) : (s.coWriteN pa n v w).sansMemory = s.sansMemory := by simp [State.coWriteN, State.coWrite]

/-! ### I/O translation and writes (06) -/

@[simp] theorem State.recordSpan_sansMemory (pr : Bool) (pa n : Nat) : (s.recordSpan pr pa n).sansMemory = s.sansMemory := by
  simp [State.recordSpan, State.recordLine]

@[simp] theorem State.adUpdate_sansMemory (quad inst : Nat) (u : AdUpd) : (s.adUpdate quad inst u).sansMemory = s.sansMemory := by simp [State.adUpdate]

@[simp] theorem State.tlbFill_sansMemory (u : Nat) (t : TlbEnt) : (s.tlbFill u t).sansMemory = s.sansMemory := by
  unfold State.tlbFill
  dsimp only
  split <;> rfl

@[simp] theorem State.refuse_sansMemory (agent inst tpa : Nat) (table : Option Nat) : (s.refuse agent inst tpa table).sansMemory = s.sansMemory := (rfl)
@[simp] theorem State.ioAddress_sansMemory (agent inst pa : Nat) : (s.ioAddress agent inst pa).sansMemory = s.sansMemory := (rfl)

theorem State.ioLand_sansMemory (agent inst tpa pa : Nat) (pr : Bool) : (s.ioLand agent inst tpa pa pr).1.sansMemory = s.sansMemory := by
  unfold State.ioLand
  split
  · rfl
  · split <;> rfl

theorem State.ioWalk_sansMemory (u agent inst tpa : Nat) (write : Bool) : (s.ioWalk u agent inst tpa write).1.sansMemory = s.sansMemory := by
  unfold State.ioWalk
  split
  next f _ => exact s.refuse_sansMemory ..
  next l _ =>
    have hland := s.ioLand_sansMemory agent inst tpa (l.out 51 tpa) (bit l.ent 5)
    extract_lets p
    split
    · exact s.refuse_sansMemory ..
    · split
      next h =>
        rw [h] at hland
        exact (State.tlbFill_sansMemory ..).trans ((State.each_sansMemory (fun x u => x.adUpdate_sansMemory 0 inst u)).trans hland)
      next => exact hland

theorem State.ioXlat_sansMemory (u agent inst gen tpa : Nat) (write : Bool) : (s.ioXlat u agent inst gen tpa write).1.sansMemory = s.sansMemory := by
  unfold State.ioXlat
  split
  · exact s.bump_sansMemory ..
  · split
    · rfl
    · split
      · split
        · rfl
        · split
          · exact s.ioWalk_sansMemory ..
          · exact s.ioLand_sansMemory ..
      · exact s.ioWalk_sansMemory ..

/-- A write by an I/O agent, allowed or refused, stays within the memory system (06 R253). -/
theorem State.ioWrite_sansMemory (agent inst gen tpa n v : Nat) : (s.ioWrite agent inst gen tpa n v).1.sansMemory = s.sansMemory := by
  unfold State.ioWrite
  extract_lets pages r
  have hr : r.1.sansMemory = s.sansMemory := by
    refine foldl_keeps (fun (acc : State × Except Nat (List (Nat × Nat × Nat × Bool))) => acc.1.sansMemory = s.sansMemory) _ pages _ rfl (fun acc p hacc _ => ?_)
    split
    next => exact hacc
    next x l =>
      have hx := x.ioXlat_sansMemory hubUnit agent inst gen p.1 true
      split
      next h =>
        rw [h] at hx
        split
        · exact hx.trans hacc
        · exact hx.trans hacc
      all_goals
        next h =>
          rw [h] at hx
          exact hx.trans hacc
  clear_value r
  obtain ⟨x, e | l⟩ := r
  · exact hr
  · exact (State.each_sansMemory (fun y a => by simp)).trans hr

end Sys2Proof.Machine
end

section
/-! PROOFS. The delivery of events (01 R35-R38): what a command's end touches, and the routes. -/

namespace Sys2Proof.Machine

/-- The part of the state that no delivery of an event touches. -/
def State.sansEvents (s : State) : State := { s.sansMemory with tn := .reset, kc := .reset, mp := .reset, outs := [] }

theorem State.sansEvents_of_sansMemory {s t : State} (h : t.sansMemory = s.sansMemory) : t.sansEvents = s.sansEvents := by
  unfold State.sansEvents
  rw [h]

variable (s : State)

@[simp] theorem State.sf_sansEvents (f : RF) (v i : Nat) : (s.sf f v i).sansEvents = s.sansEvents := State.sansEvents_of_sansMemory (s.sf_sansMemory f v i)
@[simp] theorem State.bump_sansEvents (r : Reg) (i n : Nat) : (s.bump r i n).sansEvents = s.sansEvents := State.sansEvents_of_sansMemory (s.bump_sansMemory r i n)
@[simp] theorem State.wreg_sansEvents (r : Reg) (i v : Nat) : (s.wreg r i v).sansEvents = s.sansEvents := State.sansEvents_of_sansMemory (s.wreg_sansMemory r i v)
@[simp] theorem State.incSat_sansEvents (f : RF) (i n : Nat) : (s.incSat f i n).sansEvents = s.sansEvents := s.sf_sansEvents f _ i
@[simp] theorem State.emit_sansEvents (o : Output) : (s.emit o).sansEvents = s.sansEvents := (rfl)
@[simp] theorem State.setInst_sansEvents (i : Nat) (f : InstSt → InstSt) : (s.setInst i f).sansEvents = s.sansEvents := (rfl)
@[simp] theorem State.setVc_sansEvents (k : Nat) (f : VCore → VCore) : (s.setVc k f).sansEvents = s.sansEvents := (rfl)
@[simp] theorem State.setIpend_sansEvents (i v b : Nat) : (s.setIpend i v b).sansEvents = s.sansEvents := s.setVc_sansEvents _ _
@[simp] theorem State.eqDrop_sansEvents (i : Nat) : (s.eqDrop i).sansEvents = s.sansEvents := by simp [State.eqDrop]

theorem State.eqPost_sansEvents (i g entry : Nat) : (s.eqPost i g entry).sansEvents = s.sansEvents := by
  unfold State.eqPost
  extract_lets lg tail head n a
  split
  · rfl
  · split
    · simp
    · split
      · simp
      · split
        · simp
        · have hw := State.sansEvents_of_sansMemory (s.ioWrite_sansMemory (org 0x17 i) i g a 32 entry)
          split
          next h =>
            rw [h] at hw
            simpa using hw
          next h =>
            rw [h] at hw
            dsimp only
            split
            · simpa using hw
            · simpa using hw

theorem State.msixSend_sansEvents (v : Nat) : (s.msixSend v).sansEvents = s.sansEvents := by
  unfold State.msixSend
  split
  · rfl
  · split <;> rfl

theorem State.deliverOne_sansEvents (n : Nat) : (s.deliverOne n).sansEvents = s.sansEvents := by
  unfold State.deliverOne
  extract_lets vec eq i okq t
  have ht : t.sansEvents = s.sansEvents := iteInduction (motive := fun (t : State) => t.sansEvents = s.sansEvents) (fun _ => s.msixSend_sansEvents _) (fun _ => rfl)
  split
  · split
    · exact (State.eqPost_sansEvents ..).trans ht
    · exact (State.incSat_sansEvents ..).trans ht
  · split
    · exact ht
    · exact (State.incSat_sansEvents ..).trans ht

theorem State.deliverRound_sansEvents : s.deliverRound.sansEvents = s.sansEvents :=
  foldl_keeps (fun (x : State) => x.sansEvents = s.sansEvents) _ _ _ rfl (fun x n hx _ => (x.deliverOne_sansEvents n).trans hx)

/-- Settling a command touches what deliveries touch, and sets the queue. -/
theorem State.settle_sansEvents (q : List Instr) : (s.settle q).sansEvents = { s.sansEvents with pending := q } :=
  congrArg (fun (x : State) => { x with pending := q }) ((State.deliverRound_sansEvents _).trans s.deliverRound_sansEvents)

theorem State.deliverRound_of_raised_nil {s : State} (h : s.raised = []) : s.deliverRound = s := by
  have he : s.deliverRound = { s with raised := [] } := by
    unfold State.deliverRound
    rw [h]
    rfl
  rw [he, ← h]

/-- Nothing raised, nothing delivered. -/
theorem State.settle_of_raised_nil {s : State} (q : List Instr) (h : s.raised = []) : s.settle q = { s with pending := q } := by
  unfold State.settle
  rw [State.deliverRound_of_raised_nil h, State.deliverRound_of_raised_nil h, ← h]

/-- One event raised is delivered in the first round; a delivery that raises nothing leaves nothing to the second. -/
theorem State.settle_of_raised_one {s t : State} {n : Nat} (q : List Instr) (h : s.raised = [n]) (hd : ({ s with raised := [] } : State).deliverOne n = t) (ht : t.raised = []) :
    s.settle q = { t with raised := [], pending := q } := by
  have hr : s.deliverRound = t := by
    unfold State.deliverRound
    rw [h]
    exact hd
  unfold State.settle
  rw [hr, State.deliverRound_of_raised_nil ht]

theorem State.deliverOne_vector {s : State} {n : Nat} (he : s.rb MP_EVT_ROUTE_EQ_EN n = false) (hv : s.rb MP_EVT_ROUTE_VEC_EN n = true) :
    s.deliverOne n = s.msixSend (s.rf MP_EVT_ROUTE_VECTOR n) := by
  simp [State.deliverOne, he, hv]

theorem State.deliverOne_unrouted {s : State} {n : Nat} (he : s.rb MP_EVT_ROUTE_EQ_EN n = false) (hv : s.rb MP_EVT_ROUTE_VEC_EN n = false) :
    s.deliverOne n = s.incSat MP_EVT_DROP_COUNT := by
  simp [State.deliverOne, he, hv]

/-- A vector that may be sent goes out with its table entry's address and data. -/
theorem State.msixSend_of_mayGo {s : State} {v : Nat} (hb : s.mp.busMaster = true) (he : s.mp.msixEn = true) (hm : s.mp.msixMask = false) (hv : bit (s.msixEntry v) 96 = false) :
    s.msixSend v = s.emit (.msix v (bits (s.msixEntry v) 63 0) (bits (s.msixEntry v) 95 64)) :=
  if_pos (by simp [State.msixOpen, hb, he, hm, hv])

/-- Settles O7: the frame is that of `State.settle_sansEvents`, and each route is a case of one delivery. -/
theorem eventsFollowTheirRoutes : Obligations.EventsFollowTheirRoutes := by
  refine ⟨fun s q => ?_, fun s n he => ⟨State.deliverOne_vector he, State.deliverOne_unrouted he⟩, fun s q n hr he hv => ?_,
    fun s q hr => State.settle_of_raised_nil q hr⟩
  · have h := s.settle_sansEvents q
    exact ⟨rfl, rfl, (congrArg State.cz h :), (congrArg State.cy h :), (congrArg State.ch h :), (congrArg State.fr h :), (congrArg State.tw h :),
      (congrArg State.vt h :), (congrArg State.leases h :), (congrArg State.powered h :)⟩
  · intro v e hb hen hm hbit
    let z : State := { s with raised := [] }
    have hd : z.deliverOne n = z.emit (.msix v (bits e 63 0) (bits e 95 64)) :=
      (State.deliverOne_vector (s := z) he hv).trans (State.msixSend_of_mayGo (s := z) hb hen hm hbit)
    exact State.settle_of_raised_one q hr hd rfl

end Sys2Proof.Machine
end

section
/-! PROOFS. Exception entry and ERET (02 R74, R124), by the fields of KC_STATUS and the control registers that they write. -/

namespace Sys2Proof.Machine

/-! ### Control registers of an image -/

theorem crReset_lt (n : Nat) : crReset n < 2 ^ 64 := by
  unfold crReset
  split
  · decide
  · split <;> decide

theorem VCore.getCr_eq_getD (k : VCore) (n : Nat) : k.getCr n = (Map.getD k.cr n (BitVec.ofNat 64 (crReset n))).toNat := by
  unfold VCore.getCr Map.getD
  cases Map.find k.cr n with
  | some v => rfl
  | none => exact (Nat.mod_eq_of_lt (crReset_lt n)).symm

theorem VCore.getCr_lt (k : VCore) (n : Nat) : k.getCr n < 2 ^ 64 := by
  rw [VCore.getCr_eq_getD]
  exact BitVec.isLt _

/-- A control register reads as it was written. -/
theorem VCore.getCr_setCr_same (k : VCore) (n v : Nat) : (k.setCr n v).getCr n = v % 2 ^ 64 := by
  rw [VCore.getCr_eq_getD, VCore.setCr, Map.getD_set_same, BitVec.toNat_ofNat]

theorem VCore.getCr_setCr_of_lt (k : VCore) (n : Nat) {v : Nat} (h : v < 2 ^ 64) : (k.setCr n v).getCr n = v := by
  rw [VCore.getCr_setCr_same, Nat.mod_eq_of_lt h]

/-- A write of one control register leaves the others alone. -/
theorem VCore.getCr_setCr_other (k : VCore) {n m : Nat} (v : Nat) (h : m ≠ n) : (k.setCr n v).getCr m = k.getCr m := by
  have hf : Map.find (k.setCr n v).cr m = Map.find k.cr m := by
    unfold VCore.setCr Map.set
    dsimp only
    split
    · exact Map.find_del_other _ h
    · exact Map.find_put_other _ _ h
  unfold VCore.getCr
  rw [hf]

/-! ### Entry -/

/-- KC_STATUS after an entry (R74): PL and IE saved in PPL and PIE, then PL = K and IE = 0. -/
def entryStatus (st : Nat) : Nat := setBits (setBits (setBits (setBits st 5 4 (bits st 1 0)) 3 3 (bits st 2 2)) 1 0 1) 2 2 0

theorem entryStatus_lt {st : Nat} (h : st < 2 ^ 64) : entryStatus st < 2 ^ 64 := by
  have h1 := setBits_lt st 5 4 (bits st 1 0) 64 (by decide) (by decide) h
  have h2 := setBits_lt _ 3 3 (bits st 2 2) 64 (by decide) (by decide) h1
  have h3 := setBits_lt _ 1 0 1 64 (by decide) (by decide) h2
  exact setBits_lt _ 2 2 0 64 (by decide) (by decide) h3

/-- Field by field: what each of the four writes stores, and that the bits above them stay. -/
theorem bits_entryStatus (st : Nat) :
    bits (entryStatus st) 5 4 = bits st 1 0 ∧ bits (entryStatus st) 3 3 = bits st 2 2 ∧ bits (entryStatus st) 1 0 = 1 ∧ bits (entryStatus st) 2 2 = 0 ∧
    bits (entryStatus st) 63 6 = bits st 63 6 := by
  unfold entryStatus
  refine ⟨?_, ?_, ?_, ?_, ?_⟩
  · rw [bits_setBits_other _ _ _ _ _ _ (by decide) (by decide), bits_setBits_other _ _ _ _ _ _ (by decide) (by decide),
      bits_setBits_other _ _ _ _ _ _ (by decide) (by decide), bits_setBits_same _ _ _ _ (by decide), Nat.mod_eq_of_lt (bits_lt ..)]
  · rw [bits_setBits_other _ _ _ _ _ _ (by decide) (by decide), bits_setBits_other _ _ _ _ _ _ (by decide) (by decide),
      bits_setBits_same _ _ _ _ (by decide), Nat.mod_eq_of_lt (bits_lt ..)]
  · exact (bits_setBits_other _ _ _ _ _ _ (by decide) (by decide)).trans (bits_setBits_same _ _ _ _ (by decide))
  · exact bits_setBits_same _ _ _ _ (by decide)
  · rw [bits_setBits_other _ _ _ _ _ _ (by decide) (by decide), bits_setBits_other _ _ _ _ _ _ (by decide) (by decide),
      bits_setBits_other _ _ _ _ _ _ (by decide) (by decide), bits_setBits_other _ _ _ _ _ _ (by decide) (by decide)]

/-- KC_ECAUSE after an entry (R68): KIND, SLOT and CODE side by side. -/
theorem causeFields_eq_or {code slot : Nat} (async : Bool) (hc : code < 2 ^ 8) (hs : slot < 2 ^ 3) :
    b2n async * 2048 + slot * 256 + code = b2n async <<< 11 ||| slot <<< 8 ||| code := by
  have hk : b2n async <<< 11 ||| slot <<< 8 = (b2n async <<< 3 ||| slot) <<< 8 := by rw [Nat.shiftLeft_or_distrib, ← Nat.shiftLeft_add]
  rw [hk, ← Nat.shiftLeft_add_eq_or_of_lt hc, ← Nat.shiftLeft_add_eq_or_of_lt hs, Nat.shiftLeft_eq, Nat.shiftLeft_eq]
  ring

/-- The four control registers that an entry writes. -/
theorem VCore.takeExc_getCr (k : VCore) (epc code slot eaddr : Nat) (async : Bool) (n : Nat) :
    (k.takeExc epc code slot eaddr async).getCr n =
      if n = 0 then entryStatus (k.getCr 0) else if n = 1 then epc % 2 ^ 64 else if n = 2 then (b2n async * 2048 + slot * 256 + code) % 2 ^ 64
      else if n = 3 then eaddr % 2 ^ 64 else k.getCr n := by
  have h : (k.takeExc epc code slot eaddr async).getCr n =
      ((((k.setCr 1 epc).setCr 2 (b2n async * 2048 + slot * 256 + code)).setCr 3 eaddr).setCr 0 (entryStatus (k.getCr 0))).getCr n := rfl
  rw [h]
  split_ifs with h0 h1 h2 h3
  · rw [h0, VCore.getCr_setCr_of_lt _ _ (entryStatus_lt (k.getCr_lt 0))]
  · rw [h1, VCore.getCr_setCr_other _ _ (by decide), VCore.getCr_setCr_other _ _ (by decide), VCore.getCr_setCr_other _ _ (by decide), VCore.getCr_setCr_same]
  · rw [h2, VCore.getCr_setCr_other _ _ (by decide), VCore.getCr_setCr_other _ _ (by decide), VCore.getCr_setCr_same]
  · rw [h3, VCore.getCr_setCr_other _ _ (by decide), VCore.getCr_setCr_same]
  · rw [VCore.getCr_setCr_other _ _ h0, VCore.getCr_setCr_other _ _ h3, VCore.getCr_setCr_other _ _ h2, VCore.getCr_setCr_other _ _ h1]

/-! ### ERET -/

theorem bits_eretStatus (st : Nat) : bits (eretStatus st) 1 0 = bits st 5 4 ∧ bits (eretStatus st) 2 2 = bits st 3 3 := by
  unfold eretStatus
  constructor
  · rw [bits_setBits_other _ _ _ _ _ _ (by decide) (by decide), bits_setBits_same _ _ _ _ (by decide), Nat.mod_eq_of_lt (bits_lt ..)]
  · rw [bits_setBits_same _ _ _ _ (by decide), Nat.mod_eq_of_lt (bits_lt ..)]

/-- Settles O8: the entry register by register, and ERET's one write. -/
theorem exceptionEntrySavesAndVectors : Obligations.ExceptionEntrySavesAndVectors := by
  refine ⟨fun k epc code slot eaddr async hepc headdr _ hcode hslot => ?_, fun r h slot => ?_⟩
  · intro t
    have hcr : ∀ n, t.getCr n = _ := k.takeExc_getCr epc code slot eaddr async
    have hst : t.getCr 0 = entryStatus (k.getCr 0) := hcr 0
    have hcause : b2n async * 2048 + slot * 256 + code < 2 ^ 64 := by cases async <;> simp [b2n] <;> omega
    obtain ⟨hppl, hpie, hpl, hie, hrest⟩ := bits_entryStatus (k.getCr 0)
    refine ⟨(hcr 1).trans (Nat.mod_eq_of_lt hepc), ?_, (hcr 3).trans (Nat.mod_eq_of_lt headdr), hst ▸ hppl, hst ▸ hpie, hst ▸ hpl, hst ▸ hie, hst ▸ hrest,
      fun n hn => ?_, ?_, rfl, rfl, rfl, rfl⟩
    · exact (hcr 2).trans ((Nat.mod_eq_of_lt hcause).trans (causeFields_eq_or async (by omega) hslot))
    · rw [hcr, if_neg (by omega), if_neg (by omega), if_neg (by omega), if_neg (by omega)]
    · exact (BitVec.toNat_ofNat ..).trans (Nat.mod_mod ..)
  · obtain ⟨hpl, hie⟩ := bits_eretStatus (h.img.getCr 0)
    exact ⟨_, rfl, rfl, _, rfl, hpl, hie⟩

end Sys2Proof.Machine
end

section
/-! PROOFS. The images of the virtual cores: what an update of one leaves of the others, and how a bundle whose accesses have been issued ends (04 R136). -/

namespace Sys2Proof.Machine

/-! ### Images -/

@[simp] theorem State.vc_setVc_same (s : State) (key : Nat) (f : VCore → VCore) : (s.setVc key f).vc key = f (s.vc key) := by
  simp [State.vc, State.setVc, Map.getD]

theorem State.vc_setVc_other (s : State) {key key' : Nat} (f : VCore → VCore) (h : key' ≠ key) : (s.setVc key f).vc key' = s.vc key' := by
  simp [State.vc, State.setVc, Map.getD, Map.find_put_other _ _ h]

@[simp] theorem State.vc_setCore (s : State) (c : Nat) (f : CoreSt → CoreSt) (key : Nat) : (s.setCore c f).vc key = s.vc key := (rfl)
@[simp] theorem State.vc_setUseq (s : State) (c : Nat) (u : Useq) (key : Nat) : (s.setUseq c u).vc key = s.vc key := (rfl)
@[simp] theorem State.vc_fresh (s : State) (w key : Nat) : (s.fresh w).2.vc key = s.vc key := (rfl)

@[simp] theorem State.vc_pmEvent (s : State) (ev unit : Nat) (inst : Option Nat) (n key : Nat) : (s.pmEvent ev unit inst n).vc key = s.vc key :=
  (congrArg (fun (x : State) => x.vc key) (s.pmEvent_sansMemory ev unit inst n) :)

/-! ### The micro-sequencer touches no image (04 R163) -/

@[simp] theorem State.vc_useqStep (s : State) (c key : Nat) : (s.useqStep c).vc key = s.vc key := by
  unfold State.useqStep
  dsimp only
  split
  · rfl
  · split <;> simp

@[simp] theorem State.vc_useqRun (s : State) (c n key : Nat) : (s.useqRun c n).vc key = s.vc key := by
  induction n generalizing s with
  | zero => rfl
  | succ n ih => rw [State.useqRun, ih, State.vc_useqStep]

@[simp] theorem State.vc_useqEnter (s : State) (c k key : Nat) : (s.useqEnter c k).vc key = s.vc key := (rfl)

@[simp] theorem State.vc_useqDone (s : State) (c key : Nat) : (s.useqDone c).vc key = s.vc key := by
  unfold State.useqDone
  split <;> rfl

/-! ### A bundle's responses and its end -/

/-- Responses that need no other unit are appended to those that are there. -/
theorem autoResp_eq_append (l : List Acc1) (resp : List Nat) : autoResp l resp = resp ++ autoResp l [] := by
  induction l generalizing resp with
  | nil => simp [autoResp]
  | cons a r ih =>
    cases a with
    | got v => rw [autoResp, autoResp, ih, ih ([] ++ [v]), List.nil_append, List.append_assoc]
    | stored b => rw [autoResp, autoResp, ih, ih ([] ++ [0]), List.nil_append, List.append_assoc]
    | _ => simp [autoResp]

/-- A bundle's wait with the responses that need no other unit. -/
def Wait.answered (w : Wait) : Wait := { w with resp := autoResp (w.accs.drop w.resp.length) w.resp }

/-- The image after a bundle without SYSC commits (02 R50, R52). -/
def Wait.commit (w : Wait) (k : VCore) : VCore :=
  { w.writes.foldl (fun (k : VCore) (x : Dst × WVal) => k.put x.1 (x.2.eval w.resp)) k with pc := BitVec.ofNat 64 w.next, wfi := w.wfi, wait := none }

theorem State.settleBundle_waits (s : State) (key : Nat) {w : Wait} (h : w.answered.resp.length < w.accs.length) :
    s.settleBundle key w = s.setVc key (fun k => { k with wait := some w.answered }) := if_pos h

theorem State.settleBundle_commits (s : State) (key : Nat) {w : Wait} (h : w.accs.length ≤ w.answered.resp.length) (hs : w.sysc = none) :
    s.settleBundle key w = s.setVc key w.answered.commit := by
  have hc : s.settleBundle key w = s.commitBundle key w.answered := if_neg (Nat.not_lt.2 h)
  have hsys : w.answered.sysc = none := hs
  rw [hc, State.commitBundle, hsys]
  rfl

/-- A bundle that waits or commits, with SYSC or without, updates its own image alone. -/
theorem State.settleBundle_eq_setVc (key : Nat) (w : Wait) : ∃ f, ∀ s : State, s.settleBundle key w = s.setVc key f := by
  by_cases h : w.answered.resp.length < w.accs.length
  · exact ⟨_, fun s => s.settleBundle_waits key h⟩
  · exact ⟨_, fun s => if_neg h⟩

theorem State.vc_settleBundle_other (s : State) {key key' : Nat} (w : Wait) (h : key' ≠ key) : (s.settleBundle key w).vc key' = s.vc key' := by
  obtain ⟨f, hf⟩ := State.settleBundle_eq_setVc key w
  rw [hf, State.vc_setVc_other _ _ h]

/-- What the images become depends on the images alone. -/
theorem State.vc_settleBundle_congr {s t : State} (h : ∀ k, s.vc k = t.vc k) (key : Nat) (w : Wait) (key' : Nat) :
    (s.settleBundle key w).vc key' = (t.settleBundle key w).vc key' := by
  by_cases hk : key' = key
  · obtain ⟨f, hf⟩ := State.settleBundle_eq_setVc key w
    rw [hk, hf, hf, State.vc_setVc_same, State.vc_setVc_same, h]
  · rw [State.vc_settleBundle_other _ _ hk, State.vc_settleBundle_other _ _ hk, h]

/-- A bundle's accesses performed as far as they go, once its translations are used. -/
def Run.issued (r : Run) (h : Hart) : State × List Acc1 × Option Halt :=
  (r.s.each r.uses (fun s t => s.useTrans h t)).issue h 0 false [] (r.plan.map (fun (p : Nat × Nat × Access) => .todo p.2.2))

/-- The issue record of a bundle of which nothing is answered yet. -/
def Run.waits (r : Run) (h : Hart) : Wait :=
  ⟨(r.issued h).2.1, [], r.writes, r.jump.getD (r.ret.getD (if r.again then h.pc else h.next)), r.wfi, r.sysc⟩

theorem State.finishBundle_brk (s : State) (h : Hart) (n : Nat) {r : Run} (ms : List Nat) (words : Nat) (late : Bool) {slot imm : Nat} (hb : r.brk = some (slot, imm)) :
    s.finishBundle h n r ms words late = s.stopped h (.exc 0xE slot imm none none) := by
  unfold State.finishBundle
  rw [hb]

theorem State.finishBundle_fcall (s : State) (h : Hart) (n : Nat) {r : Run} (ms : List Nat) (words : Nat) (late : Bool) {slot svc : Nat} (hb : r.brk = none)
    (hf : r.fcall = some (slot, svc)) : s.finishBundle h n r ms words late = s.fcall h slot svc := by
  unfold State.finishBundle
  rw [hb, hf]

/-- The state once a bundle of n syllables has issued its accesses, is counted, and its microcoded instructions have run (04 R162; 18 R761). -/
def Run.sequenced (r : Run) (h : Hart) (n : Nat) (ms : List Nat) (words : Nat) : State :=
  (((r.issued h).1.pmEvent 0x0102 h.core (some h.inst)).pmEvent 0x0103 h.core (some h.inst) n).each ms (fun s k => (s.useqEnter h.core k).useqRun h.core words)

@[simp] theorem Run.vc_sequenced (r : Run) (h : Hart) (n : Nat) (ms : List Nat) (words key : Nat) : (r.sequenced h n ms words).vc key = (r.issued h).1.vc key :=
  foldl_keeps (fun (x : State) => x.vc key = (r.issued h).1.vc key) _ ms _ (by simp) (fun x k hx _ => by simpa using hx)

/-- A bundle without BREAK and FCALL commits or waits, and a sequence that it ran has finished unless it waits. -/
theorem State.finishBundle_settles (s : State) (h : Hart) (n : Nat) {r : Run} (ms : List Nat) (words : Nat) (hb : r.brk = none) (hf : r.fcall = none) :
    s.finishBundle h n r ms words false = (r.sequenced h n ms words).settleBundle h.key (r.waits h) ∨
    s.finishBundle h n r ms words false = ((r.sequenced h n ms words).settleBundle h.key (r.waits h)).useqDone h.core := by
  unfold State.finishBundle
  rw [hb, hf]
  by_cases hw : (ms.isEmpty || (((r.sequenced h n ms words).settleBundle h.key (r.waits h)).vc h.key).wait.isSome) = true
  · exact .inl (if_pos hw)
  · exact .inr (if_neg hw)

/-- Counters and the micro-sequencer leave the images as the issue record's end makes them. -/
theorem State.vc_finishBundle (s : State) (h : Hart) (n : Nat) {r : Run} (ms : List Nat) (words : Nat) (hb : r.brk = none) (hf : r.fcall = none) (key : Nat) :
    (s.finishBundle h n r ms words false).vc key = ((r.issued h).1.settleBundle h.key (r.waits h)).vc key := by
  rw [← State.vc_settleBundle_congr (r.vc_sequenced h n ms words)]
  rcases s.finishBundle_settles h n ms words hb hf with he | he
  · rw [he]
  · rw [he, State.vc_useqDone]

end Sys2Proof.Machine
end

section
/-! PROOFS. A core runs one bundle (02 R52, R76; 04 R132-R136): each outcome of its checks, and BUNDLE_EXECUTE around it. -/

namespace Sys2Proof.Machine

/-- The core with the address after a bundle of these syllables. -/
def Hart.past (h : Hart) (ws : List Nat) : Hart := { h with next := (h.pc + 4 * ws.length) % 2 ^ 64 }

/-- The state of a bundle that has been fetched: its translations used, its lines in the L1 instruction cache. -/
def State.fetched (s : State) (h : Hart) (ws : List Nat) (ts : List (Nat × Trans)) : State :=
  (s.each ts (fun (s : State) (x : Nat × Trans) => s.useTrans h x.2)).fetchFill h ws.length ts

/-- A run of syllables that has come to nothing yet. -/
def Run.start (s : State) : Run := ⟨s, [], [], [], none, none, false, false, none, none, none⟩

/-- A bundle of the words ws, fetched with the translations ts, passes the checks on its encoding, and its syllables come to r and e. -/
structure State.Reaches (s : State) (h : Hart) (ws : List Nat) (ts : List (Nat × Trans)) (r : Run) (e : Option Stop) : Prop where
  aligned : h.pc % 4 = 0
  fetch : s.fetch h 8 h.pc [] [] = .ok (ws, ts)
  legal : (h.past ws).encodingFault ws = none
  ready : (s.core h.core).ucodeBad = false
  runs : Run.go (h.past ws) ws (List.range ws.length) (Run.start (s.fetched (h.past ws) ws ts)) = (r, e)

/-- An exception without a record or a view of F's is entered, and that is all (R74). -/
theorem State.stopped_exc (s : State) (h : Hart) (code slot eaddr : Nat) :
    s.stopped h (.exc code slot eaddr none none) = s.setVc h.key (fun k => k.takeExc h.pc code slot eaddr false) := rfl

section
variable {s : State} {h : Hart} {ws : List Nat} {ts : List (Nat × Trans)} {r : Run} {e : Option Stop} (words : Nat)

theorem State.runBundle_misaligned (hp : h.pc % 4 ≠ 0) : s.runBundle h words false = s.stopped h (.exc 4 0 h.pc none none) := if_pos hp

theorem State.runBundle_fetch_error {err : Stop} (hp : h.pc % 4 = 0) (hf : s.fetch h 8 h.pc [] [] = .error err) :
    s.runBundle h words false = s.stopped h err := by
  unfold State.runBundle
  dsimp only
  rw [if_neg (not_not.2 hp), hf]
  rfl

theorem State.runBundle_encodingFault {code i : Nat} (hp : h.pc % 4 = 0) (hf : s.fetch h 8 h.pc [] [] = .ok (ws, ts))
    (he : (h.past ws).encodingFault ws = some (code, i)) : s.runBundle h words false = s.stopped (h.past ws) (.exc code i (h.pc + 4 * i) none none) := by
  unfold Hart.past at he
  unfold State.runBundle
  dsimp only
  rw [if_neg (not_not.2 hp), hf]
  dsimp only
  rw [he]
  rfl

/-- How a bundle ends whose syllables have come to r and e (R76): the check of its accesses stops it, or a syllable's, or it is finished. -/
def State.concluded (s : State) (h : Hart) (ws : List Nat) (r : Run) (e : Option Stop) (words : Nat) : State :=
  match State.poisonCheck h r, e with
  | some stop, _ => s.stopped h stop
  | none, some stop => s.stopped h stop
  | none, none => s.finishBundle h ws.length r (h.microOps ws) words false

theorem State.Reaches.runBundle (hr : s.Reaches h ws ts r e) : s.runBundle h words false = s.concluded (h.past ws) ws r e words := by
  obtain ⟨ha, hf, hl, hu, hg⟩ := hr
  unfold Hart.past State.fetched Run.start at *
  unfold State.runBundle
  dsimp only at *
  rw [if_neg (not_not.2 ha), hf]
  dsimp only
  rw [hl, hu]
  dsimp only
  rw [hg]
  rfl

/-- The check of a bundle's accesses stops it (03 R99, R101). -/
theorem State.Reaches.poisoned (hr : s.Reaches h ws ts r e) {stop : Stop} (hp : State.poisonCheck (h.past ws) r = some stop) :
    s.runBundle h words false = s.stopped (h.past ws) stop := by
  rw [hr.runBundle]
  unfold State.concluded
  rw [hp]

/-- A syllable stops its bundle (R76 rank 4). -/
theorem State.Reaches.raises {stop : Stop} (hr : s.Reaches h ws ts r (some stop)) (hp : State.poisonCheck (h.past ws) r = none) :
    s.runBundle h words false = s.stopped (h.past ws) stop := by
  rw [hr.runBundle]
  unfold State.concluded
  rw [hp]

/-- A bundle that passes every check is finished. -/
theorem State.Reaches.finishes (hr : s.Reaches h ws ts r none) (hp : State.poisonCheck (h.past ws) r = none) :
    s.runBundle h words false = s.finishBundle (h.past ws) ws.length r ((h.past ws).microOps ws) words false := by
  rw [hr.runBundle]
  unfold State.concluded
  rw [hp]

/-- A bundle that passes every check, without BREAK and FCALL, commits or waits; no other virtual core's image changes then. -/
theorem State.Reaches.vc_runBundle_other (hr : s.Reaches h ws ts r none) (hp : State.poisonCheck (h.past ws) r = none) (hb : r.brk = none) (hf : r.fcall = none)
    {key : Nat} (hk : key ≠ h.key) : (s.runBundle h words false).vc key = (r.issued (h.past ws)).1.vc key := by
  rw [hr.finishes words hp, State.vc_finishBundle _ _ _ _ _ hb hf]
  exact State.vc_settleBundle_other _ _ hk

/-- With every access answered, and no SYSC, the bundle commits. -/
theorem State.Reaches.vc_runBundle_commits (hr : s.Reaches h ws ts r none) (hp : State.poisonCheck (h.past ws) r = none) (hb : r.brk = none) (hf : r.fcall = none)
    (ha : (r.issued (h.past ws)).2.1.length ≤ (autoResp (r.issued (h.past ws)).2.1 []).length) (hs : r.sysc = none) :
    (s.runBundle h words false).vc h.key = (r.waits (h.past ws)).answered.commit ((r.issued (h.past ws)).1.vc h.key) := by
  rw [hr.finishes words hp, State.vc_finishBundle _ _ _ _ _ hb hf, State.settleBundle_commits (w := r.waits (h.past ws)) _ _ ha hs]
  exact State.vc_setVc_same ..

/-- With an access that has no response, it waits. -/
theorem State.Reaches.vc_runBundle_waits (hr : s.Reaches h ws ts r none) (hp : State.poisonCheck (h.past ws) r = none) (hb : r.brk = none) (hf : r.fcall = none)
    (ha : (autoResp (r.issued (h.past ws)).2.1 []).length < (r.issued (h.past ws)).2.1.length) :
    (s.runBundle h words false).vc h.key = { (r.issued (h.past ws)).1.vc h.key with wait := some (r.waits (h.past ws)).answered } := by
  rw [hr.finishes words hp, State.vc_finishBundle _ _ _ _ _ hb hf, State.settleBundle_waits (w := r.waits (h.past ws)) _ _ ha]
  exact State.vc_setVc_same ..

end

/-! ### BUNDLE_EXECUTE -/

theorem does_bundleExecute {s u : State} {core : Fin 64} {e : BundleEnv} (hp : s.powered = true) (h : s.bundleExecute core.val e = u) : Does (.bundleExecute core e) s u :=
  h ▸ does_of_run (f := fun s => s.bundleExecute core.val e) hp rfl

/-- A core whose bundle waits is stopped by what it meets, or goes on with it. -/
theorem State.bundleExecute_waiting {s : State} {c : Nat} {e : BundleEnv} {h : Hart} {w : Wait} (hw : s.waiting c e.bad.val = some (h, w)) :
    s.bundleExecute c e =
      if bundleStops e then (s.bundleMeets h e).checkStop c else ((s.bundleMeets h e).when (e.fails.val != 0) (fun s => s.countRetry c)).advance h w := by
  unfold State.bundleExecute
  rw [hw]

/-- What a core that is about to run a bundle meets first: the interrupt that is due, then what its environment brings. -/
def State.meetsBundle (s : State) (c : Nat) (e : BundleEnv) (h h' : Hart) : State := ((s.takeIrq h).bundleMeets h' e).loadS2 c h'.inst

section
variable {s : State} {c : Nat} {e : BundleEnv} {h h' : Hart}
  (hw : s.waiting c e.bad.val = none) (hh : s.hart c e.bad.val = some h) (hh' : (s.takeIrq h).hart c e.bad.val = some h')
include hw hh hh'

theorem State.bundleExecute_stops (hs : bundleStops e = true) (hl : e.late = false) :
    s.bundleExecute c e = (s.meetsBundle c e h h').checkStop c := by
  unfold State.bundleExecute
  rw [hw, hh]
  dsimp only
  rw [hh']
  dsimp only
  rw [if_pos hs, hl]
  rfl

/-- Else it runs the bundle, and a retry that succeeds is counted. -/
theorem State.bundleExecute_runs (hs : bundleStops e = false) :
    s.bundleExecute c e = ((s.meetsBundle c e h h').runBundle h' e.words.toNat false).when (e.fails.val != 0) (fun s => s.countRetry c) := by
  unfold State.bundleExecute
  rw [hw, hh]
  dsimp only
  rw [hh']
  dsimp only
  rw [if_neg (by simp [hs])]
  rfl

end

/-- Settles O9: a waiting bundle goes on, and another ends as its checks and its syllables say. -/
theorem bundlesCommitOrStop : Obligations.BundlesCommitOrStop := by
  refine ⟨fun s core e h w hp hw => ?_, fun s core e h h' hp hw hh _ hh' => ?_⟩
  · have hx := State.bundleExecute_waiting hw
    refine ⟨fun hs => does_bundleExecute hp (hx.trans (if_pos hs)), fun hs hf => does_bundleExecute hp (hx.trans ?_)⟩
    have hn : (e.fails.val != 0) = false := by rw [hf]; rfl
    rw [if_neg (by simp [hs]), hn, State.when_false]
  · intro x retry
    refine ⟨fun hs hl => does_bundleExecute hp (State.bundleExecute_stops hw hh hh' hs hl), ?_⟩
    have hruns : bundleStops e = false → ∀ u, x.runBundle h' e.words.toNat false = u → Does (.bundleExecute core e) s (retry u) :=
      fun hs u hu => hu ▸ does_bundleExecute hp (State.bundleExecute_runs hw hh hh' hs)
    refine ⟨fun hs ha => ?_, fun hs ha => ⟨fun err hf => ?_, fun ws ts hf => ⟨fun code i he => ?_, fun hl hu => ?_⟩⟩⟩
    · exact hruns hs _ ((State.runBundle_misaligned _ ha).trans (x.stopped_exc ..))
    · exact hruns hs _ (State.runBundle_fetch_error _ ha hf)
    · exact hruns hs _ ((State.runBundle_encodingFault _ ha hf he).trans (x.stopped_exc ..))
    · intro z r err hg
      have hr : x.Reaches h' ws ts r err := ⟨ha, hf, hl, hu, hg⟩
      refine ⟨fun stop hc => hruns hs _ (hr.poisoned _ hc), fun hc => ⟨?_, ?_, ?_, ?_⟩⟩
      · rintro code slot ea rfl
        exact hruns hs _ ((hr.raises _ hc).trans (x.stopped_exc ..))
      · rintro slot imm rfl hb
        exact hruns hs _ ((hr.finishes _ hc).trans ((State.finishBundle_brk _ _ _ _ _ _ hb).trans (x.stopped_exc ..)))
      · rintro slot svc rfl hb hfc
        exact hruns hs _ ((hr.finishes _ hc).trans (State.finishBundle_fcall _ _ _ _ _ _ hb hfc))
      · rintro rfl hb hfc
        exact ⟨_, hruns hs _ rfl, fun key hk => hr.vc_runBundle_other _ hc hb hfc hk, hr.vc_runBundle_commits _ hc hb hfc, hr.vc_runBundle_waits _ hc hb hfc⟩

end Sys2Proof.Machine
end

section
/-! PROOFS. The other commands of a virtual core (02 R75; 03 R100, R115, R125; 04 R136): interrupts, the end of a wait, and the responses to a bundle that waits. -/

namespace Sys2Proof.Machine

theorem does_interruptTake {s u : State} {core : Fin 64} (hp : s.powered = true) (h : s.interruptTake core.val = u) : Does (.interruptTake core) s u :=
  h ▸ does_of_run (f := fun s => s.interruptTake core.val) hp rfl

theorem does_wfiWake {s u : State} {i : BitVec 9} {v : Fin 64} (hp : s.powered = true) (h : s.wfiWake i.toNat v.val = u) : Does (.wfiWake i v) s u :=
  h ▸ does_of_run (f := fun s => s.wfiWake i.toNat v.val) hp rfl

theorem does_nonRepeatableResponse {s u : State} {i : BitVec 9} {v : Fin 64} {far : FarEnd} (hp : s.powered = true) (h : s.nrResponse i.toNat v.val far = u) :
    Does (.nonRepeatableResponse i v far) s u :=
  h ▸ does_of_run (f := fun s => s.nrResponse i.toNat v.val far) hp rfl

theorem does_completionTimeout {s u : State} {i : BitVec 9} {v : Fin 64} (hp : s.powered = true) (h : s.completionTimeout i.toNat v.val = u) :
    Does (.completionTimeout i v) s u :=
  h ▸ does_of_run (f := fun s => s.completionTimeout i.toNat v.val) hp rfl

theorem does_csubAcknowledgement {s u : State} {i : BitVec 9} {v : Fin 64} {bad : Fin 4} (hp : s.powered = true) (h : s.csubAck i.toNat v.val bad.val = u) :
    Does (.csubAcknowledgement i v bad) s u :=
  h ▸ does_of_run (f := fun s => s.csubAck i.toNat v.val bad.val) hp rfl

/-- An interrupt that is due is taken (R75). -/
theorem State.interruptTake_due {s : State} {c b : Nat} {h : Hart} (hh : s.hart c 0 = some h) (hi : h.irqDue = some b) :
    s.interruptTake c = s.setVc h.key (fun k => { k.takeExc h.pc (0x10 + b) 0 0 true with wfi := false }) := by
  unfold State.interruptTake State.takeIrq
  rw [hh]
  dsimp only
  rw [hi]
  rfl

/-! ### Responses -/

section
variable {s : State} {i v : Nat} {w : Wait} (hw : (s.vc (vkey i v)).wait = some w)
include hw

theorem State.awaited_of_wait {a : Acc1} (ha : w.accs[w.resp.length]? = some a) : s.awaited i v = some (w, a) := by
  simp [State.awaited, hw, ha]

theorem State.nrResponse_done {x : Nat} (far : FarEnd) (ha : w.accs[w.resp.length]? = some (.done x)) : s.nrResponse i v far = s.answer i v 0 w x := by
  unfold State.nrResponse
  rw [State.awaited_of_wait hw ha]

theorem State.nrResponse_amo {tag o rs rt : Nat} {p : Span} {h : Hart} (far : FarEnd) (ha : w.accs[w.resp.length]? = some (.amo tag p o rs rt))
    (hh : s.hartOf i v 0 = some h) : s.nrResponse i v far = (s.portAmo h tag p o rs rt).1.answer i v 0 w (s.portAmo h tag p o rs rt).2 := by
  unfold State.nrResponse
  rw [State.awaited_of_wait hw ha, hh]

theorem State.completionTimeout_pcie {l bus n : Nat} (ha : w.accs[w.resp.length]? = some (.pcie l bus n)) :
    s.completionTimeout i v = (s.farResult l bus n .timeout).1.answer i v 0 w (256 ^ n - 1) := by
  unfold State.completionTimeout
  rw [State.awaited_of_wait hw ha]

theorem State.csubAck_csub {tpa sel : Nat} (bad : Nat) (ha : w.accs[w.resp.length]? = some (.csub tpa sel)) :
    s.csubAck i v bad = ((s.csubmit i tpa sel bad).1.answer i v bad w (s.csubmit i tpa sel bad).2).chSync := by
  unfold State.csubAck
  rw [State.awaited_of_wait hw ha]

end

/-- The response x joins a bundle's. -/
def Wait.respond (w : Wait) (x : Nat) : Wait := { w with resp := w.resp ++ [x] }

/-- The accesses behind the one that is answered need no other unit up to the next that does. -/
theorem Wait.answered_respond (w : Wait) (x : Nat) :
    (w.respond x).answered = { w with resp := w.resp ++ x :: autoResp (w.accs.drop (w.resp.length + 1)) [] } := by
  have hl : (w.resp ++ [x]).length = w.resp.length + 1 := List.length_append
  unfold Wait.answered Wait.respond
  rw [hl, autoResp_eq_append, List.append_assoc, List.singleton_append]

theorem State.answer_placed {s : State} {i v bad : Nat} {h : Hart} (w : Wait) (x : Nat) (hh : s.hartOf i v bad = some h) :
    s.answer i v bad w x = s.advance h (w.respond x) := by
  unfold State.answer
  rw [hh]
  rfl

theorem State.answer_unplaced {s : State} {i v bad : Nat} (w : Wait) (x : Nat) (hh : s.hartOf i v bad = none) :
    s.answer i v bad w x = s.settleBundle (vkey i v) (w.respond x) := by
  unfold State.answer
  rw [hh]
  rfl

/-- Settles O10: each command by the access that its virtual core's bundle awaits. -/
theorem virtualCoresAreAnswered : Obligations.VirtualCoresAreAnswered := by
  intro s hp
  refine ⟨fun core h b hh hi => does_interruptTake hp (State.interruptTake_due hh hi),
    fun i v hwfi hready => does_wfiWake hp (if_pos (by rw [hwfi, hready]; rfl)), fun i v far w x hw ha hh => ?_, fun i v far h w x hw ha hh => ?_,
    fun i v far h w tag o rs rt p hw ha hh => does_nonRepeatableResponse hp (State.nrResponse_amo hw far ha hh),
    fun i v w l bus n hw ha => does_completionTimeout hp (State.completionTimeout_pcie hw ha),
    fun i v bad w tpa sel hw ha => does_csubAcknowledgement hp (State.csubAck_csub hw bad.val ha)⟩
  · intro resp
    have hr : (w.respond x).answered = { w with resp := resp } := w.answered_respond x
    have hx := (State.nrResponse_done hw far ha).trans (State.answer_unplaced w x hh)
    refine ⟨fun hlen => does_nonRepeatableResponse hp (hx.trans ?_), fun hlen hsys => does_nonRepeatableResponse hp (hx.trans ?_)⟩
    · have hlt : (w.respond x).answered.resp.length < (w.respond x).accs.length := hr ▸ hlen
      rw [State.settleBundle_waits _ _ hlt, hr]
    · have hle : (w.respond x).accs.length ≤ (w.respond x).answered.resp.length := hr ▸ hlen
      have hs : (w.respond x).sysc = none := hsys
      rw [State.settleBundle_commits _ _ hle hs, hr]
      rfl
  · exact does_nonRepeatableResponse hp ((State.nrResponse_done hw far ha).trans (State.answer_placed w x hh))

end Sys2Proof.Machine
end

section
/-! PROOFS. Syllables that compute (03 R88-R94, R117-R122): a run of them only adds results; and a bundle of one integer operation. -/

namespace Sys2Proof.Machine

/-! ### Runs that only add results -/

/-- The run t is r with further results, none of them a control register's. -/
structure Run.AddsResults (r t : Run) : Prop where
  rest : t = { r with writes := t.writes }
  results : ∃ ws, t.writes = r.writes ++ ws ∧ ∀ x ∈ ws, ∀ n, x.1 ≠ .cr n

theorem Run.AddsResults.refl (r : Run) : r.AddsResults r := ⟨rfl, [], by simp, by simp⟩

theorem Run.AddsResults.trans {r t u : Run} (h : r.AddsResults t) (k : t.AddsResults u) : r.AddsResults u := by
  obtain ⟨hr, ws, hw, hn⟩ := h
  obtain ⟨kr, vs, kw, kn⟩ := k
  refine ⟨by rw [kr, hr], ws ++ vs, by rw [kw, hw, List.append_assoc], fun x hx => ?_⟩
  rcases List.mem_append.1 hx with hx | hx
  · exact hn x hx
  · exact kn x hx

theorem Run.AddsResults.val (r : Run) {d : Dst} (n : Nat) (hd : ∀ k, d ≠ .cr k) : r.AddsResults (r.val d n) :=
  ⟨rfl, [(d, .val n)], rfl, by simpa using hd⟩

/-- The operations that compute: integer, compare and vector operations, moves between registers, the counters, and the L syllable of an immediate. -/
def Op.Computes (o : Op) : Prop :=
  ∃ rd ra b, (∃ a, o = .alu a rd ra b) ∨ (∃ m c, o = .cmp m c rd ra b) ∨ (∃ v vb sel, o = .vec v rd ra vb sel) ∨
    o = .mfsr rd ra ∨ o = .mtsr rd ra ∨ o = .mfp rd ∨ o = .mtp ra ∨ o = .rdcyc rd ∨ o = .rdtime rd ∨ o = .long

/-- Where an integer operation does not divide by zero, it writes its result (R88, R91). -/
theorem Run.exec_alu (r : Run) (h : Hart) (slot : Nat) {o : Alu} (rd ra : Nat) {b : Opnd} (hz : o.divZero (h.opnd b) = false) :
    r.exec h slot (.alu o rd ra b) = .ok (r.val (.g rd) (o.run (h.g ra) (h.opnd b) (h.g rd))) := if_neg (by simp [hz])

theorem Run.exec_addsResults {r t : Run} {h : Hart} {slot : Nat} {o : Op} (hc : o.Computes) (he : r.exec h slot o = .ok t) : r.AddsResults t := by
  have hval : ∀ (d : Dst) (n : Nat), (∀ k, d ≠ .cr k) → Except.ok (r.val d n) = (Except.ok t : Except Stop Run) → r.AddsResults t :=
    fun d n hd hk => Except.ok.inj hk ▸ Run.AddsResults.val r n hd
  obtain ⟨rd, ra, b, ⟨a, rfl⟩ | ⟨m, c, rfl⟩ | ⟨v, vb, sel, rfl⟩ | rfl | rfl | rfl | rfl | rfl | rfl | rfl⟩ := hc
  · cases hz : a.divZero (h.opnd b) with
    | true => exact absurd ((if_pos hz).symm.trans he) (by simp)
    | false => exact hval _ _ (by simp) ((r.exec_alu h slot rd ra hz).symm.trans he)
  · exact hval _ _ (by simp) he
  · exact hval _ _ (by intro k; cases v <;> simp) he
  · exact hval _ _ (by simp) he
  · exact hval _ _ (by simp) he
  · exact hval _ _ (by simp) he
  · exact Except.ok.inj he ▸ foldl_keeps (fun (x : Run) => r.AddsResults x) _ _ r (.refl r) (fun x k hx _ => hx.trans (.val x _ (by simp)))
  · exact hval _ _ (by simp) he
  · exact hval _ _ (by simp) he
  · exact Except.ok.inj he ▸ .refl r

/-- A run of syllables that compute only adds results (02 R52). -/
theorem Run.go_addsResults (h : Hart) (ws is : List Nat) {r t : Run} (hc : ∀ i ∈ is, ∀ o ok, decAt ws i = some (o, ok) → o.Computes)
    (hg : Run.go h ws is r = (t, none)) : r.AddsResults t := by
  induction is generalizing r with
  | nil => exact (Prod.mk.inj hg).1 ▸ .refl r
  | cons i is ih =>
    have hcs : ∀ j ∈ is, ∀ o ok, decAt ws j = some (o, ok) → o.Computes := fun j hj => hc j (by simp [hj])
    rw [Run.go] at hg
    split at hg
    next o ok hd =>
      split at hg
      next => exact ih hcs hg
      next =>
        split at hg
        next u hu => exact (Run.exec_addsResults (hc i (by simp) o ok hd) hu).trans (ih hcs hg)
        next => exact absurd (Prod.mk.inj hg).2 (by simp)
    next => exact ih hcs hg

/-! ### A bundle without accesses -/

theorem Run.issued_of_no_access {r : Run} (h : Hart) (hu : r.uses = []) (hp : r.plan = []) : r.issued h = (r.s, [], none) := by
  unfold Run.issued
  rw [hu, hp]
  rfl

theorem State.poisonCheck_of_no_access {r : Run} (h : Hart) (hp : r.plan = []) : State.poisonCheck h r = none := by
  unfold State.poisonCheck
  rw [hp]
  rfl

/-- A bundle whose run only adds results commits with them and goes on behind itself (02 R50). -/
theorem State.Reaches.vc_runBundle_results {s : State} {h : Hart} {ws : List Nat} {ts : List (Nat × Trans)} {r : Run} (words : Nat) (hr : s.Reaches h ws ts r none)
    (ha : (Run.start (s.fetched (h.past ws) ws ts)).AddsResults r) :
    (s.runBundle h words false).vc h.key =
      { r.writes.foldl (fun (k : VCore) (x : Dst × WVal) => k.put x.1 (x.2.eval [])) ((s.fetched (h.past ws) ws ts).vc h.key) with
        pc := BitVec.ofNat 64 (h.past ws).next, wfi := false, wait := none } := by
  obtain ⟨hrest, -⟩ := ha
  have hi : r.issued (h.past ws) = (s.fetched (h.past ws) ws ts, [], none) := by rw [hrest]; exact Run.issued_of_no_access _ rfl rfl
  have hw : r.waits (h.past ws) = ⟨[], [], r.writes, (h.past ws).next, false, none⟩ := by
    unfold Run.waits
    rw [hi, hrest]
    rfl
  have hc : State.poisonCheck (h.past ws) r = none := State.poisonCheck_of_no_access _ (congrArg Run.plan hrest :)
  rw [hr.vc_runBundle_commits words hc (congrArg Run.brk hrest :) (congrArg Run.fcall hrest :) (by rw [hi]; exact le_rfl) (congrArg Run.sysc hrest :), hw, hi]
  rfl

/-! ### One integer operation -/

theorem decSyl_long {w : Nat} (ls : List Nat) (h : sylClass w = 0xC) : decSyl w ls = some (.long, true) := by
  unfold decSyl
  dsimp only
  rw [h]
  rfl

/-- What one integer operation comes to: its result where the predicate reads 1 (R43). -/
def Run.oneAlu (r : Run) (h : Hart) (w : Nat) (o : Alu) (rd ra : Nat) (b : Opnd) : Run :=
  if h.img.getP (sylPred w) then r.val (.g rd) (o.run (h.g ra) (h.opnd b) (h.g rd)) else r

theorem Run.oneAlu_addsResults (r : Run) (h : Hart) (w : Nat) (o : Alu) (rd ra : Nat) (b : Opnd) : r.AddsResults (r.oneAlu h w o rd ra b) := by
  unfold Run.oneAlu
  split
  · exact .val r _ (by simp)
  · exact .refl r

/-- An image takes the one result, if there is one. -/
theorem Run.oneAlu_writes (s : State) (h : Hart) (w : Nat) (o : Alu) (rd ra : Nat) (b : Opnd) (k : VCore) :
    ((Run.start s).oneAlu h w o rd ra b).writes.foldl (fun (k : VCore) (x : Dst × WVal) => k.put x.1 (x.2.eval [])) k =
      if h.img.getP (sylPred w) then k.put (.g rd) (o.run (h.g ra) (h.opnd b) (h.g rd)) else k := by
  unfold Run.oneAlu
  split <;> rfl

theorem Run.go_oneAlu (r : Run) (h : Hart) {w : Nat} {o : Alu} {rd ra : Nat} {b : Opnd} (hd : decAt [w] 0 = some (.alu o rd ra b, true))
    (hz : o.divZero (h.opnd b) = false) : Run.go h [w] [0] r = (r.oneAlu h w o rd ra b, none) := by
  have hc : sylClass w ≠ 0xC := fun hl => by simp [decAt, decSyl_long _ hl] at hd
  unfold Run.oneAlu
  rw [Run.go, hd]
  cases hp : h.img.getP (sylPred w) with
  | false => simp [hp, Run.go]
  | true => simp [hp, hc, r.exec_alu h 0 rd ra hz, Run.go]

/-- Settles O14: a bundle of one integer operation commits with its result, and a run of syllables that compute only adds results. -/
theorem computingBundlesTouchNoMemory : Obligations.ComputingBundlesTouchNoMemory := by
  refine ⟨fun s core h h' w ts o rd ra b => ?_, fun h ws is r t hc hg => ?_⟩
  · intro e hp hw hh _ hh' ha x hf g hl hu hd hz k
    have hr : x.Reaches h' [w] ts ((Run.start (x.fetched g [w] ts)).oneAlu g w o rd ra b) none := ⟨ha, hf, hl, hu, Run.go_oneAlu _ g hd hz⟩
    refine ⟨_, does_bundleExecute hp (State.bundleExecute_runs hw hh hh' rfl), (hr.vc_runBundle_results _ (Run.oneAlu_addsResults ..)).trans ?_⟩
    rw [Run.oneAlu_writes]
    rfl
  · obtain ⟨hrest, hw⟩ := Run.go_addsResults h ws is hc hg
    exact ⟨(congrArg Run.s hrest :), (congrArg Run.plan hrest :), (congrArg Run.uses hrest :), (congrArg Run.jump hrest :), (congrArg Run.ret hrest :),
      (congrArg Run.wfi hrest :), (congrArg Run.brk hrest :), (congrArg Run.sysc hrest :), hw⟩

end Sys2Proof.Machine
end

section
/-! PROOFS. The number functions of the integer operations (03 R86, R87) as operations on bit vectors: sign, wrapping, quotients, high halves, shifts and rotations. -/

namespace Sys2Proof.Machine

/-! ### Signed numbers as bit vectors -/

theorem sextInt_eq_toInt (w n : Nat) : sextInt w n = (BitVec.ofNat w n).toInt := by
  cases w with
  | zero => simp [sextInt, Nat.mod_one, BitVec.toInt_zero_length]
  | succ k =>
    have hp : 2 ^ (k + 1) = 2 * 2 ^ k := Nat.pow_succ'
    simp only [sextInt, BitVec.toInt_eq_toNat_cond, BitVec.toNat_ofNat, Nat.add_sub_cancel]
    push_cast
    congr 1
    simp only [hp, eq_iff_iff]
    omega

/-- The low bits of a register, as a signed number. -/
theorem sextInt_toNat {v : Nat} (w : Nat) (x : BitVec v) : sextInt w x.toNat = (x.setWidth w).toInt := by
  rw [sextInt_eq_toInt, BitVec.ofNat_toNat]

theorem sextInt_toNat_self {w : Nat} (x : BitVec w) : sextInt w x.toNat = x.toInt := by
  rw [sextInt_toNat, BitVec.setWidth_eq]

theorem wrapInt_eq_toNat (w : Nat) (i : Int) : wrapInt w i = (BitVec.ofInt w i).toNat := by
  rw [BitVec.toNat_ofInt, wrapInt]
  push_cast
  rfl

theorem wrapInt_toInt {w : Nat} (v : Nat) (x : BitVec w) : wrapInt v x.toInt = (x.signExtend v).toNat := wrapInt_eq_toNat v _

theorem sextW_eq_toNat (n : Nat) : sextW n = ((BitVec.ofNat 32 n).signExtend 64).toNat := by
  rw [sextW, sextInt_eq_toInt, wrapInt_toInt]

theorem sextW_toNat {w : Nat} (x : BitVec w) : sextW x.toNat = ((x.setWidth 32).signExtend 64).toNat := by
  rw [sextW_eq_toNat, BitVec.ofNat_toNat]

theorem sraN_toNat {v : Nat} (w : Nat) (x : BitVec v) (k : Nat) : sraN w x.toNat k = ((x.setWidth w).sshiftRight k).toNat := by
  rw [sraN, wrapInt_eq_toNat, sextInt_toNat, BitVec.sshiftRight, Int.shiftRight_eq_div_pow]
  push_cast
  rfl

/-! ### Quotients -/

theorem tquot_eq_tdiv : ∀ a b : Int, tquot a b = a.tdiv b
  | .ofNat m, .ofNat n => if_pos (by simp [(Int.natCast_nonneg _).not_gt])
  | .ofNat m, .negSucc n => if_neg (by simp [Int.negSucc_lt_zero, (Int.natCast_nonneg _).not_gt])
  | .negSucc m, .ofNat n => if_neg (by simp [Int.negSucc_lt_zero, (Int.natCast_nonneg _).not_gt])
  | .negSucc m, .negSucc n => if_pos (by simp [Int.negSucc_lt_zero])

theorem wrapInt_tquot {w : Nat} (x y : BitVec w) : wrapInt w (tquot x.toInt y.toInt) = (x.sdiv y).toNat := by
  have h : BitVec.ofInt w (x.toInt.tdiv y.toInt) = x.sdiv y := BitVec.toInt_inj.1 (by rw [BitVec.toInt_ofInt, BitVec.toInt_sdiv])
  rw [wrapInt_eq_toNat, tquot_eq_tdiv, h]

theorem wrapInt_remainder {w : Nat} (x y : BitVec w) : wrapInt w (x.toInt - y.toInt * tquot x.toInt y.toInt) = (x.srem y).toNat := by
  rw [wrapInt_eq_toNat, tquot_eq_tdiv, ← Int.tmod_def, ← BitVec.toInt_srem, BitVec.ofInt_toInt]

/-! ### The high half of a product -/

/-- Bits [127:64] of an exact integer. -/
theorem wrapInt_high (i : Int) : wrapInt 64 (i / (2 ^ 64 : Nat)) = ((BitVec.ofInt 128 i).extractLsb' 64 64).toNat := by
  rw [BitVec.extractLsb'_toNat, BitVec.toNat_ofInt, wrapInt, Nat.shiftRight_eq_div_pow]
  omega

/-! ### Shifts and rotations -/

theorem toNat_shl_add {w : Nat} (a b : BitVec w) (n : Nat) : ((a <<< n) + b).toNat = (2 ^ n * a.toNat + b.toNat) % 2 ^ w := by
  rw [BitVec.toNat_add, BitVec.toNat_shiftLeft, Nat.shiftLeft_eq, Nat.mod_add_mod, Nat.mul_comm]

theorem toNat_rotateRight_eq_add {w : Nat} (x : BitVec w) {k : Nat} (hk : k < w) :
    (x.rotateRight k).toNat = (x.toNat / 2 ^ k + x.toNat * 2 ^ (w - k)) % 2 ^ w := by
  have hw : 2 ^ w = 2 ^ k * 2 ^ (w - k) := by rw [← Nat.pow_add, Nat.add_sub_cancel' hk.le]
  have hlow : x.toNat / 2 ^ k < 2 ^ (w - k) := Nat.div_lt_of_lt_mul (hw ▸ x.isLt)
  have hhigh : x.toNat * 2 ^ (w - k) % 2 ^ w = (x.toNat % 2 ^ k) <<< (w - k) := by rw [hw, Nat.mul_mod_mul_right, Nat.shiftLeft_eq]
  have hor : (x.rotateRight k).toNat = x.toNat / 2 ^ k + x.toNat * 2 ^ (w - k) % 2 ^ w := by
    rw [BitVec.toNat_rotateRight, Nat.mod_eq_of_lt hk, Nat.shiftLeft_eq, Nat.shiftRight_eq_div_pow, hhigh, Nat.or_comm, ← Nat.shiftLeft_add_eq_or_of_lt hlow, Nat.add_comm]
  rw [← Nat.add_mod_mod, ← hor, Nat.mod_eq_of_lt (BitVec.isLt _)]

end Sys2Proof.Machine
end

section
/-! PROOFS. What each integer operation computes on 64-bit operands (03 R88, R90), and what a division by zero and an overflow do (03 R91). -/

namespace Sys2Proof.Machine

/-! ### Results -/

namespace Alu

section
variable (a b : Word) (d : Nat)

/-! Arithmetic and logic (R88). -/

theorem run_add : run .add a.toNat b.toNat d = (a + b).toNat := (BitVec.toNat_add a b).symm

theorem run_sub : run .sub a.toNat b.toNat d = (a - b).toNat := by
  rw [BitVec.toNat_sub, ← Nat.sub_add_comm b.isLt.le, Nat.add_comm]
  rfl

theorem run_and : run .and a.toNat b.toNat d = (a &&& b).toNat := rfl
theorem run_or : run .or a.toNat b.toNat d = (a ||| b).toNat := rfl
theorem run_xor : run .xor a.toNat b.toNat d = (a ^^^ b).toNat := rfl
theorem run_andn : run .andn a.toNat b.toNat d = (a &&& ~~~b).toNat := by rw [BitVec.toNat_and, BitVec.toNat_not, run]
theorem run_orn : run .orn a.toNat b.toNat d = (a ||| ~~~b).toNat := by rw [BitVec.toNat_or, BitVec.toNat_not, run]
theorem run_xnor : run .xnor a.toNat b.toNat d = (~~~(a ^^^ b)).toNat := by rw [BitVec.toNat_not, BitVec.toNat_xor, run]

/-! Shifts (R88). -/

theorem run_sll : run .sll a.toNat b.toNat d = (a <<< (b.toNat % 64)).toNat := by rw [BitVec.toNat_shiftLeft, Nat.shiftLeft_eq, run]
theorem run_srl : run .srl a.toNat b.toNat d = (a >>> (b.toNat % 64)).toNat := by rw [BitVec.toNat_ushiftRight, Nat.shiftRight_eq_div_pow, run]
theorem run_sra : run .sra a.toNat b.toNat d = (a.sshiftRight (b.toNat % 64)).toNat := by rw [run, sraN_toNat, BitVec.setWidth_eq]
theorem run_ror : run .ror a.toNat b.toNat d = (a.rotateRight (b.toNat % 64)).toNat := (toNat_rotateRight_eq_add a (Nat.mod_lt _ (by decide))).symm

/-! The W forms (R87, R88). -/

theorem run_addw : run .addw a.toNat b.toNat d = ((a.setWidth 32 + b.setWidth 32).signExtend 64).toNat := by
  rw [run, sextW_eq_toNat, BitVec.ofNat_add, BitVec.ofNat_toNat, BitVec.ofNat_toNat]

theorem run_subw : run .subw a.toNat b.toNat d = ((a.setWidth 32 - b.setWidth 32).signExtend 64).toNat := by
  have h : BitVec.ofNat 32 (a.toNat + 2 ^ 64 - b.toNat) = a.setWidth 32 - b.setWidth 32 :=
    BitVec.eq_of_toNat_eq (by simp only [BitVec.toNat_ofNat, BitVec.toNat_sub, BitVec.toNat_setWidth]; omega)
  rw [run, sextW_eq_toNat, h]

theorem run_sllw : run .sllw a.toNat b.toNat d = ((a.setWidth 32 <<< (b.toNat % 32)).signExtend 64).toNat := by
  have h : BitVec.ofNat 32 (a.toNat * 2 ^ (b.toNat % 32)) = a.setWidth 32 <<< (b.toNat % 32) :=
    BitVec.eq_of_toNat_eq (by rw [BitVec.toNat_shiftLeft, Nat.shiftLeft_eq, BitVec.toNat_setWidth, Nat.mod_mul_mod, BitVec.toNat_ofNat])
  rw [run, sextW_eq_toNat, h]

theorem run_srlw : run .srlw a.toNat b.toNat d = ((a.setWidth 32 >>> (b.toNat % 32)).signExtend 64).toNat := by
  rw [run, ← BitVec.toNat_setWidth, ← Nat.shiftRight_eq_div_pow, ← BitVec.toNat_ushiftRight, sextW_toNat, BitVec.setWidth_eq]

theorem run_sraw : run .sraw a.toNat b.toNat d = (((a.setWidth 32).sshiftRight (b.toNat % 32)).signExtend 64).toNat := by
  rw [run, sraN_toNat, sextW_toNat, BitVec.setWidth_eq]

/-! Minimum and maximum, extensions, scaled additions (R88). -/

theorem run_min : run .min a.toNat b.toNat d = (if a.toInt ≤ b.toInt then a else b).toNat := by
  rw [run, sextInt_toNat_self, sextInt_toNat_self, apply_ite BitVec.toNat]

theorem run_max : run .max a.toNat b.toNat d = (if b.toInt ≤ a.toInt then a else b).toNat := by
  rw [run, sextInt_toNat_self, sextInt_toNat_self]
  rcases lt_trichotomy a.toInt b.toInt with h | h | h
  · rw [if_pos h.le, if_neg h.not_ge]
  · rw [if_pos h.le, if_pos h.ge, BitVec.toInt_inj.1 h]
  · rw [if_neg h.not_ge, if_pos h.le]

theorem run_minu : run .minu a.toNat b.toNat d = Min.min a.toNat b.toNat := Nat.min_def.symm
theorem run_maxu : run .maxu a.toNat b.toNat d = Max.max a.toNat b.toNat := Nat.max_def.symm

theorem run_sextb : run .sextb a.toNat b.toNat d = ((a.setWidth 8).signExtend 64).toNat := by rw [run, sextInt_toNat, wrapInt_toInt]
theorem run_sexth : run .sexth a.toNat b.toNat d = ((a.setWidth 16).signExtend 64).toNat := by rw [run, sextInt_toNat, wrapInt_toInt]
theorem run_sextw : run .sextw a.toNat b.toNat d = ((a.setWidth 32).signExtend 64).toNat := sextW_toNat a
theorem run_zextw : run .zextw a.toNat b.toNat d = (a.setWidth 32).toNat := (BitVec.toNat_setWidth 32 a).symm

theorem run_sh1add : run .sh1add a.toNat b.toNat d = ((a <<< 1) + b).toNat := (toNat_shl_add a b 1).symm
theorem run_sh2add : run .sh2add a.toNat b.toNat d = ((a <<< 2) + b).toNat := (toNat_shl_add a b 2).symm
theorem run_sh3add : run .sh3add a.toNat b.toNat d = ((a <<< 3) + b).toNat := (toNat_shl_add a b 3).symm

/-! Multiply and divide (R90). -/

theorem run_mul : run .mul a.toNat b.toNat d = (a * b).toNat := (BitVec.toNat_mul a b).symm

theorem run_mulh : run .mulh a.toNat b.toNat d = ((a.signExtend 128 * b.signExtend 128).extractLsb' 64 64).toNat := by
  rw [run, sextInt_toNat_self, sextInt_toNat_self, wrapInt_high, BitVec.ofInt_mul, BitVec.signExtend, BitVec.signExtend]

theorem run_mulhsu : run .mulhsu a.toNat b.toNat d = ((a.signExtend 128 * b.setWidth 128).extractLsb' 64 64).toNat := by
  rw [run, sextInt_toNat_self, wrapInt_high, BitVec.ofInt_mul, BitVec.ofInt_natCast, BitVec.ofNat_toNat, BitVec.signExtend]

theorem run_mulhu : run .mulhu a.toNat b.toNat d = ((a.setWidth 128 * b.setWidth 128).extractLsb' 64 64).toNat := by
  have h : a.toNat * b.toNat < 2 ^ 64 * 2 ^ 64 := Nat.mul_lt_mul'' a.isLt b.isLt
  rw [← BitVec.ofNat_toNat, ← BitVec.ofNat_toNat, ← BitVec.ofNat_mul, BitVec.extractLsb'_toNat, BitVec.toNat_ofNat, Nat.shiftRight_eq_div_pow, run]
  omega

theorem run_mulw : run .mulw a.toNat b.toNat d = ((a.setWidth 32 * b.setWidth 32).signExtend 64).toNat := by
  rw [run, sextW_eq_toNat, BitVec.ofNat_mul, BitVec.ofNat_toNat, BitVec.ofNat_toNat]

theorem run_div : run .div a.toNat b.toNat d = (a.sdiv b).toNat := by rw [run, sextInt_toNat_self, sextInt_toNat_self, wrapInt_tquot]
theorem run_divu : run .divu a.toNat b.toNat d = (a / b).toNat := rfl
theorem run_rem : run .rem a.toNat b.toNat d = (a.srem b).toNat := by rw [run, sextInt_toNat_self, sextInt_toNat_self, wrapInt_remainder]
theorem run_remu : run .remu a.toNat b.toNat d = (a % b).toNat := rfl

theorem run_divw : run .divw a.toNat b.toNat d = (((a.setWidth 32).sdiv (b.setWidth 32)).signExtend 64).toNat := by
  rw [run, sextInt_toNat, sextInt_toNat, wrapInt_tquot, sextW_toNat, BitVec.setWidth_eq]

theorem run_divuw : run .divuw a.toNat b.toNat d = ((a.setWidth 32 / b.setWidth 32).signExtend 64).toNat := by
  rw [run, ← BitVec.toNat_setWidth, ← BitVec.toNat_setWidth, ← BitVec.toNat_udiv, sextW_toNat, BitVec.setWidth_eq]

end

end Alu

/-- Settles O11: each result is the lemma of its operation. -/
theorem multiplyAndDivideAreExact : Obligations.MultiplyAndDivideAreExact := by
  refine ⟨fun r h slot rd ra o b _ hz => r.exec_alu h slot rd ra hz, fun a b d => ?_⟩
  exact ⟨Alu.run_mul a b d, Alu.run_mulh a b d, Alu.run_mulhu a b d, Alu.run_mulhsu a b d, Alu.run_mulw a b d,
    fun _ => ⟨Alu.run_div a b d, Alu.run_divu a b d, Alu.run_rem a b d, Alu.run_remu a b d⟩,
    fun _ => ⟨Alu.run_divw a b d, Alu.run_divuw a b d⟩⟩

/-- Settles O13: each result is the lemma of its operation. -/
theorem integerOperationsComputeTheirResults : Obligations.IntegerOperationsComputeTheirResults := by
  intro a b d
  exact ⟨Alu.run_add a b d, Alu.run_sub a b d, Alu.run_and a b d, Alu.run_or a b d, Alu.run_xor a b d,
    Alu.run_andn a b d, Alu.run_orn a b d, Alu.run_xnor a b d,
    Alu.run_sll a b d, Alu.run_srl a b d, Alu.run_sra a b d, Alu.run_ror a b d,
    Alu.run_addw a b d, Alu.run_subw a b d, Alu.run_sllw a b d, Alu.run_srlw a b d, Alu.run_sraw a b d,
    Alu.run_min a b d, Alu.run_max a b d, Alu.run_minu a b d, Alu.run_maxu a b d,
    Alu.run_sextb a b d, Alu.run_sexth a b d, Alu.run_sextw a b d, Alu.run_zextw a b d,
    Alu.run_sh1add a b d, Alu.run_sh2add a b d, Alu.run_sh3add a b d, rfl⟩

/-! ### Division by zero and overflow -/

theorem Run.exec_divZero (r : Run) (h : Hart) (slot : Nat) {o : Alu} (rd ra : Nat) {b : Opnd} (hz : o.divZero (h.opnd b) = true) :
    r.exec h slot (.alu o rd ra b) = .error (.exc 0xC slot 0 none none) := if_pos hz

theorem Run.go_predicatedOff (h : Hart) (ws is : List Nat) (i : Nat) (r : Run) (hp : h.img.getP (sylPred (ws.getD i 0)) = false) :
    Run.go h ws (i :: is) r = Run.go h ws is r := by
  rw [Run.go]
  split
  next => rw [if_pos (.inr hp)]
  next => rfl

theorem Alu.run_div_overflow (d : Nat) : Alu.run .div (2 ^ 63) (2 ^ 64 - 1) d = 2 ^ 63 := (Alu.run_div (BitVec.intMin 64) (-1) d).trans (by decide)

theorem Alu.run_rem_overflow (d : Nat) : Alu.run .rem (2 ^ 63) (2 ^ 64 - 1) d = 0 := (Alu.run_rem (BitVec.intMin 64) (-1) d).trans (by decide)

theorem Alu.run_divw_overflow {x y : Nat} (d : Nat) (hx : x % 2 ^ 32 = 2 ^ 31) (hy : y % 2 ^ 32 = 2 ^ 32 - 1) : Alu.run .divw x y d = 2 ^ 64 - 2 ^ 31 := by
  have hsx : sextInt 32 x = -2 ^ 31 := by rw [sextInt, hx]; decide
  have hsy : sextInt 32 y = -1 := by rw [sextInt, hy]; decide
  rw [Alu.run, hsx, hsy]
  decide

/-- Settles O12: `Alu.divZero` holds of each zero divisor and of no divisor of an overflow case. -/
theorem divisionByZeroRaises : Obligations.DivisionByZeroRaises := by
  refine ⟨fun r h slot rd ra o b hz => r.exec_divZero h slot rd ra ?_, fun r h ws is i hp => Run.go_predicatedOff h ws is i r hp, fun r h slot rd ra b hx hy => ?_,
    fun r h slot rd ra b hx hy => ?_⟩
  · obtain ⟨rfl | rfl | rfl | rfl, hy⟩ | ⟨rfl | rfl, hy⟩ := hz <;> exact beq_iff_eq.2 hy
  · have hdiv : Alu.divZero .div (h.opnd b) = false := by rw [hy]; rfl
    have hrem : Alu.divZero .rem (h.opnd b) = false := by rw [hy]; rfl
    rw [r.exec_alu h slot rd ra hdiv, r.exec_alu h slot rd ra hrem, hx, hy, Alu.run_div_overflow, Alu.run_rem_overflow]
    exact ⟨rfl, rfl⟩
  · have hdivw : Alu.divZero .divw (h.opnd b) = false := by rw [Alu.divZero, hy]; rfl
    rw [r.exec_alu h slot rd ra hdivw, Alu.run_divw_overflow _ hx hy]

end Sys2Proof.Machine
end

section
/-! PROOFS. A core that a check stops, and what its tile's controller does with it (04 R146-R148, R153, R156, R161). -/

namespace Sys2Proof.Machine

theorem does_of_run_eq {c : Instr} {s u : State} {f : State → State} (hp : s.powered = true) (he : exec c s = run f s) (h : f s = u) : Does c s u :=
  h ▸ does_of_run hp he

/-! ### Check-stop (R146, R157) -/

/-- An Active core below its recovery limit is reported as out of service and asks for a sparing. -/
theorem State.checkStop_below {s : State} {c : Nat} (hr : s.rf KC_PCS_ROLE c = 0) (hl : s.recoveries (org 1 c) < s.rf FC_CFG_RECOV_LIMIT) :
    s.checkStop c =
      ((((s.setUnit (org 1 c) (fun u => { u with st := 1 })).raise (2 * c)).report { org := org 1 c, cause := 0x0104, cls := ochre, react := 4 })).askSparing c := by
  unfold State.checkStop
  rw [if_neg (not_not.2 hr), State.outOfService_below _ _ hl]
  rfl

/-- A failed check in the port stops the core, but for a store that its home slice holds (16 R677). -/
theorem State.portTimeout_stops {s : State} {c : Nat} {store : Bool} (h : store = false ∨ s.headHeld c = false) : s.portTimeout c store = s.checkStop c :=
  if_neg (by rcases h with h | h <;> simp [h])

theorem State.portTimeout_held {s : State} {c : Nat} (h : s.headHeld c = true) : s.portTimeout c true = s := if_pos h

/-- A core that runs a virtual core in no recognised wait and commits nothing is stopped. -/
theorem State.noCommit_stops {s : State} {c i v : Nat} (hv : s.curVc c = some (i, v)) (hp : s.rf KC_PCS_POWER c = 0) (hr : s.vcRuns i v = true)
    (hf : (s.vc (vkey i v)).wfi = false) (hw : (s.vc (vkey i v)).wait.isNone = true) (hs : (s.core c).stalled = false) : s.noCommit c = s.checkStop c := by
  unfold State.noCommit
  rw [hv]
  exact if_pos ⟨hp, hr, hf, hw, hs⟩

/-! ### The controller (R147, R148, R153, R156, R161) -/

theorem State.queuedSparing_takes {s : State} {t d : Nat} (hb : s.rf KC_SPARE_STAT_BUSY t = 0) (hq : (s.spareQ t).find? (fun x => x.2 == 0) = some (d, 0)) :
    s.queuedSparing t = (s.setSpareQ t ((s.spareQ t).filter (fun x => x.1 != d))).startSparing t d 0 := by
  unfold State.queuedSparing
  rw [if_neg (by simp [State.rb, hb]), hq]

/-- With an eligible spare and no failure, the whole dispatch table moves to it, it becomes Active, and the source begins its extended self-test. -/
theorem State.spare_moves {s : State} {t d : Nat} (elapsed : Nat) (hb : s.rf KC_SPARE_STAT_BUSY t = 1) (hd : s.pickSpare (s.rf KC_SPARE_STAT_SRC t) = some d) :
    s.spare t [] false elapsed =
      ((((((s.sf KC_SPARE_STAT_DST d t).setCoreRole d 4).moveCore (s.rf KC_SPARE_STAT_SRC t) d).unitReset (s.rf KC_SPARE_STAT_SRC t)).setCoreRole d 0).endSparing t elapsed) := by
  have hsrc : (s.failTargets (s.rf KC_SPARE_STAT_SRC t) []).loseCur (s.rf KC_SPARE_STAT_SRC t) false = s := rfl
  unfold State.spare
  rw [if_neg (by simp [State.rb, hb])]
  dsimp only
  rw [hsrc, hd]

/-- A kept request for a planned move (kind 1) is served between two bundles, once a spare is eligible; the source leaves service below its recovery limit. -/
theorem State.plannedMove_moves {s x y : State} {t src d : Nat} (elapsed : Nat) (hb : s.rf KC_SPARE_STAT_BUSY t = 0) (hg : s.kc.degr = [])
    (hq : (s.spareQ t).find? (fun x => x.2 != 0) = some (src, 1)) (hd : s.pickSpare src = some d) (hbt : s.between src = true)
    (hx : s.setSpareQ t ((s.spareQ t).filter (fun x => x.1 != src)) = x) (hl : x.recoveries (org 1 src) < x.rf FC_CFG_RECOV_LIMIT)
    (hy : x.setUnit (org 1 src) (fun u => { u with st := 1 }) = y) :
    s.plannedMove t [] false elapsed =
      ((((((((((y.setCoreRole src 3).setCore src (fun k => { k with stopAt := y.now })).startSparing t src 1).sf KC_SPARE_STAT_DST d t).setCoreRole d 4).moveCore src d).unitReset
        src).setCoreRole d 0).endSparing t elapsed)) := by
  have hf : s.failTargets src [] = s := rfl
  unfold State.plannedMove
  rw [if_neg (by simp [State.rb, hb]), hg]
  dsimp only
  rw [hq]
  dsimp only
  rw [hf, hd, hbt, hx, State.outOfService_below _ _ hl, hy]
  rfl

/-- Settles O15: each clause is the lemma of its row, and both checks come to `State.checkStop_below`. -/
theorem checkedCoresAreSpared : Obligations.CheckedCoresAreSpared := by
  intro s core tile hp c t stopped
  refine ⟨fun hr hl => ?_, fun hh => ?_, fun d hb hq => ?_, fun d elapsed hb hd => ?_, fun src d elapsed hb hg hq hd hbt hl => ?_⟩
  · have hstop : s.checkStop c = stopped := State.checkStop_below hr hl
    refine ⟨fun store hh => ?_, fun i v hv hpw hrun hf hw hst => ?_⟩
    · exact does_of_run_eq (f := fun s => s.portTimeout core.val store) hp rfl ((State.portTimeout_stops hh).trans hstop)
    · exact does_of_run_eq (f := fun s => s.noCommit core.val) hp rfl ((State.noCommit_stops hv hpw hrun hf hw hst).trans hstop)
  · exact does_of_run_eq (f := fun s => s.portTimeout core.val true) hp rfl (State.portTimeout_held hh)
  · exact does_of_run_eq (f := fun s => s.queuedSparing tile.val) hp rfl (State.queuedSparing_takes hb hq)
  · exact does_of_run_eq (f := fun s => s.spare tile.val [] false elapsed.toNat) hp rfl (State.spare_moves _ hb hd)
  · exact does_of_run_eq (f := fun s => s.plannedMove tile.val [] false elapsed.toNat) hp rfl (State.plannedMove_moves _ hb hg hq hd hbt rfl hl rfl)

end Sys2Proof.Machine
end

section
/-! PROOFS. The tests and the small errors of cores (04 R140, R144, R145, R156, R161, R167, R169). -/

namespace Sys2Proof.Machine

/-! ### What a unit's recovery limit is judged by (15 R634) -/

theorem pcs_addr (c : Nat) : rKC_PCS.addr c = 0x7f1000c00000 + 8 * c := by simp [Reg.addr, rKC_PCS, dimOffs, dimProd]; omega
theorem selfTest_addr (c : Nat) : rKC_ST.addr c = 0x7f1000c00600 + 8 * c := by simp [Reg.addr, rKC_ST, dimOffs, dimProd]; omega
theorem quadStat_addr (q : Nat) : rQD_STAT.addr q = 0x7f1000b00000 + 8 * q := by simp [Reg.addr, rQD_STAT, dimOffs, dimProd]; omega

theorem State.reg_of_regs {s t : State} (h : t.regs = s.regs) (r : Reg) (i : Nat) : t.reg r i = s.reg r i := by
  unfold State.reg
  rw [h]

/-- The collector, its limits and device time are the same in s and t: the units have the same recoveries left. -/
structure State.SameRecoveries (s t : State) : Prop where
  fc : t.fc = s.fc
  cfg : t.reg rFC_CFG 0 = s.reg rFC_CFG 0
  time : t.now = s.now

namespace State.SameRecoveries

theorem refl (s : State) : s.SameRecoveries s := ⟨rfl, rfl, rfl⟩

theorem trans {s t u : State} (h : s.SameRecoveries t) (k : t.SameRecoveries u) : s.SameRecoveries u :=
  ⟨k.fc.trans h.fc, k.cfg.trans h.cfg, k.time.trans h.time⟩

/-- What writes no register and reports nothing leaves them. -/
theorem of_regs {s t : State} (hf : t.fc = s.fc) (hr : t.regs = s.regs) : s.SameRecoveries t :=
  ⟨hf, State.reg_of_regs hr _ _, State.reg_of_regs hr _ _⟩

/-- The registers of the cores and the quads stand apart from the collector's and from the time. -/
theorem sf (s : State) (f : RF) (v : Nat) {i : Nat} (hf : f.reg = rKC_PCS ∨ f.reg = rKC_ST ∨ f.reg = rQD_STAT) (hi : i < 64) : s.SameRecoveries (s.sf f v i) := by
  have hcfg : rFC_CFG.addr 0 = 0x7f1000200000 := by decide
  have htime : rTM_TIME.addr 0 = 0x7f1001000010 := by decide
  have haddr : 0x7f1000b00000 ≤ f.reg.addr i ∧ f.reg.addr i < 0x7f1000d00000 := by
    rcases hf with hf | hf | hf <;> rw [hf]
    · rw [pcs_addr]; omega
    · rw [selfTest_addr]; omega
    · rw [quadStat_addr]; omega
  exact ⟨s.sf_fc f v i, s.reg_wreg_other _ _ _ _ _ (by omega), s.reg_wreg_other _ _ _ _ _ (by omega)⟩

theorem below {s t : State} (h : s.SameRecoveries t) {o : Nat} (hl : s.recoveries o < s.rf FC_CFG_RECOV_LIMIT) : t.recoveries o < t.rf FC_CFG_RECOV_LIMIT := by
  have hr : t.recoveries o = s.recoveries o := by
    unfold State.recoveries State.unit
    rw [h.fc, h.time]
  have hf : t.rf FC_CFG_RECOV_LIMIT = s.rf FC_CFG_RECOV_LIMIT := congrArg (fun v => bits v FC_CFG_RECOV_LIMIT.hi FC_CFG_RECOV_LIMIT.lo) h.cfg
  rwa [hr, hf]

end State.SameRecoveries

theorem State.SameRecoveries.roleSync (s : State) : s.SameRecoveries s.roleSync := by
  have hpool : ∀ v, s.SameRecoveries (s.sf KC_SPARE_CFG_POOL_NOW v) := fun v =>
    ⟨s.sf_fc _ v 0, s.reg_wreg_other _ _ _ _ _ (by decide), s.reg_wreg_other _ _ _ _ _ (by decide)⟩
  exact foldl_keeps (fun (x : State) => s.SameRecoveries x) _ _ _ (hpool _) (fun x q hx hq =>
    hx.trans (.sf x QD_STAT_CORES_UP _ (.inr (.inr rfl)) ((List.mem_range.1 hq).trans (by decide))))

theorem State.SameRecoveries.raise (s : State) (n : Nat) : s.SameRecoveries (s.raise n) := .of_regs rfl rfl

theorem State.SameRecoveries.setPower (s : State) {c : Nat} (p : Nat) (hc : c < 64) : s.SameRecoveries (s.setPower c p) := by
  have hon : s.SameRecoveries ((s.sf KC_PCS_POWER p c).when (s.rb IS_CFG_CORE_PWR_EVT) (fun s => s.raise (2 * c + 1))) := by
    refine (State.SameRecoveries.sf s KC_PCS_POWER p (.inl rfl) hc).trans ?_
    cases s.rb IS_CFG_CORE_PWR_EVT with
    | true => exact .raise _ _
    | false => exact .refl _
  have hclear : ∀ x : State, x.SameRecoveries ((x.coreTlbClear c).l1Clear c) := fun x => .of_regs rfl rfl
  unfold State.setPower
  split
  · exact .refl s
  · dsimp only
    split
    · exact hon.trans (hclear _)
    · exact hon

/-- A core's role and power state are no matter of the collector's. -/
theorem State.SameRecoveries.setCoreRole (s : State) {c : Nat} (r : Nat) (hc : c < 64) : s.SameRecoveries (s.setCoreRole c r) := by
  have hrole : s.SameRecoveries (s.sf KC_PCS_ROLE r c) := .sf s KC_PCS_ROLE r (.inl rfl) hc
  unfold State.setCoreRole
  exact ((hrole.trans (.raise _ _)).trans (.roleSync _)).trans (.setPower _ _ hc)

theorem State.SameRecoveries.countPass (s : State) {c : Nat} (pass : Bool) (hc : c < 64) : s.SameRecoveries (s.countPass c pass) := by
  have hst : ∀ (x : State) (f : RF) (v : Nat), f.reg = rKC_ST → x.SameRecoveries (x.sf f v c) := fun x f v hf => .sf x f v (.inr (.inl hf)) hc
  have htwo : s.SameRecoveries ((s.sf KC_ST_PASSES (s.rf KC_ST_PASSES c + 1) c).sb KC_ST_LAST_OK pass c) :=
    (hst s KC_ST_PASSES _ rfl).trans (hst _ KC_ST_LAST_OK _ rfl)
  unfold State.countPass
  dsimp only
  split
  · exact htwo
  · exact htwo.trans (hst _ KC_ST_FAILS _ rfl)

/-! ### Self-tests (R144, R145, R156) -/

/-- The test of a spare is one counted pass, and its result follows. -/
theorem State.spareTest_of_spare {s : State} {c : Nat} (pass : Bool) (hr : s.rf KC_PCS_ROLE c = 1) :
    s.spareTest c pass = ((s.setCoreRole c 2).countPass c pass).spareResult c pass := if_pos hr

theorem State.spareTest_passes {s : State} {c : Nat} (hr : s.rf KC_PCS_ROLE c = 1) :
    s.spareTest c true = ((s.setCoreRole c 2).countPass c true).setCoreRole c 1 := by
  rw [State.spareTest_of_spare true hr, State.spareResult, if_pos rfl]

/-- A spare below its recovery limit that fails its test is quarantined and reported. -/
theorem State.spareTest_fails {s : State} {c : Nat} (hc : c < 64) (hr : s.rf KC_PCS_ROLE c = 1) (hl : s.recoveries (org 1 c) < s.rf FC_CFG_RECOV_LIMIT) :
    s.spareTest c false =
      ((((s.setCoreRole c 2).countPass c false).setUnit (org 1 c) (fun u => { u with st := 1 })).setCoreRole c 5).testFailed (org 1 c) 5 := by
  have hsame : s.SameRecoveries ((s.setCoreRole c 2).countPass c false) := (State.SameRecoveries.setCoreRole s 2 hc).trans (.countPass _ false hc)
  rw [State.spareTest_of_spare false hr, State.spareResult, if_neg Bool.false_ne_true, State.quarantine, State.outOfService_below _ _ (hsame.below hl)]
  dsimp only
  rw [if_neg Bool.false_ne_true]

/-- A quarantined core, outside a lost quad and not parked, passes to Quiet or is retired. -/
theorem State.extTestEnd_core {s : State} {c : Nat} (pass : Bool) (hc : c < 64) (hq : s.rf QD_STAT_STATE (c / 4) ≠ 2) (hr : s.rf KC_PCS_ROLE c = 5)
    (hk : s.rb IS_ISL_STAT_PARKED c = false) (hu : (s.unit (org 1 c)).st ≠ 3) :
    s.extTestEnd c pass =
      if pass then ((s.countPass c pass).setCoreRole c 6).toQuiet (org 1 c)
      else (((s.countPass c pass).testFailed (org 1 c) 6).retireUnit (org 1 c)).setCoreRole c 7 := by
  have hunit : ((s.countPass c pass).unit (org 1 c)).st ≠ 3 := by
    unfold State.unit at *
    rwa [(State.SameRecoveries.countPass s pass hc).fc]
  unfold State.extTestEnd
  rw [if_neg hq, if_neg (by simp [hr, hk])]
  cases pass with
  | true => exact if_pos (by simp [hunit])
  | false => rfl

/-! ### A planned move (R161, R169) -/

/-- Device firmware's request is reported, and kept until a spare is eligible. -/
theorem State.moveWrite_asks {s : State} {a : Agent} {c : Nat} (ha : a ≠ .host) (hr : s.rf KC_PCS_ROLE c = 0) (hq : (s.spareQ (c / 16)).contains (c, 1) = false) :
    s.moveWrite a c = (s.report { org := org 1 c, cause := 0x0109, cls := slate, react := 4 }).setSpareQ (c / 16) (s.spareQ (c / 16) ++ [(c, 1)]) := by
  have hask : (s.report { org := org 1 c, cause := 0x0109, cls := slate, react := 4 }).askMove c =
      (s.report { org := org 1 c, cause := 0x0109, cls := slate, react := 4 }).setSpareQ (c / 16) (s.spareQ (c / 16) ++ [(c, 1)]) :=
    if_neg (not_or.2 ⟨not_not.2 hr, Bool.eq_false_iff.1 hq⟩)
  rw [← hask]
  cases a with
  | host => exact absurd rfl ha
  | _ => exact if_pos hr

end Sys2Proof.Machine
end

section
/-! PROOFS. What the loss of a quad or of a slice leaves in the caches (05 R192-R195): none of the quad's lines, none of the slice's. -/

namespace Sys2Proof.Machine

/-! ### Lines that leave an L2 -/

theorem Map.mem_del {α : Type} {m : Map α} {k : Nat} {e : Nat × α} : e ∈ Map.del m k ↔ e ∈ m ∧ e.1 ≠ k := by
  simp [Map.del]

theorem Map.key_ne_of_find_none {α : Type} {m : Map α} {k : Nat} (h : Map.find m k = none) : ∀ e ∈ m, e.1 ≠ k := by
  induction m with
  | nil => simp
  | cons a r ih =>
    obtain ⟨j, b⟩ := a
    rw [Map.find_cons] at h
    split at h
    next => simp at h
    next hj => simpa [hj] using ih h

@[simp] theorem State.crossInto_coh (s : State) (c : Nat) : (s.crossInto c).coh = s.coh := by
  unfold State.crossInto
  split
  · cases s.rb IS_CFG_CORE_PWR_EVT <;> simp
  · rfl

/-- An invalidation in the L1 caches leaves the L2s. -/
theorem State.l1Invalidate_l2 (s : State) (q line : Nat) : (s.l1Invalidate q line).coh.l2 = s.coh.l2 :=
  foldl_keeps (fun (x : State) => x.coh.l2 = s.coh.l2) _ (s.l1Holders q line) _ rfl (fun x c hx _ => by rw [State.crossInto_coh, hx])

theorem State.dropL2_l2 (s : State) (q line : Nat) : (s.dropL2 q line).coh.l2 = Map.del s.coh.l2 (l2Key q line) :=
  congrArg (fun m => Map.del m (l2Key q line)) (s.l1Invalidate_l2 q line)

/-- The L2s hold no more in t than in s, and none of them the line of the key k. -/
structure State.LosesL2 (s t : State) (k : Nat) : Prop where
  sub : t.coh.l2 ⊆ s.coh.l2
  gone : ∀ e ∈ t.coh.l2, e.1 ≠ k

theorem State.LosesL2.congr {s t u : State} {k : Nat} (h : s.LosesL2 t k) (hu : u.coh.l2 = t.coh.l2) : s.LosesL2 u k :=
  ⟨hu ▸ h.sub, hu ▸ h.gone⟩

/-- Steps that each take one line out of an L2 take all of them out. -/
theorem State.each_losesL2 {α : Type} {f : State → α → State} {key : α → Nat} (l : List α) (hf : ∀ x : State, ∀ a ∈ l, x.LosesL2 (f x a) (key a)) (s : State) :
    (s.each l f).coh.l2 ⊆ s.coh.l2 ∧ ∀ a ∈ l, s.LosesL2 (s.each l f) (key a) := by
  induction l generalizing s with
  | nil => exact ⟨List.Subset.refl _, by simp⟩
  | cons a r ih =>
    have ha : s.LosesL2 (f s a) (key a) := hf s a (by simp)
    obtain ⟨hsub, hr⟩ := ih (fun x b hb => hf x b (by simp [hb])) (f s a)
    refine ⟨List.Subset.trans hsub ha.sub, fun b hb => ?_⟩
    rcases List.mem_cons.1 hb with rfl | hb
    · exact ⟨List.Subset.trans hsub ha.sub, fun e he => ha.gone e (hsub he)⟩
    · exact ⟨List.Subset.trans hsub ha.sub, (hr b hb).gone⟩

theorem State.losesL2_dropL2 (s : State) (q line : Nat) : s.LosesL2 (s.dropL2 q line) (l2Key q line) := by
  have h := s.dropL2_l2 q line
  exact ⟨fun e he => (Map.mem_del.1 (h ▸ he)).1, fun e he => (Map.mem_del.1 (h ▸ he)).2⟩

@[simp] theorem State.setDir_l2 (s : State) (line : Nat) (d : DirEnt) : (s.setDir line d).coh.l2 = s.coh.l2 := rfl

/-! ### A lost quad (R192) -/

theorem State.losesL2_dropAll (s : State) {q : Nat} (line : Nat) (hq : q < 16) : s.LosesL2 (s.dropAll line) (l2Key q line) := by
  have h := State.each_losesL2 (List.range 16) (fun (x : State) q _ => x.losesL2_dropL2 q line) s
  exact (h.2 q (List.mem_range.2 hq)).congr (State.setDir_l2 ..)

theorem State.losesL2_loseLine (s : State) {q : Nat} (line : Nat) (hq : q < 16) : s.LosesL2 (s.loseLine line) (l2Key q line) := by
  let x : State := { s with coh := { s.coh with mesh := Map.del s.coh.mesh line } }
  obtain ⟨hsub, hgone⟩ := x.losesL2_dropAll line hq
  exact State.LosesL2.congr ⟨hsub, hgone⟩ (congrArg CohSt.l2 (State.setPoison_coh ..))

/-- The caches and the directory hold the same lines, and the same slices are lost. -/
structure CohSt.SameLines (c d : CohSt) : Prop where
  l2 : d.l2 = c.l2
  mesh : d.mesh = c.mesh
  dir : d.dir = c.dir
  slices : d.deadSlices = c.deadSlices

theorem CohSt.SameLines.trans {c d e : CohSt} (h : c.SameLines d) (k : d.SameLines e) : c.SameLines e :=
  ⟨k.l2.trans h.l2, k.mesh.trans h.mesh, k.dir.trans h.dir, k.slices.trans h.slices⟩

/-- A line lost to a dead agent is noted in the agent's list and in registers alone. -/
theorem State.noteLost_lines (s : State) (k w : Nat) : s.coh.SameLines (s.noteLost k w).coh := by
  unfold State.noteLost
  extract_lets l c x y
  have hy : y.coh = x.coh := State.sf_coh ..
  have hx : s.coh.SameLines x.coh := ⟨rfl, rfl, rfl, rfl⟩
  split
  · rw [State.sf_coh, hy]
    exact hx
  · rw [hy]
    exact hx

/-- A line that is reclaimed from a dead quad, lost or dropped, leaves its L2. -/
theorem State.losesL2_reclaimLine (s : State) {q : Nat} (line : Nat) (hq : q < 16) : s.LosesL2 (s.reclaimLine q line) (l2Key q line) := by
  unfold State.reclaimLine
  split
  next l _ =>
    split
    · exact (s.losesL2_loseLine line hq).congr (State.noteLost_lines ..).l2
    · exact (s.losesL2_dropL2 q line).congr rfl
  next h => exact ⟨List.Subset.refl _, Map.key_ne_of_find_none h⟩

/-- The scan for a dead quad's lines leaves none of them in its L2. -/
theorem State.reclaimQuad_l2 (s : State) {q : Nat} (hq : q < 16) : ∀ e ∈ (s.reclaimQuad q).coh.l2, e.1 / 2 ^ 46 ≠ q := by
  intro e he heq
  unfold State.reclaimQuad at he
  extract_lets mine named at he
  obtain ⟨hsub, hgone⟩ := State.each_losesL2 (mine ++ named) (fun (x : State) line _ => x.losesL2_reclaimLine line hq) s
  have hmine : e.1 % 2 ^ 46 ∈ mine := List.mem_map.2 ⟨e, List.mem_filter.2 ⟨hsub he, beq_iff_eq.2 heq⟩, rfl⟩
  refine (hgone _ (List.mem_append_left _ hmine)).gone e he ?_
  rw [l2Key, ← heq, Nat.div_add_mod']

theorem State.quadLoss_fences {s : State} {q : Nat} (hq : s.rf QD_STAT_STATE q = 0) (hl : s.recoveries (org 2 q) < s.rf FC_CFG_RECOV_LIMIT) :
    s.quadLoss q true =
      ((((((s.setUnit (org 2 q) (fun u => { u with st := 1 })).setQuad q 1).fenceQuad q).report
        { org := org 2 q, cause := 0x0204, cls := ochre, react := 5 })).reclaimStart 0 q) := by
  have h : s.quadLoss q true = s.quadFence q := by
    unfold State.quadLoss
    rw [if_pos rfl]
    dsimp only
    rw [hq]
    rfl
  rw [h, State.quadFence, State.outOfService_below _ _ hl]
  rfl

theorem State.quadLoss_reclaims {s : State} {q : Nat} (hq : s.rf QD_STAT_STATE q = 1) : s.quadLoss q true = s.quadReclaim q := by
  unfold State.quadLoss
  rw [if_pos rfl]
  dsimp only
  rw [hq]
  rfl

/-! ### A lost slice (R194, R195) -/

theorem sliceStat_addr (a : Nat) : rMX_SLICE_STAT.addr a = 0x7f1000a00100 + 8 * a := by simp [Reg.addr, rMX_SLICE_STAT, dimOffs, dimProd]; omega

theorem State.homeNow_sf_reclaim (s : State) (f : RF) (v line : Nat) (hf : f.reg = rMX_RECLAIM) : (s.sf f v).homeNow line = s.homeNow line := by
  refine s.rf_sf_other f MX_SLICE_STAT_HOME v 0 (homeOf (line * 64)) ?_
  have h0 : f.reg.addr 0 = 0x7f1000a00008 := by rw [hf]; decide
  have h1 : MX_SLICE_STAT_HOME.reg.addr (homeOf (line * 64)) = 0x7f1000a00100 + 8 * homeOf (line * 64) := sliceStat_addr _
  rw [h0, h1]
  omega

theorem State.homeNow_raise (s : State) (n line : Nat) : (s.raise n).homeNow line = s.homeNow line := State.rf_of_regs (s.raise_regs n) _ _

/-- A reclaim that begins changes no slice's home. -/
theorem State.homeNow_reclaimStart (s : State) (kind agent line : Nat) : (s.reclaimStart kind agent).homeNow line = s.homeNow line := by
  unfold State.reclaimStart
  rw [State.homeNow_raise, State.homeNow_sf_reclaim _ _ _ _ rfl, State.homeNow_sf_reclaim _ _ _ _ rfl, State.homeNow_sf_reclaim _ _ _ _ rfl,
    State.homeNow_sf_reclaim _ _ _ _ rfl, State.homeNow_sf_reclaim _ _ _ _ rfl]

theorem State.reclaimStart_coh (s : State) (kind agent : Nat) : (s.reclaimStart kind agent).coh = s.coh := by
  rw [State.reclaimStart, State.raise_coh, State.sf_coh, State.sf_coh, State.sf_coh, State.sf_coh, State.sf_coh]

/-- Dirty lines that are poisoned and noted as lost leave the caches and the directory as they are. -/
theorem State.each_noteLost_lines {α : Type} (s : State) (l : List α) (k : Nat) (line w : α → Nat) :
    s.coh.SameLines (s.each l (fun s a => (s.setPoison (line a) true).noteLost k (w a))).coh := by
  refine foldl_keeps (fun (x : State) => s.coh.SameLines x.coh) _ l s ⟨rfl, rfl, rfl, rfl⟩ (fun x a hx _ => ?_)
  have hp : x.coh.SameLines ((x.setPoison (line a) true).noteLost k (w a)).coh := x.setPoison_coh (line a) true ▸ State.noteLost_lines ..
  exact hx.trans hp

/-- A slice that is lost keeps no line in its mesh cache, and its lines wait for their new home. -/
theorem State.sliceFence_spec (s : State) (a : Nat) :
    bit (s.sliceFence a).coh.deadSlices a = true ∧ (s.sliceFence a).coh.mesh = s.coh.mesh.filter (fun e => !(s.homeNow e.1 == a)) ∧
    (s.sliceFence a).coh.l2 = s.coh.l2 ∧ (s.sliceFence a).coh.dir = s.coh.dir ∧ (s.sliceFence a).rf MX_SLICE_STAT_STATE a = 1 := by
  unfold State.sliceFence
  extract_lets x lost y z u v
  have hcoh : x.coh = s.coh := s.reclaimStart_coh 1 a
  have hhome : ∀ line, x.homeNow line = s.homeNow line := s.homeNow_reclaimStart 1 a
  clear_value x
  obtain ⟨hl2, hmesh, hdir, hslices⟩ := z.each_noteLost_lines (lost.filter (fun e => e.2.dirty)) (16 + a) (fun e => e.1) (fun e => e.2.writer)
  have hv : v.coh = u.coh := State.sf_coh u MX_SLICE_STAT_STATE 1 a
  have hst : v.rf MX_SLICE_STAT_STATE a = 1 := State.rf_sf_same u MX_SLICE_STAT_STATE 1 a (by decide) (by decide) (by decide)
  rw [State.report_coh, hv]
  refine ⟨?_, hmesh.trans ?_, hl2.trans (congrArg CohSt.l2 hcoh :), hdir.trans (congrArg CohSt.dir hcoh :), hst⟩
  · have hbit : bit z.coh.deadSlices a = true := (testBit_setBit ..).trans (if_pos rfl)
    exact (congrArg (fun n => bit n a) hslices).trans hbit
  · rw [← hcoh, ← funext hhome]

/-- With a working buddy, the takeover gives the slice's homes to it, and the writers that lost a dirty line are recorded (R194). -/
theorem State.sliceTake_buddy {s x y : State} {a : Nat} (hb : s.rf MX_SLICE_STAT_STATE (a ^^^ 1) = 0)
    (hx : ((List.range 64).filter (fun k => s.rf MX_SLICE_STAT_HOME k == a)).foldl (fun (z : State) k => z.sf MX_SLICE_STAT_HOME (a ^^^ 1) k) s = x)
    (hy : (x.sf MX_SLICE_STAT_STATE 2 a).raise (0x0A0 + a) = y) :
    s.sliceTake a =
      ((y.lostWriters (16 + a)).foldl (fun (z : State) k => z.report { org := org 3 a, cause := 0x0304, cls := russet, subj := z.charge k }) y).reclaimEnd (16 + a) := by
  have hheir : s.takesOver a = a ^^^ 1 := if_pos (beq_iff_eq.2 hb)
  rw [State.sliceTake, hheir, if_pos hb]
  unfold State.each
  rw [hx, hy]

theorem State.doSliceLoss_up {s : State} {a : Nat} (h : s.rf MX_SLICE_STAT_STATE a = 0) : s.doSliceLoss a = s.sliceFence a := if_pos h

theorem State.doSliceLoss_lost {s : State} {a : Nat} (h : s.rf MX_SLICE_STAT_STATE a = 1) : s.doSliceLoss a = s.sliceTake a := by
  rw [State.doSliceLoss, if_neg (by simp [h]), if_pos h]

end Sys2Proof.Machine
end

section
/-! PROOFS. The rows of tests, small errors and losses (04, 05), assembled. -/

namespace Sys2Proof.Machine

/-- Settles O16: each clause is the lemma of its row. -/
theorem unitsAreTestedScrubbedAndReclaimed : Obligations.UnitsAreTestedScrubbedAndReclaimed := by
  refine ⟨fun s core hp => ?_, fun s hp => ⟨fun q hq hl => ?_, fun q hq => ?_, fun a ha => ?_, fun a ha hb => ?_⟩⟩
  · intro c
    have hc : c < 64 := core.isLt
    refine ⟨fun hr => ?_, fun hr => ?_, fun pass hq hr hk hu => ?_, ?_, ?_, ?_, ?_, ?_, ?_, fun a ha hr hq => ?_⟩
    · exact does_of_run_eq (f := fun s => s.spareTest core.val true) hp rfl (State.spareTest_passes hr)
    · exact fun hl => does_of_run_eq (f := fun s => s.spareTest core.val false) hp rfl (State.spareTest_fails hc hr hl)
    · have ht := State.extTestEnd_core pass hc hq hr hk hu
      refine does_of_run_eq (f := fun s => s.joinIfEnded (s.joinIfEnded (s.extTestEnd core.val pass) (org 1 core.val) pass) (org 2 (core.val / 4)) pass) hp rfl ?_
      exact congrArg (fun (t : State) => s.joinIfEnded (s.joinIfEnded t (org 1 c) pass) (org 2 (c / 4)) pass) ht
    · exact does_of_run (f := fun s => s.ckptScrub core.val .clean) hp rfl
    · exact does_of_run (f := fun s => s.ckptScrub core.val .single) hp rfl
    · exact does_of_run (f := fun s => s.ckptScrub core.val .double) hp rfl
    · exact does_of_run_eq (f := fun s => s.ucodeReload core.val false) hp rfl (if_neg Bool.false_ne_true)
    · exact does_of_run_eq (f := fun s => s.ucodeReload core.val true) hp rfl (if_pos rfl)
    · exact does_of_run (f := fun s => s.moveWrite .host core.val) hp rfl
    · exact does_of_run_eq (f := fun s => s.moveWrite a core.val) hp rfl (State.moveWrite_asks ha hr hq)
  · exact does_of_run_eq (f := fun s => s.quadLoss q.val true) hp rfl (State.quadLoss_fences hq hl)
  · exact ⟨s.reclaimQuad_l2 q.isLt, does_of_run_eq (f := fun s => s.quadLoss q.val true) hp rfl (State.quadLoss_reclaims hq)⟩
  · obtain ⟨hbit, hmesh, hl2, hdir, hst⟩ := s.sliceFence_spec a.val
    exact ⟨_, does_of_run_eq (f := fun s => s.doSliceLoss a.val) hp rfl (State.doSliceLoss_up ha), hbit, hmesh, hl2, hdir, hst⟩
  · exact does_of_run_eq (f := fun s => s.doSliceLoss a.val) hp rfl ((State.doSliceLoss_lost ha).trans (State.sliceTake_buddy hb rfl rfl))

end Sys2Proof.Machine
end

section
/-! PROOFS. The oldest store of a store buffer and the rotation of a dispatch table (05 R184, R193, R198; 08 R326; 13 R551, R552). -/

namespace Sys2Proof.Machine

section
variable {s : State} {c : Nat} {e : SbEnt} {r : List SbEnt}

/-! ### The store buffer (R198) -/

/-- Only a store to a protected page waits at its home slice (16 R677). -/
@[simp] theorem State.heldWrite_unprotected (s : State) (line : Nat) : s.heldWrite false line = false := rfl

/-- An entry that no home slice holds leaves the buffer, and the port record takes its number. -/
theorem State.sbDrainOne_drains (hb : (s.core c).sb = e :: r) (hh : e.sig = true ∨ e.pr = false) :
    s.sbDrainOne c = (s.setCore c (fun k => { k with sb := r, portSeq := e.seq })).sbVisible c e := by
  have hheld : (!e.sig && s.heldWrite e.pr e.line) = false := by
    rcases hh with hh | hh <;> simp [hh]
  unfold State.sbDrainOne
  rw [hb]
  exact if_neg (by simp [hheld])

/-- A store to the Signal Store goes to its output slot (08 R326). -/
theorem State.sbVisible_signal (hs : e.sig = true) : s.sbVisible c e = s.pendStore (e.line * 64 - 0x400000000000) e.data e.mask := if_pos hs

/-- For a lost quad (R193) and for a store made at level F (R184) the home slice performs the write. -/
theorem State.sbVisible_home (hs : e.sig = false) (hp : e.pr = false) (h : bit s.coh.deadQuads (c / 4) = true ∨ e.inst = 512) :
    s.sbVisible c e = s.coWrite e.line e.data e.mask e.inst := by
  unfold State.sbVisible
  rw [if_neg (by simp [hs]), hp]
  exact if_pos (by simpa using h)

/-- Otherwise the quad gets the line in M, the store is written there, and the quad's other cores lose the line. -/
theorem State.sbVisible_quad (hs : e.sig = false) (hp : e.pr = false) (hq : bit s.coh.deadQuads (c / 4) = false) (hi : e.inst ≠ 512) :
    s.sbVisible c e = ((s.acquireM (c / 4) e.line e.inst).l2Store (c / 4) e.line e.data e.mask).l1Stored c e.line := by
  unfold State.sbVisible
  rw [if_neg (by simp [hs]), hp]
  exact if_neg (by simp [hq, hi])

/-! ### The dispatch table (13 R551, R552) -/

/-- An entry that preempted none gives way to the next runnable one in entry order. -/
theorem State.giveWay_rotates {n : Nat} (hb : (s.core c).back = none) (hn : s.nextEntry c = some n) : s.giveWay c = s.rotateTo c n := by
  unfold State.giveWay
  rw [hb, hn]

theorem State.dispatchSwitch_gives_way (hb : s.between c = true) (hr : s.runnable c (s.core c).cur = false) : s.dispatchSwitch c = s.giveWay c :=
  if_pos (by simp [hb, hr])

/-- The end of a slice marks the slice of a Control entry alone as used. -/
theorem State.sliceEnd_gives_way (hb : s.between c = true) (hc : s.isControl c (s.core c).cur = false) : s.sliceEnd c = s.giveWay c := by
  unfold State.sliceEnd
  rw [if_pos hb]
  dsimp only
  rw [if_neg (by simp [hc])]

theorem State.controlPreempt_preempts {n : Nat} (hb : s.between c = true) (hr : s.runnable c (s.core c).cur = true)
    (hc : s.isControl c (s.core c).cur = false)
    (hf : (List.range 64).find? (fun x => s.isControl c x && s.runnable c x && !(s.core c).used.contains x) = some n) :
    s.controlPreempt c = s.setCore c (fun k => { k with cur := n, back := some (s.core c).cur }) := by
  unfold State.controlPreempt
  rw [if_pos (by simp [hb, hr, hc]), hf]

end

theorem does_storeBufferDrain {s u : State} {core : Fin 64} {e : SbEnt} {r : List SbEnt} (hp : s.powered = true) (hb : (s.core core.val).sb = e :: r)
    (hh : e.sig = true ∨ e.pr = false) (hu : (s.setCore core.val (fun k => { k with sb := r, portSeq := e.seq })).sbVisible core.val e = u) :
    Does (.storeBufferDrain core) s u :=
  does_of_run_eq (f := fun s => s.sbDrainOne core.val) hp rfl ((State.sbDrainOne_drains hb hh).trans hu)

/-- Settles O17: the entry that drains becomes visible where its lemma says, and each change of the running entry is the lemma of its row. -/
theorem storesDrainAndEntriesRotate : Obligations.StoresDrainAndEntriesRotate := by
  intro s core hp c
  refine ⟨fun e r hb hs hpr hq hi => ?_, fun e r hb hs hpr h => ?_, fun e r hb hs => ?_, fun e hbt hr hbk hn => ?_, fun e hbt hc hbk hn => ?_,
    fun e hbt hr hc hf => ?_⟩
  · exact does_storeBufferDrain hp hb (.inr hpr) (State.sbVisible_quad hs hpr hq hi)
  · exact does_storeBufferDrain hp hb (.inr hpr) (State.sbVisible_home hs hpr h)
  · exact does_storeBufferDrain hp hb (.inl hs) (State.sbVisible_signal hs)
  · exact does_of_run_eq (f := fun s => s.dispatchSwitch core.val) hp rfl ((State.dispatchSwitch_gives_way hbt hr).trans (State.giveWay_rotates hbk hn))
  · exact does_of_run_eq (f := fun s => s.sliceEnd core.val) hp rfl ((State.sliceEnd_gives_way hbt hc).trans (State.giveWay_rotates hbk hn))
  · exact does_of_run_eq (f := fun s => s.controlPreempt core.val) hp rfl (State.controlPreempt_preempts hbt hr hc hf)

end Sys2Proof.Machine
end

section
/-! PROOFS. What the home slice does with a request, by the directory's state of the line (05 R181-R183, R187). -/

namespace Sys2Proof.Machine

/-! ### Lines in M go home -/

section
variable {s : State} {q line : Nat} {l : L2Line}

theorem State.writeBackM_none (h : s.l2 q line = none) : s.writeBackM q line = s := by rw [State.writeBackM, h]

theorem State.writeBackM_clean (h : s.l2 q line = some l) (hm : l.st ≠ .m) : s.writeBackM q line = s := by
  rw [State.writeBackM, h]
  exact if_neg hm

theorem State.writeBackM_dirty (h : s.l2 q line = some l) (hm : l.st = .m) :
    s.writeBackM q line = s.homePut line l.data l.poison (s.dirOf line).writer := by
  rw [State.writeBackM, h]
  exact if_pos hm

@[simp] theorem State.l2_setDir (s : State) (q line line' : Nat) (d : DirEnt) : (s.setDir line' d).l2 q line = s.l2 q line := rfl

end

/-! ### A request at its home slice -/

section
variable {s z : State} {k : ReqKind} {r : CohReq} {line q i agent : Nat} {fs : List ChanFinding}

/-- A request to a line of usable memory, in a granule that its world may reach, meets its home slice (17 R705). -/
theorem State.atHome_reaches {inst : Option Nat} {f : State → State} (hl : line < s.usableLines)
    (hg : (s.secGran.contains (line / 32768) && !s.secureAgent agent inst) = false) : s.atHome agent line inst f = f (s.srTouch line) :=
  if_neg (by rw [hg]; simp [hl])

/-- A request that may be served is taken up, and the home acts on it at the state z where it has met the counters, the dead quads and the array. -/
theorem State.request_serves (hm : s.mayServe r = true) (hz : (s.takeUp r).meets r fs = z) :
    s.request r fs = z.serveAs r (z.dirOf r.line) (z.lineNow r.line) := by
  rw [State.request, if_pos hm, State.serve, hz]

/-- A live quad's request reaches the home slice of an open line. -/
theorem State.quadRequest_reaches (hq : bit s.coh.deadQuads q = false) (hl : line < s.usableLines)
    (hg : (s.secGran.contains (line / 32768) && !s.secureAgent (org 2 q) (if i < 512 then some i else none)) = false) :
    s.quadRequest k q i line fs = (s.srTouch line).request ⟨k, line, some q, org 2 q, i⟩ fs := by
  rw [State.quadRequest, if_neg (by simp [hq]), State.atHome_reaches hl hg]

/-- A live quad's request for an open line that may be served is served at z. -/
theorem State.quadRequest_serves (hq : bit s.coh.deadQuads q = false) (hl : line < s.usableLines)
    (hg : (s.secGran.contains (line / 32768) && !s.secureAgent (org 2 q) (if i < 512 then some i else none)) = false)
    (hm : (s.srTouch line).mayServe ⟨k, line, some q, org 2 q, i⟩ = true)
    (hz : ((s.srTouch line).takeUp ⟨k, line, some q, org 2 q, i⟩).meets ⟨k, line, some q, org 2 q, i⟩ fs = z) :
    s.quadRequest k q i line fs = z.serveAs ⟨k, line, some q, org 2 q, i⟩ (z.dirOf line) (z.lineNow line) :=
  (State.quadRequest_reaches hq hl hg).trans (State.request_serves hm hz)

end

/-! ### Reads (R182) -/

section
variable {s : State} {line q agent i o : Nat} {d : DirEnt} {v : Line × Bool}

/-- A read finds its quad without a copy that the directory knows of. -/
theorem State.not_held (h : (s.l2 q line).isNone = true ∨ bit d.holders q = false) : ¬ ((s.l2 q line).isSome && bit d.holders q) = true := by
  rcases h with h | h
  · simp [Option.isNone_iff_eq_none.1 h]
  · simp [h]

/-- The first reader gets the line in E, and whom it reads for is recorded (R183). -/
theorem State.serveAs_readShared_unheld (hn : (s.l2 q line).isNone = true ∨ bit d.holders q = false) (ho : d.owner = none) (hs : d.sharers = 0) :
    s.serveAs ⟨.readShared, line, some q, agent, i⟩ d v = (s.fillL2 q line ⟨.e, v.1, v.2⟩).setDir line ⟨0, some q, false, i⟩ := by
  unfold State.serveAs
  dsimp only
  rw [if_neg (State.not_held hn), ho]
  exact if_pos hs

theorem State.serveAs_readShared_shared (hn : (s.l2 q line).isNone = true ∨ bit d.holders q = false) (ho : d.owner = none) (hs : d.sharers ≠ 0) :
    s.serveAs ⟨.readShared, line, some q, agent, i⟩ d v =
      (s.fillL2 q line ⟨.f, v.1, v.2⟩).setDir line ⟨setBit d.sharers q false, some q, true, 512⟩ := by
  unfold State.serveAs
  dsimp only
  rw [if_neg (State.not_held hn), ho]
  exact if_neg hs

/-- A reader that the directory names as the holder has lost its copy silently, and gets it back. -/
theorem State.serveAs_readShared_own (hn : (s.l2 q line).isNone = true ∨ bit d.holders q = false) (ho : d.owner = some q) :
    s.serveAs ⟨.readShared, line, some q, agent, i⟩ d v = (s.dropL2 q line).fillL2 q line ⟨if d.fwd then .f else .e, v.1, v.2⟩ := by
  unfold State.serveAs
  dsimp only
  rw [if_neg (State.not_held hn), ho]
  exact if_pos rfl

theorem State.serveAs_readShared_other (hn : (s.l2 q line).isNone = true ∨ bit d.holders q = false) (ho : d.owner = some o) (hq : o ≠ q) :
    s.serveAs ⟨.readShared, line, some q, agent, i⟩ d v = s.setBusy ⟨⟨.readShared, line, some q, agent, i⟩, some o, 0, v.1, v.2⟩ := by
  unfold State.serveAs
  dsimp only
  rw [if_neg (State.not_held hn), ho]
  exact if_neg hq

/-- A quad that the directory names as the owner, and not in F, is the one in E or M; else there is none. -/
theorem DirEnt.not_exclusive (h : d.owner = none ∨ d.fwd = true) : (d.owner.isSome && !d.fwd) = false := by
  rcases h with h | h <;> simp [h]

/-- A snooper gets the home's copy, and no cache changes. -/
theorem State.serveAs_readSnoop_home (h : d.owner = none ∨ d.fwd = true) :
    s.serveAs ⟨.readSnoop, line, none, agent, i⟩ d v = { s with coh := { s.coh with snooped := (line, v.1, v.2) } } := by
  unfold State.serveAs
  dsimp only
  rw [DirEnt.not_exclusive h]
  cases d.owner <;> rfl

theorem State.serveAs_readSnoop_owned (ho : d.owner = some o) (hf : d.fwd = false) :
    s.serveAs ⟨.readSnoop, line, none, agent, i⟩ d v = s.setBusy ⟨⟨.readSnoop, line, none, agent, i⟩, some o, 0, v.1, v.2⟩ := by
  unfold State.serveAs
  dsimp only
  rw [ho, hf]
  rfl

/-! ### Requests to write (R182, R183, R187) -/

/-- A request for M, READ_OWN or UPGRADE, of a line that one quad holds in E or M: its own is made M, another's is asked for. -/
theorem State.serveAs_ownership_owned {k : ReqKind} (hk : k = .readOwn ∨ k = .upgrade) (ho : d.owner = some o) (hf : d.fwd = false) :
    s.serveAs ⟨k, line, some q, agent, i⟩ d v =
      if o = q then s.grantM q line i v.1 v.2 else s.setBusy ⟨⟨k, line, some q, agent, i⟩, some o, 0, v.1, v.2⟩ := by
  unfold State.serveAs
  rcases hk with rfl | rfl
  all_goals
    dsimp only
    rw [ho, hf]
    rfl

/-- With no quad in E or M the other copies are invalidated first, and without one M is granted at once. -/
theorem State.serveAs_ownership_shared {k : ReqKind} {x : State} (hk : k = .readOwn ∨ k = .upgrade) (h : d.owner = none ∨ d.fwd = true)
    (hx : (if bit d.holders q then s else s.dropL2 q line) = x) :
    s.serveAs ⟨k, line, some q, agent, i⟩ d v =
      if setBit d.holders q false = 0 then x.grantM q line i v.1 v.2
      else x.setBusy ⟨⟨k, line, some q, agent, i⟩, none, setBit d.holders q false, v.1, v.2⟩ := by
  subst hx
  unfold State.serveAs
  rcases hk with rfl | rfl
  all_goals
    dsimp only
    rw [DirEnt.not_exclusive h]
    rfl

/-- The holder in E of a line stays so under its new writer. -/
theorem State.serveAs_writerChange_clean {l : L2Line} (hl : s.l2 q line = some l) (hm : l.st ≠ .m) (hd : s.dirOf line = d) (ho : d.owner = some q)
    (hf : d.fwd = false) : s.serveAs ⟨.writerChange, line, some q, agent, i⟩ d v = (s.setDir line { d with writer := i }).setL2 q line { l with st := .e } := by
  subst hd
  show s.writerChange q line i = _
  rw [State.writerChange, if_pos ⟨ho, hf⟩, State.writeBackM_clean hl hm]
  dsimp only
  rw [State.l2_setDir, hl]

theorem State.serveAs_writeLine {dt : Line} {mask : BitVec 64} :
    s.serveAs ⟨.writeLine dt mask, line, none, agent, i⟩ d v =
      if d.holders = 0 then s.lineWrite line dt mask i
      else s.setBusy ⟨⟨.writeLine dt mask, line, none, agent, i⟩, none, d.holders, (s.homeLine line).1, (s.homeLine line).2⟩ := rfl

end

/-- Settles O18: a request that may be served is served at the state that it meets, and each answer is the lemma of its case. -/
theorem homeServesReadsAndWrites : Obligations.HomeServesReadsAndWrites := by
  refine ⟨fun s r fs hd h => s.meets_same r fs hd h, ?_⟩
  intro s lineNo side hp line w open_
  refine ⟨fun q reader => ?_, fun agent => ?_, fun q writer => ?_, fun q writer => ?_, fun q writer l => ?_, fun agent data mask pr => ?_⟩
  · intro i who x r y z d v hq hopen hm hn
    obtain ⟨hl, hg⟩ := hopen
    have hserve : s.doReadShared q.val i line side = z.serveAs r d v := State.quadRequest_serves hq hl hg hm rfl
    have does {u : State} (hu : z.serveAs r d v = u) : Does (.readShared q reader lineNo side) s u :=
      does_of_run_eq (f := fun s => s.doReadShared q.val i line side) hp rfl (hserve.trans hu)
    exact ⟨fun ho hs => does (State.serveAs_readShared_unheld hn ho hs), fun ho hs => does (State.serveAs_readShared_shared hn ho hs),
      fun ho => does (State.serveAs_readShared_own hn ho), fun o ho hne => does (State.serveAs_readShared_other hn ho hne)⟩
  · intro r z d v hopen hm
    obtain ⟨hl, hg⟩ := hopen
    have hserve : s.doReadSnoop agent.toNat line side = z.serveAs r d v := (State.atHome_reaches hl hg).trans (State.request_serves hm rfl)
    have does {u : State} (hu : z.serveAs r d v = u) : Does (.readSnoop agent ⟨lineNo, side⟩) s u :=
      does_of_run_eq (f := fun s => s.doReadSnoop agent.toNat line side) hp rfl (hserve.trans hu)
    exact ⟨fun h => does (State.serveAs_readSnoop_home h), fun o ho hf => does (State.serveAs_readSnoop_owned ho hf)⟩
  · intro i who x r z d v inv hq hopen hm
    obtain ⟨hl, hg⟩ := hopen
    have hserve : s.doReadOwn q.val i line side = z.serveAs r d v := State.quadRequest_serves hq hl hg hm rfl
    have does {u : State} (hu : z.serveAs r d v = u) : Does (.readOwn q writer lineNo side) s u :=
      does_of_run_eq (f := fun s => s.doReadOwn q.val i line side) hp rfl (hserve.trans hu)
    exact ⟨fun o ho hf => does (State.serveAs_ownership_owned (.inl rfl) ho hf), fun h => does (State.serveAs_ownership_shared (.inl rfl) h rfl)⟩
  · intro i who r z d v inv hq hopen hm h
    obtain ⟨hl, hg⟩ := hopen
    have hserve : s.doUpgrade q.val i line side = z.serveAs r d v := State.quadRequest_serves hq hl hg hm rfl
    exact does_of_run_eq (f := fun s => s.doUpgrade q.val i line side) hp rfl (hserve.trans (State.serveAs_ownership_shared (.inr rfl) h rfl))
  · intro i who r z d hq hopen hm hl2 hst ho hf
    obtain ⟨hl, hg⟩ := hopen
    have hserve : s.doWriterChange q.val i line side = z.serveAs r d (z.lineNow line) := State.quadRequest_serves hq hl hg hm rfl
    exact does_of_run_eq (f := fun s => s.doWriterChange q.val i line side) hp rfl (hserve.trans (State.serveAs_writerChange_clean hl2 hst rfl ho hf))
  · intro r x z d hheld hopen hm
    obtain ⟨hl, hg⟩ := hopen
    have hserve : s.doWriteLine agent.toNat line data mask pr side = z.serveAs r d (z.lineNow line) :=
      (if_neg (by simp [hheld])).trans ((State.atHome_reaches hl hg).trans (State.request_serves hm rfl))
    exact does_of_run_eq (f := fun s => s.doWriteLine agent.toNat line data mask pr side) hp rfl (hserve.trans State.serveAs_writeLine)

end Sys2Proof.Machine
end

section
/-! PROOFS. What the quad that holds a line answers to the home's forwards and snoops (05 R181, R182, R185). -/

namespace Sys2Proof.Machine

section
variable {s : State} {k : ReqKind} {n line agent i o inv : Nat} {quad : Option Nat} {dat : Line} {p : Bool} {l : L2Line}

/-! ### FWD_SHARED -/

/-- The holder writes an M line back, keeps the line in S, and the reader gets it in F. -/
theorem State.fwdShared_supplies {q : Nat} (hb : s.busyOf line = some ⟨⟨.readShared, n, some q, agent, i⟩, some o, inv, dat, p⟩) (hl : s.l2 o line = some l) :
    s.fwdShared line =
      (((((s.writeBackM o line).setL2 o line { l with st := .s }).fillL2 q line ⟨.f, l.data, l.poison⟩).setDir line
        ⟨setBit (setBit (s.dirOf line).sharers o true) q false, some q, true, 512⟩).unbusy line) := by
  unfold State.fwdShared
  rw [hb]
  dsimp only
  rw [hl]

/-- A quad without the line answers with a miss, and the request is served afresh (R185). -/
theorem State.fwdShared_misses {q : Nat} (hb : s.busyOf line = some ⟨⟨.readShared, n, some q, agent, i⟩, some o, inv, dat, p⟩) (hl : s.l2 o line = none) :
    s.fwdShared line = (s.unbusy line).serve ⟨.readShared, n, some q, agent, i⟩ := by
  unfold State.fwdShared
  rw [hb]
  dsimp only
  rw [hl]

/-! ### FWD_OWN -/

/-- The holder gives the line up with its data, and the request completes. -/
theorem State.fwdOwn_supplies (hb : s.busyOf line = some ⟨⟨k, n, quad, agent, i⟩, some o, inv, dat, p⟩) (hk : k = .readOwn ∨ k = .upgrade)
    (hl : s.l2 o line = some l) :
    s.fwdOwn line =
      ((s.dropL2 o line).setDir line { s.dirOf line with owner := none }).finishTxn ⟨⟨k, n, quad, agent, i⟩, none, inv, l.data, l.poison⟩ := by
  unfold State.fwdOwn
  rw [hb]
  rcases hk with rfl | rfl
  all_goals
    dsimp only
    rw [hl]

theorem State.fwdOwn_misses (hb : s.busyOf line = some ⟨⟨k, n, quad, agent, i⟩, some o, inv, dat, p⟩) (hk : k = .readOwn ∨ k = .upgrade)
    (hl : s.l2 o line = none) : s.fwdOwn line = (s.unbusy line).serve ⟨k, n, quad, agent, i⟩ := by
  unfold State.fwdOwn
  rw [hb]
  rcases hk with rfl | rfl
  all_goals
    dsimp only
    rw [hl]

/-! ### SNOOP -/

/-- The holder supplies a copy and keeps its state. -/
theorem State.snoop_supplies (hb : s.busyOf line = some ⟨⟨.readSnoop, n, quad, agent, i⟩, some o, inv, dat, p⟩) (hl : s.l2 o line = some l) :
    s.snoop line = ({ s with coh := { s.coh with snooped := (line, l.data, l.poison) } }).unbusy line := by
  unfold State.snoop
  rw [hb]
  dsimp only
  rw [hl]

theorem State.snoop_misses (hb : s.busyOf line = some ⟨⟨.readSnoop, n, quad, agent, i⟩, some o, inv, dat, p⟩) (hl : s.l2 o line = none) :
    s.snoop line = (s.unbusy line).serve ⟨.readSnoop, n, quad, agent, i⟩ := by
  unfold State.snoop
  rw [hb]
  dsimp only
  rw [hl]

end

/-- Settles O19: at the quad asked, each message finds the line or misses it. -/
theorem holdersAnswer : Obligations.HoldersAnswer := by
  intro s lineNo r o inv dat p hp line hb
  obtain ⟨k, n, quad, agent, i⟩ := r
  have fwdShared {u : State} (h : s.fwdShared line = u) : Does (.fwdShared lineNo) s u := does_of_run_eq (f := fun s => s.fwdShared line) hp rfl h
  have fwdOwn {u : State} (h : s.fwdOwn line = u) : Does (.fwdOwn lineNo) s u := does_of_run_eq (f := fun s => s.fwdOwn line) hp rfl h
  have snoop {u : State} (h : s.snoop line = u) : Does (.snoop lineNo) s u := does_of_run_eq (f := fun s => s.snoop line) hp rfl h
  refine ⟨?_, ?_, fun l hk hl => ?_, fun hk hl => ?_, ?_, ?_⟩
  · rintro q l rfl rfl hl
    exact fwdShared (State.fwdShared_supplies hb hl)
  · rintro q rfl rfl hl
    exact fwdShared (State.fwdShared_misses hb hl)
  · exact fwdOwn (State.fwdOwn_supplies hb hk hl)
  · exact fwdOwn (State.fwdOwn_misses hb hk hl)
  · rintro l rfl hl
    exact snoop (State.snoop_supplies hb hl)
  · rintro rfl hl
    exact snoop (State.snoop_misses hb hl)

end Sys2Proof.Machine
end

section
/-! PROOFS. Lines that quads give up, and requests that are answered NACK (05 R181-R183, R185, R186, R189). -/

namespace Sys2Proof.Machine

/-! ### What the losses of a line leave of the requests being served -/

@[simp] theorem State.busyOf_leaveDir (s : State) (q line line' : Nat) : (s.leaveDir q line').busyOf line = s.busyOf line := rfl

theorem State.busyOf_congr {s t : State} (h : t.coh.busy = s.coh.busy) (line : Nat) : t.busyOf line = s.busyOf line := by
  rw [State.busyOf, h, State.busyOf]

/-- An invalidation in the L1 caches answers no request. -/
theorem State.l1Invalidate_busy (s : State) (q line : Nat) : (s.l1Invalidate q line).coh.busy = s.coh.busy :=
  foldl_keeps (fun (x : State) => x.coh.busy = s.coh.busy) _ (s.l1Holders q line) _ rfl (fun x c hx _ => by rw [State.crossInto_coh, hx])

@[simp] theorem State.busyOf_dropL2 (s : State) (q line line' : Nat) : (s.dropL2 q line').busyOf line = s.busyOf line :=
  State.busyOf_congr (s.l1Invalidate_busy q line') line

@[simp] theorem State.busyOf_homePut (s : State) (line line' : Nat) (data : Line) (p : Bool) (w : Nat) : (s.homePut line' data p w).busyOf line = s.busyOf line := by
  unfold State.homePut
  split
  · rfl
  · exact State.busyOf_congr (congrArg CohSt.busy (State.memPut_coh ..)) line

section
variable {s : State} {q line : Nat} {l : L2Line} {t : HomeTxn}

/-! ### Invalidations (R181, R182) -/

/-- A reply that others are still awaited with leaves the line busy. -/
theorem State.acknowledge_waits (h : setBit t.invs q false ≠ 0) : s.acknowledge t q = s.setBusy { t with invs := setBit t.invs q false } :=
  if_neg (fun hc => h hc.1)

/-- The last reply completes the request. -/
theorem State.acknowledge_completes (h : setBit t.invs q false = 0) (hf : t.fwdTo = none) : s.acknowledge t q = s.finishTxn { t with invs := 0 } := by
  unfold State.acknowledge
  rw [h]
  exact if_pos ⟨rfl, hf⟩

/-- A quad that has lost the line silently acknowledges, and the directory follows. -/
theorem State.invalidate_absent (hb : s.busyOf line = some t) (hk : t.req.kind ≠ .recall) (hq : bit t.invs q = true) (hl : s.l2 q line = none) :
    s.invalidate q line =
      ((s.dropL2 q line).setDir line
        { s.dirOf line with
          sharers := setBit (s.dirOf line).sharers q false
          owner := if (s.dirOf line).owner = some q then none else (s.dirOf line).owner }).acknowledge t q := by
  unfold State.invalidate
  rw [hb]
  dsimp only
  rw [if_pos (by simp [hq, hk]), hl, State.writeBackM_none hl]

/-- An M line goes home, and its data go with the acknowledgement. -/
theorem State.invalidate_dirty (hb : s.busyOf line = some t) (hk : t.req.kind ≠ .recall) (hq : bit t.invs q = true) (hl : s.l2 q line = some l)
    (hm : l.st = .m) :
    s.invalidate q line =
      (((s.homePut line l.data l.poison (s.dirOf line).writer).dropL2 q line).setDir line
        { s.dirOf line with
          sharers := setBit (s.dirOf line).sharers q false
          owner := if (s.dirOf line).owner = some q then none else (s.dirOf line).owner }).acknowledge { t with data := l.data, poison := l.poison } q := by
  unfold State.invalidate
  rw [hb]
  dsimp only
  rw [if_pos (by simp [hq, hk]), hl, State.writeBackM_dirty hl hm]
  dsimp only
  rw [hm]
  rfl

/-! ### Evictions (R181) -/

/-- A dirty line goes to the mesh cache of a working slice, dirty and with its writer (DESIGN CHOICE of the model, log 8). -/
theorem State.writeback_dirty {x : State} (hl : s.l2 q line = some l) (hm : l.st = .m) (ha : bit s.coh.deadSlices (homeOf (line * 64)) = false)
    (hx : s.meshRoom line = x) :
    s.writeback q line =
      ((((({ x with coh := { x.coh with mesh := Map.put x.coh.mesh line ⟨l.data, true, l.poison, (x.dirOf line).writer⟩ } }).dropL2 q line).leaveDir q line).pmEvent
        0x0203 q).bwBytes 2 64) := by
  subst hx
  unfold State.writeback
  rw [hl]
  dsimp only
  rw [if_pos hm, if_neg (by simp [ha])]

theorem State.evictClean_owner (hl : s.l2 q line = some l) (hst : l.st = .e ∨ l.st = .f) : s.evictClean q line = (s.dropL2 q line).leaveDir q line := by
  unfold State.evictClean
  rw [hl]
  rcases hst with h | h
  all_goals
    dsimp only
    rw [h]

/-- A line in S leaves silently. -/
theorem State.evictClean_sharer (hl : s.l2 q line = some l) (hst : l.st = .s) : s.evictClean q line = s.dropL2 q line := by
  unfold State.evictClean
  rw [hl]
  dsimp only
  rw [hst]

/-! ### Recalls (R189) -/

theorem State.recallReply_absent (hl : s.l2 q line = none) : s.recallReply q line = s.leaveDir q line := by
  unfold State.recallReply
  rw [hl]

/-- An M line goes home, and the quad keeps no copy (DESIGN CHOICE of the model, log 8). -/
theorem State.recallReply_dirty (hl : s.l2 q line = some l) (hm : l.st = .m) :
    s.recallReply q line = ((s.homePut line l.data l.poison (s.dirOf line).writer).dropL2 q line).leaveDir q line := by
  unfold State.recallReply
  rw [hl]
  dsimp only
  rw [hm, State.writeBackM_dirty hl hm]

/-- With no request being served, a report ends with the reply. -/
theorem State.doRecall_reports {u : State} (hu : line < s.usableLines) (hq : bit s.coh.deadQuads q = false) (hr : s.recallReply q line = u)
    (hb : u.busyOf line = none) : s.doRecall q line none = u := by
  have hok : s.lineOk line (some q) = true := by simp [State.lineOk, hu, hq]
  unfold State.doRecall
  rw [if_pos hok, State.recall, hr, hb]

end

/-! ### NACKs (R185, R186) -/

section
variable {s : State} {r : CohReq}

/-- A request that may not be served, that does not wait behind a write of its agent and for which no entry is evicted, is answered NACK. -/
theorem State.request_nacked {fs : List ChanFinding} (hm : s.mayServe r = false) (hw : r.kind.isWrite = false)
    (hroom : s.lacksRoom r = false ∨ (s.busyOf r.line).isSome = true) : s.request r fs = s.nack r := by
  have hearlier : s.earlierWrite r = false := by simp [State.earlierWrite, hw]
  have hevict : (s.lacksRoom r && (s.busyOf r.line).isNone) = false := by
    rcases hroom with h | h
    · simp [h]
    · simp [h]
  rw [State.request, if_neg (by simp [hm]), hearlier, hevict]
  rfl

/-- The retry of the one request that waits is scheduled; the home's reservation table, empty, takes it when it is old enough (R186). -/
theorem State.nackSchedule_only {quad : Option Nat} {delay age : Nat} (hq : r.quad = quad) (ha : age < 256)
    (hn : s.coh.nacked = [⟨r, delay, age, false, false⟩]) :
    s.nackSchedule r.line quad age =
      { s with coh := { s.coh with nacked := [⟨r, s.nextDelay delay, age, true, decide (s.rf MX_CFG_AGE_THRESH ≤ age)⟩] } } := by
  have hage : satN 8 age = age := Nat.min_eq_left (by omega)
  unfold State.nackSchedule
  rw [hn]
  simp [hq, hage]

/-- A retried request that may be served is served as when it first came. -/
theorem State.nackRetry_serves {line : Nat} {quad : Option Nat} {n : NackEnt}
    (hn : s.coh.nacked.find? (fun n => n.req.line == line && n.req.quad == quad && n.scheduled) = some n) (hm : s.mayServe n.req = true) :
    s.nackRetry line quad = (s.takeUp n.req).serve n.req := by
  unfold State.nackRetry
  rw [hn]
  exact if_pos hm

end

/-- A NACK of a request that has met its line's rank set is seen in the list of waiting requests and in no other store. -/
theorem State.nack_srTouch_spec (s : State) (r : CohReq) (line : Nat) :
    ((s.srTouch line).nack r).ma = s.ma ∧ ((s.srTouch line).nack r).coh = { s.coh with nacked := addNack s.coh.nacked r } := by
  obtain ⟨hma, hcoh⟩ := (s.srTouch line).nack_spec r
  obtain ⟨htc, htm, -⟩ := s.srTouch_coh line
  rw [hma, hcoh, htc, htm]
  exact ⟨rfl, rfl⟩

/-- Settles O20: the rows of one quad by the lemmas of invalidations, evictions and reports, then the NACK and its retry. -/
theorem quadsGiveUpLinesAndBusyLinesAnswerNack : Obligations.QuadsGiveUpLinesAndBusyLinesAnswerNack := by
  refine ⟨?_, ?_⟩
  · intro s q lineNo hp line d left
    refine ⟨fun t hb hk hq => ⟨fun hl hinv => ?_, fun l hf hinv hl hm => ?_⟩, fun l hl hm ha => ?_, fun l hl hst => ?_, fun l hl hst => ?_,
      fun hu hq hb => ⟨fun l hl hm => ?_, fun hl => ?_⟩⟩
    · exact does_of_run_eq (f := fun s => s.invalidate q.val line) hp rfl ((State.invalidate_absent hb hk hq hl).trans (State.acknowledge_waits hinv))
    · exact does_of_run_eq (f := fun s => s.invalidate q.val line) hp rfl
        ((State.invalidate_dirty hb hk hq hl hm).trans (State.acknowledge_completes hinv hf))
    · exact does_of_run_eq (f := fun s => s.writeback q.val line) hp rfl (State.writeback_dirty hl hm ha rfl)
    · exact does_of_run_eq (f := fun s => s.evictClean q.val line) hp rfl (State.evictClean_owner hl hst)
    · exact does_of_run_eq (f := fun s => s.evictClean q.val line) hp rfl (State.evictClean_sharer hl hst)
    · exact does_of_run_eq (f := fun s => s.doRecall q.val line none) hp rfl
        (State.doRecall_reports hu hq (State.recallReply_dirty hl hm) (by simpa using hb))
    · exact does_of_run_eq (f := fun s => s.doRecall q.val line none) hp rfl
        (State.doRecall_reports hu hq (State.recallReply_absent hl) (by simpa using hb))
  · intro s lineNo hp line
    refine ⟨fun q writer side => ?_, fun quad age r delay hl hq hn => ?_, fun quad n hn hm => ?_⟩
    · intro r w hq hl hg hm hroom
      have hbusy : (w.srTouch line).busyOf line = w.busyOf line := State.busyOf_congr (congrArg CohSt.busy (w.srTouch_coh line).1) line
      have hnack : s.doUpgrade q.val (writerOf writer) line side = (w.srTouch line).nack r :=
        (State.quadRequest_reaches hq hl (by rw [hg, Bool.false_and])).trans (State.request_nacked hm rfl (hbusy ▸ hroom))
      obtain ⟨hma, hcoh⟩ := w.nack_srTouch_spec r line
      refine ⟨_, does_of_run_eq (f := fun s => s.doUpgrade q.val (writerOf writer) line side) hp rfl hnack, hma, ?_⟩
      rw [hcoh]
      exact ⟨rfl, rfl, rfl, rfl, addNack_mem _ _⟩
    · refine does_of_run_eq (f := fun s => s.nackSchedule line (quad.map Fin.val) age.toNat) hp rfl ?_
      rw [← hl]
      exact State.nackSchedule_only hq age.isLt hn
    · exact does_of_run_eq (f := fun s => s.nackRetry line (quad.map Fin.val)) hp rfl (State.nackRetry_serves hn hm)

end Sys2Proof.Machine
end

section
/-! PROOFS. The translation of I/O requests by stage 2 (06 R236, R241, R242, R252, R253, 13 R563). -/

namespace Sys2Proof.Machine

/-- The I/O TLB's entry for a page that a leaf maps (R241, R242): the extent of the leaf, or of its contiguity group, around the page. -/
def State.ioEntry (s : State) (inst tpa : Nat) (write : Bool) (l : Leaf) : TlbEnt :=
  let group := s.contig l 51 (fun a => s.coRead a 8) true
  let n := extent l group
  let first := tpa / 4096 / n * n
  { inst := inst, gen := s.gen inst, world := s.rb TN_INST_SECURE inst, en := false, asid := none, vpage := first,
    ppage := l.out 51 tpa / 4096 / n * n, tpage := first, pages := n, perm := perm2 l.ent, pr := bit l.ent 5, dirty := dirtyMask first n (s.leafDirty l group write (tpa / 4096)) }

theorem extent_pos (l : Leaf) (group : Bool) : 0 < extent l group := by
  unfold extent
  split <;> simp

section
variable {s : State} {u agent inst gen tpa pa : Nat} {write pr : Bool}

/-- The entry holds the page that was asked for. -/
theorem State.ioEntry_covers (s : State) (inst tpa : Nat) (write : Bool) (l : Leaf) :
    (s.ioEntry inst tpa write l).vpage ≤ tpa / 4096 ∧ tpa / 4096 < (s.ioEntry inst tpa write l).vpage + (s.ioEntry inst tpa write l).pages :=
  ⟨Nat.div_mul_le_self .., Nat.lt_div_mul_add (extent_pos ..)⟩

/-! ### Where an allowed request lands (01 R26, R27) -/

theorem State.ioLand_refused (h : s.outRefused inst pa = true) : s.ioLand agent inst tpa pa pr = (s.refuse agent inst tpa none, .refused) :=
  if_pos h

theorem State.ioLand_performed (h : s.outRefused inst pa = false) (hm : s.instTarget inst pa ≠ .unmapped) : s.ioLand agent inst tpa pa pr = (s, .ok pa pr) := by
  unfold State.ioLand
  rw [h, if_neg Bool.false_ne_true, if_neg hm]

/-! ### The walk (R236, R252, R253) -/

theorem State.ioWalk_no_leaf {f : S2Fail} (h : s.leaf2 inst tpa = .error f) : s.ioWalk u agent inst tpa write = (s.refuse agent inst f.tpa f.table, .refused) := by
  unfold State.ioWalk
  rw [h]

theorem State.ioWalk_no_right {l : Leaf} (h : s.leaf2 inst tpa = .ok l) (hp : ioAllowed (perm2 l.ent) write = false) :
    s.ioWalk u agent inst tpa write = (s.refuse agent inst tpa none, .refused) := by
  unfold State.ioWalk
  simp [h, hp]

theorem State.ioWalk_output_refused {l : Leaf} (h : s.leaf2 inst tpa = .ok l) (hp : ioAllowed (perm2 l.ent) write = true)
    (ho : s.outRefused inst (l.out 51 tpa) = true) : s.ioWalk u agent inst tpa write = (s.refuse agent inst tpa none, .refused) := by
  unfold State.ioWalk
  simp [h, hp, State.ioLand_refused ho]

/-- A request that its leaf and its output allow leaves the leaf's A and D updated and the entry in the TLB. -/
theorem State.ioWalk_fills {l : Leaf} (h : s.leaf2 inst tpa = .ok l) (hp : ioAllowed (perm2 l.ent) write = true)
    (ho : s.outRefused inst (l.out 51 tpa) = false) (hm : s.instTarget inst (l.out 51 tpa) ≠ .unmapped) :
    s.ioWalk u agent inst tpa write = (((adNeed l write false false).foldl (fun (x : State) a => x.adUpdate 0 inst a) s).tlbFill u (s.ioEntry inst tpa write l),
      .ok (l.out 51 tpa) (bit l.ent 5)) := by
  unfold State.ioWalk
  simp [h, hp, State.ioLand_performed ho hm, State.each, State.ioEntry]

/-! ### The translation (R242, R252, R563) -/

theorem State.ioXlat_stale (h : s.gen inst ≠ gen) : s.ioXlat u agent inst gen tpa write = (s.bump rTN_STALE inst, .stale) :=
  if_pos h

theorem State.ioXlat_beyond (hg : s.gen inst = gen) (h : 2 ^ 46 ≤ tpa) : s.ioXlat u agent inst gen tpa write = (s.refuse agent inst tpa none, .refused) :=
  (if_neg (not_not_intro hg)).trans (if_pos h)

/-- A request that no entry serves is walked. -/
theorem State.ioXlat_miss (hg : s.gen inst = gen) (hr : tpa < 2 ^ 46) (h : s.tlbFind u inst gen false 0 (tpa / 4096) = none) :
    s.ioXlat u agent inst gen tpa write = s.ioWalk u agent inst tpa write := by
  unfold State.ioXlat
  rw [if_neg (not_not_intro hg), if_neg hr.not_ge, h]

theorem State.ioXlat_hit_no_right {t : TlbEnt} (hg : s.gen inst = gen) (hr : tpa < 2 ^ 46) (h : s.tlbFind u inst gen false 0 (tpa / 4096) = some t)
    (hp : ioAllowed t.perm write = false) : s.ioXlat u agent inst gen tpa write = (s.refuse agent inst tpa none, .refused) := by
  unfold State.ioXlat
  rw [if_neg (not_not_intro hg), if_neg hr.not_ge, h]
  exact if_pos (by rw [hp, Bool.not_false])

/-- An entry that has the right, and D where a write needs it, serves without a walk. -/
theorem State.ioXlat_hit_lands {t : TlbEnt} (hg : s.gen inst = gen) (hr : tpa < 2 ^ 46) (h : s.tlbFind u inst gen false 0 (tpa / 4096) = some t)
    (hp : ioAllowed t.perm write = true) (hd : write = false ∨ bit t.dirty (t.chunk (tpa / 4096)) = true) :
    s.ioXlat u agent inst gen tpa write = s.ioLand agent inst tpa ((t.ppage + (tpa / 4096 - t.vpage)) * 4096 + tpa % 4096) t.pr := by
  have hclean : (write && !bit t.dirty (t.chunk (tpa / 4096))) = false := by
    rcases hd with hw | hd
    · rw [hw, Bool.false_and]
    · rw [hd, Bool.not_true, Bool.and_false]
  unfold State.ioXlat
  rw [if_neg (not_not_intro hg), if_neg hr.not_ge, h]
  simp [hp, hclean]

end

/-- An I/O translation leaves the state that the translation's outcome names. -/
theorem does_ioTranslation {s v : State} {r : IoRes} {unit : Fin 5} {agent : BitVec 24} {inst : BitVec 9} {gen : BitVec 12} {tpa : Word} {write : Bool}
    (hp : s.powered = true) (h : s.ioXlat (64 + unit.val) agent.toNat inst.toNat gen.toNat tpa.toNat write = (v, r)) :
    Does (.ioTranslation unit agent inst gen tpa write) s v :=
  does_of_run_eq (f := fun s => (s.ioXlat (64 + unit.val) agent.toNat inst.toNat gen.toNat tpa.toNat write).1) hp rfl (congrArg Prod.fst h)

/-- Settles O21: by the generation and the range of the address, then by the TLB's entry, and without one by the leaf that the walk finds. -/
theorem ioRequestsAreTranslated : Obligations.IoRequestsAreTranslated := by
  intro s unit agent inst gen tpa write hp
  refine ⟨fun hg => ?_, fun hg hr => ?_, fun t hg hr ht => ?_, fun hg hr ht => ?_⟩
  · exact does_ioTranslation hp (State.ioXlat_stale hg)
  · exact does_ioTranslation hp (State.ioXlat_beyond hg hr)
  · intro pa
    refine ⟨fun ha => ?_, fun ha hd => ⟨fun ho => ?_, fun ho hm => ?_⟩⟩
    · exact does_ioTranslation hp (State.ioXlat_hit_no_right hg hr ht ha)
    · exact does_ioTranslation hp ((State.ioXlat_hit_lands hg hr ht ha hd).trans (State.ioLand_refused ho))
    · exact does_ioTranslation hp ((State.ioXlat_hit_lands hg hr ht ha hd).trans (State.ioLand_performed ho hm))
  · have walks {v : State} {r : IoRes} (h : s.ioWalk (64 + unit.val) agent.toNat inst.toNat tpa.toNat write = (v, r)) :
        Does (.ioTranslation unit agent inst gen tpa write) s v :=
      does_ioTranslation hp ((State.ioXlat_miss hg hr ht).trans h)
    refine ⟨fun f hf => walks (State.ioWalk_no_leaf hf), fun l hl => ⟨fun href => ?_, fun ha ho hm => ?_⟩⟩
    · cases ha : ioAllowed (perm2 l.ent) write with
      | false => exact walks (State.ioWalk_no_right hl ha)
      | true => exact walks (State.ioWalk_output_refused hl ha (href.resolve_left (by simp [ha])))
    · obtain ⟨hfirst, hlast⟩ := s.ioEntry_covers inst.toNat tpa.toNat write l
      exact ⟨s.ioEntry inst.toNat tpa.toNat write l, rfl, rfl, hg, rfl, rfl, hfirst, hlast, walks (State.ioWalk_fills hl ha ho hm)⟩

end Sys2Proof.Machine
end

section
/-! PROOFS. The stripe code (07 R260): GF(2^8) as the additive group of bytes under exclusive or, P and Q as sums over it, and two lost slots solved for. -/

namespace Sys2Proof.Machine

/-! ### Multiplication is additive in each factor -/

theorem gfX_eq {a : Nat} (ha : a < 256) : gfX a = 2 * a ^^^ (if a / 2 ^ 7 % 2 = 1 then 0x11D else 0) := by
  unfold gfX
  by_cases h : a < 128
  · rw [if_pos h, if_neg (by omega), Nat.xor_zero]
  · rw [if_neg h, if_pos (by omega)]

theorem gfX_lt {a : Nat} (ha : a < 256) : gfX a < 256 := by
  unfold gfX
  split
  · omega
  · have htop : 2 * a / 2 ^ 8 = 1 := by omega
    have hdiv : (2 * a ^^^ 0x11D) / 2 ^ 8 = 0 := by rw [Nat.xor_div_two_pow, htop]; rfl
    exact Nat.lt_of_div_eq_zero (Nat.two_pow_pos 8) hdiv

theorem ite_odd_xor (a b c : Nat) :
    (if (a ^^^ b) % 2 = 1 then c else 0) = (if a % 2 = 1 then c else 0) ^^^ (if b % 2 = 1 then c else 0) := by
  simp only [Nat.xor_mod_two_eq_one]
  by_cases ha : a % 2 = 1 <;> by_cases hb : b % 2 = 1 <;> simp [ha, hb]

theorem gfX_xor {a b : Nat} (ha : a < 256) (hb : b < 256) : gfX (a ^^^ b) = gfX a ^^^ gfX b := by
  have hdouble : 2 * (a ^^^ b) = 2 * a ^^^ 2 * b := by
    simpa only [Nat.shiftLeft_eq, Nat.pow_one, Nat.mul_comm] using Nat.shiftLeft_xor_distrib (i := 1) (a := a) (b := b)
  rw [gfX_eq ha, gfX_eq hb, gfX_eq (Nat.xor_lt_two_pow (n := 8) ha hb), Nat.xor_div_two_pow, ite_odd_xor, hdouble]
  ac_rfl

theorem gfMulUpTo_lt {a : Nat} (ha : a < 256) (b n : Nat) : gfMulUpTo a b n < 256 := by
  induction n generalizing b with
  | zero => exact Nat.zero_lt_succ _
  | succ n ih =>
    refine Nat.xor_lt_two_pow (n := 8) (gfX_lt (ih _)) ?_
    split
    · exact ha
    · exact Nat.zero_lt_succ _

theorem gfMulUpTo_xor_right {a : Nat} (ha : a < 256) (b c n : Nat) : gfMulUpTo a (b ^^^ c) n = gfMulUpTo a b n ^^^ gfMulUpTo a c n := by
  induction n generalizing b c with
  | zero => exact (Nat.xor_self 0).symm
  | succ n ih =>
    simp only [gfMulUpTo, Nat.xor_div_two, ih, gfX_xor (gfMulUpTo_lt ha _ _) (gfMulUpTo_lt ha _ _), ite_odd_xor]
    ac_rfl

theorem gfMulUpTo_xor_left {a b : Nat} (ha : a < 256) (hb : b < 256) (c n : Nat) :
    gfMulUpTo (a ^^^ b) c n = gfMulUpTo a c n ^^^ gfMulUpTo b c n := by
  induction n generalizing c with
  | zero => exact (Nat.xor_self 0).symm
  | succ n ih =>
    have hbit : (if c % 2 = 1 then a ^^^ b else 0) = (if c % 2 = 1 then a else 0) ^^^ (if c % 2 = 1 then b else 0) := by split <;> rfl
    simp only [gfMulUpTo, ih, gfX_xor (gfMulUpTo_lt ha _ _) (gfMulUpTo_lt hb _ _), hbit]
    ac_rfl

theorem gfMul_xor {a : Nat} (ha : a < 256) (b c : Nat) : gfMul a (b ^^^ c) = gfMul a b ^^^ gfMul a c := gfMulUpTo_xor_right ha b c 8

theorem xor_gfMul {a b : Nat} (ha : a < 256) (hb : b < 256) (c : Nat) : gfMul (a ^^^ b) c = gfMul a c ^^^ gfMul b c := gfMulUpTo_xor_left ha hb c 8

@[simp] theorem gfMul_zero (a : Nat) : gfMul a 0 = 0 := by simp [gfMul, gfMulUpTo, gfX]

theorem gfPow_lt (n : Nat) : gfPow n < 256 := by
  induction n with
  | zero => decide
  | succ n ih => exact gfX_lt ih

/-! ### Inverses -/

/-- An additive map that fixes the eight bits fixes every byte. -/
theorem fixes_byte_of_bits {f : Nat → Nat} (hadd : ∀ a b, f (a ^^^ b) = f a ^^^ f b) (hbit : ∀ k, k < 8 → f (2 ^ k) = 2 ^ k) {x : Nat} (hx : x < 256) :
    f x = x := by
  have hzero : f 0 = 0 := by simpa using hadd 0 0
  have hupto : ∀ n ≤ 8, ∀ x < 2 ^ n, f x = x := by
    intro n
    induction n with
    | zero => intro _ x hx; rw [Nat.lt_one_iff.mp hx, hzero]
    | succ n ih =>
      intro hn x hx
      by_cases hlow : x < 2 ^ n
      · exact ih (by omega) x hlow
      · have htop : x / 2 ^ n = 1 := Nat.div_eq_of_lt_le (by omega) (by omega)
        have hrest : x ^^^ 2 ^ n < 2 ^ n := by
          refine Nat.lt_of_div_eq_zero (Nat.two_pow_pos n) ?_
          rw [Nat.xor_div_two_pow, htop, Nat.div_self (Nat.two_pow_pos n), Nat.xor_self]
        calc f x = f (2 ^ n ^^^ (x ^^^ 2 ^ n)) := by rw [Nat.xor_comm x, Nat.xor_xor_cancel_left]
          _ = 2 ^ n ^^^ (x ^^^ 2 ^ n) := by rw [hadd, hbit n (by omega), ih (by omega) _ hrest]
          _ = x := by rw [Nat.xor_comm x, Nat.xor_xor_cancel_left]
  exact hupto 8 le_rfl x hx

theorem gfInv_lt : ∀ c, c < 256 → gfInv c < 256 := by decide +kernel

/-- The model's power a^254 inverts every nonzero byte, seen on the eight bits that additivity extends to all bytes. -/
theorem gfInv_mul_bit : ∀ c, c < 256 → c ≠ 0 → ∀ k, k < 8 → gfMul (gfInv c) (gfMul c (2 ^ k)) = 2 ^ k := by decide +kernel

theorem gfInv_mul_cancel {c x : Nat} (hc : c < 256) (h0 : c ≠ 0) (hx : x < 256) : gfMul (gfInv c) (gfMul c x) = x :=
  fixes_byte_of_bits (f := fun x => gfMul (gfInv c) (gfMul c x)) (fun a b => by simp only [gfMul_xor hc, gfMul_xor (gfInv_lt c hc)]) (gfInv_mul_bit c hc h0) hx

theorem gfPow_eq_two_pow : ∀ i, i < 8 → gfPow i = 2 ^ i := by decide

theorem gfPow_ne_zero {i : Nat} (hi : i < 8) : gfPow i ≠ 0 := by
  rw [gfPow_eq_two_pow i hi]
  exact (Nat.two_pow_pos i).ne'

theorem gfPow_xor_ne_zero {i j : Nat} (hi : i < 8) (hj : j < 8) (h : i ≠ j) : gfPow i ^^^ gfPow j ≠ 0 := by
  rw [Ne, Nat.xor_eq_zero_iff, gfPow_eq_two_pow i hi, gfPow_eq_two_pow j hj]
  exact fun he => h (Nat.pow_right_injective le_rfl he)

/-! ### P and Q are additive -/

theorem foldl_xor_xor (f g : Nat → Nat) (l : List Nat) (a b : Nat) :
    l.foldl (fun x i => x ^^^ (f i ^^^ g i)) (a ^^^ b) = l.foldl (fun x i => x ^^^ f i) a ^^^ l.foldl (fun x i => x ^^^ g i) b := by
  induction l generalizing a b with
  | nil => rfl
  | cons i l ih =>
    have h : a ^^^ b ^^^ (f i ^^^ g i) = (a ^^^ f i) ^^^ (b ^^^ g i) := by ac_rfl
    simp only [List.foldl_cons, h, ih]

theorem codeP_congr {d e : Nat → Nat} (h : ∀ i, i < 8 → d i = e i) : codeP d = codeP e :=
  List.foldl_ext _ _ 0 (fun x i hi => by rw [h i (List.mem_range.mp hi)])

theorem codeQ_congr {d e : Nat → Nat} (h : ∀ i, i < 8 → d i = e i) : codeQ d = codeQ e :=
  List.foldl_ext _ _ 0 (fun x i hi => by rw [h i (List.mem_range.mp hi)])

theorem codeP_xor (d e : Nat → Nat) : codeP (fun i => d i ^^^ e i) = codeP d ^^^ codeP e := foldl_xor_xor d e _ 0 0

theorem codeQ_xor (d e : Nat → Nat) : codeQ (fun i => d i ^^^ e i) = codeQ d ^^^ codeQ e := by
  simp only [codeQ, gfMul_xor (gfPow_lt _)]
  exact foldl_xor_xor _ _ _ 0 0

theorem codeP_single {i : Nat} (hi : i < 8) (x : Nat) : codeP (Pi.single i x) = x := by
  interval_cases i <;> simp [codeP, List.range_succ]

theorem codeQ_single {i : Nat} (hi : i < 8) (x : Nat) : codeQ (Pi.single i x) = gfMul (gfPow i) x := by
  interval_cases i <;> simp [codeQ, List.range_succ]

/-! ### Two lost slots -/

/-- The ten slots of a stripe hold eight data bytes and their check bytes (R260). -/
structure Coded (w : Nat → Nat) : Prop where
  byte : ∀ i, i < 8 → w i < 256
  p : w 8 = codeP w
  q : w 9 = codeQ w

/-- What is readable of the slots `w` is right, and nothing is missing but slots e and f. -/
structure ReadsAllBut (v : Nat → Option Nat) (w : Nat → Nat) (e f : Nat) : Prop where
  right : ∀ i, i < 10 → v i = some (w i) ∨ v i = none
  missing : ∀ i, i < 10 → v i = none → i = e ∨ i = f

section
variable {v : Nat → Option Nat} {w z : Nat → Nat} {e f i j : Nat}

theorem ReadsAllBut.getD (hv : ReadsAllBut v w e f) (hi : i < 10) (h : v i ≠ none) : (v i).getD 0 = w i := by
  rw [(hv.right i hi).resolve_right h, Option.getD_some]

/-- Beside a missing slot i, at most one other slot is missing. -/
theorem ReadsAllBut.others (hv : ReadsAllBut v w e f) (hi : i < 10) (h : v i = none) :
    ((List.range 10).filter (fun j => j != i && (v j).isNone) = [] ∧ ∀ l, l < 10 → l ≠ i → (v l).getD 0 = w l) ∨
    ∃ j, j < 10 ∧ j ≠ i ∧ v j = none ∧ (List.range 10).filter (fun j => j != i && (v j).isNone) = [j] ∧
      ∀ l, l < 10 → l ≠ i → l ≠ j → (v l).getD 0 = w l := by
  by_cases hj : ∃ j, j < 10 ∧ j ≠ i ∧ v j = none
  · obtain ⟨j, hj, hji, hnone⟩ := hj
    have honly : ∀ l, l < 10 → l ≠ i → v l = none → l = j := by
      intro l hl hli hl0
      have h1 := hv.missing i hi h
      have h2 := hv.missing j hj hnone
      have h3 := hv.missing l hl hl0
      omega
    refine .inr ⟨j, hj, hji, hnone, ?_, fun l hl hli hlj => hv.getD hl (fun h0 => hlj (honly l hl hli h0))⟩
    calc (List.range 10).filter (fun l => l != i && (v l).isNone) = (List.range 10).filter (· == j) := by
          refine List.filter_congr (fun l hl => ?_)
          rw [Bool.eq_iff_iff]
          simp only [Bool.and_eq_true, bne_iff_ne, Option.isNone_iff_eq_none, beq_iff_eq]
          exact ⟨fun ⟨hli, h0⟩ => honly l (List.mem_range.mp hl) hli h0, fun hlj => hlj ▸ ⟨hji, hnone⟩⟩
      _ = [j] := by
          rw [List.filter_beq, List.count_eq_one_of_mem List.nodup_range (List.mem_range.mpr hj), List.replicate_one]
  · refine .inl ⟨List.filter_eq_nil_iff.mpr (fun l hl => ?_), fun l hl hli => hv.getD hl (fun h0 => hj ⟨l, hl, hli, h0⟩)⟩
    simp only [Bool.and_eq_true, bne_iff_ne, Option.isNone_iff_eq_none]
    exact fun h0 => hj ⟨l, List.mem_range.mp hl, h0⟩

/-- One data slot read as zero differs from the stripe in its own byte. -/
theorem xor_of_lost_one (h : ∀ l, l < 8 → l ≠ i → z l = w l) (h0 : z i = 0) {l : Nat} (hl : l < 8) : z l ^^^ w l = (Pi.single i (w i) : Nat → Nat) l := by
  by_cases hli : l = i
  · subst hli; simp [h0]
  · simp [hli, h l hl hli]

/-- Two data slots read as zero differ from the stripe in their own bytes. -/
theorem xor_of_lost_two (hij : j ≠ i) (h : ∀ l, l < 8 → l ≠ i → l ≠ j → z l = w l) (hi0 : z i = 0) (hj0 : z j = 0) {l : Nat} (hl : l < 8) :
    z l ^^^ w l = (Pi.single i (w i) : Nat → Nat) l ^^^ (Pi.single j (w j) : Nat → Nat) l := by
  by_cases hli : l = i
  · subst hli; simp [hi0, hij.symm]
  · by_cases hlj : l = j
    · subst hlj; simp [hj0, hij]
    · simp [hli, hlj, h l hl hli hlj]

/-- Two data bytes from their sums in P and in Q. -/
theorem gf_solve_two (hi : i < 8) (hj : j < 8) (hij : j ≠ i) {x : Nat} (hx : x < 256) (y : Nat) :
    gfMul (gfInv (gfPow i ^^^ gfPow j)) ((gfMul (gfPow i) x ^^^ gfMul (gfPow j) y) ^^^ gfMul (gfPow j) (x ^^^ y)) = x := by
  have hsum : (gfMul (gfPow i) x ^^^ gfMul (gfPow j) y) ^^^ gfMul (gfPow j) (x ^^^ y) = gfMul (gfPow i ^^^ gfPow j) x := by
    rw [gfMul_xor (gfPow_lt j), xor_gfMul (gfPow_lt i) (gfPow_lt j), Nat.xor_comm (gfMul (gfPow j) x), ← Nat.xor_assoc, Nat.xor_assoc (gfMul (gfPow i) x),
      Nat.xor_self, Nat.xor_zero]
  rw [hsum, gfInv_mul_cancel (Nat.xor_lt_two_pow (n := 8) (gfPow_lt i) (gfPow_lt j)) (gfPow_xor_ne_zero hi hj hij.symm) hx]

/-- A data byte is rebuilt from a stripe that misses two slots at most: from P, from Q where P is missing, from both where another data slot is. -/
theorem rebuildData_of_readsAllBut (hw : Coded w) (hv : ReadsAllBut v w e f) (hi : i < 8) : rebuildData v i = some (w i) := by
  unfold rebuildData
  rcases hv.right i (by omega) with h | h
  · rw [h]
  have hi0 : (v i).getD 0 = 0 := by rw [h]; rfl
  rw [h]
  dsimp only
  rcases hv.others (by omega) h with ⟨hnone, hrest⟩ | ⟨j, hj, hji, hj0, hone, hrest⟩
  · have hdif {l : Nat} (hl : l < 8) := xor_of_lost_one (z := fun j => (v j).getD 0) (fun l hl hli => hrest l (by omega) hli) hi0 hl
    rw [hnone, hrest 8 (by omega) (by omega), hw.p, ← codeP_xor, codeP_congr (fun l hl => hdif hl), codeP_single hi]
  · rw [hone]
    dsimp only
    by_cases hj8 : j < 8
    · have hdif {l : Nat} (hl : l < 8) := xor_of_lost_two (z := fun j => (v j).getD 0) hji (fun l hl => hrest l (by omega)) hi0 (by simp [hj0]) hl
      rw [if_neg (by omega), if_neg (by omega), hrest 8 (by omega) (by omega) (by omega), hrest 9 (by omega) (by omega) (by omega), hw.p, hw.q, ← codeP_xor,
        ← codeQ_xor, codeP_congr (fun l hl => hdif hl), codeQ_congr (fun l hl => hdif hl), codeP_xor, codeQ_xor, codeP_single hi, codeP_single hj8,
        codeQ_single hi, codeQ_single hj8, gf_solve_two hi hj8 hji (hw.byte i hi)]
    · have hdif {l : Nat} (hl : l < 8) :=
        xor_of_lost_one (z := fun j => (v j).getD 0) (fun l hl hli => hrest l (by omega) hli (by omega)) hi0 hl
      by_cases hj9 : j = 9
      · rw [if_pos hj9, hrest 8 (by omega) (by omega) (by omega), hw.p, ← codeP_xor, codeP_congr (fun l hl => hdif hl), codeP_single hi]
      · rw [if_neg hj9, if_pos (by omega), hrest 9 (by omega) (by omega) (by omega), hw.q, ← codeQ_xor, codeQ_congr (fun l hl => hdif hl), codeQ_single hi,
          gfInv_mul_cancel (gfPow_lt i) (gfPow_ne_zero hi) (hw.byte i hi)]

/-- Every slot's byte is rebuilt from a stripe that misses two slots at most. -/
theorem rebuildSlot_of_readsAllBut (hw : Coded w) (hv : ReadsAllBut v w e f) (hi : i < 10) : rebuildSlot v i = some (w i) := by
  have hdata {j : Nat} (hj : j < 8) := rebuildData_of_readsAllBut hw hv hj
  unfold rebuildSlot
  rcases hv.right i hi with h | h
  · rw [h]
  rw [h]
  dsimp only
  by_cases hi8 : i < 8
  · rw [if_pos hi8, hdata hi8]
  · have hall : (List.range 8).all (fun j => (rebuildData v j).isSome) = true :=
      List.all_eq_true.mpr (fun j hj => by rw [hdata (List.mem_range.mp hj)]; rfl)
    have hd : ∀ j, j < 8 → (rebuildData v j).getD 0 = w j := fun j hj => by rw [hdata hj]; rfl
    rw [if_neg hi8, if_pos hall, codeP_congr hd, codeQ_congr hd, ← hw.p, ← hw.q]
    split
    · next h8 => rw [h8]
    · rw [show i = 9 by omega]

end

/-- Settles O25: the bytes read are those of a coded stripe but for the two missing slots, each of which the code gives back. -/
theorem anyTwoErasuresAreRebuilt : Obligations.AnyTwoErasuresAreRebuilt := by
  intro d e f hd _ _ all read i hi
  have hdata : ∀ j, j < 8 → d j = all j := fun j hj => (if_pos hj).symm
  have hcoded : Coded all := ⟨fun j hj => hdata j hj ▸ hd j hj, codeP_congr hdata, codeQ_congr hdata⟩
  refine rebuildSlot_of_readsAllBut (e := e) (f := f) hcoded ⟨fun j _ => ?_, fun j _ hj => ?_⟩ hi
  · by_cases h : j = e ∨ j = f
    · exact .inr (if_pos h)
    · exact .inl (if_neg h)
  · by_contra h
    simp [read, h] at hj

end Sys2Proof.Machine
end

section
/-! PROOFS. Reads of the memory array through lost channels (07 R259, R260, R263, R270): a line and its poison come from the stripe's other slots. -/

namespace Sys2Proof.Machine

/-- The slot of a stripe that lies on a channel (R259). -/
def slotOn (m k : Nat) : Nat := (m + 10 - k % 10) % 10

theorem eq_slotOn {i k m : Nat} (hi : i < 10) (h : slotChan i k = m) : i = slotOn m k := by
  unfold slotChan at h
  unfold slotOn
  omega

theorem slotChan_lt (i k : Nat) : slotChan i k < 10 := Nat.mod_lt _ (by decide)

theorem slotChan_ne {i j : Nat} (k : Nat) (hi : i < 10) (hj : j < 10) (h : i ≠ j) : slotChan i k ≠ slotChan j k := by
  unfold slotChan
  omega

/-- The byte that slot i of stripe k holds at offset b, readable or not. -/
def State.cellAt (s : State) (k b i : Nat) : Nat := (Bytes.rd s.ma.cells (cellKey (slotChan i k) k b)).toNat

/-- Every check byte of a stripe is that of its data bytes (R260). -/
def State.StripeCoded (s : State) (k : Nat) : Prop := ∀ b, b < 64 → Coded (s.cellAt k b)

section
variable {s t : State} {k b i m n : Nat}

theorem State.stripeByte_served (h : s.chReads (slotChan i k) k = true) : s.stripeByte k b [] i = some (s.cellAt k b i) := by
  simp [State.stripeByte, State.cellAt, h]

theorem State.stripeByte_unserved (h : s.chReads (slotChan i k) k = false) (ers : List Nat) : s.stripeByte k b ers i = none := by
  simp [State.stripeByte, h]

/-- With all channels but two serving, only their two slots are missing. -/
theorem State.stripeByte_readsAllBut (h : ∀ c, c < 10 → c ≠ m → c ≠ n → t.chReads c k = true) :
    ReadsAllBut (t.stripeByte k b []) (t.cellAt k b) (slotOn m k) (slotOn n k) where
  right i _ := by
    cases hs : t.chReads (slotChan i k) k with
    | true => exact .inl (State.stripeByte_served hs)
    | false => exact .inr (State.stripeByte_unserved hs [])
  missing i hi hnone := by
    by_contra hne
    obtain ⟨hm, hn⟩ := not_or.mp hne
    have hs := h (slotChan i k) (slotChan_lt i k) (fun e => hm (eq_slotOn hi e)) (fun e => hn (eq_slotOn hi e))
    rw [State.stripeByte_served hs] at hnone
    exact Option.some_ne_none _ hnone

/-- A coded stripe gives a data line's own bytes while two channels do not serve. -/
theorem State.stripeLine_of_coded {line : Nat} (hw : t.StripeCoded (line / 8)) (h : ∀ c, c < 10 → c ≠ m → c ≠ n → t.chReads c (line / 8) = true) :
    t.stripeLine line [] = some (BitVec.ofNat 512 (ofBytes ((List.range 64).map (fun b => t.cellAt (line / 8) b (line % 8))))) := by
  have hbytes : (List.range 64).map (fun b => rebuildData (t.stripeByte (line / 8) b []) (line % 8)) =
      (List.range 64).map (fun b => some (t.cellAt (line / 8) b (line % 8))) :=
    List.map_congr_left (fun b hb =>
      rebuildData_of_readsAllBut (hw b (List.mem_range.mp hb)) (State.stripeByte_readsAllBut h) (Nat.mod_lt _ (by decide)))
  unfold State.stripeLine
  simp [hbytes, Function.comp_def]

/-- The poison of a line is its signature's while two channels do not serve, the masks of its stripe being right (R261). -/
theorem State.poisoned_eq_sigOf {line : Nat} (h : ∀ c, c < 10 → c ≠ m → c ≠ n → t.chReads c (line / 8) = true)
    (h8 : bit (t.maskOf 8 (line / 8)) (line % 8) = t.sigOf (line % 8) (line / 8)) (h9 : bit (t.maskOf 9 (line / 8)) (line % 8) = t.sigOf (line % 8) (line / 8)) :
    t.poisoned line = t.sigOf (line % 8) (line / 8) := by
  unfold State.poisoned
  dsimp only
  by_cases hj : t.chReads (slotChan (line % 8) (line / 8)) (line / 8) = true
  · rw [if_pos hj]
  rw [if_neg hj]
  by_cases hp : t.chReads (slotChan 8 (line / 8)) (line / 8) = true
  · rw [if_pos hp, h8]
  have hq : t.chReads (slotChan 9 (line / 8)) (line / 8) = true := by
    have lost {i : Nat} (hi : ¬ t.chReads (slotChan i (line / 8)) (line / 8) = true) : slotChan i (line / 8) = m ∨ slotChan i (line / 8) = n := by
      by_contra hne
      obtain ⟨hm, hn⟩ := not_or.mp hne
      exact hi (h _ (slotChan_lt ..) hm hn)
    have hj8 := slotChan_ne (i := line % 8) (j := 8) (line / 8) (by omega) (by omega) (by omega)
    have hj9 := slotChan_ne (i := line % 8) (j := 9) (line / 8) (by omega) (by omega) (by omega)
    have h89 := slotChan_ne (i := 8) (j := 9) (line / 8) (by omega) (by omega) (by omega)
    by_contra hq
    have h1 := lost hj
    have h2 := lost hp
    have h3 := lost hq
    omega
  rw [if_neg hp, hq, Bool.true_and, h9]

end

/-- Settles O26: the line is rebuilt as the bytes it holds and its poison is its signature, which no channel's state changes. -/
theorem linesSurviveTwoLostChannels : Obligations.LinesSurviveTwoLostChannels := by
  intro s t line m n hma hall hbut hcode hmask
  have hj : line % 8 < 8 := Nat.mod_lt _ (by decide)
  have hcell : t.cellAt = s.cellAt := by unfold State.cellAt; rw [hma]
  have hcoded : s.StripeCoded (line / 8) := by
    intro b hb
    have hz : ∀ i, i < 10 → (s.stripeByte (line / 8) b [] i).getD 0 = s.cellAt (line / 8) b i := fun i _ => by
      rw [State.stripeByte_served (hall _ (slotChan_lt ..)), Option.getD_some]
    obtain ⟨hp, hq⟩ := hcode b hb
    exact ⟨fun i _ => BitVec.isLt _, (hz 8 (by decide)).symm.trans (hp.trans (codeP_congr (fun i hi => hz i (by omega)))),
      (hz 9 (by decide)).symm.trans (hq.trans (codeQ_congr (fun i hi => hz i (by omega))))⟩
  have hcoded' : t.StripeCoded (line / 8) := by unfold State.StripeCoded; rw [hcell]; exact hcoded
  have hsig : t.sigOf = s.sigOf := by unfold State.sigOf; rw [hma]
  have hmaskOf : t.maskOf = s.maskOf := by unfold State.maskOf; rw [hma]
  obtain ⟨h8, h9⟩ := hmask _ hj
  have hbut' : ∀ c, c < 10 → c ≠ m → c ≠ n → s.chReads c (line / 8) = true := fun c hc _ _ => hall c hc
  unfold State.arrayLine
  rw [State.stripeLine_of_coded hcoded' hbut, State.stripeLine_of_coded hcoded hbut', State.poisoned_eq_sigOf hbut' h8 h9,
    State.poisoned_eq_sigOf hbut (by rw [hmaskOf, hsig]; exact h8) (by rw [hmaskOf, hsig]; exact h9), hcell, hsig]

end Sys2Proof.Machine
end

section
/-! PROOFS. ARRAY_READ and ARRAY_WRITE (07 R262, R263, R265): transfers and unchanged channels leave the stores, and a write acts on the stores alone. -/

namespace Sys2Proof.Machine

section
variable {s t : State}

/-! ### What agreement in the stores gives -/

theorem State.sameStores.symm (h : s.sameStores t) : t.sameStores s :=
  ⟨h.coh.symm, h.ma.symm, fun m hm => (h.chan m hm).symm, h.rebuild.symm, h.array.symm⟩

theorem State.sameStores.chanState (h : s.sameStores t) (i k : Nat) : t.rf MA_CH_STAT_STATE (slotChan i k) = s.rf MA_CH_STAT_STATE (slotChan i k) :=
  congrArg (fun v => bits v MA_CH_STAT_STATE.hi MA_CH_STAT_STATE.lo) (h.chan _ (slotChan_lt i k))

theorem State.sameStores.chReads (h : s.sameStores t) (i k : Nat) : t.chReads (slotChan i k) k = s.chReads (slotChan i k) k := by
  have hreb (f : RF) (hf : f.reg = rMA_REBUILD) : t.rf f = s.rf f := by
    unfold State.rf
    rw [hf, h.rebuild]
  unfold State.chReads State.rb
  rw [h.chanState, hreb MA_REBUILD_BUSY rfl, hreb MA_REBUILD_CHANNELS rfl, hreb MA_REBUILD_POS rfl]

theorem State.sameStores.chWrites (h : s.sameStores t) (i k : Nat) : t.chWrites (slotChan i k) = s.chWrites (slotChan i k) := by
  unfold State.chWrites
  rw [h.chanState]

theorem State.sameStores.stripeByte (h : s.sameStores t) (k b : Nat) (ers : List Nat) : t.stripeByte k b ers = s.stripeByte k b ers := by
  funext i
  unfold State.stripeByte
  rw [h.chReads, h.ma]

theorem State.sameStores.maskOf (h : s.sameStores t) (i k : Nat) : t.maskOf i k = s.maskOf i k := by
  unfold State.maskOf
  rw [h.ma]

/-! ### Updates keep the agreement -/

theorem State.sameStores.withMa (h : s.sameStores t) {a b : ArraySt} (hab : b = a) : ({ s with ma := a } : State).sameStores { t with ma := b } :=
  ⟨h.coh, hab, h.chan, h.rebuild, h.array⟩

theorem State.sameStores.each {α : Type} {f : State → α → State} (h : s.sameStores t)
    (hf : ∀ x y a, x.sameStores y → (f x a).sameStores (f y a)) (l : List α) : (s.each l f).sameStores (t.each l f) :=
  List.foldl_rel h (fun a _ x y hxy => hf x y a hxy)

theorem State.sameStores.putCell (h : s.sameStores t) (i k b v : Nat) : (s.putCell i k b v).sameStores (t.putCell i k b v) := by
  unfold State.putCell
  dsimp only
  rw [h.chWrites]
  split
  · exact h.withMa (by rw [h.ma])
  · exact h

theorem State.sameStores.putByte (h : s.sameStores t) (k j b v : Nat) : (s.putByte k j b v).sameStores (t.putByte k j b v) := by
  unfold State.putByte
  rw [h.stripeByte]
  dsimp only
  have hdata := h.putCell j k b v
  split
  · split
    · exact (hdata.putCell ..).putCell ..
    · exact hdata.putCell ..
  · split
    · exact hdata.putCell ..
    · exact hdata

theorem State.sameStores.setSig (h : s.sameStores t) (j k : Nat) (p : Bool) : (s.setSig j k p).sameStores (t.setSig j k p) := by
  unfold State.setSig
  rw [h.chWrites]
  split
  · exact h.withMa (by rw [h.ma])
  · exact h

theorem State.sameStores.setMask (h : s.sameStores t) (i k v : Nat) : (s.setMask i k v).sameStores (t.setMask i k v) := by
  unfold State.setMask
  rw [h.chWrites]
  split
  · exact h.withMa (by rw [h.ma])
  · exact h

theorem State.sameStores.setPoison (h : s.sameStores t) (line : Nat) (p : Bool) : (s.setPoison line p).sameStores (t.setPoison line p) := by
  have hsig := h.setSig (line % 8) (line / 8) p
  unfold State.setPoison
  dsimp only
  rw [hsig.maskOf, hsig.maskOf]
  exact (hsig.setMask ..).setMask ..

/-- MA_ELOG is none of the registers of the agreement. -/
theorem State.sameStores_maElog (s : State) (kind ch line : Nat) : s.sameStores (s.maElog kind ch line) := by
  have hchan : ∀ m, m < 10 → rMA_CH_STAT.addr m ≠ rMA_ELOG.addr 0 := by decide
  have hsf (x : State) (f : RF) (v : Nat) (hf : f.reg = rMA_ELOG) : x.sameStores (x.sf f v) := by
    refine ⟨x.sf_coh f v 0, x.sf_ma f v 0, fun m hm => ?_, ?_, ?_⟩ <;>
      refine State.reg_wreg_other _ _ _ _ _ _ (hf ▸ ?_)
    · exact hchan m hm
    · decide
    · decide
  exact (((hsf _ _ _ rfl).trans (hsf _ _ _ rfl)).trans (hsf _ _ _ rfl)).trans (hsf _ _ _ rfl)

/-- A write of a line acts alike on states that agree in the stores. -/
theorem State.sameStores.arrayPut (h : s.sameStores t) (line : Nat) (data : Line) (mask : BitVec 64) (poison : Bool) :
    (s.arrayPut line data mask poison).sameStores (t.arrayPut line data mask poison) := by
  unfold State.arrayPut
  dsimp only
  rw [h.exhausted, h.chReads]
  split
  · exact ((State.sameStores_maElog ..).symm.trans h).trans (State.sameStores_maElog ..)
  · have hbytes := h.each (f := fun x b => if mask.toNat.testBit b then x.putByte (line / 8) (line % 8) b (byteOf data.toNat b) else x)
      (fun x y b hxy => by
        split
        · exact hxy.putByte ..
        · exact hxy) (List.range 64)
    split
    · exact hbytes.setPoison ..
    · split
      · exact hbytes.setPoison ..
      · exact hbytes

/-! ### Transfers and the error rules with nothing found -/

theorem State.sameStores_writeTransfers (s : State) (k : Nat) (js part : List Nat) : s.sameStores (s.writeTransfers k js part) :=
  foldl_keeps (fun (x : State) => s.sameStores x) _ _ _ (State.sameRec_readSlots ..).1
    (fun _ _ hx _ => (hx.trans (State.sameStores_pmEvent ..)).trans (State.sameStores_bwBytes ..))

theorem State.codeFindings_none (s : State) (k : Nat) : s.codeFindings k (s.liveFinds k []) false = s := by
  simp [State.codeFindings, State.liveFinds, State.findingErasures, State.each]

/-- A read that finds nothing, of a line that lost channels leave readable, is counted and changes nothing else (R263). -/
theorem State.sameStores_readMeets (s : State) (line : Nat) (h : s.exhausted = false ∨ s.chReads (slotChan (line % 8) (line / 8)) (line / 8) = true) :
    s.sameStores (s.readMeets line []) := by
  have hlost : (s.exhausted && !s.chReads (slotChan (line % 8) (line / 8)) (line / 8)) = false := by
    rcases h with h | h <;> simp [h]
  have hfinds : s.liveFinds (line / 8) [] = (s.readTransfers line).liveFinds (line / 8) [] := rfl
  unfold State.readMeets
  dsimp only
  rw [hlost, hfinds, State.codeFindings_none]
  exact (State.sameRec_readTransfers s line).1

/-! ### The two commands -/

theorem State.doArrayRead_usable (s : State) {line : Nat} (fs : List ChanFinding) (h : line < s.usableLines) :
    s.doArrayRead line fs =
      (let y := (s.srTouch line).readMeets line fs
       { y with ma := { y.ma with lastRead := (line, (y.arrayLine line).1, (y.arrayLine line).2) } }) :=
  if_pos h

/-- A write of usable lines with nothing found is each line's write, in turn, after transfers that leave the stores. -/
theorem State.doArrayWrite_quiet (s : State) (ws : List LineWrite) (h : ∀ w ∈ ws, w.line.toNat < s.usableLines) :
    ∃ x, s.sameStores x ∧ s.doArrayWrite ws [] = ws.foldl (fun (x : State) w => x.arrayPut w.line.toNat w.data w.mask w.poison) x := by
  have hws : ws.filter (fun w => decide (w.line.toNat < s.usableLines)) = ws := List.filter_eq_self.mpr (fun w hw => decide_eq_true (h w hw))
  unfold State.doArrayWrite
  rw [hws]
  refine ⟨_, ?_, rfl⟩
  refine foldl_keeps (fun (x : State) => s.sameStores x) _ _ _ ?_ (fun _ _ hx _ => hx.trans (State.sameStores_writeTransfers ..))
  split
  · exact .refl s
  · have hfinds (k : Nat) : s.liveFinds k [] = (s.srTouch (k * 8)).liveFinds k [] := rfl
    rw [hfinds, State.codeFindings_none]
    exact State.sameStores_srTouch ..

end

/-- Settles O22: a read is its transfers and error rules and then the line; a write's transfers leave the stores that its lines' writes act on. -/
theorem arrayServesReadsAndWrites : Obligations.ArrayServesReadsAndWrites := by
  intro s hp
  refine ⟨fun line finds hline => ⟨(s.srTouch line.toNat).readMeets line.toNat finds, ?_, fun hnone hread => ?_⟩, fun ws hws => ?_⟩
  · exact does_of_run_eq (f := fun s => s.doArrayRead line.toNat finds) hp rfl (s.doArrayRead_usable finds hline)
  · subst hnone
    have htouch := s.sameStores_srTouch line.toNat
    refine htouch.trans (State.sameStores_readMeets _ _ ?_)
    rw [htouch.exhausted, htouch.chReads]
    exact hread
  · obtain ⟨x, hx, hwrite⟩ := s.doArrayWrite_quiet ws hws
    refine ⟨_, does_of_run_eq (f := fun s => s.doArrayWrite ws []) hp rfl hwrite, ?_⟩
    exact hx.each (fun _ _ w hxy => hxy.arrayPut w.line.toNat w.data w.mask w.poison) ws

end Sys2Proof.Machine
end

section
/-! PROOFS. The states of a channel (07 R267, R270-R274) and the passes over the stripes, rebuild and scrub (07 R274, R276, R278, R287). -/

namespace Sys2Proof.Machine

section
variable {s : State} {m : Nat}

theorem State.rb_of_zero {f : RF} {i : Nat} (h : s.rf f i = 0) : s.rb f i = false := by simp [State.rb, h]

theorem State.rb_of_one {f : RF} {i : Nat} (h : s.rf f i = 1) : s.rb f i = true := by simp [State.rb, h]

/-! ### The loss of a channel (R267, R270, R271) -/

/-- The loss of an Up channel below its recovery limit that is not the third: Lost with its cause, and an Ochre record. -/
theorem State.loseChan_up (cause : Nat) (hup : s.rf MA_CH_STAT_STATE m = 0) (hlimit : s.recoveries (org 4 m) < s.rf FC_CFG_RECOV_LIMIT) (h2 : s.notUp ≠ 2) :
    s.loseChan m cause =
      ((((s.setUnit (org 4 m) (fun u => { u with st := 1 })).sf MA_CH_STAT_CAUSE cause m).setChan m 1).report
        { org := org 4 m, cause := 0x0404, cls := ochre, d0 := cause, react := 5 }) := by
  have hleave : s.leaveRebuild m = s := if_neg (by omega)
  unfold State.loseChan
  simp [hleave, h2, State.outOfService_below s _ hlimit]

theorem State.doChannelLost_up {c : LossCause} {n : Nat} (hc : s.lossCause c = some n) (hup : s.rf MA_CH_STAT_STATE m = 0) : s.doChannelLost m c = s.loseChan m n := by
  unfold State.doChannelLost
  rw [hc]
  exact if_pos (.inl hup)

/-- Retries of a command up to MA_CFG.LINK_RETRY lose no channel. -/
theorem State.doChannelLost_retries {n : BitVec 8} (h : n.toNat ≤ s.rf MA_CFG_LINK_RETRY) : s.doChannelLost m (.link n) = s := by
  have hnone : s.lossCause (.link n) = none := if_neg (by omega)
  unfold State.doChannelLost
  rw [hnone]

/-! ### MA_CH_CTL_m.CMD (R272, R273) -/

section
variable (a : Agent)

theorem State.chanCtl_fail (hup : s.rf MA_CH_STAT_STATE m = 0) (h : s.notUp < 2) : s.chanCtl m 3 a = s.loseChan m 8 :=
  if_pos ⟨hup, h⟩

theorem State.chanCtl_fail_ignored (h : s.rf MA_CH_STAT_STATE m ≠ 0 ∨ 2 ≤ s.notUp) : s.chanCtl m 3 a = s.cmdIgnored a (rMA_CH_CTL.addr m) 3 :=
  if_neg (by omega)

theorem State.chanCtl_isolate_lost (h : s.rf MA_CH_STAT_STATE m = 1) : s.chanCtl m 1 a = (s.setChan m 2).dimmPower m false :=
  (if_neg (by omega)).trans (if_pos h)

theorem State.chanCtl_isolate_ignored (h : s.rf MA_CH_STAT_STATE m = 2 ∨ s.rf MA_CH_STAT_STATE m = 3 ∨ s.rf MA_CH_STAT_STATE m = 5) :
    s.chanCtl m 1 a = s.cmdIgnored a (rMA_CH_CTL.addr m) 1 :=
  (if_neg (by omega)).trans ((if_neg (by omega)).trans (if_neg (by omega)))

theorem State.chanCtl_insert (h : s.rf MA_CH_STAT_STATE m = 1 ∨ s.rf MA_CH_STAT_STATE m = 2) : s.chanCtl m 2 a = (s.setChan m 3).dimmPower m true :=
  if_pos h

theorem State.chanCtl_insert_ignored
    (h : s.rf MA_CH_STAT_STATE m = 0 ∨ s.rf MA_CH_STAT_STATE m = 3 ∨ s.rf MA_CH_STAT_STATE m = 4 ∨ s.rf MA_CH_STAT_STATE m = 5) :
    s.chanCtl m 2 a = s.cmdIgnored a (rMA_CH_CTL.addr m) 2 :=
  if_neg (by omega)

end

/-! ### The end of a channel's training (R274, R276) -/

theorem State.joinRebuild_idle (h : (s.setChan m 4).rf MA_REBUILD_BUSY = 0) : s.joinRebuild m = s.setChan m 4 := by
  unfold State.joinRebuild
  dsimp only
  rw [State.rb_of_zero h]
  exact if_neg Bool.false_ne_true

theorem State.joinRebuild_busy (h : (s.setChan m 4).rf MA_REBUILD_BUSY = 1) :
    s.joinRebuild m = (s.setChan m 4).sf MA_REBUILD_QUEUED (setBit ((s.setChan m 4).rf MA_REBUILD_QUEUED) m true) := by
  unfold State.joinRebuild
  dsimp only
  rw [State.rb_of_one h]
  exact if_pos rfl

section
variable {ds : List Dimm} {trains : Bool}

/-- What the SPD says changes no population. -/
theorem State.spdRead_clearMarks_pop (s : State) (m : Nat) (ds : List Dimm) : ((s.clearMarks m).spdRead m ds).ma.pop = s.ma.pop := by
  simp [State.spdRead, State.clearMarks]

/-- DIMMs that are not of the population lose the channel. -/
theorem State.doTrainingEnd_population (h3 : s.rf MA_CH_STAT_STATE m = 3) (h : popOf ds = none ∨ popOf ds ≠ s.ma.pop) :
    s.doTrainingEnd m ds trains = ((s.clearMarks m).spdRead m ds).loseChan m 6 := by
  unfold State.doTrainingEnd
  dsimp only
  rw [if_pos h3, State.spdRead_clearMarks_pop, if_pos h]

/-- DIMMs of the population, fast enough, leave it to the training. -/
theorem State.doTrainingEnd_fits (h3 : s.rf MA_CH_STAT_STATE m = 3) (hsome : popOf ds ≠ none) (hpop : popOf ds = s.ma.pop) (hfast : ds.all (fun d => d.fast) = true) :
    s.doTrainingEnd m ds trains =
      if trains then ((s.clearMarks m).spdRead m ds).joinRebuild m else ((s.clearMarks m).spdRead m ds).loseChan m 2 := by
  have hslow : ds.any (fun d => !d.fast) = false := by rw [← List.not_all_eq_any_not, hfast, Bool.not_true]
  have hfit : ¬(popOf ds = none ∨ popOf ds ≠ s.ma.pop) := not_or.mpr ⟨hsome, not_not_intro hpop⟩
  unfold State.doTrainingEnd
  dsimp only
  rw [if_pos h3, State.spdRead_clearMarks_pop, if_neg hfit, hslow, if_neg Bool.false_ne_true]

end

end

/-- Settles O23: each clause is the command's branch for the channel's state. -/
theorem channelsChangeState : Obligations.ChannelsChangeState := by
  intro s m hp st lost
  have doesLost {c : LossCause} {u : State} (h : s.doChannelLost m.val c = u) : Does (.channelLost m c) s u :=
    does_of_run_eq (f := fun s => s.doChannelLost m.val c) hp rfl h
  have doesTrain {f : Training} {u : State} (h : s.doTrainingEnd m.val f.dimms f.trains = u) : Does (.channelTrainingEnd m f) s u :=
    does_of_run_eq (f := fun s => s.doTrainingEnd m.val f.dimms f.trains) hp rfl h
  refine ⟨fun c n hc hup hlimit h2 => ?_, fun n hn => ?_, fun a hup h2 hlimit => ?_, fun a h => ?_, fun a h => ?_, fun a h => ?_, fun a h => ?_, fun a h => ?_,
    fun ds h3 => ?_⟩
  · exact doesLost ((State.doChannelLost_up hc hup).trans (State.loseChan_up n hup hlimit h2))
  · exact doesLost (State.doChannelLost_retries hn)
  · exact does_of_run_eq (f := fun s => s.chanCtl m.val 3 a) hp rfl ((State.chanCtl_fail a hup h2).trans (State.loseChan_up 8 hup hlimit (by omega)))
  · exact does_of_run_eq (f := fun s => s.chanCtl m.val 3 a) hp rfl (State.chanCtl_fail_ignored a h)
  · exact does_of_run_eq (f := fun s => s.chanCtl m.val 1 a) hp rfl (State.chanCtl_isolate_lost a h)
  · exact does_of_run_eq (f := fun s => s.chanCtl m.val 1 a) hp rfl (State.chanCtl_isolate_ignored a h)
  · exact does_of_run_eq (f := fun s => s.chanCtl m.val 2 a) hp rfl (State.chanCtl_insert a h)
  · exact does_of_run_eq (f := fun s => s.chanCtl m.val 2 a) hp rfl (State.chanCtl_insert_ignored a h)
  · intro y z
    refine ⟨fun hsome hpop hfast => ⟨fun hidle => ?_, fun hbusy => ?_, ?_⟩, fun trains hbad => ?_⟩
    · exact doesTrain ((State.doTrainingEnd_fits h3 hsome hpop hfast).trans ((if_pos rfl).trans (State.joinRebuild_idle hidle)))
    · exact doesTrain ((State.doTrainingEnd_fits h3 hsome hpop hfast).trans ((if_pos rfl).trans (State.joinRebuild_busy hbusy)))
    · exact doesTrain ((State.doTrainingEnd_fits h3 hsome hpop hfast).trans (if_neg Bool.false_ne_true))
    · exact doesTrain (State.doTrainingEnd_population h3 hbad)

/-! ### The passes over the stripes (R274, R276, R278, R287) -/

section
variable {s : State}

/-- A stripe of a running pass that is not its last and passes no further percent: the error rules, the lines of the pass's channels, POS. -/
theorem State.doRebuildStripe_inside (fs : List ChanFinding) (hbusy : s.rf MA_REBUILD_BUSY = 1) (hk : s.rf MA_REBUILD_POS + 1 < s.rf MA_CAP_STRIPES)
    (hpct : s.rf MA_REBUILD_POS * 100 / s.rf MA_CAP_STRIPES = (s.rf MA_REBUILD_POS + 1) * 100 / s.rf MA_CAP_STRIPES) :
    s.doRebuildStripe fs =
      (((List.range 10).foldl (fun (x : State) m => if bit (x.rf MA_REBUILD_CHANNELS) m then x.rebuildSlotLine (s.rf MA_REBUILD_POS) m else x)
        (s.codeFindings (s.rf MA_REBUILD_POS) (s.liveFinds (s.rf MA_REBUILD_POS) fs) s.exhausted)).sf MA_REBUILD_POS (s.rf MA_REBUILD_POS + 1)) := by
  have hin : s.rf MA_REBUILD_POS < s.rf MA_CAP_STRIPES := by omega
  have hsame : ¬ s.rf MA_REBUILD_POS * 100 / s.rf MA_CAP_STRIPES < (s.rf MA_REBUILD_POS + 1) * 100 / s.rf MA_CAP_STRIPES := by omega
  unfold State.doRebuildStripe
  dsimp only
  rw [State.rb_of_one hbusy, Bool.true_or, if_pos rfl, State.rb_of_one hbusy, if_pos ⟨rfl, hin⟩, if_neg hsame, if_neg hk.ne]
  rfl

theorem State.doRebuildStripe_nothing (fs : List ChanFinding) (hbusy : s.rf MA_REBUILD_BUSY = 0) (hnone : s.rf MA_STAT_REBUILDING = 0) :
    s.doRebuildStripe fs = s := by
  simp [State.doRebuildStripe, State.rb_of_zero hbusy, hnone]

/-- A stripe of a scrub pass: every line that is served read, the error rules, P and Q compared where all passed. -/
def State.scrubbed (s : State) (fs : List ChanFinding) : State :=
  let k := s.rf MA_SCRUB_POS
  let live := s.liveFinds k fs
  let x := (s.srTouch (k * 8)).readSlots k ((List.range 10).filter (fun i => s.chReads (slotChan i k) k))
  if (x.findingErasures k live).isEmpty then (x.codeFindings k live x.exhausted).scrubCompare k else x.codeFindings k live x.exhausted

theorem State.doScrubStripe_eq (fs : List ChanFinding) (h : s.rf MA_SCRUB_POS < s.rf MA_CAP_STRIPES) :
    s.doScrubStripe fs =
      if s.rf MA_SCRUB_POS + 1 = s.rf MA_CAP_STRIPES then
        ((((s.scrubbed fs).sf MA_SCRUB_POS 0).sf MA_SCRUB_FAST 0).sf MA_SCRUB_PASSES (((s.scrubbed fs).rf MA_SCRUB_PASSES + 1) % 2 ^ 14)).raise 0x0EA
      else (s.scrubbed fs).sf MA_SCRUB_POS (s.rf MA_SCRUB_POS + 1) := by
  unfold State.doScrubStripe
  dsimp only
  rw [if_pos h]
  unfold State.scrubbed
  rfl

end

/-- Settles O24: the branches of the two passes by the position, and DEMAND's write. -/
theorem rebuildAndScrubAdvance : Obligations.RebuildAndScrubAdvance := by
  intro s hp
  have doesScrub {fs : List ChanFinding} {u : State} (h : s.doScrubStripe fs = u) : Does (.scrubStripe fs) s u :=
    does_of_run_eq (f := fun s => s.doScrubStripe fs) hp rfl h
  refine ⟨fun fs hbusy hk => ?_, fun hbusy hnone fs => ?_, fun fs => ?_, ?_⟩
  · intro k hpct
    exact does_of_run_eq (f := fun s => s.doRebuildStripe fs) hp rfl (State.doRebuildStripe_inside fs hbusy hk hpct)
  · exact does_of_run_eq (f := fun s => s.doRebuildStripe fs) hp rfl (State.doRebuildStripe_nothing fs hbusy hnone)
  · intro k live x y z
    have hz : s.scrubbed fs = z := by
      have htouch := s.sameStores_srTouch (k * 8)
      simp only [z, y, x, htouch.chReads]
      rfl
    rw [← hz]
    refine ⟨fun hk => ?_, fun hk => ?_⟩
    · exact doesScrub ((State.doScrubStripe_eq fs (Nat.lt_of_succ_lt hk)).trans (if_neg hk.ne))
    · exact doesScrub ((State.doScrubStripe_eq fs (Nat.lt_of_succ_le hk.le)).trans (if_pos hk))
  · exact does_of_run (f := State.doDemand) hp rfl

end Sys2Proof.Machine
end

section
/-! PROOFS. The lanes of the Signal Plane take their queues (08 R293, R295, R303, R309, R312, R326, R331); fan-out (R321);
the loss of a lane and of the Signal Store (R335, R337). -/

namespace Sys2Proof.Machine

section
variable {s : State} {l : Nat}

/-! ### The front of a lane's queue (R293) -/

theorem State.laneNext_front {u : Upd} {q : List Upd} (hq : s.laneQ l = u :: q) (hu : u.isOutput = false) : s.laneNext l = some u := by
  simp [State.laneNext, hq, hu]

theorem State.popLane_front {u : Upd} {q : List Upd} (hq : s.laneQ l = u :: q) (hu : u.isOutput = false) : s.popLane l = (s.setLaneQ l q).refillLane l := by
  simp [State.popLane, State.frontOuts, hq, hu]

/-- The registers of the lanes lie beyond SG_STAT. -/
theorem sgStat_addr_ne_laneStat (l : Nat) : rSG_STAT.addr 0 ≠ rSG_LANE_STAT.addr l :=
  Nat.ne_of_lt (Nat.lt_of_lt_of_le (by decide : rSG_STAT.addr 0 < rSG_LANE_STAT.base) (Nat.le_add_right ..))

theorem State.storeLost_of_regs {t : State} (h : t.regs = s.regs) : t.storeLost = s.storeLost := by
  unfold State.storeLost
  rw [State.rf_of_regs h]

theorem State.storeLost_sfLane (s : State) (v l : Nat) {f : RF} (hf : f.reg = rSG_LANE_STAT) : (s.sf f v l).storeLost = s.storeLost := by
  unfold State.storeLost
  rw [State.rf_sf_other s f SG_STAT_STORE v l 0 (hf ▸ sgStat_addr_ne_laneStat l)]

theorem State.storeLost_setLaneHeld (s : State) (l : Nat) (q : List Upd) : (s.setLaneHeld l q).storeLost = s.storeLost := State.storeLost_of_regs rfl

theorem State.storeLost_setLaneQ (s : State) (l : Nat) (q : List Upd) : (s.setLaneQ l q).storeLost = s.storeLost :=
  (State.storeLost_sfLane _ _ l rfl).trans ((State.storeLost_sfLane _ _ l rfl).trans (State.storeLost_of_regs rfl))

theorem State.storeLost_refillLane (s : State) (l : Nat) : (s.refillLane l).storeLost = s.storeLost := by
  unfold State.refillLane
  dsimp only
  split
  · rfl
  · rw [State.storeLost_setLaneHeld, State.storeLost_setLaneQ]

theorem State.storeLost_popLane (s : State) (l : Nat) : (s.popLane l).storeLost = s.storeLost :=
  (State.storeLost_refillLane _ l).trans (s.storeLost_setLaneQ l _)

theorem State.laneUp_of_state (h : s.rf SG_LANE_STAT_STATE l = 0) : s.laneUp l = true := by simp [State.laneUp, h]

theorem State.storeLost_of_state (h : s.rf SG_STAT_STORE ≠ 1) : s.storeLost = false := by simp [State.storeLost, h]

/-- A lane's step that meets no failed check and no ECC outcome, while the Signal Store is up: the update and its count. -/
theorem State.laneStep_plain (p : State → Bool) (f : State → State) (h : s.storeLost = false) :
    s.laneStep l ⟨0, none⟩ p f = (f s).when (p s) (fun x => x.laneCount l) :=
  s.laneStep_up l 0 p f h

theorem State.laneStep_update (f : State → State) (h : s.storeLost = false) : s.laneStep l ⟨0, none⟩ (fun _ => true) f = (f s).laneCount l :=
  (State.laneStep_plain _ f h).trans (State.when_true _ _)

theorem State.laneStep_marker (f : State → State) (h : s.storeLost = false) : s.laneStep l ⟨0, none⟩ (fun _ => false) f = f s :=
  (State.laneStep_plain _ f h).trans (State.when_false _ _)

/-! ### The updates that a lane takes (R303, R309, R312, R331) -/

section
variable (hup : s.rf SG_LANE_STAT_STATE l = 0) (hst : s.storeLost = false)
include hup hst

theorem State.doSample_takes {sid w t c : Nat} (hn : s.laneNext l = some (.sample sid w t c)) :
    s.doSample l ⟨0, none⟩ = ((s.popLane l).sampleUpdate sid w t c).when ((s.popLane l).takesInput sid) (fun x => x.laneCount l) := by
  unfold State.doSample
  rw [State.laneUp_of_state hup, hn]
  exact State.laneStep_plain _ _ ((s.storeLost_popLane l).trans hst)

theorem State.doVoid_takes {sid t c : Nat} (hn : s.laneNext l = some (.void sid t c)) :
    s.doVoid l ⟨0, none⟩ = ((s.popLane l).voidUpdate sid t c).when ((s.popLane l).takesInput sid) (fun x => x.laneCount l) := by
  unfold State.doVoid
  rw [State.laneUp_of_state hup, hn]
  exact State.laneStep_plain _ _ ((s.storeLost_popLane l).trans hst)

theorem State.doDefinition_takes {sid cfg : Nat} (hn : s.laneNext l = some (.define sid cfg)) (ho : s.outAhead l sid = false) :
    s.doDefinition l ⟨0, none⟩ = ((s.popLane l).defineUpdate sid cfg).laneCount l := by
  unfold State.doDefinition
  rw [State.laneUp_of_state hup, hn]
  dsimp only
  rw [ho, if_neg Bool.false_ne_true]
  exact State.laneStep_update _ ((s.storeLost_popLane l).trans hst)

theorem State.doMarker_takes {p c x : Nat} (hn : s.laneNext l = some (.marker p c x)) : s.doMarker l ⟨0, none⟩ = (s.popLane l).takeMarker p c x := by
  unfold State.doMarker
  rw [State.laneUp_of_state hup, hn]
  exact State.laneStep_marker _ ((s.storeLost_popLane l).trans hst)

end

/-- The first sample held in front of a full queue is dropped, counted and recorded (R295). -/
theorem State.holdTimeout_drops {u : Upd} (hu : (s.laneHeld l).find? Upd.isSample = some u) :
    s.holdTimeout l =
      ((((s.setLaneHeld l ((s.laneHeld l).erase u)).bump rSG_DROP).raise (0x100 + l)).report { org := org 6 l, cause := 0x0603, cls := slate }) := by
  unfold State.holdTimeout
  dsimp only
  rw [hu]

/-! ### Outputs and fan-out (R321, R326) -/

/-- The slot whose owner the arbiter grants leaves the queue and is updated (R326). -/
theorem State.doOutput_granted {y : State} {i n : Nat} (hup : s.rf SG_LANE_STAT_STATE l = 0) (ho : s.takesOuts = true) (hf : s.fieldNext l = false)
    (hg : s.grant 4 (s.outReqs l) = (y, some i)) (hn : (y.outSlots l).find? (fun n => y.slotOwner n == i) = some n)
    (hst : ((y.setLaneQ l ((y.laneQ l).erase (.output n))).refillLane l).storeLost = false) :
    s.doOutput l ⟨0, none⟩ =
      ((((y.setLaneQ l ((y.laneQ l).erase (.output n))).refillLane l).outputUpdate n
        (Map.getD ((y.setLaneQ l ((y.laneQ l).erase (.output n))).refillLane l).sg.slots n 0)).laneCount l) := by
  unfold State.doOutput
  rw [State.laneUp_of_state hup, ho, hf, hg]
  dsimp only
  rw [hn, if_neg (by decide)]
  exact State.laneStep_update _ hst

theorem State.isStandby_of_regs {t : State} (h : t.regs = s.regs) : t.isStandby = s.isStandby := by
  unfold State.isStandby
  rw [State.rf_of_regs h]

theorem State.isStandby_withSg (s : State) (g : SgSt) : ({ s with sg := g } : State).isStandby = s.isStandby := State.isStandby_of_regs rfl

theorem State.isStandby_setSubs (s : State) (sid : Nat) (l : List Sub) : (s.setSubs sid l).isStandby = s.isStandby := State.isStandby_of_regs rfl

theorem State.fanOut_offered {i : Nat} {o : Offer} {q : List Offer} (hq : Map.getD s.sg.fan i [] = o :: q) (hs : s.isStandby = false) :
    s.fanOut i =
      ((s.liveSubs (Map.getD s.sg.subs o.sid [])).foldl (fun (x : State) (e : Sub) =>
          let m := if o.type = 1 then e.classes &&& o.classes else 7
          if m = 0 then x else x.eqPost e.inst e.gen (o.entry m e.gen))
        ({ s with sg := { s.sg with fan := if q.isEmpty then Map.del s.sg.fan i else Map.put s.sg.fan i q } }.setSubs o.sid
          (s.liveSubs (Map.getD s.sg.subs o.sid [])))).flushCycles := by
  unfold State.fanOut
  rw [hq]
  dsimp only
  rw [State.isStandby_setSubs, State.isStandby_withSg, hs, if_neg Bool.false_ne_true]
  rfl

/-! ### The loss of a lane and of the Signal Store (R335, R337) -/

/-- A lane below its recovery limit is lost: Retired for now, counted, recorded. -/
def State.laneLost (s : State) (l : Nat) : State :=
  ((((s.setUnit (org 6 l) (fun u => { u with st := 1 })).sf SG_LANE_STAT_STATE 1 l).raise (0x100 + l)).countLanes).report
    { org := org 6 l, cause := 0x0602, cls := ochre, react := 5 }

/-- A lane lost below its limit: its signals go to the first Up lane that it is paired with, if there is one. -/
theorem State.retireLane_below (hup : s.rf SG_LANE_STAT_STATE l = 0) (hr : s.recoveries (org 6 l) < s.rf FC_CFG_RECOV_LIMIT) {o : Option Nat}
    (ho : [8, 16, 24, 32, 40, 48, 56].find? (fun x => (s.laneLost l).rf SG_LANE_STAT_STATE (l ^^^ x) == 0) = o) :
    s.retireLane l = o.elim (s.laneLost l) (fun x => (s.laneLost l).moveLanes l (l ^^^ x) (fun _ => true)) := by
  have hout := State.outOfService_below s (org 6 l) hr
  fun_cases State.retireLane s l
  case case1 hdown => exact absurd hup hdown
  case case2 t ret ht _ u x hx =>
    obtain ⟨rfl, rfl⟩ := Prod.mk.inj (ht.symm.trans hout)
    obtain rfl : some x = o := hx.symm.trans ho
    rfl
  case case3 t ret ht _ u hx =>
    obtain ⟨rfl, rfl⟩ := Prod.mk.inj (ht.symm.trans hout)
    obtain rfl : none = o := hx.symm.trans ho
    rfl

/-- The lost Signal Store is marked, raised and recorded. -/
def State.storeMarkedLost (s : State) : State := ((s.sf SG_STAT_STORE 1).raise 0x140).report { org := org 7 0, cause := 0x0707, cls := ochre, react := 5 }

theorem State.storeLoss_up (h : s.rf SG_STAT_STORE ≠ 1) :
    s.storeLoss = if s.storeMarkedLost.canYield then s.storeMarkedLost.askTakeoverFor none else s.storeMarkedLost.storeEvents := by
  unfold State.storeLoss
  rw [State.storeLost_of_state h, if_neg Bool.false_ne_true]
  rfl

end

/-- Settles O27: a lane's commands by the entry at the front of its queue; the other clauses by the branch that their hypotheses name. -/
theorem lanesTakeTheirQueuesFanOutAndFail : Obligations.LanesTakeTheirQueuesFanOutAndFail := by
  refine ⟨fun s l hp hup hstore => ?_, fun s hp => ⟨?_, ?_, ?_, ?_⟩⟩
  · have hst := State.storeLost_of_state hstore
    intro y
    refine ⟨?_, ?_, ?_, ?_, ?_, ?_⟩
    · exact fun u q hq hu => ⟨State.laneNext_front hq hu, State.popLane_front hq hu⟩
    · exact fun sid w t c hn => does_of_run_eq (f := fun s => s.doSample l.val ⟨0, none⟩) hp rfl (State.doSample_takes hup hst hn)
    · exact fun sid t c hn => does_of_run_eq (f := fun s => s.doVoid l.val ⟨0, none⟩) hp rfl (State.doVoid_takes hup hst hn)
    · exact fun sid cfg hn ho => does_of_run_eq (f := fun s => s.doDefinition l.val ⟨0, none⟩) hp rfl (State.doDefinition_takes hup hst hn ho)
    · exact fun p c x hn => does_of_run_eq (f := fun s => s.doMarker l.val ⟨0, none⟩) hp rfl (State.doMarker_takes hup hst hn)
    · exact fun u hu => does_of_run_eq (f := fun s => s.holdTimeout l.val) hp rfl (State.holdTimeout_drops hu)
  · intro l i n y hup ho hf hg hn z hz
    exact does_of_run_eq (f := fun s => s.doOutput l.val ⟨0, none⟩) hp rfl (State.doOutput_granted hup ho hf hg hn hz)
  · intro i o q hq hs live
    exact does_of_run_eq (f := fun s => s.doFanOut i.val none) hp rfl (State.fanOut_offered hq hs)
  · intro l hup hr y
    have doesRetire {u : State} (h : s.retireLane l.val = u) : Does (.laneRetirement l) s u := does_of_run_eq (f := fun s => s.retireLane l.val) hp rfl h
    exact ⟨fun hnone => doesRetire (State.retireLane_below hup hr hnone), fun x hx => doesRetire (State.retireLane_below hup hr hx)⟩
  · intro h y
    have doesLoss {u : State} (hu : s.storeLoss = u) : Does .signalStoreLoss s u := does_of_run_eq (f := State.storeLoss) hp rfl hu
    exact ⟨fun hc => doesLoss ((State.storeLoss_up h).trans (if_pos hc)), fun hc => doesLoss ((State.storeLoss_up h).trans (if_neg (ne_true_of_eq_false hc)))⟩

end Sys2Proof.Machine
end

section
/-! PROOFS. The signal commands (08 R311-R316, R319, R334; 14 R594, R607). -/

namespace Sys2Proof.Machine

section
variable {s : State} {c : Cmd}

/-! ### SIGNAL_DEFINE (R311, R312) -/

theorem State.defineBegin_badLength (h : c.pay.length % 40 ≠ 0) : s.defineBegin c = s.finish c stBAD_PARAM [0, 0] := if_pos h

theorem State.defineBegin_whole (h : c.pay.length % 40 = 0) : s.defineBegin c = (s.mirrorCmd c).longPhase c 2 (c.pay.length / 40) [] :=
  if_neg (not_not_intro h)

/-- With every entry applied the operation ends. -/
theorem State.defineNext_end (hi : c.lop.items = []) (ht : c.lop.total ≤ c.lop.pos) : s.defineNext c = s.finish c stOK [c.lop.pos, 0] := by
  unfold State.defineNext
  dsimp only
  rw [hi, if_pos List.isEmpty_nil, if_pos ht]

/-! ### SIGNAL_MAP, SIGNAL_UNMAP, SIGNAL_QUERY (R315, R316) -/

/-- A mapping of record pages: its arguments are good, no mapping of the owner overlaps it, and stage 2 takes it. -/
theorem State.doSignalMap_records {y : State} (hw : s.wrongWorld c = false) (hm : s.mapState c.inst = true) (hk : c.p 0 = 0) (hn : 0 < c.p 2)
    (hr : c.p 1 + c.p 2 ≤ 2 ^ 21) (h1 : c.p 1 % 64 = 0) (h2 : c.p 2 % 64 = 0) (hc : s.sigClash c.inst ⟨0, c.p 1, c.p 2, c.p64 3 / 4096⟩ = false)
    (ha : c.p64 3 % 4096 = 0) (he : c.p64 3 + 4096 * (⟨0, c.p 1, c.p 2, c.p64 3 / 4096⟩ : SigMap).pages ≤ 2 ^ 46)
    (hb : s.tenantBusy c.inst (c.p64 3 / 4096) (⟨0, c.p 1, c.p 2, c.p64 3 / 4096⟩ : SigMap).pages = false)
    (hy : s.s2Map c.inst (c.p64 3 / 4096) (⟨0, c.p 1, c.p 2, c.p64 3 / 4096⟩ : SigMap).dpage (⟨0, c.p 1, c.p 2, c.p64 3 / 4096⟩ : SigMap).pages 1 3 false = some y) :
    s.doSignalMap c =
      ((y.setInst c.inst (fun r => { r with sigMaps := r.sigMaps ++ [⟨0, c.p 1, c.p 2, c.p64 3 / 4096⟩] })).mirrorCmd c).finish c stOK := by
  have hk2 : ¬ c.p 0 = 2 := by omega
  have hargs : (c.p 2 == 0 || decide (2 ^ 21 < c.p 1 + c.p 2) || (c.p 0 == 0 && (c.p 1 % 64 != 0 || c.p 2 % 64 != 0)) ||
      s.sigClash c.inst ⟨c.p 0, c.p 1, c.p 2, c.p64 3 / 4096⟩) = false := by
    simpa [hk, h1, h2, hc, hn.ne'] using hr
  unfold State.doSignalMap
  simp only [if_neg hk2, hargs]
  rw [hk, if_neg (by simp [hw, hm]), if_neg (by simpa [ha, hb] using he), if_neg (by simp), hy]

/-- A mapping that is not of output slots is taken out of stage 2 and of its owner's list. -/
theorem State.doSignalUnmap_found {m : SigMap} (hw : s.wrongWorld c = false) (hm : s.mapState c.inst = true) (hk : m.kind ≠ 2)
    (hf : (s.inst c.inst).sigMaps.find? (fun (x : SigMap) => x.kind == c.p 0 && x.first == c.p 1 && x.count == c.p 2) = some m) :
    s.doSignalUnmap c =
      (((s.s2Unmap c.inst m.tpage m.pages 3).setInst c.inst
        (fun r => { r with sigMaps := r.sigMaps.filter (fun (x : SigMap) => !(x == m)) })).mirrorCmd c).finish c stOK := by
  unfold State.doSignalUnmap
  simp [hw, hm, hk, hf]

theorem State.doSignalQuery_written {y : State}
    (hy : s.bufWrite c (c.p64 1) (toBytes (s.sgRd (0x08000000 + 64 * c.p 0) 64) 64) = (y, true)) :
    s.doSignalQuery c = y.finish c stOK [laneOf (c.p 0) + y.rf SG_LANE_STAT_HOME (laneOf (c.p 0)) * 256] := by
  unfold State.doSignalQuery
  dsimp only
  rw [hy]

/-! ### Subscriptions to cycles (R319) -/

theorem State.doSubscribe_cycle (hi : s.ist c.inst ≠ 0) (hw : s.wrongWorld c = false) (hk : bit (c.p 0) 0 = true) (hp : c.p 1 < 32) (hn : c.p 2 = 0) :
    s.doSubscribe c =
      (({ s with sg := { s.sg with cycSubs := Map.put s.sg.cycSubs (c.p 1) (withSub (Map.getD s.sg.cycSubs (c.p 1) []) ⟨c.inst, s.gen c.inst, bits (c.p 0) 3 1⟩) } } :
        State).mirrorCmd c).finish c stOK [1] := by
  unfold State.doSubscribe
  dsimp only
  rw [if_neg (by simp [hi, hw]), if_pos hk, if_neg (by omega)]

theorem State.doUnsubscribe_cycle (hi : s.ist c.inst ≠ 0) (hw : s.wrongWorld c = false) (hk : bit (c.p 0) 0 = true) (hp : c.p 1 < 32) (hn : c.p 2 = 0) :
    s.doUnsubscribe c =
      (({ s with sg := { s.sg with cycSubs := (dropSub s.sg.cycSubs (c.p 1) c.inst).1 } } : State).mirrorCmd c).finish c stOK
        [(dropSub s.sg.cycSubs (c.p 1) c.inst).2] := by
  unfold State.doUnsubscribe
  dsimp only
  rw [if_neg (by simp [hi, hw]), if_pos hk, if_neg (by omega)]

/-! ### Reprocessing and conversion tables (R304, R314, R334) -/

theorem State.reprocBegin_free (hn : 0 < c.p 1) (hr : c.p 0 + c.p 1 ≤ 2 ^ 21) (hb : s.rb SG_REPROC_BUSY = false) {l : List Nat}
    (hl : ((List.range (c.p 1)).map (c.p 0 + ·)).filter (fun i => recDef (s.sigRec i) && recCorr (s.sigRec i)) = l) :
    s.reprocBegin c =
      ((((({ s with sg := { s.sg with reproc := l } } : State).sf SG_REPROC_BUSY 1).sf SG_REPROC_TOTAL l.length).sf SG_REPROC_POS 0).mirrorCmd c).longPhase
        c 2 l.length [] := by
  unfold State.reprocBegin
  dsimp only
  rw [if_neg (by omega), hb, if_neg Bool.false_ne_true, hl]

/-- The next signal of a reprocessing, corrected and of a lane that is Up: the lane's checks, the corridor test over its history, the progress. -/
theorem State.reprocSignal_next {sid : Nat} {r : List Nat} (hr : s.sg.reproc = sid :: r) (hd : recDef (s.sigRec sid) = true) (hc : recCorr (s.sigRec sid) = true)
    (hx : s.longCmd 0x0420 (fun c => c.lop.cancel) = none) (hup : s.rf SG_LANE_STAT_STATE (s.rf SG_LANE_STAT_HOME (laneOf sid)) = 0) (hst : s.rf SG_STAT_STORE ≠ 1) :
    s.reprocSignal =
      (((((s.fresh 2).2.laneRepeats (s.rf SG_LANE_STAT_HOME (laneOf sid)) ((s.fresh 2).1 % 3)).reprocessOne sid).laneCount
        (s.rf SG_LANE_STAT_HOME (laneOf sid))).reprocDone r) := by
  have hstep := State.laneStep_up (s.fresh 2).2 (s.rf SG_LANE_STAT_HOME (laneOf sid)) ⟨(s.fresh 2).1 % 3, Nat.mod_lt _ (by decide)⟩ (fun _ => true)
    (fun s => s.reprocessOne sid) ((State.storeLost_of_regs rfl).trans (State.storeLost_of_state hst))
  unfold State.reprocSignal
  rw [hr]
  dsimp only
  rw [hx, State.laneUp_of_state hup, hd, hc, if_neg (by decide), if_pos (by decide), hstep, State.when_true]

/-- A legal table that no defined signal names is written and listed. -/
theorem State.doTableLoad_legal (hl : c.pay.length = 256) (ht : tableOk c.pay = true)
    (hn : s.definedSids.filter (fun i => recMode (s.sigRec i) == 2 && recTable (s.sigRec i) == c.p 0) = []) {y : State}
    (hy : s.sgWr (0x12200000 + 256 * c.p 0) 256 (ofBytes c.pay) = y) :
    s.doTableLoad c =
      (({ y with sg := { y.sg with tables := if y.sg.tables.contains (c.p 0) then y.sg.tables else y.sg.tables ++ [c.p 0] } } : State).mirrorCmd c).finish c stOK := by
  unfold State.doTableLoad
  dsimp only
  rw [if_neg (by simp [hl, ht]), hn, if_neg (by simp), hy]

end

/-- Settles O29: each row runs on the command that starts, in the branch that the hypotheses name. -/
theorem signalCommandsAnswer : Obligations.SignalCommandsAnswer := by
  intro s c hp
  have doesDefine {u : State} (h : s.onLong 0x0401 State.defineBegin State.defineNext = u) : Does .signalDefine s u :=
    does_of_run_eq (f := fun s => s.onLong 0x0401 State.defineBegin State.defineNext) hp rfl h
  refine ⟨fun h hl => ?_, fun h hl => ?_, fun h hf hc hi ht => ?_, ?_, fun m h hw hm hk hf => ?_, fun y h hy => ?_, fun h hi hw hk hp1 hn => ?_, fun h hi hw hk hp1 hn => ?_,
    fun h hn hr hb => ?_, fun sid r hr hd hc => ?_, fun h hl ht hn => ?_⟩
  · exact doesDefine ((State.onLong_starts h _ _).trans (State.defineBegin_badLength hl))
  · exact doesDefine ((State.onLong_starts h _ _).trans (State.defineBegin_whole hl))
  · exact doesDefine ((State.onLong_next h hf _ _).trans (by rw [hc, State.defineNext_end hi ht]))
  · intro y h hw hm hk hn hr h1 h2 m hclash ha he hb hy
    exact does_of_run_eq (f := fun s => s.onCmd 0x0402 (fun _ => true) State.doSignalMap) hp rfl
      ((State.onCmd_starts h _).trans (State.doSignalMap_records hw hm hk hn hr h1 h2 hclash ha he hb hy))
  · exact does_of_run_eq (f := fun s => s.onCmd 0x0403 (fun _ => true) State.doSignalUnmap) hp rfl
      ((State.onCmd_starts h _).trans (State.doSignalUnmap_found hw hm hk hf))
  · exact does_of_run_eq (f := fun s => s.onCmd 0x0404 (fun _ => true) State.doSignalQuery) hp rfl ((State.onCmd_starts h _).trans (State.doSignalQuery_written hy))
  · exact does_of_run_eq (f := fun s => s.onCmd 0x0410 (fun _ => true) State.doSubscribe) hp rfl
      ((State.onCmd_starts h _).trans (State.doSubscribe_cycle hi hw hk hp1 hn))
  · exact does_of_run_eq (f := fun s => s.onCmd 0x0411 (fun _ => true) State.doUnsubscribe) hp rfl
      ((State.onCmd_starts h _).trans (State.doUnsubscribe_cycle hi hw hk hp1 hn))
  · exact does_of_run_eq (f := fun s => s.onLong 0x0420 State.reprocBegin State.reprocNext) hp rfl
      ((State.onLong_starts h _ _).trans (State.reprocBegin_free hn hr hb rfl))
  · intro l hx hup hst
    exact does_of_run_eq (f := State.reprocSignal) hp rfl (State.reprocSignal_next hr hd hc hx hup hst)
  · exact does_of_run_eq (f := fun s => s.onCmd 0x0430 (fun _ => true) State.doTableLoad) hp rfl
      ((State.onCmd_starts h _).trans (State.doTableLoad_legal hl ht hn rfl))

end Sys2Proof.Machine
end

section
/-! PROOFS. The bytes of the Signal Store (08 R299): what each write of the Signal Plane leaves of the records, the mirrors, the history and the corridor blocks. -/

namespace Sys2Proof.Machine

/-! ### Reads that agree -/

theorem Bytes.rdN_congr {m k : Bytes} (n a : Nat) (h : ∀ i, a ≤ i → i < a + n → Bytes.rd k i = Bytes.rd m i) : Bytes.rdN k a n = Bytes.rdN m a n := by
  induction n generalizing a with
  | zero => rfl
  | succ n ih =>
    unfold Bytes.rdN
    rw [h a (by omega) (by omega), ih (a + 1) (fun i h1 h2 => h i (by omega) (by omega))]

theorem Bytes.rdN_eq_zero {m : Bytes} (n a : Nat) (h : ∀ i, a ≤ i → i < a + n → Bytes.rd m i = 0) : Bytes.rdN m a n = 0 := by
  induction n generalizing a with
  | zero => rfl
  | succ n ih =>
    unfold Bytes.rdN
    rw [h a (by omega) (by omega), ih (a + 1) (fun i h1 h2 => h i (by omega) (by omega))]
    rfl

/-- A store with the entries of some addresses alone. -/
theorem Map.find_filter_key {α : Type} (p : Nat → Bool) (m : Map α) (k : Nat) : Map.find (m.filter (fun e => p e.1)) k = if p k then Map.find m k else none := by
  induction m with
  | nil => simp
  | cons e r ih =>
    obtain ⟨j, x⟩ := e
    cases hj : p j with
    | true =>
      rw [List.filter_cons_of_pos (by simpa using hj), Map.find_cons, Map.find_cons, ih]
      by_cases hk : j = k
      · rw [if_pos hk, if_pos hk, if_pos (hk ▸ hj)]
      · rw [if_neg hk, if_neg hk]
    | false =>
      rw [List.filter_cons_of_neg (by simpa using hj), Map.find_cons, ih]
      by_cases hk : j = k
      · rw [if_neg (by simp [← hk, hj]), if_neg (by simp [← hk, hj])]
      · rw [if_neg hk]

theorem Bytes.rd_filter (p : Nat → Bool) (m : Bytes) (a : Nat) : Bytes.rd (m.filter (fun e => p e.1)) a = if p a then Bytes.rd m a else 0 := by
  have hf := Map.find_filter_key p m a
  unfold Bytes.rd Map.getD
  rw [hf]
  split <;> rfl

/-- A byte of the Signal Store. -/
def State.sgByte (s : State) (a : Nat) : BitVec 8 := Bytes.rd s.sg.store a

section
variable {s t : State}

theorem State.sgByte_of_sg (h : t.sg = s.sg) (a : Nat) : t.sgByte a = s.sgByte a := by
  unfold State.sgByte
  rw [h]

theorem State.sgByte_of_store (h : t.sg.store = s.sg.store) (a : Nat) : t.sgByte a = s.sgByte a := by
  unfold State.sgByte
  rw [h]

/-- Updates that leave everything but memory and registers leave the Signal Store. -/
theorem State.sgByte_of_sansMemory (h : t.sansMemory = s.sansMemory) (a : Nat) : t.sgByte a = s.sgByte a :=
  State.sgByte_of_sg (congrArg State.sg h) a

theorem State.sgRd_congr {off n : Nat} (h : ∀ a, off ≤ a → a < off + n → t.sgByte a = s.sgByte a) : t.sgRd off n = s.sgRd off n := Bytes.rdN_congr n off h

theorem State.sigRec_congr {x : Nat} (h : ∀ a, 64 * x ≤ a → a < 64 * x + 64 → t.sgByte a = s.sgByte a) : t.sigRec x = s.sigRec x := State.sgRd_congr h

theorem State.corrBlk_congr {x : Nat} (h : ∀ a, 0x10000000 + 16 * x ≤ a → a < 0x10000000 + 16 * x + 16 → t.sgByte a = s.sgByte a) : t.corrBlk x = s.corrBlk x :=
  State.sgRd_congr h

theorem State.sgByte_each {α : Type} {l : List α} {f : State → α → State} {a : Nat} (h : ∀ x e, (f x e).sgByte a = x.sgByte a) : (s.each l f).sgByte a = s.sgByte a :=
  foldl_keeps (fun (x : State) => x.sgByte a = s.sgByte a) _ _ _ rfl (fun x e hx _ => (h x e).trans hx)

theorem State.sgByte_when {c : Bool} {f : State → State} {a : Nat} (h : (f s).sgByte a = s.sgByte a) : (s.when c f).sgByte a = s.sgByte a := by
  cases c
  · rfl
  · exact h

end

variable (s : State)

/-! ### Writes -/

theorem State.sgRd_sgWr (off n v : Nat) : (s.sgWr off n v).sgRd off n = v % 2 ^ (8 * n) := by
  rw [pow_mul]
  exact Bytes.rdN_wrN_same ..

theorem State.sgByte_sgWr {off n a : Nat} (v : Nat) (h : a < off ∨ off + n ≤ a) : (s.sgWr off n v).sgByte a = s.sgByte a := Bytes.rd_wrN_other _ _ _ _ _ h

theorem State.sigRec_setRec (sid v : Nat) : (s.setRec sid v).sigRec sid = v % 2 ^ 512 :=
  (s.sgRd_sgWr _ _ _).trans (congrArg (fun k => v % 2 ^ k) (by decide : 8 * 64 = 512))

theorem State.sgByte_setRec {sid a : Nat} (v : Nat) (h : a < 64 * sid ∨ 64 * sid + 64 ≤ a) : (s.setRec sid v).sgByte a = s.sgByte a := s.sgByte_sgWr v h

theorem State.corrBlk_setCorrBlk (sid v : Nat) : (s.setCorrBlk sid v).corrBlk sid = v % 2 ^ 128 := s.sgRd_sgWr ..

theorem State.sgByte_setCorrBlk {sid a : Nat} (v : Nat) (h : a < 0x10000000 + 16 * sid ∨ 0x10000000 + 16 * sid + 16 ≤ a) : (s.setCorrBlk sid v).sgByte a = s.sgByte a :=
  s.sgByte_sgWr v h

@[simp] theorem State.sgByte_sf (f : RF) (v i a : Nat) : (s.sf f v i).sgByte a = s.sgByte a := State.sgByte_of_sg (s.sf_sg f v i) a

/-! ### Staging and offers (R321, R333) -/

theorem State.raiseMs_sg (n : Nat) : (s.raiseMs n).sg = s.sg := (congrArg State.sg (s.raiseMs_sansMemory n) :)

theorem State.pmEvent_sg (ev unit : Nat) (inst : Option Nat) (n : Nat) : (s.pmEvent ev unit inst n).sg = s.sg := (congrArg State.sg (s.pmEvent_sansMemory ev unit inst n) :)

theorem State.czStarve_sg : s.czStarve.sg = s.sg :=
  iteInduction (motive := fun (t : State) => t.sg = s.sg) (fun _ => ((State.raiseMs_sg _ _).trans (State.sf_sg ..)).trans (State.sb_sg ..))
    (fun _ => (State.sf_sg ..).trans (State.sb_sg ..))

theorem State.sgByte_withGaps (g r : List Nat) (a : Nat) : ({ s with sg := { s.sg with gaps := g, regap := r } } : State).sgByte a = s.sgByte a := rfl

/-- A staging entry is written in the staging area alone. -/
theorem State.sgByte_stage (sid time word kind : Nat) {a : Nat} (h : a < 0x240000000) : (s.stage sid time word kind).sgByte a = s.sgByte a := by
  have hlost : ((s.bump rSG_STAGE_LOST).raiseMs 0x143).sg = s.sg := (State.raiseMs_sg _ _).trans (s.bump_sg _ _ _)
  have hput (l p v : Nat) : (s.sgWr (0x240000000 + l * 0xF000000 + 16 * p) 16 v).sgByte a = s.sgByte a := s.sgByte_sgWr v (by omega)
  have hhead (x : State) (l v : Nat) : (x.wreg rSG_STAGE_HEAD l v).czStarve.sgByte a = x.sgByte a := State.sgByte_of_sg ((State.czStarve_sg _).trans (x.wreg_sg ..)) a
  have hraise (x : State) (n : Nat) : (x.raise n).sgByte a = x.sgByte a := State.sgByte_of_sg (x.raise_sg n) a
  exact iteInduction (motive := fun (x : State) => x.sgByte a = s.sgByte a)
    (fun _ => iteInduction (motive := fun (x : State) => x.sgByte a = s.sgByte a) (fun _ => State.sgByte_of_sg hlost a)
      (fun _ => State.sgByte_of_store (congrArg SgSt.store hlost) a))
    (fun _ => iteInduction (motive := fun (x : State) => x.sgByte a = s.sgByte a)
      (fun _ => (hraise _ _).trans ((hhead _ _ _).trans ((State.sgByte_withGaps _ _ _ a).trans (hput _ _ _))))
      (fun _ => (hhead _ _ _).trans ((State.sgByte_withGaps _ _ _ a).trans (hput _ _ _))))

theorem State.offer_store (o : Offer) : (s.offer o).sg.store = s.sg.store := by
  unfold State.offer
  dsimp only
  split
  · rfl
  · split
    · rw [State.raiseMs_sg, State.bump_sg]
    · rw [State.pmEvent_sg]

theorem State.sgByte_offerCorridor (sid old t w : Nat) {a : Nat} (h : a < 0x10000000) : (s.offerCorridor sid old t w).sgByte a = s.sgByte a := by
  unfold State.offerCorridor
  split
  · exact (State.sgByte_setCorrBlk _ _ (by omega)).trans (State.sgByte_each (fun x p => x.sgByte_stage sid p.1 p.2 0 (by omega)))
  · rfl

theorem State.sgByte_closeCorridor (sid old t w : Nat) {a : Nat} (h : a < 0x10000000) : (s.closeCorridor sid old t w).sgByte a = s.sgByte a := by
  have hstage (x : State) (t w k : Nat) : (x.stage sid t w k).sgByte a = x.sgByte a := x.sgByte_stage sid t w k (by omega)
  unfold State.closeCorridor
  dsimp only
  split
  · rw [State.sgByte_setCorrBlk _ _ (by omega), hstage]
    split
    · exact hstage ..
    · rfl
  · rfl

end Sys2Proof.Machine
end

section
/-! PROOFS. The fields of a signal record (08 R300): what SIGNIFICANCE leaves of the record that an update makes (R306), and the words that samples and voids write (R303-R309). -/

namespace Sys2Proof.Machine

/-! ### Bits -/

theorem bit_eq_decide (n i : Nat) : bit n i = decide (n / 2 ^ i % 2 = 1) := Nat.testBit_eq_decide_div_mod_eq

theorem bits_eq_div_mod (n hi lo : Nat) : bits n hi lo = n / 2 ^ lo % 2 ^ (hi + 1 - lo) := by
  rw [bits, Nat.shiftRight_eq_div_pow]

/-- A part of a field just written with zero. -/
theorem bits_setBits_zero (n : Nat) {hi lo hi' lo' : Nat} (h : lo ≤ hi + 1) (h1 : lo ≤ lo') (h2 : hi' ≤ hi) : bits (setBits n hi lo 0) hi' lo' = 0 := by
  apply Nat.eq_of_testBit_eq
  intro k
  rw [testBit_bits, testBit_setBits _ _ _ _ _ h, Nat.zero_testBit, Nat.zero_testBit]
  by_cases hk : k < hi' + 1 - lo'
  · rw [if_neg (by omega), if_pos (by omega), Bool.and_false]
  · rw [decide_eq_false hk, Bool.false_and]

theorem b2n_le_one (b : Bool) : b2n b ≤ 1 := by cases b <;> decide

theorem recCfg_eq_bits (r : Nat) : recCfg r = bits r 511 224 :=
  (congrArg (fun k => r / 2 ^ 224 % 2 ^ k) (by decide : 288 = 511 + 1 - 224)).trans (bits_eq_div_mod r 511 224).symm

/-! ### SIGNIFICANCE (R306) -/

/-- v agrees with a record in every field but SIG and HPOS. -/
def SameButSig (v new : Nat) : Prop := ∀ hi lo, hi < 512 → hi < 32 ∨ 63 < lo → hi < 160 ∨ 167 < lo → bits v hi lo = bits new hi lo

section
variable {v new : Nat} (h : SameButSig v new)
include h

theorem SameButSig.eng : recEng v = recEng new := h 31 0 (by decide) (by decide) (by decide)
theorem SameButSig.time : recTime v = recTime new := h 127 64 (by decide) (by decide) (by decide)
theorem SameButSig.cycle : recCycle v = recCycle new := h 159 128 (by decide) (by decide) (by decide)
theorem SameButSig.alm : recAlm v = recAlm new := h 171 168 (by decide) (by decide) (by decide)
theorem SameButSig.upd : recUpd v = recUpd new := h 191 176 (by decide) (by decide) (by decide)
theorem SameButSig.dcnt {k : Nat} (hk : k < 4) : recDcnt v k = recDcnt new k := h _ _ (by omega) (by omega) (by omega)
theorem SameButSig.cfg : recCfg v = recCfg new := by
  rw [recCfg_eq_bits, recCfg_eq_bits]
  exact h 511 224 (by decide) (by decide) (by decide)

end

/-- SIG and HPOS, written or not, change no other field. -/
theorem sameButSig_writes (sig hist : Bool) (new e k : Nat) :
    SameButSig ((if hist then setBits (if sig then setBits new 63 32 e else new) 167 160 k else if sig then setBits new 63 32 e else new) % 2 ^ 512) new := by
  intro hi lo hw hs hh
  have h1 : bits (if sig then setBits new 63 32 e else new) hi lo = bits new hi lo := by
    cases sig
    · rfl
    · exact bits_setBits_other _ _ _ _ _ _ (by decide) hs
  rw [bits_mod _ _ _ _ hw]
  cases hist
  · exact h1
  · exact (bits_setBits_other _ _ _ _ _ _ (by decide) hh).trans h1

section
variable (s : State) (sid old new : Nat)

/-- SIGNIFICANCE writes an entry of the history, and then the record with SIG and HPOS. -/
theorem State.significance_store :
    ∃ (x : State) (v : Nat), (s.significance sid old new).sg.store = (x.setRec sid v).sg.store ∧ (∀ a, a < 0x40000000 → x.sgByte a = s.sgByte a) ∧
      SameButSig (v % 2 ^ 512) new := by
  have hhist (c : Bool) (g : List Nat) (k v a : Nat) (ha : a < 0x40000000) :
      (if c then ({ s with sg := { s.sg with bad := g } } : State).sgWr (0x40000000 + 4096 * sid + 16 * k) 16 v else s).sgByte a = s.sgByte a := by
    cases c
    · rfl
    · exact State.sgByte_sgWr _ v (by omega)
  have hevent (x : State) (c : Bool) : (x.when c (fun x => x.pmEvent 0x0502 (laneOf sid))).sg.store = x.sg.store := by
    cases c
    · rfl
    · exact (congrArg SgSt.store (x.pmEvent_sg 0x0502 (laneOf sid) none 1) :)
  fun_cases State.significance s sid old new
  case case1 =>
    exact ⟨_, _, (State.offer_store _ _).trans (hevent _ _), fun a ha => hhist _ _ _ _ a ha, sameButSig_writes _ _ _ _ _⟩
  case case2 =>
    exact ⟨_, _, hevent _ _, fun a ha => hhist _ _ _ _ a ha, sameButSig_writes _ _ _ _ _⟩

theorem State.significance_record : SameButSig ((s.significance sid old new).sigRec sid) new := by
  obtain ⟨x, v, hstore, -, hv⟩ := s.significance_store sid old new
  rw [State.sigRec_congr (s := x.setRec sid v) (fun a _ _ => State.sgByte_of_store hstore a), State.sigRec_setRec]
  exact hv

theorem State.sgByte_significance {a : Nat} (ha : a < 0x40000000) (h : a < 64 * sid ∨ 64 * sid + 64 ≤ a) : (s.significance sid old new).sgByte a = s.sgByte a := by
  obtain ⟨x, v, hstore, hx, -⟩ := s.significance_store sid old new
  exact (State.sgByte_of_store hstore a).trans ((x.sgByte_setRec v h).trans (hx a ha))

end

end Sys2Proof.Machine
end

section
/-! PROOFS. What a sample, a void update and a definition leave in the records (08 R300-R312). -/

namespace Sys2Proof.Machine

/-! ### Numbers (R117, R118, R304, R305) -/

/-- A number of 24 bits is what its pattern says, whatever is beside the pattern. -/
theorem sval_of_wrap {v : Int} {e : Nat} (h1 : -8388608 ≤ v) (h2 : v ≤ 8388607) (he : e % 2 ^ 24 = wrapInt 24 v) : sval e = v := by
  unfold sval sextInt
  unfold wrapInt at he
  dsimp only
  split <;> omega

theorem sat24_range (x : Int) : -8388608 ≤ (sat24 x).1 ∧ (sat24 x).1 ≤ 8388607 := by
  unfold sat24
  split
  · decide
  · split
    · decide
    · dsimp only
      omega

theorem sextInt24_range (n : Nat) : -8388608 ≤ sextInt 24 n ∧ sextInt 24 n ≤ 8388607 := by
  unfold sextInt
  dsimp only
  split <;> omega

/-- A point between two others of a table lies between their values, rounded (R304). -/
theorem interpolate_range {x d y : Int} (h0 : 0 ≤ x) (h1 : x ≤ d) :
    min 0 y ≤ (2 * x * y + d) / (2 * d) ∧ (2 * x * y + d) / (2 * d) ≤ max 0 y := by
  rcases h0.trans h1 |>.eq_or_lt with hd | hd
  · subst hd
    simp
  · have hd2 : 0 < 2 * d := by omega
    have hy : 0 ≤ y ∨ y ≤ 0 := le_total 0 y
    refine ⟨(Int.le_ediv_iff_mul_le hd2).2 ?_, Int.lt_add_one_iff.1 (Int.ediv_lt_of_lt_mul hd2 ?_)⟩
    · rcases hy with hy | hy
      · rw [min_eq_left hy]
        nlinarith [mul_nonneg h0 hy]
      · rw [min_eq_right hy]
        nlinarith [mul_le_mul_of_nonneg_right h1 (neg_nonneg.mpr hy)]
    · rcases hy with hy | hy
      · rw [max_eq_right hy]
        nlinarith [mul_le_mul_of_nonneg_right h1 hy]
      · rw [max_eq_left hy]
        nlinarith [mul_nonneg h0 (neg_nonneg.mpr hy)]

/-- The segment of a conversion table that CONVERSION takes holds the raw value (R304). -/
theorem tableSegment_holds (p : Nat → Int) {rv : Int} (h0 : p 0 ≤ rv) (h16 : rv ≤ p 16) {k : Nat}
    (hk : ((List.range 16).find? (fun k => decide (rv ≤ p (k + 1)))).getD 15 = k) : p k ≤ rv ∧ rv ≤ p (k + 1) := by
  cases hf : (List.range 16).find? (fun k => decide (rv ≤ p (k + 1))) with
  | none =>
    have h15 := List.find?_eq_none.1 hf 15 (by decide)
    exact absurd (decide_eq_true h16) h15
  | some i =>
    obtain rfl : i = k := by rw [← hk, hf, Option.getD_some]
    obtain ⟨hi, -, hlow⟩ := List.find?_range_eq_some.1 hf
    refine ⟨?_, of_decide_eq_true hi⟩
    cases i with
    | zero => exact h0
    | succ j =>
      have hj := hlow j (Nat.lt_succ_self j)
      simp only [Bool.not_eq_true', decide_eq_false_iff_not, not_le] at hj
      exact hj.le

/-- CONVERSION answers a number of 24 bits (R304). -/
theorem State.convert_range (s : State) (r : Nat) (rv : Int) : -8388608 ≤ (s.convert r rv).1 ∧ (s.convert r rv).1 ≤ 8388607 := by
  fun_cases State.convert s r rv
  case case1 => exact sat24_range _
  case case2 => exact sextInt24_range _
  case case3 => exact sextInt24_range _
  case case4 p h0 h16 k a b d =>
    have hseg : a.1 ≤ rv ∧ rv ≤ b.1 := tableSegment_holds (fun k => (p k).1) (not_lt.1 h0) (not_lt.1 h16) rfl
    have hmid := interpolate_range (x := rv - a.1) (d := d) (y := b.2 - a.2) (by omega) (by omega)
    have ha : -8388608 ≤ a.2 ∧ a.2 ≤ 8388607 := sextInt24_range _
    have hb : -8388608 ≤ b.2 ∧ b.2 ≤ 8388607 := sextInt24_range _
    dsimp only
    omega
  case case5 => exact sat24_range _

/-- The four alarm bits (R305). -/
theorem alarmBits_lt (p : Nat → Bool) : (List.range 4).foldl (fun a k => a + (if p k then 2 ^ k else 0)) 0 < 16 := by
  simp only [show List.range 4 = [0, 1, 2, 3] from rfl, List.foldl_cons, List.foldl_nil]
  split_ifs <;> decide

theorem alarms_lt (r : Nat) (v : Int) (q : Nat) : (alarms r v q).1 < 16 := by
  unfold alarms
  split
  · exact alarmBits_lt (fun k => bit (recLim r k) 31 && bit (recAlm r) k)
  · exact alarmBits_lt (fun k => (alarmOne r v k).1)

/-! ### The word and the record of a sample (R303) -/

/-- The quality of a converted sample: invalid or overflowed inputs and clamped values are uncertain at best. -/
def sampleQuality (w : Nat) (clamped : Bool) : Nat := max (bits w 25 24) (if bit w 26 = true ∨ bit w 27 = true ∨ clamped = true then 1 else 0)

theorem sampleQuality_lt (w : Nat) (clamped : Bool) : sampleQuality w clamped < 4 := by
  have := bits_lt w 25 24
  unfold sampleQuality
  split <;> omega

/-- The word of a sample that the rate-of-change test does not touch. -/
def sampleWord (w : Nat) (v : Int) (clamped : Bool) (q alm : Nat) : Nat :=
  wrapInt 24 v + q * 2 ^ 24 + bits w 28 26 * 2 ^ 26 + b2n clamped * 2 ^ 29 + b2n false * 2 ^ 30 + b2n (alm != 0) * 2 ^ 31

theorem sampleWord_fields (w : Nat) (v : Int) (clamped : Bool) {q : Nat} (alm : Nat) (hq : q < 4) :
    let e := sampleWord w v clamped q alm
    e < 2 ^ 32 ∧ e % 2 ^ 24 = wrapInt 24 v ∧ bits e 25 24 = q ∧ bits e 28 26 = bits w 28 26 ∧ bit e 29 = clamped ∧ bit e 30 = false := by
  have hv : wrapInt 24 v < 2 ^ 24 := by unfold wrapInt; omega
  have hf : bits w 28 26 < 2 ^ 3 := bits_lt w 28 26
  have ha := b2n_le_one (alm != 0)
  have hc := b2n_le_one clamped
  have hclamped : clamped = decide (b2n clamped = 1) := by cases clamped <;> rfl
  have h0 : b2n false = 0 := rfl
  intro e
  have he : e = wrapInt 24 v + q * 2 ^ 24 + bits w 28 26 * 2 ^ 26 + b2n clamped * 2 ^ 29 + b2n false * 2 ^ 30 + b2n (alm != 0) * 2 ^ 31 := rfl
  clear_value e
  generalize bits w 28 26 = f at *
  simp only [bits_eq_div_mod, bit_eq_decide]
  refine ⟨by omega, by omega, by omega, by omega, ?_, ?_⟩
  · rw [hclamped]
    congr 1
    rw [eq_iff_iff]
    omega
  · rw [decide_eq_false_iff_not]
    omega

/-- The record that a sample makes, SIG and HPOS still those of before. -/
def sampleRecord (r eng t c alm dcnt : Nat) : Nat :=
  setBits (setBits (setBits (setBits (setBits (setBits r 31 0 eng) 127 64 t) 159 128 c) 191 176 ((recUpd r + 1) % 65536)) 171 168 alm) 223 192 dcnt

section
variable (r : Nat) {eng t c alm : Nat} (dcnt : Nat)

theorem sampleRecord_eng (h : eng < 2 ^ 32) : recEng (sampleRecord r eng t c alm dcnt) = eng := by
  simpa [recEng, sampleRecord, bits_setBits_other, bits_setBits_same] using h

theorem sampleRecord_time (h : t < 2 ^ 64) : recTime (sampleRecord r eng t c alm dcnt) = t := by
  simpa [recTime, sampleRecord, bits_setBits_other, bits_setBits_same] using h

theorem sampleRecord_cycle (h : c < 2 ^ 32) : recCycle (sampleRecord r eng t c alm dcnt) = c := by
  simpa [recCycle, sampleRecord, bits_setBits_other, bits_setBits_same] using h

theorem sampleRecord_upd : recUpd (sampleRecord r eng t c alm dcnt) = (recUpd r + 1) % 65536 := by
  have h : bits (sampleRecord r eng t c alm dcnt) 191 176 = (recUpd r + 1) % 65536 % 2 ^ 16 := by
    simp [sampleRecord, bits_setBits_other, bits_setBits_same]
  exact h.trans (Nat.mod_mod _ _)

theorem sampleRecord_alm (h : alm < 16) : recAlm (sampleRecord r eng t c alm dcnt) = alm := by
  simpa [recAlm, sampleRecord, bits_setBits_other, bits_setBits_same] using h

theorem sampleRecord_cfg : recCfg (sampleRecord r eng t c alm dcnt) = recCfg r := by
  rw [recCfg_eq_bits, recCfg_eq_bits]
  simp only [sampleRecord, bits_setBits_other, Nat.reduceLeDiff, Nat.reduceLT, Nat.reduceAdd, or_true]

end

/-- The word of a void update: the last one, its quality bad (R309). -/
def voidWord (r : Nat) : Nat := setBits (recEng r) 25 24 2

/-- The record that a void update makes, SIG and HPOS still those of before. -/
def voidRecord (r t c : Nat) : Nat :=
  setBits (setBits (setBits (setBits (setBits r 31 0 (voidWord r)) 127 64 t) 159 128 c) 191 176 (recUpd r + 1)) 223 192 0

section
variable (r : Nat) {t c : Nat}

theorem voidRecord_eng : recEng (voidRecord r t c) = voidWord r := by
  have hw : voidWord r < 2 ^ 32 := setBits_lt _ _ _ _ _ (by decide) (by decide) (bits_lt r 31 0)
  simpa [recEng, voidRecord, bits_setBits_other, bits_setBits_same] using hw

theorem voidRecord_time (h : t < 2 ^ 64) : recTime (voidRecord r t c) = t := by
  simpa [recTime, voidRecord, bits_setBits_other, bits_setBits_same] using h

theorem voidRecord_cycle (h : c < 2 ^ 32) : recCycle (voidRecord r t c) = c := by
  simpa [recCycle, voidRecord, bits_setBits_other, bits_setBits_same] using h

theorem voidRecord_upd : recUpd (voidRecord r t c) = (recUpd r + 1) % 65536 := by
  have h : bits (voidRecord r t c) 191 176 = (recUpd r + 1) % 2 ^ 16 := by simp [voidRecord, bits_setBits_other, bits_setBits_same]
  exact h

theorem voidRecord_alm : recAlm (voidRecord r t c) = recAlm r := by simp [recAlm, voidRecord, bits_setBits_other]

theorem voidRecord_dcnt {k : Nat} (hk : k < 4) : recDcnt (voidRecord r t c) k = 0 := bits_setBits_zero _ (by decide) (by omega) (by omega)

theorem voidRecord_cfg : recCfg (voidRecord r t c) = recCfg r := by
  rw [recCfg_eq_bits, recCfg_eq_bits]
  simp only [voidRecord, bits_setBits_other, Nat.reduceLeDiff, Nat.reduceLT, Nat.reduceAdd, or_true]

end

section
variable {s : State} {sid w t c : Nat} (hd : recDef (s.sigRec sid) = true) (ho : recOut (s.sigRec sid) = false)
include hd ho

/-- A sample of a defined input signal without the rate-of-change test: its record, SIGNIFICANCE, the corridor test and the digest. -/
theorem State.sampleUpdate_input (hroc : recRoc (s.sigRec sid) = 0) {v : Int} {clamped : Bool}
    (hv : s.convert (s.sigRec sid) (sextInt 24 (bits w 23 0 ^^^ (if recOb (s.sigRec sid) then 0x800000 else 0))) = (v, clamped)) :
    let q := sampleQuality w clamped
    let a := alarms (s.sigRec sid) v q
    let e := sampleWord w v clamped q a.1
    s.sampleUpdate sid w t c =
      (((s.significance sid (s.sigRec sid) (sampleRecord (s.sigRec sid) e t c a.1 a.2)).offerCorridor sid (s.sigRec sid) t e).addDigest sid e a.1 c) := by
  intro q a e
  fun_cases State.sampleUpdate s sid w t c
  case case1 r hnot => simp [r, hd, ho] at hnot
  case case2 r _ _ _ _ _ _ roc _ _ hfreeze _ _ =>
    have hoff : roc = false := by simp [roc, r, hroc]
    simp [hoff] at hfreeze
  case case3 r _ _ v' sat hv' q0 q1 q2 _ roc _ _ _ q' alm dcnt halm _ _ _ _ =>
    obtain ⟨rfl, rfl⟩ := Prod.mk.inj (hv'.symm.trans hv)
    have hoff : roc = false := by simp [roc, r, hroc]
    have hq : q' = q := by
      simp only [q', q2, q1, q0, q, hoff, sampleQuality, Bool.false_and, Bool.false_eq_true, if_false]
      cases sat <;> cases bit w 26 <;> cases bit w 27 <;> simp
    clear_value q' roc
    subst hoff hq
    have ha : a = (alm, dcnt) := halm
    simp only [ha, e]
    rfl

/-- A void update of a defined input signal: its record, SIGNIFICANCE, the corridor closed and the digest. -/
theorem State.voidUpdate_input :
    s.voidUpdate sid t c =
      ((s.significance sid (s.sigRec sid) (voidRecord (s.sigRec sid) t c)).closeCorridor sid (s.sigRec sid) t (voidWord (s.sigRec sid))).addDigest sid
        (voidWord (s.sigRec sid)) (recAlm (s.sigRec sid)) c := by
  unfold State.voidUpdate
  dsimp only
  rw [hd, ho, if_neg (by decide)]
  rfl

end

/-- What a sample or a void update leaves in the records, from what it does after SIGNIFICANCE. -/
theorem State.records_of_significance {s u : State} {sid old new : Nat} (hsid : sid < 2 ^ 21)
    (hu : ∀ a, a < 0x10000000 → u.sgByte a = (s.significance sid old new).sgByte a) :
    SameButSig (u.sigRec sid) new ∧ ∀ x, x < 2 ^ 21 → x ≠ sid → u.sigRec x = s.sigRec x := by
  refine ⟨?_, fun x hx hne => State.sigRec_congr (fun a h1 h2 => ?_)⟩
  · rw [State.sigRec_congr (s := s.significance sid old new) (fun a h1 h2 => hu a (by omega))]
    exact s.significance_record sid old new
  · exact (hu a (by omega)).trans (s.sgByte_significance sid old new (by omega) (by omega))

section
variable {s : State} {sid w t c : Nat} (hsid : sid < 2 ^ 21) (hd : recDef (s.sigRec sid) = true) (ho : recOut (s.sigRec sid) = false)
include hsid hd ho

theorem State.sampleUpdate_records (hroc : recRoc (s.sigRec sid) = 0) {v : Int} {clamped : Bool}
    (hv : s.convert (s.sigRec sid) (sextInt 24 (bits w 23 0 ^^^ (if recOb (s.sigRec sid) then 0x800000 else 0))) = (v, clamped)) :
    let a := alarms (s.sigRec sid) v (sampleQuality w clamped)
    SameButSig ((s.sampleUpdate sid w t c).sigRec sid) (sampleRecord (s.sigRec sid) (sampleWord w v clamped (sampleQuality w clamped) a.1) t c a.1 a.2) ∧
      ∀ x, x < 2 ^ 21 → x ≠ sid → (s.sampleUpdate sid w t c).sigRec x = s.sigRec x :=
  State.records_of_significance hsid (fun a ha =>
    (congrArg (fun (x : State) => x.sgByte a) (State.sampleUpdate_input hd ho hroc hv)).trans (State.sgByte_offerCorridor _ _ _ _ _ ha))

theorem State.voidUpdate_records :
    SameButSig ((s.voidUpdate sid t c).sigRec sid) (voidRecord (s.sigRec sid) t c) ∧ ∀ x, x < 2 ^ 21 → x ≠ sid → (s.voidUpdate sid t c).sigRec x = s.sigRec x :=
  State.records_of_significance hsid (fun a ha =>
    (congrArg (fun (x : State) => x.sgByte a) (State.voidUpdate_input hd ho)).trans (State.sgByte_closeCorridor _ _ _ _ _ ha))

end

/-- A void update of a signal that is undefined or an output does nothing (R309). -/
theorem State.voidUpdate_discarded {s : State} {sid t c : Nat} (h : recDef (s.sigRec sid) = false ∨ recOut (s.sigRec sid) = true) : s.voidUpdate sid t c = s := by
  unfold State.voidUpdate
  dsimp only
  rw [if_pos]
  rcases h with h | h <;> simp [h]

/-! ### Definitions (R307, R312) -/

section
variable (s : State) (sid cfg : Nat)

/-- The state in which a definition resets its record: the corridor of a corrected signal closed by a staging entry. -/
def State.defineStaged : State :=
  if recDef (s.sigRec sid) && recCorr (s.sigRec sid) then
    if bit (s.corrBlk sid) 31 && bits (s.corrBlk sid) 30 0 != 0 then s.stage sid (recTime (s.sigRec sid)) (recEng (s.sigRec sid)) 1 else s.stage sid 0 0 1
  else s

theorem State.sgByte_defineStaged {a : Nat} (h : a < 0x240000000) : (s.defineStaged sid).sgByte a = s.sgByte a := by
  unfold State.defineStaged
  split
  · split
    · exact s.sgByte_stage sid _ _ _ h
    · exact s.sgByte_stage sid _ _ _ h
  · rfl

/-- The corridor block cleared, with any gap that waited for it. -/
def State.corridorCleared : State :=
  let y := s.setCorrBlk sid 0
  { y with sg := { y.sg with regap := y.sg.regap.filter (· != sid) } }

/-- The mirror and the record written. -/
def State.defineWritten : State :=
  (((s.defineStaged sid).corridorCleared sid).sgWr (0x08000000 + 64 * sid) 64 (cfg * 2 ^ 224)).setRec sid (freshRuntime + cfg * 2 ^ 224)

/-- The history of a signal cleared. -/
def State.historyCleared : State :=
  let b := 0x40000000 + 4096 * sid
  { s with sg := { s.sg with store := s.sg.store.filter (fun e => e.1 < b || b + 4096 ≤ e.1), bad := s.sg.bad.filter (fun g => g < b / 16 || b / 16 + 256 ≤ g) } }

/-- A definition of a signal that is no output: its stores, the history cleared, the count of the defined signals, a RESET event. -/
theorem State.defineUpdate_input (hcfg : bit cfg 9 = true) (ho : recOut (s.sigRec sid) = false) :
    let z := (s.defineWritten sid cfg).historyCleared sid
    s.defineUpdate sid cfg = (z.sf SG_STAT_DEFINED (z.rf SG_STAT_DEFINED + b2n true - b2n (recDef (s.sigRec sid)))).resetEvent sid := by
  unfold State.defineUpdate
  simp only [hcfg, ho, Bool.and_false, Bool.false_and, Bool.false_eq_true, if_false, if_true]
  rw [← State.defineStaged, ← State.corridorCleared, ← State.defineWritten, ← State.historyCleared]

theorem State.sgByte_withRegap (g : List Nat) (a : Nat) : ({ s with sg := { s.sg with regap := g } } : State).sgByte a = s.sgByte a := rfl

theorem State.sgByte_corridorCleared_eq (a : Nat) : (s.corridorCleared sid).sgByte a = (s.setCorrBlk sid 0).sgByte a := by
  unfold State.corridorCleared
  exact State.sgByte_withRegap _ _ a

theorem State.sgByte_corridorCleared {a : Nat} (h : a < 0x10000000 + 16 * sid ∨ 0x10000000 + 16 * sid + 16 ≤ a) : (s.corridorCleared sid).sgByte a = s.sgByte a :=
  (s.sgByte_corridorCleared_eq sid a).trans (s.sgByte_setCorrBlk 0 h)

theorem State.corrBlk_corridorCleared : (s.corridorCleared sid).corrBlk sid = 0 :=
  ((State.corrBlk_congr (fun a _ _ => s.sgByte_corridorCleared_eq sid a)).trans (s.corrBlk_setCorrBlk sid 0)).trans (Nat.zero_mod _)

theorem State.sgByte_resetEvent (a : Nat) : (s.resetEvent sid).sgByte a = s.sgByte a := State.sgByte_of_store (s.offer_store _) a

theorem State.sgByte_historyCleared (a : Nat) :
    (s.historyCleared sid).sgByte a = if decide (a < 0x40000000 + 4096 * sid) || decide (0x40000000 + 4096 * sid + 4096 ≤ a) then s.sgByte a else 0 :=
  Bytes.rd_filter (fun a => decide (a < 0x40000000 + 4096 * sid) || decide (0x40000000 + 4096 * sid + 4096 ≤ a)) s.sg.store a

end

section
variable {s : State} {sid cfg : Nat} (hsid : sid < 2 ^ 21) (hcfg : bit cfg 9 = true) (ho : recOut (s.sigRec sid) = false)
include hcfg ho

/-- Before the history a definition leaves what it wrote. -/
theorem State.sgByte_defineUpdate {a : Nat} (ha : a < 0x40000000) : (s.defineUpdate sid cfg).sgByte a = (s.defineWritten sid cfg).sgByte a := by
  rw [State.defineUpdate_input s sid cfg hcfg ho, State.sgByte_resetEvent, State.sgByte_sf, State.sgByte_historyCleared, if_pos (by simp; omega)]

theorem State.history_defineUpdate : (s.defineUpdate sid cfg).history sid = [] := by
  have hzero (a : Nat) (h1 : 0x40000000 + 4096 * sid ≤ a) (h2 : a < 0x40000000 + 4096 * sid + 4096) : (s.defineUpdate sid cfg).sgByte a = 0 := by
    rw [State.defineUpdate_input s sid cfg hcfg ho, State.sgByte_resetEvent, State.sgByte_sf, State.sgByte_historyCleared, if_neg (by simp; omega)]
  unfold State.history
  rw [List.filter_eq_nil_iff]
  intro e he
  obtain ⟨k, -, rfl⟩ := List.mem_map.1 he
  have hk := Nat.mod_lt (recHpos ((s.defineUpdate sid cfg).sigRec sid) + k) (by decide : 0 < 256)
  have hread : (s.defineUpdate sid cfg).sgRd (0x40000000 + 4096 * sid + 16 * ((recHpos ((s.defineUpdate sid cfg).sigRec sid) + k) % 256)) 16 = 0 :=
    Bytes.rdN_eq_zero 16 _ (fun a h1 h2 => hzero a (by omega) (by omega))
  rw [hread]
  decide

include hsid

theorem State.sigRec_defineUpdate_same : (s.defineUpdate sid cfg).sigRec sid = (freshRuntime + cfg * 2 ^ 224) % 2 ^ 512 :=
  (State.sigRec_congr (s := s.defineWritten sid cfg) (fun _ _ _ => State.sgByte_defineUpdate hcfg ho (by omega))).trans (State.sigRec_setRec _ _ _)

theorem State.sigRec_defineUpdate_other {x : Nat} (hx : x < 2 ^ 21) (hne : x ≠ sid) : (s.defineUpdate sid cfg).sigRec x = s.sigRec x := by
  refine State.sigRec_congr (fun a h1 h2 => ?_)
  rw [State.sgByte_defineUpdate hcfg ho (by omega), State.defineWritten, State.sgByte_setRec _ _ (by omega), State.sgByte_sgWr _ _ (by omega),
    State.sgByte_corridorCleared _ _ (by omega), State.sgByte_defineStaged _ _ (by omega)]

theorem State.corrBlk_defineUpdate : (s.defineUpdate sid cfg).corrBlk sid = 0 := by
  refine (State.corrBlk_congr (s := (s.defineStaged sid).corridorCleared sid) (fun a h1 h2 => ?_)).trans (State.corrBlk_corridorCleared _ _)
  rw [State.sgByte_defineUpdate hcfg ho (by omega), State.defineWritten, State.sgByte_setRec _ _ (by omega), State.sgByte_sgWr _ _ (by omega)]

end

/-- The record of a definition: its configuration words, and runtime words that are not yet valid (R307). -/
theorem bits_definedRecord (cfg : Nat) {hi lo : Nat} (h : hi < 224) : bits ((freshRuntime + cfg * 2 ^ 224) % 2 ^ 512) hi lo = bits freshRuntime hi lo := by
  rw [bits_mod _ _ _ _ (by omega), ← bits_mod _ _ _ 224 h, Nat.add_mul_mod_self_right, bits_mod _ _ _ _ h]

theorem recCfg_definedRecord {cfg : Nat} (h : cfg < 2 ^ 288) : recCfg ((freshRuntime + cfg * 2 ^ 224) % 2 ^ 512) = cfg := by
  rw [recCfg_eq_bits, bits_mod _ _ _ _ (by decide), ← recCfg_eq_bits, recCfg, Nat.add_mul_div_right _ _ (Nat.two_pow_pos 224),
    Nat.div_eq_of_lt (by decide : freshRuntime < 2 ^ 224), Nat.zero_add]
  exact Nat.mod_eq_of_lt h

/-- Settles O28: each update makes its record, SIGNIFICANCE changes SIG and HPOS alone, and every other write of an update lies outside the records. -/
theorem samplesVoidsAndDefinitionsChangeTheirRecord : Obligations.SamplesVoidsAndDefinitionsChangeTheirRecord := by
  refine ⟨fun s sid w t c hsid hw ht hc hd ho hroc => ?_, fun s sid hsid => ⟨fun t c ht hc => ?_, fun cfg hlt hcfg hout => ?_⟩⟩
  · intro old new v q
    obtain ⟨hrec, hother⟩ := State.sampleUpdate_records (w := w) (t := t) (c := c) hsid hd ho hroc (v := v.1) (clamped := v.2) rfl
    obtain ⟨hlt, hval, hqual, hflags, hclamp, hrate⟩ := sampleWord_fields w v.1 v.2 (alarms old v.1 q).1 (sampleQuality_lt w v.2)
    have heng := hrec.eng.trans (sampleRecord_eng old _ hlt)
    obtain ⟨hlow, hhigh⟩ := s.convert_range old (sextInt 24 (bits w 23 0 ^^^ (if recOb old then 0x800000 else 0)))
    refine ⟨?_, ?_, ?_, ?_, ?_, ?_, ?_, ?_, ?_, ?_, hother⟩
    · exact (congrArg sval heng).trans (sval_of_wrap hlow hhigh hval)
    · exact (congrArg (bits · 25 24) heng).trans hqual
    · exact (congrArg (bits · 28 26) heng).trans hflags
    · exact (congrArg (bit · 29) heng).trans hclamp
    · exact (congrArg (bit · 30) heng).trans hrate
    · exact hrec.time.trans (sampleRecord_time old _ ht)
    · exact hrec.cycle.trans (sampleRecord_cycle old _ hc)
    · exact hrec.upd.trans (sampleRecord_upd old _)
    · exact hrec.alm.trans (sampleRecord_alm old _ (alarms_lt old v.1 q))
    · exact hrec.cfg.trans (sampleRecord_cfg old _)
  · intro old u new
    refine ⟨State.voidUpdate_discarded, fun hd ho => ?_⟩
    obtain ⟨hrec, hother⟩ := State.voidUpdate_records (t := t) (c := c) hsid hd ho
    have heng := hrec.eng.trans (voidRecord_eng old)
    refine ⟨?_, ?_, ?_, ?_, ?_, ?_, ?_, ?_, ?_, hother⟩
    · exact (congrArg (bits · 25 24) heng).trans (bits_setBits_same _ _ _ _ (by decide))
    · exact (congrArg (bits · 23 0) heng).trans (bits_setBits_other _ _ _ _ _ _ (by decide) (by decide))
    · exact (congrArg (bits · 31 26) heng).trans (bits_setBits_other _ _ _ _ _ _ (by decide) (by decide))
    · exact hrec.time.trans (voidRecord_time old ht)
    · exact hrec.cycle.trans (voidRecord_cycle old hc)
    · exact hrec.upd.trans (voidRecord_upd old)
    · exact hrec.alm.trans (voidRecord_alm old)
    · exact fun k hk => (hrec.dcnt hk).trans (voidRecord_dcnt old hk)
    · exact hrec.cfg.trans (voidRecord_cfg old)
  · intro u
    have hrec : u.sigRec sid = (freshRuntime + cfg * 2 ^ 224) % 2 ^ 512 := State.sigRec_defineUpdate_same hsid hcfg hout
    have hfield {hi lo : Nat} (h : hi < 224) : bits (u.sigRec sid) hi lo = bits freshRuntime hi lo := hrec ▸ bits_definedRecord cfg h
    have heng : recEng (u.sigRec sid) = bits freshRuntime 31 0 := hfield (by decide)
    have hsig : recSig (u.sigRec sid) = bits freshRuntime 63 32 := hfield (by decide)
    refine ⟨?_, ?_, ?_, ?_, ?_, ?_, ?_, ?_, ?_, fun x hx hne => State.sigRec_defineUpdate_other hsid hcfg hout hx hne⟩
    · exact (congrArg recCfg hrec).trans (recCfg_definedRecord hlt)
    · exact (congrArg (bits · 25 24) heng).trans (by decide)
    · exact (congrArg sval heng).trans (by decide)
    · exact (congrArg (bits · 25 24) hsig).trans (by decide)
    · exact (hfield (by decide)).trans (by decide)
    · exact (hfield (by decide)).trans (by decide)
    · exact (hfield (by decide)).trans (by decide)
    · exact State.history_defineUpdate hcfg hout
    · exact State.corrBlk_defineUpdate hsid hcfg hout

end Sys2Proof.Machine
end

section
/-! PROOFS. Byte lists as numbers, and the CRC's width (00 R8). -/

namespace Sys2Proof.Machine

@[simp] theorem length_toBytes (v n : Nat) : (toBytes v n).length = n := by
  induction n generalizing v with
  | zero => rfl
  | succ n ih => rw [toBytes, List.length_cons, ih]

/-- A number's low bytes in front of others. -/
theorem ofBytes_toBytes_append {v n : Nat} (h : v < 256 ^ n) (l : List Nat) : ofBytes (toBytes v n ++ l) = v + 256 ^ n * ofBytes l := by
  induction n generalizing v with
  | zero => simp only [pow_zero] at h; simp [toBytes, Nat.lt_one_iff.1 h]
  | succ n ih =>
    rw [toBytes, List.cons_append, ofBytes, ih (Nat.div_lt_of_lt_mul (by rwa [← pow_succ'])), Nat.mod_mod, Nat.mul_add, ← Nat.add_assoc, Nat.mod_add_div,
      pow_succ', Nat.mul_assoc]

theorem byteOf_ofBytes {l : List Nat} (h : ∀ b ∈ l, b < 256) (i : Nat) : byteOf (ofBytes l) i = l.getD i 0 := by
  induction l generalizing i with
  | nil => simp [ofBytes, byteOf]
  | cons b r ih =>
    obtain ⟨hb, hr⟩ := List.forall_mem_cons.1 h
    rw [ofBytes, Nat.mod_eq_of_lt hb]
    cases i with
    | zero => simp only [byteOf, Nat.mul_zero, Nat.shiftRight_zero, List.getD_cons_zero]; omega
    | succ i =>
      have hshift : (b + 256 * ofBytes r) >>> (8 * (i + 1)) = ofBytes r >>> (8 * i) := by
        rw [Nat.mul_succ, Nat.add_comm (8 * i), Nat.shiftRight_add, Nat.shiftRight_eq_div_pow _ 8, show (b + 256 * ofBytes r) / 2 ^ 8 = ofBytes r by omega]
      rw [byteOf, hshift, List.getD_cons_succ]
      exact ih hr i

theorem crc32cByte_lt {c : Nat} (h : c < 2 ^ 32) (b : Nat) : crc32cByte c b < 2 ^ 32 :=
  foldl_keeps (· < 2 ^ 32) _ _ _ (Nat.xor_lt_two_pow h (by omega)) fun x _ hx _ => by
    have hhalf : x / 2 < 2 ^ 32 := by omega
    split
    · exact Nat.xor_lt_two_pow hhalf (by decide)
    · exact hhalf

theorem crc32c_lt (l : List Nat) : crc32c l < 2 ^ 32 :=
  Nat.xor_lt_two_pow (foldl_keeps (· < 2 ^ 32) _ _ _ (by decide) fun _ b hx _ => crc32cByte_lt hx b) (by decide)

end Sys2Proof.Machine
end

section
/-! PROOFS. The Turigrim Block Format: one token, a payload as its tokens, and the compressor's payload among them (09 R356-R358). -/

namespace Sys2Proof.Machine

/-! ### Lengths and tokens (R357) -/

theorem tbfExt_tbfExtBytes (n : Nat) (r : List Nat) : tbfExt (tbfExtBytes n ++ r) = some (n, r) := by
  have hrun (k x : Nat) (hx : x < 255) : tbfExt (List.replicate k 255 ++ x :: r) = some (255 * k + x, r) := by
    induction k with
    | zero => simp [tbfExt, hx]
    | succ k ih =>
      rw [List.replicate_succ, List.cons_append, tbfExt, if_neg (by decide), ih]
      exact congrArg (fun m => some (m, r)) (by omega)
  rw [tbfExtBytes, List.append_assoc, List.singleton_append, hrun _ _ (Nat.mod_lt _ (by decide)), Nat.div_add_mod]

/-- The nibble of a length, and the bytes that extend it. -/
def tbfNib (k : Nat) : Nat := if k < 15 then k else 15
def tbfNibExt (k : Nat) : List Nat := if k < 15 then [] else tbfExtBytes (k - 15)

theorem tbfNib_lt (k : Nat) : tbfNib k < 16 := by unfold tbfNib; split <;> omega

theorem tbfLen_tbfNib (k : Nat) (r : List Nat) : tbfLen (tbfNib k) (tbfNibExt k ++ r) = some (k, r) := by
  unfold tbfLen tbfNib tbfNibExt
  by_cases hk : k < 15
  · simp only [if_pos hk, if_neg (Nat.ne_of_lt hk), List.nil_append]
  · simp only [if_neg hk, if_true, tbfExt_tbfExtBytes, Option.map_some, Nat.add_sub_cancel' (Nat.le_of_not_lt hk)]

theorem tbfToken_none (lits : List Nat) : tbfToken lits none = tbfNib lits.length :: (tbfNibExt lits.length ++ lits) := rfl

theorem tbfToken_some (lits : List Nat) (len off : Nat) :
    tbfToken lits (some (len, off)) =
      (tbfNib lits.length + 16 * tbfNib (len - 4)) :: (tbfNibExt lits.length ++ (lits ++ off % 256 :: off / 256 :: tbfNibExt (len - 4))) := by
  simp [tbfToken, tbfNib, tbfNibExt]

theorem tbfToken_ne_nil (lits : List Nat) (m : Option (Nat × Nat)) : tbfToken lits m ≠ [] := by
  cases m <;> simp [tbfToken]

/-- The literals that end a payload. -/
theorem tbfTokens_literals {raw : Nat} {out lits : List Nat} (h : out.length + lits.length ≤ raw) (fuel : Nat) :
    tbfTokens raw out (tbfToken lits none) (fuel + 1) = some (lits.reverse ++ out) := by
  have hlen := tbfLen_tbfNib lits.length lits
  rw [tbfToken_none, tbfTokens]
  simp only [Nat.mod_eq_of_lt (tbfNib_lt _), Nat.div_eq_of_lt (tbfNib_lt _), hlen, List.take_length, List.drop_length]
  rw [if_neg (by omega)]
  rfl

/-- Literals and a match in front of other tokens. -/
theorem tbfTokens_match {raw len off : Nat} {out lits : List Nat} (h4 : 4 ≤ len) (h1 : 1 ≤ off) (hoff : off ≤ out.length + lits.length)
    (hraw : out.length + lits.length + len ≤ raw) (r : List Nat) (fuel : Nat) :
    tbfTokens raw out (tbfToken lits (some (len, off)) ++ r) (fuel + 1) = tbfTokens raw (tbfCopy (lits.reverse ++ out) off len) r fuel := by
  have hlow : (tbfNib lits.length + 16 * tbfNib (len - 4)) % 16 = tbfNib lits.length := by have := tbfNib_lt lits.length; omega
  have hhigh : (tbfNib lits.length + 16 * tbfNib (len - 4)) / 16 = tbfNib (len - 4) := by have := tbfNib_lt lits.length; omega
  have hgot : (lits.reverse ++ out).length = out.length + lits.length := by simp [Nat.add_comm]
  rw [tbfToken_some, List.cons_append, List.append_assoc, List.append_assoc, tbfTokens]
  simp only [hlow, hhigh, tbfLen_tbfNib, List.cons_append, List.take_left, List.drop_left, hgot, Nat.mod_add_div, Nat.sub_add_cancel h4]
  rw [if_neg (by simp; omega), if_pos ⟨h1, hoff, hraw⟩]

/-! ### A payload and the block that it stands for -/

/-- The payloads that stand for a block's bytes from `ls` on: the last literals alone, or a token whose match repeats bytes from `c` on at `pos`, and the rest. -/
inductive TbfCodes (blk : List Nat) : Nat → List Nat → Prop where
  | literals {ls : Nat} (h : ls ≤ blk.length) : TbfCodes blk ls (tbfToken (blk.drop ls) none)
  | copy {ls c pos len : Nat} {r : List Nat} (hls : ls ≤ pos) (hc : c < pos) (h4 : 4 ≤ len) (hn : pos + len ≤ blk.length)
      (heq : ∀ i, i < len → blk.getD (c + i) 0 = blk.getD (pos + i) 0) (hr : TbfCodes blk (pos + len) r) :
      TbfCodes blk ls (tbfToken ((blk.drop ls).take (pos - ls)) (some (len, pos - c)) ++ r)

/-- A match yields the block's own bytes, those that it has just written included. -/
theorem tbfCopy_take {blk : List Nat} {c pos len : Nat} (hc : c < pos) (hn : pos + len ≤ blk.length)
    (heq : ∀ i, i < len → blk.getD (c + i) 0 = blk.getD (pos + i) 0) :
    tbfCopy (blk.take pos).reverse (pos - c) len = (blk.take (pos + len)).reverse := by
  induction len generalizing c pos with
  | zero => rfl
  | succ len ih =>
    have hpos : pos < blk.length := by omega
    have hlen : (blk.take pos).length = pos := by simp; omega
    have hbyte : (blk.take pos).reverse.getD (pos - c - 1) 0 = blk[pos] := by
      have h0 : blk.getD c 0 = blk.getD pos 0 := heq 0 (by omega)
      rw [List.getD_eq_getElem _ _ (by simp; omega), List.getElem_reverse, List.getElem_take, ← List.getD_eq_getElem blk 0 hpos, ← h0,
        List.getD_eq_getElem _ _ (by omega)]
      congr 1
      omega
    have hnext := ih (c := c + 1) (pos := pos + 1) (by omega) (by omega) fun i hi => by
      have := heq (i + 1) (by omega)
      rwa [Nat.add_right_comm c, Nat.add_right_comm pos]
    rw [tbfCopy, hbyte, ← List.reverse_concat, List.take_concat_get' _ _ hpos, ← Nat.add_sub_add_right pos 1 c, hnext, Nat.add_assoc, Nat.add_comm 1]

theorem TbfCodes.decodes {blk : List Nat} {ls : Nat} {l : List Nat} (h : TbfCodes blk ls l) {fuel : Nat} (hf : l.length < fuel) :
    tbfTokens blk.length (blk.take ls).reverse l fuel = some blk.reverse := by
  induction h generalizing fuel with
  | @literals ls hls =>
    obtain ⟨fuel, rfl⟩ := Nat.exists_eq_add_one.2 (Nat.zero_lt_of_lt hf)
    rw [tbfTokens_literals (by simp; omega), ← List.reverse_append, List.take_append_drop]
  | @copy ls c pos len r hls hc h4 hn heq _ ih =>
    obtain ⟨fuel, rfl⟩ := Nat.exists_eq_add_one.2 (Nat.zero_lt_of_lt hf)
    have htok := List.length_pos_of_ne_nil (tbfToken_ne_nil ((blk.drop ls).take (pos - ls)) (some (len, pos - c)))
    have hout : (blk.take ls).reverse.length = ls := by simp; omega
    have hlits : ((blk.drop ls).take (pos - ls)).length = pos - ls := by simp; omega
    have hjoin : blk.take ls ++ (blk.drop ls).take (pos - ls) = blk.take pos := by rw [← List.take_add, Nat.add_sub_cancel' hls]
    rw [tbfTokens_match h4 (by omega) (by omega) (by omega), ← List.reverse_append, hjoin, tbfCopy_take hc hn heq]
    exact ih (by rw [List.length_append] at hf; omega)

/-! ### The parse (R358) -/

theorem agree_le (rd : Nat → Nat) (a b n : Nat) : agree rd a b n ≤ n := by
  induction n generalizing a b with
  | zero => exact Nat.le_refl 0
  | succ n ih =>
    rw [agree]
    split
    · have := ih (a + 1) (b + 1); omega
    · omega

theorem rd_eq_of_lt_agree {rd : Nat → Nat} {a b n i : Nat} (h : i < agree rd a b n) : rd (a + i) = rd (b + i) := by
  induction n generalizing a b i with
  | zero => exact absurd h (Nat.not_lt_zero i)
  | succ n ih =>
    rw [agree] at h
    split at h
    next heq =>
      cases i with
      | zero => exact heq
      | succ i => rw [Nat.add_comm i, ← Nat.add_assoc, ← Nat.add_assoc]; exact ih (by omega)
    next => exact absurd h (Nat.not_lt_zero i)

theorem rd_eq_of_word32_eq {rd : Nat → Nat} (hrd : ∀ i, rd i < 256) {a b : Nat} (h : word32 rd a = word32 rd b) {i : Nat} (hi : i < 4) :
    rd (a + i) = rd (b + i) := by
  unfold word32 at h
  have ha := hrd a; have ha1 := hrd (a + 1); have ha2 := hrd (a + 2); have ha3 := hrd (a + 3)
  have hb := hrd b; have hb1 := hrd (b + 1); have hb2 := hrd (b + 2); have hb3 := hrd (b + 3)
  match i, hi with
  | 0, _ => simp only [Nat.add_zero]; omega
  | 1, _ => omega
  | 2, _ => omega
  | 3, _ => omega

/-- A candidate whose word agrees repeats the bytes of the whole match. -/
theorem rd_eq_of_match {rd : Nat → Nat} (hrd : ∀ i, rd i < 256) {c pos n i : Nat} (hw : word32 rd c = word32 rd pos)
    (hi : i < 4 + agree rd (c + 4) (pos + 4) n) : rd (c + i) = rd (pos + i) := by
  by_cases h4 : i < 4
  · exact rd_eq_of_word32_eq hrd hw h4
  · have hrest := rd_eq_of_lt_agree (i := i - 4) (show i - 4 < agree rd (c + 4) (pos + 4) n by omega)
    rwa [Nat.add_assoc, Nat.add_assoc, Nat.add_sub_cancel' (Nat.le_of_not_lt h4)] at hrest

theorem slice_getD {blk : List Nat} {a b : Nat} (h : b ≤ blk.length) : slice (fun i => blk.getD i 0) a b = (blk.drop a).take (b - a) := by
  refine List.ext_getElem (by simp [slice]; omega) fun i hi _ => ?_
  simp only [slice, List.length_map, List.length_range] at hi
  simp [slice, show a + i < blk.length by omega]

theorem Map.mem_of_find {α : Type} {m : Map α} {k : Nat} {a : α} (h : Map.find m k = some a) : (k, a) ∈ m := by
  induction m with
  | nil => exact absurd h (by simp)
  | cons e r ih =>
    obtain ⟨j, b⟩ := e
    rw [Map.find_cons] at h
    split at h
    next hj => exact hj ▸ Option.some.inj h ▸ List.mem_cons_self
    next => exact List.mem_cons_of_mem _ (ih h)

/-- Tokens parsed before stand in front. -/
theorem tbfParse_acc (rd : Nat → Nat) (n : Nat) (table : Map Nat) (pos ls : Nat) (acc : List (List Nat)) (fuel : Nat) :
    tbfParse rd n table pos ls acc fuel = acc.reverse.flatten ++ tbfParse rd n table pos ls [] fuel := by
  induction fuel generalizing table pos ls acc with
  | zero => simp [tbfParse]
  | succ fuel ih =>
    have hpush (t : List Nat) (table : Map Nat) (pos ls : Nat) :
        tbfParse rd n table pos ls (t :: acc) fuel = acc.reverse.flatten ++ tbfParse rd n table pos ls [t] fuel := by
      rw [ih _ _ _ (t :: acc), ih _ _ _ [t]]; simp
    simp only [tbfParse]
    split
    · split
      · split
        · exact hpush ..
        · exact ih ..
      · exact ih ..
    · simp

/-- From a table of earlier positions the parse gives a payload that stands for the block. -/
theorem tbfParse_codes {blk : List Nat} (hb : ∀ i, blk.getD i 0 < 256) {table : Map Nat} {pos ls fuel : Nat} (ht : ∀ e ∈ table, e.2 < pos) (hls : ls ≤ pos)
    (hn : pos ≤ blk.length) (hf : blk.length < pos + fuel) : TbfCodes blk ls (tbfParse (fun i => blk.getD i 0) blk.length table pos ls [] fuel) := by
  induction fuel generalizing table pos ls with
  | zero => omega
  | succ fuel ih =>
    have hput (h : Nat) {p : Nat} (hp : pos < p) : ∀ e ∈ Map.put table h pos, e.2 < p := fun e he => by
      obtain rfl | he := Map.mem_put he
      · exact hp
      · exact (ht e he).trans hp
    simp only [tbfParse]
    split
    next hroom =>
      have hliteral (h : Nat) := ih (hput h (Nat.lt_succ_self pos)) (Nat.le_succ_of_le hls) (by omega) (by omega)
      split
      next c hfind =>
        split
        next hw =>
          have hmore := agree_le (fun i => blk.getD i 0) (c + 4) (pos + 4) (blk.length - (pos + 4))
          rw [tbfParse_acc, slice_getD hn, List.reverse_singleton, List.flatten_singleton]
          exact .copy hls (ht _ (Map.mem_of_find hfind)) (by omega) (by omega) (fun i hi => rd_eq_of_match hb hw hi)
            (ih (hput _ (by omega)) (Nat.le_refl _) (by omega) (by omega))
        next => exact hliteral _
      next => exact hliteral _
    next =>
      rw [slice_getD (Nat.le_refl _), List.reverse_singleton, List.flatten_singleton, List.take_of_length_le (by simp)]
      exact .literals (hls.trans hn)

/-! ### Blocks (R356) -/

/-- The header of a block as a number: RAW, LAST and TYPE, PAY, the CRC. -/
def tbfHdrVal (raw : Nat) (last lz : Bool) (pay crc : Nat) : Nat := (raw + b2n last * 2 ^ 17 + b2n lz * 2 ^ 18) + 2 ^ 32 * (pay + 2 ^ 32 * crc)

theorem tbfHdr_tbfHdrVal {raw pay crc : Nat} {last lz : Bool} (hraw : raw ≤ 65536) (hempty : raw = 0 → last = true) (hpay : pay ≤ 65536)
    (hstored : lz = false → pay = raw) (hcrc : crc < 2 ^ 32) : tbfHdr (tbfHdrVal raw last lz pay crc) true = some ⟨raw, last, b2n lz, pay, crc⟩ := by
  have hl := b2n_le_one last
  have hz := b2n_le_one lz
  have hw0 : bits (tbfHdrVal raw last lz pay crc) 31 0 = raw + b2n last * 2 ^ 17 + b2n lz * 2 ^ 18 := by rw [bits_eq_div_mod, tbfHdrVal]; omega
  have hw1 : bits (tbfHdrVal raw last lz pay crc) 63 32 = pay := by rw [bits_eq_div_mod, tbfHdrVal]; omega
  have hw2 : bits (tbfHdrVal raw last lz pay crc) 95 64 = crc := by rw [bits_eq_div_mod, tbfHdrVal]; omega
  have h0raw : bits (raw + b2n last * 2 ^ 17 + b2n lz * 2 ^ 18) 16 0 = raw := by rw [bits_eq_div_mod]; omega
  have h0last : bit (raw + b2n last * 2 ^ 17 + b2n lz * 2 ^ 18) 17 = last := by
    rw [bit_eq_decide, show (raw + b2n last * 2 ^ 17 + b2n lz * 2 ^ 18) / 2 ^ 17 % 2 = b2n last by omega]
    cases last <;> rfl
  have h0type : bits (raw + b2n last * 2 ^ 17 + b2n lz * 2 ^ 18) 19 18 = b2n lz := by rw [bits_eq_div_mod]; omega
  have h0high : bits (raw + b2n last * 2 ^ 17 + b2n lz * 2 ^ 18) 31 20 = 0 := by rw [bits_eq_div_mod]; omega
  have h1pay : bits pay 16 0 = pay := by rw [bits_eq_div_mod]; omega
  have h1high : bits pay 31 17 = 0 := by rw [bits_eq_div_mod]; omega
  simp only [tbfHdr, hw0, hw1, hw2, h0raw, h0last, h0type, h0high, h1pay, h1high]
  refine if_neg ?_
  rintro (h | h | h | h | ⟨h, hnot⟩ | ⟨h, hne⟩)
  · exact h rfl
  · exact h rfl
  · omega
  · omega
  · simp [hempty h] at hnot
  · cases lz with
    | false => exact hne (hstored rfl)
    | true => exact absurd h (by decide)

/-- A payload that gives the block back, under a header that says so. -/
theorem tbfBlock_ok {h : TbfHdr} {pay blk : List Nat} (hraw : h.raw = blk.length) (hcrc : h.crc = crc32c blk)
    (hpay : (if h.type = 0 then some pay.reverse else tbfTokens h.raw [] pay (pay.length + 1)) = some blk.reverse) : tbfBlock h pay = .ok blk := by
  unfold tbfBlock
  rw [hpay]
  simp [hraw, hcrc]

/-- The compressor's parse of a block, whether it is the payload, and the payload. -/
def tbfLz (blk : List Nat) : List Nat := tbfParse (fun i => byteOf (ofBytes blk) i) blk.length [] 0 0 [] (blk.length + 1)
def tbfIsLz (blk : List Nat) : Bool := decide ((tbfLz blk).length < blk.length)
def tbfPay (blk : List Nat) : List Nat := if tbfIsLz blk then tbfLz blk else blk

/-- The header's bytes of a compressed block. -/
def tbfHead (blk : List Nat) (last : Bool) : List Nat :=
  toBytes (blk.length + b2n last * 2 ^ 17 + b2n (tbfIsLz blk) * 2 ^ 18) 4 ++ (toBytes (tbfPay blk).length 4 ++ toBytes (crc32c blk) 4)

theorem length_tbfHead (blk : List Nat) (last : Bool) : (tbfHead blk last).length = 12 := by simp [tbfHead]

theorem tbfCompress_eq (blk : List Nat) (last : Bool) : tbfCompress blk last = tbfHead blk last ++ tbfPay blk := by
  have hlz : tbfLz blk = tbfParse (fun i => byteOf (ofBytes blk) i) blk.length [] 0 0 [] (blk.length + 1) := rfl
  by_cases h : (tbfLz blk).length < blk.length <;> simp [tbfCompress, tbfHead, tbfPay, tbfIsLz, ← hlz, h, b2n]

theorem length_tbfPay_le (blk : List Nat) : (tbfPay blk).length ≤ blk.length := by
  unfold tbfPay
  split
  next h => exact Nat.le_of_lt (of_decide_eq_true h)
  next => exact Nat.le_refl _

theorem ofBytes_tbfHead {blk : List Nat} (h : blk.length ≤ 65536) (last : Bool) :
    ofBytes (tbfHead blk last) = tbfHdrVal blk.length last (tbfIsLz blk) (tbfPay blk).length (crc32c blk) := by
  have hl := b2n_le_one last
  have hz := b2n_le_one (tbfIsLz blk)
  have hpay := length_tbfPay_le blk
  have hcrc : ofBytes (toBytes (crc32c blk) 4) = crc32c blk := by simpa [ofBytes] using ofBytes_toBytes_append (n := 4) (crc32c_lt blk) []
  rw [tbfHead, ofBytes_toBytes_append (by omega), ofBytes_toBytes_append (by omega), hcrc]
  rfl

/-- The tokens of a block of bytes give it back. -/
theorem tbfTokens_tbfLz {blk : List Nat} (hb : ∀ b ∈ blk, b < 256) : tbfTokens blk.length [] (tbfLz blk) ((tbfLz blk).length + 1) = some blk.reverse := by
  have hrd : (fun i => byteOf (ofBytes blk) i) = fun i => blk.getD i 0 := funext (byteOf_ofBytes hb)
  have hget (i : Nat) : blk.getD i 0 < 256 := by
    rw [List.getD_eq_getElem?_getD]
    cases h : blk[i]? with
    | none => decide
    | some b => exact hb b (List.mem_of_getElem? h)
  have hcodes : TbfCodes blk 0 (tbfLz blk) := by
    rw [tbfLz, hrd]
    exact tbfParse_codes hget (by simp) (Nat.le_refl 0) (Nat.zero_le _) (by omega)
  exact hcodes.decodes (Nat.lt_succ_self _)

/-- Settles O31: the header gives its fields back, and the payload is the block itself or tokens that stand for it. -/
theorem tbfBlocksRoundTrip : Obligations.TbfBlocksRoundTrip := by
  intro blk last hlen hb hempty
  have hpay := length_tbfPay_le blk
  have hhead : (tbfCompress blk last).take 12 = tbfHead blk last := by rw [tbfCompress_eq, List.take_left' (length_tbfHead blk last)]
  have hrest : (tbfCompress blk last).drop 12 = tbfPay blk := by rw [tbfCompress_eq, List.drop_left' (length_tbfHead blk last)]
  have hsize : (tbfPay blk).length = (tbfCompress blk last).length - 12 := by rw [← hrest, List.length_drop]
  have hstored (h : tbfIsLz blk = false) : tbfPay blk = blk := by simp [tbfPay, h]
  have hhdr := tbfHdr_tbfHdrVal (last := last) (lz := tbfIsLz blk) hlen (fun h => hempty.resolve_left (not_not.2 (List.length_eq_zero_iff.1 h)))
    (hpay.trans hlen) (fun h => congrArg List.length (hstored h)) (crc32c_lt blk)
  refine ⟨_, by rw [hhead, ofBytes_tbfHead hlen, hhdr], rfl, rfl, hsize, ?_⟩
  rw [hrest]
  refine tbfBlock_ok rfl rfl ?_
  cases h : tbfIsLz blk with
  | false => rw [hstored h]; rfl
  | true => rw [show tbfPay blk = tbfLz blk by simp [tbfPay, h]]; exact tbfTokens_tbfLz hb

end Sys2Proof.Machine
end

section
/-! PROOFS. The rows of the compression engine (09 R350, R363, R366-R368, R370, R372), each in the branch that its hypotheses name. -/

namespace Sys2Proof.Machine

/-! ### Descriptors (R350, R363, R368) -/

theorem find_pipe {f : Nat → Bool} {p : Nat} (hp : p < 4) (h : f p = true) : ((List.range 4).map (fun j => (p + j) % 4)).find? f = some p := by
  have hfirst : (p + 0) % 4 = p := Nat.mod_eq_of_lt hp
  rw [List.range_succ_eq_map, List.map_cons, hfirst]
  exact List.find?_cons_of_pos h

/-- What becomes of a descriptor that an Up pipe has fetched. -/
theorem State.czFetch_fetched {s y z : State} {q p i d v : Nat} {c : CzCtx} (hroom : s.cz.ctxs.length < 16)
    (hgrant : s.grant 1 ((s.qWaiting 1).map (fun i => (i, 1))) = (y, some i)) (hpick : y.qPick i 1 q = some d) (hp : p < 4) (hup : y.czUp p = true)
    (hfetch : y.qFetch (org 0xA p) i 1 d = (z, some v)) (hc : { czParse i (z.gen i) d p v with charged := true } = c) :
    s.czFetch q p =
      if czBad v c then (z.refundToken 1 i).czFail c 1 c.check 0 0
      else if c.op = 3 ∧ z.isSink c = false then (z.refundToken 1 i).czFail c 9 0 0 0
      else if c.op = 3 then z.setCzHeld (z.cz.held ++ [c])
      else z.setCtxs (z.cz.ctxs ++ [c]) := by
  unfold State.czFetch
  rw [if_neg (Nat.not_le.2 hroom), hgrant]
  dsimp only
  rw [hpick]
  dsimp only
  rw [find_pipe hp hup, Option.getD_some, hfetch]
  dsimp only
  rw [if_neg (c := (some p).isNone = true) Bool.false_ne_true]
  subst hc
  rfl

/-! ### Chunks (R350, R366) -/

/-- What the end of a chunk leaves of its request. -/
def State.czAfter (others : List CzCtx) : State × CzEnd → State
  | (s, .more c) => s.setCtxs (others ++ [{ c with charged := false }])
  | (s, .ok c chk a b) => (s.setCtxs others).czOk c chk a b
  | (s, .fail c e chk a b) => (s.setCtxs others).czFail c e chk a b

theorem State.czChecks_none (s : State) (n : Nat) : s.czChecks n 0 = (s, true) := rfl

/-- A chunk whose check passes runs on a state that lists its context as charged. -/
theorem State.czChunk_checked {s w x y : State} {n : Nat} {b c : CzCtx} {others : List CzCtx} {r : State × CzEnd} (hup : s.czUp n = true)
    (hturn : s.drainTurn n = false) (hnext : s.czNext n = some b) (hw : (if b.charged then s else s.chargeTokens 1 b.inst 1).czCredit n false = w)
    (hothers : w.cz.ctxs.filter (fun x => x != b) = others) (hx : (w.sf CZ_PIPE_STAT_INSTANCE b.inst n).pmEvent 0x0701 n (some b.inst) = x)
    (hy : { x with cz := { x.cz with ctxs := others ++ [{ b with ran := n, charged := true }] } } = y) (hc : { b with ran := n, chunks := b.chunks + 1 } = c)
    (hr : (if c.op = 1 then y.czCompress c else if c.fmt = 3 then y.czUntbf c else y.czInflate c) = r) : s.czChunk n 0 = State.czAfter others r := by
  unfold State.czChunk
  rw [if_neg (by simp [hup, hturn]), hnext]
  dsimp only
  rw [State.czChecks_none]
  subst hr hc hy hx hothers hw
  rfl

/-! ### Pipes that fail (R372) -/

/-- A pipe below its recovery limit retires for now; its contexts move when another pipe is Up. -/
theorem State.czRetire_below {s y : State} {n : Nat} (hup : s.czUp n = true) (hl : s.recoveries (org 0xA n) < s.rf FC_CFG_RECOV_LIMIT)
    (hy : (((s.setUnit (org 0xA n) (fun u => { u with st := 1 })).sf CZ_PIPE_STAT_STATE 1 n).raise (0x300 + n)).report
      { org := org 0xA n, cause := 0x0A03, cls := ochre, react := 5 } = y) (hups : y.czUps ≠ []) : s.czRetire n = y.czGone n := by
  -- The list of the Up pipes is a name alone here: the kernel would otherwise read every pipe's register in the state after the writes.
  obtain ⟨ups, heq⟩ : ∃ ups, ups = State.czUps := ⟨_, rfl⟩
  unfold State.czRetire
  rw [if_neg (by simp [hup]), State.outOfService_below _ _ hl, ← heq]
  rw [← heq] at hups
  dsimp only at hy ⊢
  -- `hups` leaves the match no branch but the last.
  simp only [Bool.false_eq_true, if_false, hy]

/-! ### The historian drain (R368-R371) -/

/-- The entries that a segment leaves out are counted and recorded, and whether the lane owes a GAP is noted (R371). -/
def State.drainDiscard (s : State) (l : Nat) (disc : List Nat) (gap : Bool) : State :=
  let z := disc.foldl (fun (y : State) sid => ((y.bump rCZ_STAGE_DISC).raise 0x306).sgElog 4 l sid) s
  { z with cz := { z.cz with gaps := z.cz.gaps.filter (· != l) ++ (if gap then [l] else []) } }

/-- A segment is written: both byte counts, the lane's discards, the segment's count and number. -/
def State.segmentCounted (s : State) (n l k len : Nat) (disc : List Nat) (gap : Bool) : State :=
  let g := (((s.bump rCZ_PIPE_IN n (16 * k)).bump rCZ_PIPE_OUT n len).drainDiscard l disc gap).bump rCZ_SEG_CNT
  { g with cz := { g.cz with segs := Map.put g.cz.segs l ((Map.getD g.cz.segs l 0 + 1) % 2 ^ 32) } }

/-- A pipe whose turn is the drain's takes the ready lane for the oldest held request. -/
theorem State.segmentWrite_checked {s x : State} {n l tail k : Nat} {b c : CzCtx} {rest : List CzCtx} {es disc bs : List Nat} {gap : Bool}
    (hup : s.czUp n = true) (hturn : s.drainTurn n = true) (hheld : s.cz.held = b :: rest) (hlane : s.readyLane = some l)
    (hx : s.czCredit n true = x) (hc : { b with pipe := n, ran := n } = c) (htail : stagePos (x.reg rSG_STAGE_TAIL l) = tail)
    (hk : min c.cap (x.stageFill l) = k) (hes : x.drainEntries l tail k (x.cz.gaps.contains l) = (es, disc, gap)) :
    (es = [] → s.segmentWrite n 0 = (x.drainDiscard l disc gap).stageConsume l tail k) ∧
    (es ≠ [] → segBytes l (Map.getD x.cz.segs l 0) tail es = bs → ∀ z,
      (x.ioWrite (org 0xA n) c.inst c.gen c.dst bs.length (ofBytes bs) = (z, .ok ()) →
        s.segmentWrite n 0 = ((((z.segmentCounted n l k bs.length disc gap).stageConsume l tail k).setCzHeld rest).czOk c
          (crc32c (es.flatMap (fun e => toBytes e 16))) 0 bs.length)) ∧
      (∀ e, x.ioWrite (org 0xA n) c.inst c.gen c.dst bs.length (ofBytes bs) = (z, .error e) → s.segmentWrite n 0 = (z.setCzHeld rest).czFail c 2 0 0 0)) := by
  -- The reading of the lane and the write to memory are names alone here, so that the kernel does not run them.
  obtain ⟨drain, hdrain⟩ : ∃ f, f = State.drainEntries := ⟨_, rfl⟩
  obtain ⟨write, hwrite⟩ : ∃ f, f = State.ioWrite := ⟨_, rfl⟩
  unfold State.segmentWrite
  rw [if_neg (by simp [hup, hturn]), hheld, hlane, State.czChecks_none, ← hdrain, ← hwrite]
  rw [← hdrain] at hes
  subst hx hc htail hk
  dsimp only at hes ⊢
  rw [hes]
  dsimp only
  refine ⟨fun hnil => ?_, fun hne hbs z => ?_⟩
  · rw [if_pos (List.isEmpty_iff.2 hnil)]
    rfl
  · subst hbs
    rw [if_neg (mt List.isEmpty_iff.1 hne)]
    refine ⟨fun hw => ?_, fun e hw => by rw [hw]⟩
    rw [hw]
    rfl

/-- Settles O30: each row in the branch that the clause names. -/
theorem compressionRunsItsRequests : Obligations.CompressionRunsItsRequests := by
  intro s hp
  refine ⟨fun q p y z i d v hroom hgrant hpick hup hfetch => ?_, fun p b hup hturn hnext => ?_, fun p hup hl => ?_,
    fun p b rest l es disc gap hup hturn hheld hlane => ?_, fun l hfill hready => ?_, ?_⟩
  · intro c
    have hrun := State.czFetch_fetched hroom hgrant hpick p.isLt hup hfetch (c := c) rfl
    refine ⟨fun hbad => ?_, fun hbad hop => ?_, fun hbad hop hsink => ?_, fun hbad hop hsink => ?_⟩ <;>
      refine does_of_run_eq (f := fun s => s.czFetch q.val p.val) hp rfl (hrun.trans ?_)
    · exact if_pos hbad
    · rw [if_neg (by simp [hbad]), if_neg (fun h => hop h.1), if_neg hop]
    · rw [if_neg (by simp [hbad]), if_pos ⟨hop, hsink⟩]
    · rw [if_neg (by simp [hbad]), if_neg (by simp [hsink]), if_pos hop]
  · intro w others x y c r
    have hrun : s.czChunk p.val 0 = State.czAfter others r :=
      State.czChunk_checked hup hturn hnext (w := w) (others := others) (x := x) (y := y) (c := c) (r := r) rfl rfl rfl rfl rfl rfl
    refine ⟨fun z d hr => ?_, fun z d chk a b hr => ?_, fun z d e chk a b hr => ?_⟩ <;>
      exact does_of_run_eq (f := fun s => s.czChunk p.val 0) hp rfl (hrun.trans (congrArg (State.czAfter others) hr))
  · intro y hups
    exact does_of_run_eq (f := fun s => s.czRetire p.val) hp rfl (State.czRetire_below hup hl rfl hups)
  · intro x c tail k bs discard hes
    obtain ⟨hnone, hsome⟩ := State.segmentWrite_checked hup hturn hheld hlane (x := x) (c := c) (tail := tail) (k := k) rfl rfl rfl rfl hes
    refine ⟨fun hnil => ?_, fun z hne hw => ?_, fun z e hne hw => ?_⟩ <;> refine does_of_run_eq (f := fun s => s.segmentWrite p.val 0) hp rfl ?_
    · exact hnone hnil
    · exact (hsome hne rfl z).1 hw
    · exact (hsome hne rfl z).2 e hw
  · exact does_of_run_eq (f := fun s => s.histLinger l.val) hp rfl (if_neg (by simpa [hfill] using hready))
  · exact does_of_run_eq (f := State.histDisable) hp rfl rfl

end Sys2Proof.Machine
end

section
/-! PROOFS. The rows of the cipher engine (10 R385, R392, R396, R403-R406), each in the branch that its hypotheses name. -/

namespace Sys2Proof.Machine

/-! ### Descriptors (R385, R392, R396) -/

/-- What becomes of a descriptor that the engine has fetched. An IV_AUTO request that finds no pair has taken its counter value all the same (R402, log 69). -/
theorem State.cyFetch_fetched {s y z w : State} {q i d v : Nat} {side : List Nat} {b c e : CyCtx} (hroom : s.cy.ctxs.length < 32) (hactive : s.isStandby = false)
    (hgrant : s.grant 2 ((s.qWaiting 2).map (fun i => (i, 1))) = (y, some i)) (hpick : y.qPick i 2 q = some d)
    (hfetch : y.qFetch (org 0xB 0) i 2 d = (z, some v)) (hb : cyParse i (z.gen i) d v = b) (hside : z.cySide (z.rb CY_SLOT_LEASED b.slot) = side)
    (hc : { b with pa := side.getD 0 0, pb := side.getD 1 0, lease := z.rb CY_SLOT_LEASED b.slot } = c)
    (he : { c with half := z.cyHalf c, n := if c.auto then (z.slot c.slot).ctr else 0 } = e) (hw : (if c.auto then z.takeAuto c.slot else z) = w) :
    s.cyFetch q =
      if cyBad v c then (z.refundToken 2 i).cyFail c false 1 0
      else if z.cyKeyBad c then (z.refundToken 2 i).cyFail c false 4 0
      else if z.cyHold c then s
      else if side.length < 2 then (w.refundToken 2 i).cyFail e false 7 0
      else (w.sf CY_SLOT_INFLIGHT (satN 16 (w.rf CY_SLOT_INFLIGHT c.slot + 1)) c.slot).setCy (w.cy.ctxs ++ [e]) := by
  unfold State.cyFetch
  rw [if_neg (by simp [hactive, hroom]), hgrant]
  dsimp -zeta only
  rw [hpick]
  dsimp -zeta only
  rw [hfetch]
  subst hw he hc hside hb
  rfl

/-! ### Chunks (R403-R405) -/

/-- What the end of a chunk leaves of its request. -/
def State.cyAfter : State × CyEnd → State
  | (s, .more c) => s.setCy (s.cy.ctxs ++ [{ c with charged := false }])
  | (s, .ok c) => s.cySync.cyPost c true (cyEntry c 0 0 c.len)
  | (s, .fail c k) => s.cySync.cyFail c true k c.done

theorem State.cyChecks_passed (s : State) (leased : Bool) (p q : Nat) : s.cyChecks leased p q .passed = ⟨s, true, p, q, 0⟩ := rfl

/-- A request whose side has no pair fails before its chunk. -/
theorem State.cyChunk_unpaired {s : State} {p q : Nat} {c : CyCtx} (hctx : s.cy.ctxs = [c]) (hdown : (s.cySide c.lease).length < 2) :
    s.cyChunk p q .passed = (s.setCy []).cyFail c true 7 c.done := by
  unfold State.cyChunk
  simp only [hctx, List.find?_cons, hdown, decide_true, Bool.true_or, if_true, List.filter_cons, bne_self_eq_false, Bool.false_eq_true, if_false, List.filter_nil]

/-- A chunk whose checks pass runs on the pair of pipes that it was given, which its request then shows. -/
theorem State.cyChunk_checked {s w y : State} {p q : Nat} {b c : CyCtx} {r : State × CyEnd} (hpq : p ≠ q) (hctx : s.cy.ctxs = [b])
    (hturn : (b.charged || s.eligible 2 b.inst 1) = true) (hpair : 2 ≤ (s.cySide b.lease).length) (hp : (s.cySide b.lease).contains p = true)
    (hq : (s.cySide b.lease).contains q = true) (hw : (if b.charged then s else s.chargeTokens 2 b.inst 1) = w)
    (hc : { b with pa := p, pb := q, arbs := min 15 (b.arbs + 0) } = c)
    (hy : (((w.servedBy { b with pa := p, pb := q }).setCy []).when (!b.lease)
      (fun x => (x.pmEvent 0x0801 p (some b.inst)).pmEvent 0x0802 q (some b.inst))).servedBy c = y)
    (hr : (if c.op ≤ 2 then y.cyXts c ((y.slot c.slot).key c.half) else y.cyGcm c ((y.slot c.slot).key c.half) (y.slot c.slot).fixed) = r) :
    s.cyChunk p q .passed = State.cyAfter r := by
  have hup : decide ((s.cySide b.lease).length < 2) = false := decide_eq_false (Nat.not_lt.2 hpair)
  have hothers : s.cy.ctxs.filter (fun x => x != b) = [] := by simp [hctx]
  have hfind : s.cy.ctxs.find? (fun c => decide ((s.cySide c.lease).length < 2) ||
      ((p != q && (s.cySide c.lease).contains p && (s.cySide c.lease).contains q) && (c.charged || s.eligible 2 c.inst 1))) = some b := by
    rw [hctx]
    exact List.find?_cons_of_pos (by simp only [hp, hq, hturn, bne_iff_ne.2 hpq, Bool.and_self, Bool.or_true])
  unfold State.cyChunk
  dsimp only
  rw [hfind]
  dsimp only
  rw [if_neg (by simp only [hup, Bool.false_eq_true, not_false_eq_true]), hothers, State.cyChecks_passed]
  subst hr hy hc hw
  rfl

/-! ### Pipes that fail (R406) -/

/-- An unleased pipe below its recovery limit retires for now, and contexts move to the pairs that are left. -/
theorem State.cyRetire_below {s y : State} {n : Nat} (hup : s.cyUp n = true) (hl : s.recoveries (org 0xB n) < s.rf FC_CFG_RECOV_LIMIT)
    (hy : (((s.setUnit (org 0xB n) (fun u => { u with st := 1 })).sf CY_PIPE_STAT_STATE 1 n).raise (0x308 + n)).report
      { org := org 0xB n, cause := 0x0B03, cls := ochre, react := 5 } = y) (hfree : y.cyLeased n = false) : s.cyRetire n = y.cyMove := by
  -- The list of a side's pipes is a name alone here: the kernel would otherwise read every pipe's register in the state after the writes.
  obtain ⟨side, hside⟩ : ∃ f, f = State.cySide := ⟨_, rfl⟩
  unfold State.cyRetire
  rw [if_neg (by simp [hup]), State.outOfService_below _ _ hl, ← hside]
  dsimp only at hy ⊢
  simp only [Bool.false_eq_true, if_false, hy, hfree]

/-- Settles O32: each row in the branch that the clause names. -/
theorem cipherRunsItsRequests : Obligations.CipherRunsItsRequests := by
  intro s hp
  refine ⟨fun q y z i d v hroom hactive hgrant hpick hfetch => ?_, fun p q c hctx hdown => ?_, fun p q c hpq hctx hturn hpair hcp hcq => ?_,
    fun p hup hl => ?_⟩
  · intro b leased side c
    have hdo {u : State} (h : s.cyFetch q.val = u) : Does (.cipherDescriptorFetch q) s u := does_of_run_eq (f := fun s => s.cyFetch q.val) hp rfl h
    have hrun {e w} (he : _ = e) (hw : _ = w) :=
      State.cyFetch_fetched hroom hactive hgrant hpick hfetch (b := b) (side := side) (c := c) rfl rfl rfl he hw
    refine ⟨fun hbad => hdo ((hrun rfl rfl).trans (if_pos hbad)), fun hbad hkey => ?_, fun hbad hkey hhold => ?_, fun hbad hkey hhold => ?_⟩
    · exact hdo ((hrun rfl rfl).trans (by rw [if_neg (by simp [hbad]), if_pos hkey]))
    · exact hdo ((hrun rfl rfl).trans (by rw [if_neg (by simp [hbad]), if_neg (by simp [hkey]), if_pos hhold]))
    · intro e w
      have hlast := (hrun (e := e) (w := w) rfl rfl).trans (by rw [if_neg (by simp [hbad]), if_neg (by simp [hkey]), if_neg (by simp [hhold])])
      exact ⟨fun hdown => hdo (hlast.trans (if_pos hdown)), fun hpair => hdo (hlast.trans (if_neg (Nat.not_lt.2 hpair)))⟩
  · exact does_of_run_eq (f := fun s => s.cyChunk p.val q.val .passed) hp rfl (State.cyChunk_unpaired hctx hdown)
  · intro w d y r
    have hrun : s.cyChunk p.val q.val .passed = State.cyAfter r :=
      State.cyChunk_checked (mt Fin.ext hpq) hctx hturn hpair hcp hcq (w := w) (c := d) (y := y) (r := r) rfl rfl rfl rfl
    refine ⟨fun z e hr => ?_, fun z e hr => ?_, fun z e k hr => ?_⟩ <;>
      exact does_of_run_eq (f := fun s => s.cyChunk p.val q.val .passed) hp rfl (hrun.trans (congrArg State.cyAfter hr))
  · intro y hfree
    exact does_of_run_eq (f := fun s => s.cyRetire p.val) hp rfl (State.cyRetire_below hup hl rfl hfree)

end Sys2Proof.Machine
end

section
/-! PROOFS. Key slots, rotations and leases (10 R389, R390, R393, R394, R407, R410, 17 R708), each row in the branch that its hypotheses name. -/

namespace Sys2Proof.Machine

/-- A row that a packet or the Vault firmware (log 10) may give answers with its effect on the state and the command that it acts on. -/
theorem does_of_via {i : Instr} {s t u : State} {v : Via} {op : Nat} {p : Cmd → Bool} {c : Cmd} {f : State → Cmd → State} (hp : s.powered = true)
    (hs : s.startsVia v op p t c) (he : exec i s = run (fun s => s.onVia v op p f) s) (h : f t c = u) : Does i s u :=
  does_of_run_eq hp he ((State.onVia_starts hs f).trans h)

/-! ### Slots (R389, R390) -/

theorem State.doKeyLoad_leased {s : State} {c : Cmd} (hl : s.rb CY_SLOT_LEASED (c.p 0) = true) (hn : s.fromSecure c = false) :
    s.doKeyLoad c = s.finish c stLEASED := if_pos (by simp [hl, hn])

theorem State.doKeyLoad_occupied {s : State} {c : Cmd} (hl : s.rb CY_SLOT_LEASED (c.p 0) = false) (ht : s.tainted = false)
    (hst : s.rf CY_SLOT_STATE (c.p 0) ≠ 0) : s.doKeyLoad c = s.finish c stDENIED := by
  unfold State.doKeyLoad
  dsimp only
  rw [if_neg (by simp [hl]), if_neg (by simp [ht]), if_pos hst]

theorem State.doKeyLoad_empty {s y : State} {c : Cmd} {b : KeyBundle} (hl : s.rb CY_SLOT_LEASED (c.p 0) = false) (ht : s.tainted = false)
    (hst : s.rf CY_SLOT_STATE (c.p 0) = 0) (hi : s.ist c.inst ≠ 0) (hb : s.takeBundle c.pay = (y, some b)) :
    s.doKeyLoad c = ((y.loadSlot (c.p 0) c.inst b c.pay).mirrorCmd c).finish c stOK := by
  unfold State.doKeyLoad
  dsimp only
  rw [if_neg (by simp [hl]), if_neg (by simp [ht]), if_neg (not_not.2 hst), if_neg (by simp [hl, hi]), hb]

/-- The erasure of a slot that no lease holds ends the slot's rotation first (log 69). -/
theorem State.doKeyErase_unleased {s : State} {c : Cmd} (hl : s.rb CY_SLOT_LEASED (c.p 0) = false) :
    s.doKeyErase c = ((s.endRotation (c.p 0)).mirrorCmd c).eraseThen c [c.p 0] := if_neg (by simp [hl])

/-! ### Rotations (R393, R394) -/

/-- The rotation that a KEY_ROTATE of an XTS-AES-256 key starts. -/
def rotOf (c : Cmd) : Rot :=
  ⟨c.seq, c.p 0 % 4096, c.p64 1, if bit (c.p 0) 16 then c.p64 3 else 0, c.p 5, ofBytes (c.pay.drop 96), c.pay.take 96, false⟩

/-- The drain of rotation r begins: its slot is Rotating, and the rotation registers show it. -/
def State.rotBegin (s : State) (r : Rot) (rew : Bool) : State :=
  let w : State := { s with cy := { s.cy with rot := some r } }
  let g := ((((w.sf CY_SLOT_STATE 2 r.slot).raise 0x312).sf CY_ROTATE_BUSY 1).sf CY_ROTATE_PHASE 1).sb CY_ROTATE_REWRAP rew
  let h := g.sf CY_ROTATE_SLOT r.slot
  (h.sf CY_ROTATE_TOTAL (h.holders r.slot)).sf CY_ROTATE_POS_POS 0

theorem State.doKeyRotate_loaded {s y n : State} {c : Cmd} {b : KeyBundle} (hl : s.rb CY_SLOT_LEASED (c.p 0 % 4096) = false) (ht : s.tainted = false)
    (hbusy : s.rb CY_ROTATE_BUSY = false) (hst : s.rf CY_SLOT_STATE (c.p 0 % 4096) = 1) (halg : s.rf CY_SLOT_ALG (c.p 0 % 4096) = 1)
    (hlen : c.pay.length = 96 + (if bit (c.p 0) 16 then 16 else 0))
    (hrew : bit (c.p 0) 16 = true → 16 ≤ c.p64 3 ∧ c.p64 1 + c.p64 3 ≤ 2 ^ 46 ∧ badDu (c.p 5) (c.p64 3) = false)
    (hb : s.takeBundle (c.pay.take 96) = (y, some b)) (hba : b.alg = 1) (hn : (y.mirrorCmd c).rotBegin (rotOf c) (bit (c.p 0) 16) = n) :
    s.doKeyRotate c = n.longPhase c 2 (n.holders (c.p 0 % 4096)) [] := by
  have hparams : ¬ (c.pay.length ≠ 96 + (if bit (c.p 0) 16 then 16 else 0) ∨
      (bit (c.p 0) 16 = true ∧ (2 ≤ 1 ∨ c.p64 3 < 16 ∨ 2 ^ 46 < c.p64 1 + c.p64 3 ∨ badDu (c.p 5) (c.p64 3) = true))) := by
    rintro (h | ⟨h, hbad⟩)
    · exact h hlen
    · obtain ⟨hmin, hend, hdu⟩ := hrew h
      simp only [hdu, Bool.false_eq_true, or_false] at hbad
      omega
  unfold State.doKeyRotate
  extract_lets k rew alg len96 base len du r
  have halg : alg = 1 := halg
  have hlen96 : len96 = 96 := by simp only [len96, halg]
  have hr : r = rotOf c := by
    simp only [r, hlen96]
    rfl
  rw [hlen96, halg, hr, if_neg (by simp [k, hl]), if_neg (by simp [ht]), if_neg (by simp [hbusy]), if_neg (not_not.2 hst), if_neg hparams, hb]
  subst hn
  exact if_neg (not_not.2 hba)

/-- Once no request holds the other half, the new key is in it and is the current one; without a rewrap the rotation has ended. -/
theorem State.rotDrainEnd_drained {s y : State} {r : Rot} {b : KeyBundle} (hrot : s.cy.rot = some r) (hphase : s.rf CY_ROTATE_PHASE = 1)
    (hfree : s.holders r.slot = 0) (hb : s.openBundle r.bundle = (some b, false)) (hlen : r.len = 0)
    (hy : s.setSlot r.slot (fun x => { x with
      k0 := if 1 - s.rf CY_SLOT_CUR r.slot = 0 then b.key else x.k0, k1 := if 1 - s.rf CY_SLOT_CUR r.slot = 0 then x.k1 else b.key,
      fixed := b.fixed, ctr := 0, acked := 0, prev := x.bundle, bundle := r.bundle }) = y) :
    s.rotDrainEnd = ((((y.sf CY_SLOT_CUR (1 - s.rf CY_SLOT_CUR r.slot) r.slot).sf CY_SLOT_PREV_VALID 1 r.slot).sb CY_SLOT_AUTO b.auto r.slot).sf
      CY_SLOT_BUNDLE_ID b.bid r.slot).rotEnd r stOK [] := by
  unfold State.rotDrainEnd
  rw [hrot]
  dsimp -zeta only
  rw [if_neg (by simp [hphase, hfree]), hb]
  subst hy
  exact if_pos hlen

/-- A rewrap whose side has no pair of pipes is faulted. -/
theorem State.rewrapUnit_unpaired {s : State} {r : Rot} {p q : Nat} (hrot : s.cy.rot = some r) (hphase : s.rf CY_ROTATE_PHASE = 2)
    (hdown : (s.cySide (s.rb CY_SLOT_LEASED r.slot)).length < 2) : s.rewrapUnit p q .passed = s.rotEnd r stFAULTED [s.rf CY_ROTATE_POS_POS] := by
  unfold State.rewrapUnit
  rw [hrot]
  dsimp -zeta only
  exact (if_neg (not_not.2 hphase)).trans (if_pos hdown)

/-- The length of a rewrap's whole data units. -/
def Rot.stride (r : Rot) : Nat := if r.du = 0 then r.len else r.du

/-- The length of data unit `pos` of a rewrap, of which the last may be short. -/
def Rot.unitLen (r : Rot) (pos : Nat) : Nat := min r.stride (r.len - pos * r.stride)

/-- The tokens that data unit `pos` of a rewrap costs. -/
def Rot.unitCost (r : Rot) (pos : Nat) : Nat := (r.unitLen pos + 16383) / 16384

/-- Data unit `pos` of a rewrap as it is written: decrypted under the previous key of its slot and encrypted under the current one. -/
def State.rewrapped (s : State) (r : Rot) (pos : Nat) (l : List Nat) : List Nat :=
  let old := xtsKeys ((s.slot r.slot).key (1 - s.rf CY_SLOT_CUR r.slot))
  let new := xtsKeys ((s.slot r.slot).key (s.rf CY_SLOT_CUR r.slot))
  let plain := (xtsSpan old.1 old.2 false (r.unitLen pos) (r.tweak + pos) 0 0 l (l.length + 1)).1
  (xtsSpan new.1 new.2 true (r.unitLen pos) (r.tweak + pos) 0 0 plain (l.length + 1)).1

/-- The position of a rewrap has moved behind data unit `pos`. -/
def State.rewrapMoved (s : State) (r : Rot) (pos : Nat) : State :=
  let x := if pos * 100 / r.units < (pos + 1) * 100 / r.units then s.raise 0x312 else s
  if pos + 1 = r.units then x.rotEnd r stOK []
  else match x.mp.cmds.find? (fun c => c.seq == r.cmd) with
    | some c => x.longPos c (pos + 1)
    | none => x

/-- The last data unit brings the percentage to 100, which it was not before. -/
theorem State.rewrapMoved_last {s : State} {r : Rot} {pos : Nat} (h : pos + 1 = r.units) : s.rewrapMoved r pos = (s.raise 0x312).rotEnd r stOK [] := by
  have hpercent : pos * 100 / r.units < (pos + 1) * 100 / r.units := by
    rw [h, Nat.mul_div_cancel_left 100 (by omega), Nat.div_lt_iff_lt_mul (by omega)]
    omega
  unfold State.rewrapMoved
  rw [if_pos hpercent]
  exact if_pos h

theorem State.rewrapMoved_on {s : State} {r : Rot} {pos : Nat} {d : Cmd} (h : pos + 1 ≠ r.units) (hpercent : pos * 100 / r.units = (pos + 1) * 100 / r.units)
    (hd : s.mp.cmds.find? (fun (c : Cmd) => c.seq == r.cmd) = some d) : s.rewrapMoved r pos = s.longPos d (pos + 1) := by
  unfold State.rewrapMoved
  rw [if_neg (Nat.not_lt.2 hpercent.ge)]
  dsimp only
  rw [if_neg h, hd]

/-- A data unit whose checks pass is read and written back on the pair of pipes that it was given. -/
theorem State.rewrapUnit_written {s x y z : State} {r : Rot} {p q own pos : Nat} {side l : List Nat} {c : CyCtx} (hrot : s.cy.rot = some r)
    (hphase : s.rf CY_ROTATE_PHASE = 2) (hpq : p ≠ q) (hown : s.rf CY_SLOT_OWNER r.slot = own) (hside : s.cySide (s.rb CY_SLOT_LEASED r.slot) = side)
    (hpos : s.rf CY_ROTATE_POS_POS = pos) (hpair : 2 ≤ side.length) (hp : side.contains p = true) (hq : side.contains q = true)
    (hturn : s.eligible 2 own (r.unitCost pos) = true) (hx : s.chargeTokens 2 own (r.unitCost pos) = x)
    (hc : { cyParse own (x.gen own) 0 0 with pa := p, slot := r.slot } = c) (hread : x.cyRead c (r.base + pos * r.stride) (r.unitLen pos) = (y, .ok l))
    (hwrite : y.cyWrite c (r.base + pos * r.stride) (y.rewrapped r pos l) = (z, true)) :
    s.rewrapUnit p q .passed = ((z.bump rCY_PIPE_BYTES p (2 * r.unitLen pos)).sf CY_ROTATE_POS_POS (pos + 1)).rewrapMoved r pos := by
  subst hown hside hpos hx hc
  unfold State.rewrapUnit
  rw [hrot]
  dsimp -zeta only
  extract_lets k own side pos du n cost stop w chk b c units
  have hready : ¬ (p = q ∨ side.contains p = false ∨ side.contains q = false ∨ s.eligible 2 own cost = false) := by
    rintro (h | h | h | h)
    exacts [hpq h, Bool.false_ne_true (h.symm.trans hp), Bool.false_ne_true (h.symm.trans hq), Bool.false_ne_true (h.symm.trans hturn)]
  rw [if_neg (not_not.2 hphase), if_neg (Nat.not_lt.2 hpair), if_neg hready, if_neg (c := (!chk.ok) = true) Bool.false_ne_true,
    show chk.s.cyRead c (r.base + pos * du) n = (y, .ok l) from hread]
  dsimp -zeta only
  extract_lets cur old new plain out
  rw [show y.cyWrite c (r.base + pos * du) out = (z, true) from hwrite]
  rfl

/-! ### Leases (R407, R410, 17 R708) -/

/-- The slots that a lease of cipher resources names in its payload. -/
def leasedSlots (c : Cmd) : List Nat := (List.range (c.p 2)).map (fun j => ofBytes ((c.pay.drop (2 * j)).take 2))

/-- The pipes of the pairs that a lease of cipher resources names. -/
def leasedPipes (c : Cmd) : List Nat := (List.range 8).filter (fun p => bit (c.p 1) (p / 2))

/-- Free slots and Up pipes are leased as long as four Up pipes stay unleased, at most four are leased and a lease is free. -/
theorem State.doLeaseCipher_free {s x y : State} {c : Cmd} {h : Nat} (hkind : c.p 0 = 1) (hpairs : c.p 1 < 16) (hcount : c.p 2 ≤ 2016)
    (hpay : 2 * c.p 2 ≤ c.pay.length) (ht : s.tainted = false)
    (hslots : ∀ k ∈ leasedSlots c, k < 4096 ∧ s.rf CY_SLOT_STATE k = 0 ∧ s.rb CY_SLOT_LEASED k = false)
    (hpipes : ∀ p ∈ leasedPipes c, s.cyUp p = true ∧ s.cyLeased p = false)
    (hleft : 4 ≤ ((s.cySide false).filter (fun p => !(leasedPipes c).contains p)).length)
    (hsum : ((List.range 8).filter (fun p => s.cyLeased p)).length + (leasedPipes c).length ≤ 4) (hroom : s.leases.length < 32)
    (hx : (leasedPipes c).foldl (fun (x : State) p => (x.pipeLease p true).raise (0x308 + p)) s = x)
    (hy : ((leasedSlots c).foldl (fun (x : State) k => x.sf CY_SLOT_LEASED 1 k) x).addLease 1 c.sender (leasedPipes c) (leasedSlots c).eraseDups [] = (y, h)) :
    s.doLeaseCipher c = (((y.cyMove.raise 0x313).leaseSync).mirrorCmd c).finish c stOK [h] := by
  have hnums : ¬ (leasedSlots c).any (fun k => decide (4096 ≤ k)) = true := by
    rw [List.any_eq_true]
    rintro ⟨k, hk, hbig⟩
    exact Nat.not_le.2 (hslots k hk).1 (of_decide_eq_true hbig)
  have hempty : ¬ (leasedSlots c).any (fun k => s.rf CY_SLOT_STATE k != 0 || s.rb CY_SLOT_LEASED k) = true := by
    rw [List.any_eq_true]
    rintro ⟨k, hk, hused⟩
    obtain ⟨_, hst, hl⟩ := hslots k hk
    simp [hst, hl] at hused
  have hfree : ¬ (leasedPipes c).any (fun p => !s.cyUp p || s.cyLeased p) = true := by
    rw [List.any_eq_true]
    rintro ⟨p, hp, hused⟩
    obtain ⟨hup, hl⟩ := hpipes p hp
    simp [hup, hl] at hused
  unfold State.doLeaseCipher
  extract_lets n slots pipes un leasedNow w v
  rw [if_neg (by simp only [not_or]; exact ⟨not_not.2 hkind, Nat.not_le.2 hpairs, Nat.not_lt.2 hcount, Nat.not_lt.2 hpay, hnums⟩), if_neg (by simp [ht]),
    if_neg (c := slots.any _ = true) hempty, if_neg (c := pipes.any _ = true) hfree,
    if_neg (by simp only [not_or]; exact ⟨Nat.not_lt.2 hleft, Nat.not_lt.2 hsum, Nat.not_le.2 hroom⟩)]
  subst hx
  rw [show v.addLease 1 c.sender pipes slots.eraseDups [] = (y, h) from hy]

/-- The lowest free pages of the Vault SRAM are leased as long as it has enough of them and a lease is free. -/
theorem State.doLeaseSram_free {s y : State} {c : Cmd} {used : List Nat} {h : Nat} (hzero : c.p 2 = 0) (hpage : c.p 1 % 4 = 0) (hmin : 4 ≤ c.p 1) (hmax : c.p 1 ≤ 1024)
    (ht : s.tainted = false) (hused : s.leases.flatMap (fun (l : Lease) => l.pages) = used) (hfit : 4 * used.length + c.p 1 ≤ 1024) (hroom : s.leases.length < 32)
    (hy : s.addLease 2 c.sender [] [] (((List.range 256).filter (fun p => !used.contains p)).take (c.p 1 / 4)) = (y, h)) :
    s.doLeaseSram c = ((y.leaseSync).mirrorCmd c).finish c stOK [h] := by
  subst hused
  unfold State.doLeaseSram
  extract_lets kib used pages
  rw [if_neg (by simp only [kib]; omega), if_neg (by simp [ht]), if_neg (by simp only [kib, used]; omega), show s.addLease 2 c.sender [] [] pages = (y, h) from hy]

theorem State.doLeaseRelease_held {s : State} {c : Cmd} {l : Lease} (hl : s.leases.find? (fun (l : Lease) => l.handle == c.p 0) = some l)
    (hc : l.holder = c.sender ∨ c.sender = 600) : s.doLeaseRelease c = ((s.endLease l).mirrorCmd c).eraseThen c l.slots := by
  unfold State.doLeaseRelease
  rw [hl]
  exact if_neg (fun h => hc.elim h.1 h.2)

theorem State.doLeaseRelease_denied {s : State} {c : Cmd} {l : Lease} (hl : s.leases.find? (fun (l : Lease) => l.handle == c.p 0) = some l)
    (hc : l.holder ≠ c.sender) (hv : c.sender ≠ 600) : s.doLeaseRelease c = s.finish c stDENIED := by
  unfold State.doLeaseRelease
  rw [hl]
  exact if_pos ⟨hc, hv⟩

/-- Settles O33: each row in the branch that the clause names. -/
theorem keysAndLeasesFollowTheirCommands : Obligations.KeysAndLeasesFollowTheirCommands := by
  intro s hp
  refine ⟨fun v t c hs => ⟨fun hl hn => ?_, fun hl ht hst => ?_, fun y b hl ht hst hi hb => ?_⟩, fun v t c hs hl => ?_, fun k hst hfree => ?_,
    fun v t y c b hs => ?_, fun r b hrot hphase hfree hb hlen => ?_, fun p q r hrot hphase hdown => ?_, fun p q r y z l hrot hphase hpq => ?_,
    fun v t c hs hkind hpairs hcount hpay ht => ?_, fun v t c hs hzero hpage hmin hmax ht => ?_, fun v t c l hs hl => ⟨fun hc => ?_, fun hc hv => ?_⟩⟩
  · exact does_of_via hp hs rfl (State.doKeyLoad_leased hl hn)
  · exact does_of_via hp hs rfl (State.doKeyLoad_occupied hl ht hst)
  · exact does_of_via hp hs rfl (State.doKeyLoad_empty hl ht hst hi hb)
  · exact does_of_via hp hs rfl (State.doKeyErase_unleased hl)
  · exact does_of_run_eq (f := fun s => s.keyEraseComplete k.toNat) hp rfl (if_pos ⟨hst, hfree⟩)
  · intro k hl ht hbusy hst halg rew hlen hrew hb hba x w g h n
    exact does_of_via hp hs rfl (State.doKeyRotate_loaded hl ht hbusy hst halg hlen hrew hb hba rfl)
  · exact does_of_run_eq (f := State.rotDrainEnd) hp rfl (State.rotDrainEnd_drained hrot hphase hfree hb hlen rfl)
  · exact does_of_run_eq (f := fun s => s.rewrapUnit p.val q.val .passed) hp rfl (State.rewrapUnit_unpaired hrot hphase hdown)
  · intro k own side pos du n cost x c hpair hcp hcq hturn hread old new plain hwrite g
    have hrun := State.rewrapUnit_written hrot hphase (mt Fin.ext hpq) rfl rfl rfl hpair hcp hcq hturn rfl rfl hread hwrite
    have hdo {u : State} (h : g.rewrapMoved r pos = u) : Does (.rewrapUnit p q .passed) s u :=
      does_of_run_eq (f := fun s => s.rewrapUnit p.val q.val .passed) hp rfl (hrun.trans h)
    exact ⟨fun hlast => hdo (State.rewrapMoved_last hlast), fun d hon hpercent hd => hdo (State.rewrapMoved_on hon hpercent hd)⟩
  · intro slots pipes hslots hpipes hleft hsum hroom x y
    exact does_of_via hp hs rfl (State.doLeaseCipher_free hkind hpairs hcount hpay ht hslots hpipes hleft hsum hroom rfl rfl)
  · intro used hfit hroom y
    exact does_of_via hp hs rfl (State.doLeaseSram_free hzero hpage hmin hmax ht rfl hfit hroom rfl)
  · exact does_of_via hp hs rfl (State.doLeaseRelease_held hl hc)
  · exact does_of_via hp hs rfl (State.doLeaseRelease_denied hl hc hv)

end Sys2Proof.Machine
end

section
/-! PROOFS. Chains (11 R428-R434, R437, R448, R454, R459-R461, R464): accepted, checked, dispatched, moved in chunks, committed. -/

namespace Sys2Proof.Machine

/-- A channel command's effect is that of its function, with the channel registers following (R483, R486). -/
theorem does_of_runCh_eq {c : Instr} {s u : State} {f : State → State} (hp : s.powered = true) (he : exec c s = runCh f s) (h : f s = u) : Does c s u.chSync :=
  does_of_run_eq (f := fun s => (f s).chSync) hp he (congrArg State.chSync h)

/-- A processor's step that needs no repetition. -/
theorem State.txnStep_once (s : State) (tid : Nat) (bad : Fin 4) (f : State → State) : s.txnStep tid ⟨bad, false⟩ f = f s := rfl

theorem State.each_singleton {α : Type} (s : State) (a : α) (f : State → α → State) : s.each [a] f = f s a := rfl

/-- A fold of steps that each change nothing. -/
theorem State.each_same {α : Type} {s : State} {f : State → α → State} (l : List α) (h : ∀ a ∈ l, f s a = s) : s.each l f = s :=
  foldl_keeps (fun (x : State) => x = s) f l s rfl (fun x a hx ha => by rw [hx]; exact h a ha)

section
variable {s : State} {tid bad : Nat} {t : Txn}

/-! ### Submission (R434) -/

theorem State.submitBegin_bad {c : Cmd} (h : c.pay.length = 0 ∨ c.pay.length % 32 ≠ 0 ∨ 126 * 32 < c.pay.length) : s.submitBegin c = s.finish c stBAD_PARAM := if_pos h

theorem State.submitBegin_whole {c : Cmd} (h0 : 0 < c.pay.length) (h1 : c.pay.length % 32 = 0) (h2 : c.pay.length ≤ 126 * 32) :
    s.submitBegin c = (s.mirrorCmd c).longPhase c 0 0 [] :=
  if_neg (by omega)

theorem State.submitNext_accepted {c : Cmd} {y : State} {ack : Nat} (h : s.submit 512 0 (.host c.pay) 0 bad = (y, ack)) (ha : ack % 2 ^ 43 ≠ 0) :
    s.submitNext c bad = y.finish (y.curCmd c) stACCEPTED [ack % 2 ^ 32, ack / 2 ^ 32] := by
  unfold State.submitNext
  rw [h]
  exact if_neg ha

/-! ### The chain check (R424, R428) -/

section
variable {n : Nat} {host : List (List Nat)} {l : List Txn} (ho : s.chOn = true) (hs : s.rf CH_PROC_STAT_STATE n = 0) (ha : s.rf CH_PROC_STAT_ACTIVE n < 64)
  (hl : s.takeable n = t :: l)
include ho hs ha hl

theorem State.chainCheck_host (hh : t.host = true) : s.chainCheck n host bad = s.checkChain t host bad := by
  unfold State.chainCheck
  rw [if_neg (by simp [ho, hs, ha]), hl]
  exact if_pos hh

theorem State.chainCheck_granted {y : State} {i : Nat} {x : Txn} (hh : t.host = false)
    (hg : s.grant 0 (((t :: l).filter (fun x => !x.host)).map (fun x => (x.inst, 1))).eraseDups (16 + n) = (y, some i))
    (hx : (t :: l).find? (fun x => !x.host && x.inst == i) = some x) : s.chainCheck n host bad = (y.refundToken 0 i).checkChain x host bad := by
  unfold State.chainCheck
  rw [if_neg (by simp [ho, hs, ha]), hl]
  dsimp only
  rw [if_neg (by simp [hh]), hg]
  dsimp only
  rw [hx]

end

/-! ### Dispatch (R424, R448) -/

/-- A transaction in progress whose next CCE may start, at the cost of one token. -/
structure State.MayStart (s : State) (t : Txn) : Prop where
  on : s.chOn = true
  drives : s.drives = true
  active : t.state = 3
  begun : t.begun = false
  flush : t.flush = false
  cancel : t.cancel = 0
  up : s.procUp t.chan = true
  released : s.released t = true
  token : (t.host || s.eligible 0 t.inst 1) = true

/-- The transaction whose CCE has started, outside a run, with its segments. -/
def Txn.started (t : Txn) (l : List Seg) (now : Nat) : Txn :=
  { t with state := 3, begun := true, segs := l, off := 0, jOff := 0, jAt := now, acked := 0, sent := 0, tries := 0, peer := 0, run := t.cce }

theorem State.MayStart.no_token_missing (hm : s.MayStart t) : (!t.host && !s.eligible 0 t.inst 1) = false := by rw [← Bool.not_or, hm.token]; rfl

section
variable (ht : s.txn tid = some t) (hm : s.MayStart t)
include ht hm

/-- A NOP completes as it starts. -/
theorem State.dispatch_nop (hop : ccOp (t.ccs.getD t.cce 0) = 0x30) :
    s.dispatch tid bad = (if t.host then s else s.chargeTokens 0 t.inst 1).doneCce t 1 1 0 bad := by
  have hk := hm.no_token_missing
  obtain ⟨ho, hd, ha, hb, hf, hc, hu, hr, -⟩ := hm
  unfold State.dispatch
  rw [ht]
  dsimp only
  rw [hop, if_neg (by simp [ho, hd, ha, hb, hf, hc, hu, hr, hk])]
  simp

/-- A PREAD starts with its DISPATCH entry. -/
theorem State.dispatch_pread {x : State} (hop : ccOp (t.ccs.getD t.cce 0) = 0x11) (hx : (if t.host then s else s.chargeTokens 0 t.inst 1) = x) :
    s.dispatch tid bad = x.jrn (t.started [] x.now) 3 bad := by
  have hk := hm.no_token_missing
  obtain ⟨ho, hd, ha, hb, hf, hc, hu, hr, -⟩ := hm
  have hsegs : x.mkSegs t = [] := by unfold State.mkSegs; dsimp only; rw [hop]; rfl
  unfold State.dispatch
  rw [ht]
  dsimp only
  rw [hop, if_neg (by simp [ho, hd, ha, hb, hf, hc, hu, hr, hk])]
  simp [hx, hsegs, isRunOp, Txn.started]

/-- An FWRITE starts with the request of its one segment. -/
theorem State.dispatch_fwrite {x : State} {g : Seg} (hop : ccOp (t.ccs.getD t.cce 0) = 0x01) (hx : (if t.host then s else s.chargeTokens 0 t.inst 1) = x)
    (hg : x.mkSegs t = [g]) :
    s.dispatch tid bad = (x.putTxn (t.started [g] x.now)).dispatchSeg tid 0 bad := by
  have hk := hm.no_token_missing
  obtain ⟨ho, hd, ha, hb, hf, hc, hu, hr, -⟩ := hm
  unfold State.dispatch
  rw [ht]
  dsimp only
  rw [hop, if_neg (by simp [ho, hd, ha, hb, hf, hc, hu, hr, hk])]
  simp [hx, hg, isRunOp, State.each, Txn.started]

end

/-! ### Outcomes and chunks (R437, R454, R459, R464) -/

/-- A transaction whose CCE is under way on a processor that acts. -/
structure State.UnderWay (s : State) (t : Txn) : Prop where
  on : s.chOn = true
  up : s.procUp t.chan = true
  active : t.state = 3
  begun : t.begun = true

section
variable (ht : s.txn tid = some t) (hw : s.UnderWay t)
include ht hw

theorem State.cceOutcome_ring {far : FarEnd} (hf : t.flush = false) (hg : t.segs ≠ []) : s.cceOutcome tid far bad = s.ringOutcome t bad := by
  obtain ⟨ho, hu, ha, hb⟩ := hw
  unfold State.cceOutcome
  rw [ht]
  dsimp only
  rw [if_neg (by simp [ho, hu, ha]), if_neg (by simp [hf]), if_pos (by simp [hb, hg])]

section
variable {host : List Nat} {far : FarEnd} (hd : s.drives = true) (hf : t.flush = false)
include hd hf

theorem State.dataChunk_cancelled (hc : t.cancel ≠ 0) (hk : s.chanKind t.chan = 1 ∨ s.chanKind t.chan = 2) : s.dataChunk tid host far bad = s.stopData t bad := by
  obtain ⟨ho, hu, ha, hb⟩ := hw
  unfold State.dataChunk
  rw [ht]
  dsimp only
  rw [if_neg (by simp [ho, hd, hu, ha, hb, hf]), if_pos ⟨hc, hk⟩]

theorem State.dataChunk_pci {u : State} (hc : t.cancel = 0) (hk : s.chanKind t.chan = 1) (hp : s.chunkPaid t = some u) :
    s.dataChunk tid host far bad = u.pciChunk t host far bad := by
  obtain ⟨ho, hu, ha, hb⟩ := hw
  unfold State.dataChunk
  rw [ht]
  dsimp only
  rw [if_neg (by simp [ho, hd, hu, ha, hb, hf]), if_neg (by simp [hc]), if_pos hk, hp]

/-- An NSEND sends a part of its chunk; the first part pays for the chunk. -/
theorem State.dataChunk_nsend (hc : t.cancel = 0) (hk : s.chanKind t.chan = 2) (hop : ccOp (t.ccs.getD t.cce 0) = 0x20) (hn : s.nsendPart t ≠ []) :
    s.dataChunk tid host far bad = if s.nsendFresh t = false then s.nsendChunk t host bad
      else (s.chunkPaid { t with off := t.sent }).elim s (fun u => u.nsendChunk t host bad) := by
  obtain ⟨ho, hu, ha, hb⟩ := hw
  unfold State.dataChunk
  rw [ht]
  dsimp only
  rw [if_neg (by simp [ho, hd, hu, ha, hb, hf]), if_neg (by simp [hc]), if_neg (by simp [hk]), if_pos ⟨hk, hop⟩, if_neg (by simp [hn])]
  simp only [Bool.not_eq_true']
  cases s.chunkPaid { t with off := t.sent } <;> rfl

end

section
variable (hk : s.chanKind t.chan = 3) (hc : t.cancel = 0)
include hk hc

theorem State.loopChunk_noTarget (hj : s.ist (dfld (s.cdef t.chan) 4 8 0) = 0) : s.loopChunk tid bad = s.failCce t 0xD t.off bad := by
  obtain ⟨ho, hu, ha, hb⟩ := hw
  unfold State.loopChunk
  rw [ht]
  dsimp only
  rw [if_neg (by simp [ho, hu, ha, hb, hk]), if_neg (by simp [hc]), if_pos (Or.inl hj)]

/-- The last chunk of a LOOP write: its bytes are read from the owner and written into the target. -/
theorem State.loopChunk_lastWrite {j n : Nat} (hj : dfld (s.cdef t.chan) 4 8 0 = j) (hist : s.ist j = 1 ∨ s.ist j = 2) (hdead : s.ch.dead.contains t.chan = false)
    {u y z : State} {bs : List Nat} {r : _} (hp : s.chunkPaid t = some u) (hop : ccOp (t.ccs.getD t.cce 0) ≠ 0x11)
    (hn : min 16384 (ccDataLen (t.ccs.getD t.cce 0) - t.off) = n) (hy : u.pwBytes t (t.ccs.getD t.cce 0) n [] = (y, .ok bs))
    (hz : y.ioWrite (u.chanOrg t.chan) j (y.gen j) (dfld (s.cdef t.chan) 8 45 0 + ccArg (t.ccs.getD t.cce 0) + t.off) n (ofBytes bs) = (z, .ok r))
    (hl : ccDataLen (t.ccs.getD t.cce 0) ≤ t.off + n) :
    s.loopChunk tid bad = z.doneCce { t with off := t.off + n } 1 1 (t.off + n) bad := by
  obtain ⟨ho, hu, ha, hb⟩ := hw
  have htarget : ¬ (s.ist j = 0 ∨ s.ist j = 8 ∨ s.ch.dead.contains t.chan = true) := by rw [hdead]; simp only [Bool.false_eq_true, or_false]; omega
  unfold State.loopChunk
  rw [ht]
  dsimp only
  rw [if_neg (by simp [ho, hu, ha, hb, hk]), if_neg (by simp [hc]), hj, if_neg htarget, if_neg (by omega), hp]
  dsimp only
  rw [hn, if_neg hop, hy]
  dsimp only
  rw [hz]
  exact if_pos hl

end
end

/-! ### The commit (R461) -/

section
variable (ht : s.txn tid = some t) (hst : t.state = 4) (ho : s.chOn = true) (hd : s.drives = true) (hu : s.procUp t.chan = true)
include ht hst ho hd hu

theorem State.commitRepeat_settled (h : t.segs.all (fun g => g.st == 3 || g.st == 5) = true) : s.commitRepeat tid bad = s.committed t bad := by
  have hsettled (x : Seg × Nat) (hx : x ∈ t.segs.zipIdx) : x.1.st = 3 ∨ x.1.st = 5 := by simpa using List.all_eq_true.1 h x.1 (List.fst_mem_of_mem_zipIdx hx)
  unfold State.commitRepeat
  rw [ht]
  dsimp only
  rw [if_neg (by simp [hst, ho, hd, hu]), State.each_same t.segs.zipIdx (fun x hx => if_pos (hsettled x hx)), ht]

/-- An unanswered commit request that the port does not hold goes out again while PREP_HOLD runs. -/
theorem State.commitRepeat_again {g : Seg} {x : Txn} (hg : t.segs = [g]) (h3 : g.st ≠ 3) (h5 : g.st ≠ 5) (hnow : s.now < g.prepAt + dfld (s.cdef t.chan) 8 15 0 * 1000000)
    (hr : (s.port g.port).reqs.any (fun r => r.tid == tid && r.seg == 0) = false) (hx : (s.frTake g.port (g.req tid 0 5)).txn tid = some x) :
    s.commitRepeat tid bad = (s.frTake g.port (g.req tid 0 5)).committed x bad := by
  unfold State.commitRepeat
  rw [ht]
  dsimp only
  rw [if_neg (by simp [hst, ho, hd, hu]), hg, List.zipIdx_singleton, State.each_singleton, if_neg (by simp [h3, h5]), if_neg (by simpa using hnow), hr, if_neg Bool.false_ne_true,
    hx]

end
end
section
variable {s u : State} (hp : s.powered = true)
include hp

theorem does_channelSubmit {bad : Fin 4} (h : s.onLong 0x0308 State.submitBegin (fun s c => s.submitNext c bad.val) = u) : Does (.channelSubmit bad) s u.chSync :=
  does_of_runCh_eq (f := fun s => s.onLong 0x0308 State.submitBegin (fun s c => s.submitNext c bad.val)) hp rfl h

theorem does_chainCheck {n : Fin 16} {host : List (List Byte)} {bad : Fin 4} (h : s.chainCheck n.val (host.map byteNats) bad.val = u) :
    Does (.chainCheck n host ⟨bad, false⟩) s u.chSync :=
  does_of_runCh_eq (f := fun s => s.chainCheck n.val (host.map byteNats) bad.val) hp rfl h

theorem does_dispatch {tid : Word} {bad : Fin 4} (h : s.dispatch tid.toNat bad.val = u) : Does (.dispatch tid ⟨bad, false⟩) s u.chSync :=
  does_of_runCh_eq (f := fun s => s.dispatch tid.toNat bad.val) hp rfl h

theorem does_cceOutcome {tid : Word} {far : FarEnd} {bad : Fin 4} (h : s.cceOutcome tid.toNat far bad.val = u) : Does (.cceOutcome tid far ⟨bad, false⟩) s u.chSync :=
  does_of_runCh_eq (f := fun s => s.cceOutcome tid.toNat far bad.val) hp rfl h

theorem does_dataChunk {tid : Word} {host : List Byte} {far : FarEnd} {bad : Fin 4} (h : s.dataChunk tid.toNat (byteNats host) far bad.val = u) :
    Does (.dataChunk tid host far ⟨bad, false⟩) s u.chSync :=
  does_of_runCh_eq (f := fun s => s.dataChunk tid.toNat (byteNats host) far bad.val) hp rfl h

theorem does_loopChunk {tid : Word} {bad : Fin 4} (h : s.loopChunk tid.toNat bad.val = u) : Does (.loopChunk tid ⟨bad, false⟩) s u.chSync :=
  does_of_runCh_eq (f := fun s => s.loopChunk tid.toNat bad.val) hp rfl h

theorem does_commitRepeat {tid : Word} {bad : Fin 4} (h : s.commitRepeat tid.toNat bad.val = u) : Does (.commitRepeat tid ⟨bad, false⟩) s u.chSync :=
  does_of_runCh_eq (f := fun s => s.commitRepeat tid.toNat bad.val) hp rfl h

end

/-- Settles O34: each row in the branch that the clause names. -/
theorem chainsRunToTheirOutcome : Obligations.ChainsRunToTheirOutcome := by
  intro s hp
  refine ⟨fun i v d x bad => ?_, fun c bad h => ⟨fun hb => ?_, fun h0 h1 h2 => ?_⟩, fun c bad y ack hn hf hc hs ha => ?_,
    fun n host bad t l ho hs ha hl => ⟨fun hh => ?_, fun y i x hh hg hx => ?_⟩, fun tid bad t ht ho hd ha hb hf hc hu hr hk => ?_,
    fun tid far bad t ht ho hu ha hf hb hg => ?_, fun tid host far bad t ht ho hd hu ha hb hf => ⟨fun hc hk => ?_, fun u hc hk hpaid => ?_, fun hc hk hop hn => ?_⟩,
    fun tid bad t ht ho hu ha hb hk hc => ?_, fun tid bad t ht hst ho hd hu => ⟨fun h => ?_, fun g u hg h3 h5 hnow hr hx => ?_⟩⟩
  · exact does_of_runCh_eq (f := fun s => (s.doorbell i.toNat d.val x.toNat bad.val).1.setVc (vkey i.toNat v.val)
      (fun c => { c with acks := Map.put c.acks d.val (BitVec.ofNat 64 (s.doorbell i.toNat d.val x.toNat bad.val).2) })) hp rfl rfl
  · exact does_channelSubmit hp ((State.onLong_starts h _ _).trans (State.submitBegin_bad hb))
  · exact does_channelSubmit hp ((State.onLong_starts h _ _).trans (State.submitBegin_whole h0 h1 h2))
  · exact does_channelSubmit hp ((State.onLong_next hn hf _ _).trans (by rw [hc]; exact State.submitNext_accepted hs ha))
  · exact does_chainCheck hp (State.chainCheck_host ho hs ha hl hh)
  · exact does_chainCheck hp (State.chainCheck_granted ho hs ha hl hh hg hx)
  · intro x d
    have hm : s.MayStart t := ⟨ho, hd, ha, hb, hf, hc, hu, hr, hk⟩
    exact ⟨fun hop => does_dispatch hp (State.dispatch_nop ht hm hop), fun hop => does_dispatch hp (State.dispatch_pread ht hm hop rfl),
      fun g hop hg => does_dispatch hp (State.dispatch_fwrite ht hm hop rfl hg)⟩
  · exact does_cceOutcome hp (State.cceOutcome_ring ht ⟨ho, hu, ha, hb⟩ hf hg)
  · exact does_dataChunk hp (State.dataChunk_cancelled ht ⟨ho, hu, ha, hb⟩ hd hf hc hk)
  · exact does_dataChunk hp (State.dataChunk_pci ht ⟨ho, hu, ha, hb⟩ hd hf hc hk hpaid)
  · have hrun := State.dataChunk_nsend (far := far) (host := byteNats host) (bad := bad.val) ht ⟨ho, hu, ha, hb⟩ hd hf hc hk hop hn
    exact ⟨fun hfresh => does_dataChunk hp (hrun.trans (if_pos hfresh)),
      fun u hfresh hpaid => does_dataChunk hp (hrun.trans (by rw [if_neg (by simp [hfresh]), hpaid]; rfl))⟩
  · intro c j n
    exact ⟨fun hj => does_loopChunk hp (State.loopChunk_noTarget ht ⟨ho, hu, ha, hb⟩ hk hc hj),
      fun u y z bs r hist hdead hpaid hop hy hz hl =>
        does_loopChunk hp (State.loopChunk_lastWrite ht ⟨ho, hu, ha, hb⟩ hk hc rfl hist hdead hpaid hop rfl hy hz hl)⟩
  · exact does_commitRepeat hp (State.commitRepeat_settled ht hst ho hd hu h)
  · exact does_commitRepeat hp (State.commitRepeat_again ht hst ho hd hu hg h3 h5 hnow hr hx)

end Sys2Proof.Machine
end

section
/-! PROOFS. Completions (11 R436, R439, R441, R442, R484, R485, R830): posted and retired, refused and tried again; the host's ring. -/

namespace Sys2Proof.Machine

section
variable {s : State} {t : Txn} {bad : Nat}

/-- A final transaction of the current generation, the oldest of its queue, on a module that writes completions (R441). -/
structure State.MayPost (s : State) (t : Txn) : Prop where
  final : t.state = 5
  owned : t.orphan = false
  on : s.jrnOn = true
  active : s.isStandby = false
  fresh : s.txnStale t = false
  first : s.firstFinal t = true

section
variable (hm : s.MayPost t)
include hm

/-- The ring of the Operator Host takes the entry: written at its tail, which moves, with the event of a ring that is now full. -/
theorem State.completionWrite_host {retry : Bool} {lg tail n : Nat} (hh : t.host = true) (he : s.rb CH_HOST_CQ_CFG_EN = true) (hb : s.mp.busMaster = true)
    (hlg : s.rf CH_HOST_CQ_CFG_SIZE = lg) (htail : ptrPos (s.reg rCH_HOST_CQ_TAIL 0) lg = tail)
    (hn : ptrDist (ptrPos (s.reg rCH_HOST_CQ_HEAD 0) lg) tail lg = n) (hroom : n < 2 ^ lg) :
    s.completionWrite t retry bad =
      ((((s.hostWrite (s.rf CH_HOST_CQ_BASE_BASE * 64 + tail % 2 ^ lg * 32) (toBytes t.entry 32)).1.wreg rCH_HOST_CQ_TAIL 0 (ptrVal (tail + 1) lg)).raise 0x299).when
        (n + 1 == 2 ^ lg) (fun x => x.raise 0x29A)).retire t bad := by
  obtain ⟨hf, ho, hj, ha, hs, h1⟩ := hm
  unfold State.completionWrite
  dsimp only
  rw [if_neg (by simp [hf, ho, hj, ha]), if_neg (by simp [hs]), if_neg (by simp [h1]), if_pos hh, hlg, htail, hn, if_neg (by simp [he, hb, hroom])]

section
variable {y : State} {retry : Bool} (hh : t.host = false) (hnow : t.notBefore ≤ s.now ∨ retry = true)
include hh hnow

theorem State.completionWrite_posted (hy : s.cplTry (s.chanOrg t.chan) t.inst t.gen 0 t.queue t.entry = (y, .posted)) :
    s.completionWrite t retry bad = y.retire t bad := by
  obtain ⟨hf, ho, hj, ha, hs, h1⟩ := hm
  unfold State.completionWrite
  rw [if_neg (by simp [hf, ho, hj, ha]), if_neg (by simp [hs]), if_neg (by simp [h1]), if_neg (by simp [hh]),
    if_neg (fun h => hnow.elim (Nat.not_le.2 h.1) (by simp [h.2])), hy]

theorem State.completionWrite_refused (hy : s.cplTry (s.chanOrg t.chan) t.inst t.gen 0 t.queue t.entry = (y, .refused)) :
    s.completionWrite t retry bad = y.putTxn { t with notBefore := y.now + 1000000 } := by
  obtain ⟨hf, ho, hj, ha, hs, h1⟩ := hm
  unfold State.completionWrite
  rw [if_neg (by simp [hf, ho, hj, ha]), if_neg (by simp [hs]), if_neg (by simp [h1]), if_neg (by simp [hh]),
    if_neg (fun h => hnow.elim (Nat.not_le.2 h.1) (by simp [h.2])), hy]

end
end

/-! ### Retries (R830) -/

theorem State.completionRetry_engine {i cls d : Nat} (h : cls ≠ 0) : s.completionRetry i cls d bad = s.cplFlush i cls d := if_neg h

theorem State.completionRetry_channel {i d : Nat}
    (h : s.ch.txns.find? (fun (t : Txn) => t.state == 5 && !t.orphan && !t.host && t.inst == i && t.queue == d && decide (t.notBefore ≤ s.now) && s.firstFinal t) = some t) :
    s.completionRetry i 0 d bad = s.completionWrite t true bad := by
  unfold State.completionRetry
  rw [if_pos rfl, h]

/-! ### The host's ring (R484, R485) -/

theorem State.hostCqEnable_enables {v : Nat} (hw : s.rb CH_HOST_CQ_CFG_EN = false) (hv : bit v 63 = true) (hmin : 6 ≤ bits v 4 0) (hmax : bits v 4 0 ≤ 16) :
    s.hostCqEnable v =
      (((s.sf CH_HOST_CQ_CFG_SIZE (bits v 4 0)).sf CH_HOST_CQ_CFG_EN (bits v 63 63)).wreg rCH_HOST_CQ_TAIL 0 0).wreg rCH_HOST_CQ_HEAD 0 0 := by
  unfold State.hostCqEnable
  dsimp only
  rw [hw, hv, if_pos (by decide), if_pos (by simp [hmin, hmax])]

end

section
variable {s u : State} (hp : s.powered = true)
include hp

theorem does_completionWrite {tid : Word} {bad : Fin 4} {t : Txn} (ht : s.txn tid.toNat = some t) (h : s.completionWrite t false bad.val = u) :
    Does (.completionWrite tid ⟨bad, false⟩) s u.chSync :=
  does_of_runCh_eq (f := fun s => match s.txn tid.toNat with | some t => s.completionWrite t false bad.val | none => s) hp rfl (by rw [ht]; exact h)

theorem does_completionRetry {i : BitVec 9} {cls : Fin 3} {d : Fin 16} {bad : Fin 4} (h : s.completionRetry i.toNat cls.val d.val bad.val = u) :
    Does (.completionRetry i cls d bad) s u.chSync :=
  does_of_runCh_eq (f := fun s => s.completionRetry i.toNat cls.val d.val bad.val) hp rfl h

theorem does_hostCqEnable {v : Word} (h : s.hostCqEnable v.toNat = u) : Does (.hostCqEnable v) s u :=
  does_of_run_eq (f := fun s => s.hostCqEnable v.toNat) hp rfl h

theorem does_hostCqHeadWrite {a : Agent} {v : Word} (h : s.hostCqHead a v.toNat = u) : Does (.hostCqHeadWrite a v) s u :=
  does_of_run_eq (f := fun s => s.hostCqHead a v.toNat) hp rfl h

end

/-- Settles O35: each row in the branch that the clause names. -/
theorem completionsArePosted : Obligations.CompletionsArePosted := by
  intro s hp
  refine ⟨fun tid bad t ht hf ho hj ha hs h1 => ?_, fun i cls d bad hc => ?_, fun i d bad t ht => ?_, fun v hw hv hmin hmax => ?_, fun a v => ?_⟩
  · have hm : s.MayPost t := ⟨hf, ho, hj, ha, hs, h1⟩
    exact ⟨fun hh he hb hroom => does_completionWrite hp ht (State.completionWrite_host hm hh he hb rfl rfl rfl hroom),
      fun y hh hnow hy => does_completionWrite hp ht (State.completionWrite_posted hm hh (.inl hnow) hy),
      fun y hh hnow hy => does_completionWrite hp ht (State.completionWrite_refused hm hh (.inl hnow) hy)⟩
  · exact does_completionRetry hp (State.completionRetry_engine hc)
  · exact does_completionRetry hp (State.completionRetry_channel ht)
  · exact does_hostCqEnable hp (State.hostCqEnable_enables hw hv hmin hmax)
  · intro lg tail head
    exact ⟨fun hin hd => does_hostCqHeadWrite hp (if_pos ⟨hin, hd⟩), fun hd => does_hostCqHeadWrite hp (if_neg (fun h => Nat.not_le.2 hd h.2))⟩

end Sys2Proof.Machine
end

section
/-! PROOFS. The Journal (11 R447, R449, R450, R470, R471, R473): what a trim keeps, carries and superblocks, a sound replay, orphans, a processor that fails. -/

namespace Sys2Proof.Machine

/-! ### The trim (R447, R450) -/

/-- Whether an entry is a valid one of a transaction. -/
def JEnt.of (e : JEnt) (tid : Nat) : Bool := e.ok && e.kind != 0xF && e.tid == tid

/-- A transaction's latest entry is the latest of the ring's rest, or the oldest entry if the rest has none of it. -/
theorem latestOf_cons (x : JEnt) (r : List JEnt) (tid : Nat) :
    latestOf (x :: r) tid = (latestOf r tid).or (if x.of tid then some x else none) := by
  unfold latestOf
  by_cases hx : x.of tid = true
  · rw [List.filter_cons_of_pos (by simpa [JEnt.of] using hx), if_pos hx]
    cases hr : r.filter (fun e => e.ok && e.kind != 0xF && e.tid == tid) with
    | nil => rfl
    | cons y l => simp [List.getLast?_cons]
  · rw [List.filter_cons_of_neg (by simpa [JEnt.of] using hx), if_neg hx, Option.or_none]

/-- A trim drops so many of the ring's entries as it says. -/
theorem trimRing_length (r : List JEnt) : (trimRing r).1 + (trimRing r).2.length = r.length := by
  induction r with
  | nil => rfl
  | cons x r ih =>
    unfold trimRing
    split
    · exact Nat.zero_add _
    · dsimp only
      rw [List.length_cons]
      omega

/-- An entry that the trim drops is no transaction's latest, unless it is a RETIRED one. -/
theorem latestOf_trimRing {r : List JEnt} {tid : Nat} {e : JEnt} (h : latestOf r tid = some e) (hk : e.kind ≠ 7) : latestOf (trimRing r).2 tid = some e := by
  induction r with
  | nil => exact h
  | cons x r ih =>
    unfold trimRing
    split
    · exact h
    · next hlive =>
      refine ih ?_
      rw [latestOf_cons] at h
      cases hr : latestOf r tid with
      | some y => rw [hr] at h; exact h
      | none =>
        rw [hr, Option.none_or] at h
        split at h
        · next hx =>
          cases h
          simp only [JEnt.of, Bool.and_eq_true, beq_iff_eq] at hx
          obtain ⟨⟨hok, hkind⟩, htid⟩ := hx
          have hnone : r.any (fun y => y.ok && y.kind != 0xF && y.tid == e.tid) = false := by
            rw [htid, List.any_eq_false]
            exact List.filter_eq_nil_iff.1 (List.getLast?_eq_none_iff.1 hr)
          exact absurd (by rw [hok, hkind, hnone]; simp [hk]) hlive
        · exact absurd h (by simp)

section
variable {s : State}

/-! ### Carries and superblocks (R449, R450) -/

theorem State.carry_oldest {bad : Nat} {e : JEnt} {r : List JEnt} {t : Txn} (hj : s.jrnOn = true) (hr : s.ch.ring = e :: r) (hn : 519168 < s.ch.ring.length + 4096)
    (ht : s.txn e.tid = some t) : s.carry bad = s.jrn t 8 bad := by
  unfold State.carry
  rw [if_pos (by simp only [hj, Bool.true_and, decide_eq_true_eq]; exact hn), hr]
  dsimp only
  rw [ht]

/-- The superblock that is written next to a copy: the counter's next value, the tail, and the JSN of the ring's oldest entry. -/
def State.nextSuper (s : State) (newer : Super) : Super := ⟨newer.count + 1, s.ch.tail, (s.ch.ring.head?.map (·.jsn)).getD s.ch.jsn, true⟩

theorem State.superWrite_b (hj : s.jrnOn = true) (hab : s.ch.supB.count < s.ch.supA.count) (ht : s.ch.supA.tail ≠ s.ch.tail) :
    s.superWrite = { s with ch := { s.ch with supB := s.nextSuper s.ch.supA } } := by
  unfold State.superWrite
  dsimp only
  rw [if_pos hab, if_neg (by simp [hj, ht]), if_pos hab]
  rfl

theorem State.superWrite_a (hj : s.jrnOn = true) (hab : s.ch.supA.count ≤ s.ch.supB.count) (ht : s.ch.supB.tail ≠ s.ch.tail) :
    s.superWrite = { s with ch := { s.ch with supA := s.nextSuper s.ch.supB } } := by
  unfold State.superWrite
  dsimp only
  rw [if_neg (Nat.not_lt.2 hab), if_neg (by simp [hj, ht]), if_neg (Nat.not_lt.2 hab)]
  rfl

/-! ### Replay (R470) -/

theorem State.rf_raise (n : Nat) (f : RF) (i : Nat) : (s.raise n).rf f i = s.rf f i := rfl

/-- A replay's start leaves the Journal's state. -/
theorem State.replayStart_rf_journal (trig inst total : Nat) : (s.replayStart trig inst total).rf CH_STAT_JOURNAL = s.rf CH_STAT_JOURNAL := by
  unfold State.replayStart
  rw [State.rf_raise, State.rf_sf_other _ _ _ _ _ _ (by decide), State.rf_sf_other _ _ _ _ _ _ (by decide), State.rf_sf_other _ _ _ _ _ _ (by decide),
    State.rf_sf_other _ _ _ _ _ _ (by decide), State.rf_sf_other _ _ _ _ _ _ (by decide)]

theorem State.replayStart_ch (trig inst total : Nat) : (s.replayStart trig inst total).ch = s.ch := by
  unfold State.replayStart
  rw [State.raise_ch, State.sf_ch, State.sf_ch, State.sf_ch, State.sf_ch, State.sf_ch]

theorem State.each_nil {α : Type} (f : State → α → State) : s.each [] f = s := rfl

/-- A scan that meets nothing wrong, of a Journal that the module kept: every transaction goes on by its state, and the Journal is Ready. -/
theorem State.replay_sound {y : State} (hj : s.rf CH_STAT_JOURNAL = 1) (htrig : 2 ≤ s.rf CH_REPLAY_TRIGGER)
    (hy : (s.replayStart (s.rf CH_REPLAY_TRIGGER) 0 s.ch.txns.length).sf CH_ORPHAN_COUNT (s.ch.txns.filter (fun (t : Txn) => t.orphan)).length = y) :
    s.replay [] = ((y.ch.txns.foldl (fun (x : State) t => x.replayTxn (s.rf CH_REPLAY_TRIGGER) t) y).sf CH_STAT_JOURNAL 0).jrnSync.replayEnd.chSync := by
  have hyj : y.rf CH_STAT_JOURNAL = 1 := by rw [← hy, State.rf_sf_other _ _ _ _ _ _ (by decide), State.replayStart_rf_journal, hj]
  have hb : bothSupers [] = false := rfl
  unfold State.replay
  rw [if_neg (not_not.2 hj)]
  dsimp only
  rw [if_neg (Nat.not_lt.2 htrig), if_neg (Nat.not_lt.2 htrig), if_neg (Nat.not_lt.2 htrig), hb, if_neg Bool.false_ne_true, State.replayStart_ch, hy, State.each_nil, if_neg (by simp [hyj])]
  rfl

/-! ### A processor that fails (R473), orphans (R471) -/

theorem State.procRetire_below {n : Nat} {y z : State} (hup : s.rf CH_PROC_STAT_STATE n = 0) (hrec : s.recoveries (org 8 n) < s.rf FC_CFG_RECOV_LIMIT)
    (hy : (((s.setUnit (org 8 n) (fun u => { u with st := 1 })).sf CH_PROC_STAT_STATE 1 n).raise (0x280 + n)).report
      { org := org 8 n, cause := 0x0802, cls := ochre, react := 5 } = y)
    (hz : ((((y.sf CH_ELOG_VALID 1).sf CH_ELOG_KIND 4).sf CH_ELOG_PROC n).sf CH_ELOG_ENTRY 0).raise 0x292 = z) :
    s.procRetire n =
      ((z.chSync.replayStart 4 0 ((s.setUnit (org 8 n) (fun u => { u with st := 1 })).txnsOf n).length).each
        ((s.setUnit (org 8 n) (fun u => { u with st := 1 })).txnsOf n) State.resumeTxn).replayEnd := by
  unfold State.procRetire
  rw [if_neg (not_not.2 hup), State.outOfService_below s _ hrec, ← hz, ← hy]
  rfl

theorem State.doJournalAck_single {c : Cmd} {bad : Nat} {t : Txn} {y : State} (ho : s.orphans = [t]) (ht : t.tid = c.p64 0) (hy : s.retire t bad = y) :
    s.doJournalAck c bad = ((y.sf CH_ORPHAN_COUNT (y.rf CH_ORPHAN_COUNT - 1)).chSync.mirrorCmd c).finish c stOK [1] := by
  have hgo : [t].takeWhile (fun t => t.tid != c.p64 0) ++ [t].filter (fun t => t.tid == c.p64 0) = [t] := by simp [ht]
  unfold State.doJournalAck
  dsimp only
  rw [ho, if_neg (by simp [ht]), hgo, State.each_singleton, hy]
  rfl

end

/-- Settles O36: each row in the branch that the clause names; the trim by induction on the ring. -/
theorem journalCommandsAndTrimKeepTransactions : Obligations.JournalCommandsAndTrimKeepTransactions := by
  refine ⟨fun s hp => ⟨fun bad e r t hj hr hn ht => ?_, fun hj hab ht => ?_, fun hj hab ht => ?_, fun hj htrig => ?_, fun n hup hrec => ?_, fun c hc => ?_,
    fun c bad t hc ho ht => ?_⟩, fun r tid e h hk => ⟨latestOf_trimRing h hk, trimRing_length r⟩⟩
  · exact does_of_runCh_eq (f := fun s => s.carry bad.val) hp rfl (State.carry_oldest hj hr hn ht)
  · exact does_of_run_eq (f := State.superWrite) hp rfl (State.superWrite_b hj hab ht)
  · exact does_of_run_eq (f := State.superWrite) hp rfl (State.superWrite_a hj hab ht)
  · exact does_of_run_eq (f := fun s => s.replay []) hp rfl (State.replay_sound hj htrig rfl)
  · exact does_of_runCh_eq (f := fun s => s.procRetire n.val) hp rfl (State.procRetire_below hup hrec rfl rfl)
  · exact does_of_run_eq (f := fun s => s.onLong 0x0306 State.reportBegin State.reportNext) hp rfl (State.onLong_starts hc _ _)
  · exact does_of_run_eq (f := fun s => s.onCmd 0x0307 (fun _ => true) (fun s c => s.doJournalAck c bad.val)) hp rfl
      ((State.onCmd_starts hc _).trans (State.doJournalAck_single ho ht rfl))

end Sys2Proof.Machine
end

section
/-! PROOFS. NET transfers and the channel commands (11 R421-R425, R436, R455-R457, R466), each row in the branch that its hypotheses name. -/

namespace Sys2Proof.Machine

section
variable {s : State} {bad : Nat}

/-! ### Datagrams and acknowledgements (R455-R457) -/

section
variable {x : Dgram} {rest : List Dgram} {y : State} (hin : takeDgram false s.ch.inbox = (some x, rest)) (hy : { s with ch := { s.ch with inbox := rest } } = y)
include hin hy

/-- A datagram that is not the session's is counted and discarded. -/
theorem State.dgramReceive_foreign (hok : y.netOk x = false) : s.dgramReceive bad = y.bump rCH_NET_DISC := by
  unfold State.dgramReceive
  subst hy
  rw [hin]
  dsimp only at *
  rw [if_pos (by simp [hok])]

section
variable {peer off : Nat} (hok : y.netOk x = true) (hpeer : ofBytes ((x.bytes.drop 8).take 8) = peer) (hoff : ofBytes ((x.bytes.drop 16).take 8) = off)
include hok hpeer hoff

/-- A transfer that is already complete is acknowledged again. -/
theorem State.dgramReceive_repeated (hs : (Map.getD y.ch.sess x.chan []).contains peer = true) :
    s.dgramReceive bad = y.netAck x.chan peer (off + (x.bytes.drop 24).length) := by
  unfold State.dgramReceive
  subst hy
  rw [hin]
  dsimp only at *
  rw [if_neg (by simp [hok]), hpeer, if_pos hs, hoff]

/-- The last datagram of a transfer fills the posted buffer up to its end, is acknowledged, and completes the CCE. -/
theorem State.dgramReceive_last {t : Txn} {z a : State} {n : Nat} (hs : (Map.getD y.ch.sess x.chan []).contains peer = false)
    (hi : (Map.find y.ch.inbound x.chan).any (fun p => p.1 == peer) = false)
    (ht : y.nrecvFor x.chan peer (off == 0 && bit (x.bytes.getD 2 0) 0) = some t) (hto : off = t.off) (hlast : bit (x.bytes.getD 2 0) 1 = true)
    (hfit : t.off + (x.bytes.drop 24).length ≤ ccLen (t.ccs.headD 0)) (hon : y.chOn = true) (hup : y.procUp x.chan = true)
    (hn : ((x.bytes.drop 24).take (ccLen (t.ccs.headD 0) - t.off)).length = n) (he : y.eligible 0 t.inst (y.nrecvCost t n) = true)
    (hw : (y.chargeTokens 0 t.inst (y.nrecvCost t n)).ownWrite t (ccAddr (t.ccs.headD 0) + t.off) ((x.bytes.drop 24).take (ccLen (t.ccs.headD 0) - t.off)) = (z, .ok ()))
    (ha : z.netAck x.chan peer (off + (x.bytes.drop 24).length) = a) :
    s.dgramReceive bad =
      { a with ch := { a.ch with sess := Map.put a.ch.sess x.chan ((Map.getD a.ch.sess x.chan [] ++ [peer]).reverse.take 64).reverse } }.doneCce
        { t with peer := peer, off := t.off + n } 1 1 (t.off + n) bad := by
  have hshort : decide (ccLen (t.ccs.headD 0) < t.off + (x.bytes.drop 24).length) = false := by simpa using hfit
  unfold State.dgramReceive
  subst hy
  rw [hin]
  dsimp only at *
  rw [if_neg (by simp [hok]), hpeer, hoff, if_neg (ne_true_of_eq_false hs), if_neg (ne_true_of_eq_false hi), ht]
  dsimp only
  rw [if_neg (not_not.2 hto), hn, if_neg (by simp [hon, hup, he]), hw]
  dsimp only
  rw [hshort, if_neg Bool.false_ne_true, if_pos hlast, ha]

end
end

section
variable {x : Dgram} {rest : List Dgram} {y : State} (hin : takeDgram true s.ch.inbox = (some x, rest)) (hy : { s with ch := { s.ch with inbox := rest } } = y)
include hin hy

theorem State.ackReceive_foreign (hok : y.netOk x = false) : s.ackReceive bad = y.bump rCH_NET_DISC := by
  unfold State.ackReceive
  subst hy
  rw [hin]
  dsimp only at *
  rw [if_pos (by simp [hok])]

/-- An acknowledgement of everything completes the NSEND. -/
theorem State.ackReceive_whole {t : Txn} {n m : Nat} (hok : y.netOk x = true) (ht : y.txn (ofBytes ((x.bytes.drop 8).take 8)) = some t)
    (hn : ofBytes ((x.bytes.drop 16).take 8) = n) (hc : t.chan = x.chan) (hst : t.state = 3) (hb : t.begun = true) (hop : ccOp (t.ccs.getD t.cce 0) = 0x20)
    (hmore : t.acked < n) (hm : ccLen (t.ccs.getD t.cce 0) = m) (hall : m ≤ n) :
    s.ackReceive bad = y.doneCce { t with acked := min n m, sent := max t.sent (min n m), tries := 0, off := min n m } 1 1 (min n m) bad := by
  unfold State.ackReceive
  subst hy
  rw [hin]
  dsimp only at *
  rw [if_neg (by simp [hok]), ht]
  dsimp only
  rw [hn, if_neg (by simp [hc, hst, hb, hop, hmore, -List.getD_eq_getElem?_getD]), hm]
  exact if_pos (Nat.le_min.2 ⟨hall, Nat.le_refl m⟩)

end

section
variable {tid : Nat} {t : Txn} (ht : s.txn tid = some t) (hw : s.UnderWay t) (hop : ccOp (t.ccs.getD t.cce 0) = 0x20) (hsent : t.acked < t.sent)
include ht hw hop hsent

theorem State.rtoExpiry_fails (hn : dfld (s.cdef t.chan) 0x34 7 0 ≤ t.tries) : s.rtoExpiry tid bad = s.failCce t 0xC t.acked bad := by
  obtain ⟨ho, hu, ha, hb⟩ := hw
  unfold State.rtoExpiry
  rw [ht]
  dsimp only
  rw [if_neg (by simp [ha, hb, hop, ho, hu, hsent, -List.getD_eq_getElem?_getD]), if_pos hn]

theorem State.rtoExpiry_resends (hn : t.tries < dfld (s.cdef t.chan) 0x34 7 0) :
    s.rtoExpiry tid bad = (s.bump rCH_RESEND_CNT).putTxn { t with sent := t.acked, tries := t.tries + 1 } := by
  obtain ⟨ho, hu, ha, hb⟩ := hw
  unfold State.rtoExpiry
  rw [ht]
  dsimp only
  rw [if_neg (by simp [ha, hb, hop, ho, hu, hsent, -List.getD_eq_getElem?_getD]), if_neg (Nat.not_le.2 hn)]

end

/-! ### Channel commands (R421-R425) -/

theorem State.doChanDefine_defines {c : Cmd} {d n : Nat} {y z : State} (hlen : c.pay.length = 64) (hd : ofBytes c.pay = d) (hn : d % 1024 = n)
    (hst : s.rf CH_CHAN_STATE n = 0) (hok : s.defOk d = true)
    (hy : { s with ch := { s.ch with defs := Map.put s.ch.defs n d, peers := Map.del s.ch.peers n } } = y)
    (hz : (((y.sf CH_CHAN_KIND (dfld d 0 15 12) n).sf CH_CHAN_HOST (dfld d 0 25 25) n).sf CH_CHAN_OWNER (dfld d 0 24 16) n).setChanState n 1 = z) :
    s.doChanDefine c = ((z.when (dfld d 0 15 12 == 2) (fun x => x.arpAsk n)).chSync.mirrorCmd c).finish c stOK := by
  unfold State.doChanDefine
  dsimp only
  rw [if_neg (not_not.2 hlen), hd, hn, if_neg (not_not.2 hst), if_neg (by simp [hok]), hy, hz]

theorem State.undefBegin_undefined {c : Cmd} (h : s.rf CH_CHAN_STATE (c.p 0) = 0) : s.undefBegin c = s.finish c stOK := if_pos h

theorem State.undefBegin_closes {c : Cmd} (h : s.rf CH_CHAN_STATE (c.p 0) ≠ 0) :
    s.undefBegin c = ((s.setChanState (c.p 0) 2).mirrorCmd c).longPhase c 2 (s.chanLeft (c.p 0)) [] := if_neg h

theorem State.undefNext_empty {c : Cmd} (h : s.chanLeft (c.p 0) = 0) :
    s.undefNext c = (s.chanGone (c.p 0)).finish { c with lop := { c.lop with pos := c.lop.total } } stOK := if_pos h

theorem State.doChanQuery_host {c : Cmd} {y : State} (hc : c.sender = 0) (hy : s.bufWrite c (c.p64 1) (toBytes (s.cdef (c.p 0)) 64) = (y, true)) :
    s.doChanQuery c = y.finish c stOK [y.reg rCH_CHAN (c.p 0) % 2 ^ 32, y.reg rCH_CHAN (c.p 0) / 2 ^ 32] := by
  unfold State.doChanQuery
  dsimp only
  rw [if_neg (fun h => h.1 hc), hy]

/-! ### Transaction commands (R436, R466) -/

theorem State.doTxnQuery_denied {c : Cmd} (h : mayTxn c (c.p64 0) = false) : s.doTxnQuery c = s.finish c stDENIED := if_pos (by simp [h])

theorem State.doTxnQuery_unknown {c : Cmd} (h : mayTxn c (c.p64 0) = true) (ht : s.txn (c.p64 0) = none) : s.doTxnQuery c = s.finish c stOK [0, 0] := by
  unfold State.doTxnQuery
  dsimp only
  rw [if_neg (by simp [h]), ht]

theorem State.doTxnQuery_known {c : Cmd} {t : Txn} (h : mayTxn c (c.p64 0) = true) (ht : s.txn (c.p64 0) = some t) :
    s.doTxnQuery c = s.finish c stOK [t.state, if t.state = 5 then t.fin + t.reason * 256 else 0] := by
  unfold State.doTxnQuery
  dsimp only
  rw [if_neg (by simp [h]), ht]

section
variable {c : Cmd} {y : State} (h : mayTxn c (c.p64 0) = true) (hy : s.mirrorCmd c = y)
include h hy

theorem State.doTxnCancel_unknown (ht : y.txn (c.p64 0) = none) : s.doTxnCancel c = y.finish c stOK [2] := by
  unfold State.doTxnCancel
  dsimp only
  rw [if_neg (by simp [h]), hy, ht]

theorem State.doTxnCancel_late {t : Txn} (ht : y.txn (c.p64 0) = some t) (hst : 4 ≤ t.state) : s.doTxnCancel c = y.finish c stOK [1] := by
  unfold State.doTxnCancel
  dsimp only
  rw [if_neg (by simp [h]), hy, ht]
  exact if_pos hst

/-- A transaction that has not begun ends CANCELLED at once. -/
theorem State.doTxnCancel_waiting {t u : Txn} {z : State} (ht : y.txn (c.p64 0) = some t) (hst : t.state < 4) (hcan : t.cancel = 0)
    (hz : y.jrn { t with cancel := 1 } 9 0 = z) (hu : z.txn t.tid = some u) (hust : u.state < 3) :
    s.doTxnCancel c = (z.finalTxn u 2 0 0).finish c stOK [0] := by
  unfold State.doTxnCancel
  dsimp only
  rw [if_neg (by simp [h]), hy, ht]
  dsimp only
  rw [if_neg (Nat.not_le.2 hst), if_pos hcan, hz]
  have hcur : (z.txn t.tid).getD t = u := by rw [hu, Option.getD_some]
  rw [if_pos (Or.inl (by rw [hcur]; exact hust)), hcur]

end
end

section
variable {s u : State} (hp : s.powered = true)
include hp

theorem does_datagramReceive {bad : Fin 4} (h : s.dgramReceive bad.val = u) : Does (.datagramReceive ⟨bad, false⟩) s u.chSync :=
  does_of_runCh_eq (f := fun s => s.dgramReceive bad.val) hp rfl h

theorem does_ackReceive {bad : Fin 4} (h : s.ackReceive bad.val = u) : Does (.ackReceive ⟨bad, false⟩) s u.chSync :=
  does_of_runCh_eq (f := fun s => s.ackReceive bad.val) hp rfl h

theorem does_rtoExpiry {tid : Word} {bad : Fin 4} (h : s.rtoExpiry tid.toNat bad.val = u) : Does (.rtoExpiry tid ⟨bad, false⟩) s u.chSync :=
  does_of_runCh_eq (f := fun s => s.rtoExpiry tid.toNat bad.val) hp rfl h

theorem does_channelDefine {c : Cmd} (hc : s.starts 0x0301 c) (h : s.doChanDefine c = u) : Does .channelDefine s u :=
  does_of_run_eq (f := fun s => s.onCmd 0x0301 (fun _ => true) State.doChanDefine) hp rfl ((State.onCmd_starts hc _).trans h)

theorem does_channelUndefine (h : s.onLong 0x0302 State.undefBegin State.undefNext = u) : Does .channelUndefine s u :=
  does_of_run_eq (f := fun s => s.onLong 0x0302 State.undefBegin State.undefNext) hp rfl h

theorem does_channelQuery {c : Cmd} (hc : s.starts 0x0303 c) (h : s.doChanQuery c = u) : Does .channelQuery s u :=
  does_of_run_eq (f := fun s => s.onCmd 0x0303 (fun _ => true) State.doChanQuery) hp rfl ((State.onCmd_starts hc _).trans h)

theorem does_txnQuery {c : Cmd} (hc : s.starts 0x0304 c) (h : s.doTxnQuery c = u) : Does .txnQuery s u :=
  does_of_run_eq (f := fun s => s.onCmd 0x0304 (fun _ => true) State.doTxnQuery) hp rfl ((State.onCmd_starts hc _).trans h)

theorem does_txnCancel {c : Cmd} (hc : s.startedCmd 0x0305 (fun c => c.lop.items.isEmpty) = some c) (ho : ∃ o, opInfo 0x0305 = some o ∧ paramsNamed o c.ps = true)
    (h : s.doTxnCancel c = u) : Does .txnCancel s u.chSync :=
  does_of_runCh_eq (f := fun s => s.onCmd 0x0305 (fun c => c.lop.items.isEmpty) State.doTxnCancel) hp rfl
    ((State.onVia_starts (v := .packet) ⟨ho, rfl, hc⟩ State.doTxnCancel).trans h)

end

/-- Settles O37: each row in the branch that the clause names. -/
theorem channelsFollowTheirCommands : Obligations.ChannelsFollowTheirCommands := by
  intro s hp
  refine ⟨fun bad x rest hin => ?_, fun bad x rest t hin => ?_, fun tid bad t ht hst hb hop ho hu hsent => ?_, fun c hc hlen => ?_, fun c hc => ?_,
    fun c hn hf hcur hl => ?_, fun c y hc hsend hy => ?_, fun c hc => ?_, fun c hc ho => ?_⟩
  · intro y
    exact ⟨fun hok => does_datagramReceive hp (State.dgramReceive_foreign hin rfl hok),
      fun hok hs => does_datagramReceive hp (State.dgramReceive_repeated hin rfl hok rfl rfl hs),
      fun t z hok hs hi ht hto hlast hfit hon hup he hw =>
        does_datagramReceive hp (State.dgramReceive_last hin rfl hok rfl rfl hs hi ht hto hlast hfit hon hup rfl he hw rfl)⟩
  · intro y n
    exact ⟨fun hok => does_ackReceive hp (State.ackReceive_foreign hin rfl hok),
      fun hok ht hc hst hb hop hmore hall => does_ackReceive hp (State.ackReceive_whole hin rfl hok ht rfl hc hst hb hop hmore rfl hall)⟩
  · exact ⟨fun hn => does_rtoExpiry hp (State.rtoExpiry_fails ht ⟨ho, hu, hst, hb⟩ hop hsent hn),
      fun hn => does_rtoExpiry hp (State.rtoExpiry_resends ht ⟨ho, hu, hst, hb⟩ hop hsent hn)⟩
  · intro d n hst hok
    exact does_channelDefine hp hc (State.doChanDefine_defines hlen rfl rfl hst hok rfl rfl)
  · exact ⟨fun h => does_channelUndefine hp ((State.onLong_starts hc _ _).trans (State.undefBegin_undefined h)),
      fun h => does_channelUndefine hp ((State.onLong_starts hc _ _).trans (State.undefBegin_closes h))⟩
  · exact does_channelUndefine hp ((State.onLong_next hn hf _ _).trans (by rw [hcur]; exact State.undefNext_empty hl))
  · exact does_channelQuery hp hc (State.doChanQuery_host hsend hy)
  · exact ⟨fun h => does_txnQuery hp hc (State.doTxnQuery_denied h), fun h ht => does_txnQuery hp hc (State.doTxnQuery_unknown h ht),
      fun t h ht => does_txnQuery hp hc (State.doTxnQuery_known h ht)⟩
  · intro y h
    exact ⟨fun ht => does_txnCancel hp hc ho (State.doTxnCancel_unknown h rfl ht),
      fun t ht hst => does_txnCancel hp hc ho (State.doTxnCancel_late h rfl ht hst),
      fun t u ht hst hcan hu hust => does_txnCancel hp hc ho (State.doTxnCancel_waiting h rfl ht hst hcan rfl hu hust)⟩

end Sys2Proof.Machine
end

section
/-! PROOFS. Ring ports (12 R492, R493, R509, R511, R519, R520): cycle starts, slot frames, window closes, lost sides, heals, listeners. -/

namespace Sys2Proof.Machine

theorem byteNats_length {l : List Byte} : (byteNats l).length = l.length := List.length_map ..

section
variable {s : State} {p : Nat}

theorem Map.getD_put_same {α : Type} (m : Map α) (k : Nat) (v d : α) : Map.getD (Map.put m k v) k d = v := by
  unfold Map.getD
  rw [Map.find_put_same]
  rfl

/-- A port reads as it was changed. -/
theorem State.port_setPort_same (s : State) (p : Nat) (f : FrPort → FrPort) : (s.setPort p f).port p = f (s.port p) := Map.getD_put_same _ _ _ _

theorem State.rf_setPort (s : State) (p : Nat) (f : FrPort → FrPort) (g : RF) (i : Nat) : (s.setPort p f).rf g i = s.rf g i := rfl

theorem State.port_of_fr {s t : State} (h : t.fr = s.fr) (p : Nat) : t.port p = s.port p := by unfold State.port; rw [h]

/-! ### What a cycle's start leaves of the rings (08 R335) -/

theorem ringReg_addr {r : Reg} (h : r.dims = [(32768, 32)]) (p : Nat) : r.addr p = r.base + 32768 * p := by
  simp [Reg.addr, h, dimOffs, dimProd]
  omega

theorem laneStat_addr (l : Nat) : rSG_LANE_STAT.addr l = 0x7F1000600100 + 8 * l := by
  simp [Reg.addr, rSG_LANE_STAT, dimOffs, dimProd]
  omega

/-- The states of the rings and the cycle register of port p are the same. -/
structure State.SameRing (p : Nat) (s t : State) : Prop where
  fr : t.fr = s.fr
  cycle : t.rf FR_CYCLE_CYCLE p = s.rf FR_CYCLE_CYCLE p

theorem State.SameRing.refl (p : Nat) (s : State) : State.SameRing p s s := ⟨rfl, rfl⟩

theorem State.SameRing.when {s : State} {f : State → State} (c : Bool) (h : State.SameRing p s (f s)) : State.SameRing p s (s.when c f) := by
  cases c
  · exact .refl p s
  · exact h

theorem State.SameRing.reported (s : State) (r : Report) (q k : Nat) : State.SameRing p s ((s.report r).frEv q k) := ⟨rfl, rfl⟩

theorem State.SameRing.trans {s t u : State} (h : State.SameRing p s t) (k : State.SameRing p t u) : State.SameRing p s u := ⟨k.fr.trans h.fr, k.cycle.trans h.cycle⟩

section
variable (hp : p < 32)
include hp

theorem State.SameRing.lane (s : State) (f : RF) (v l : Nat) (hf : f.reg = rSG_LANE_STAT) : State.SameRing p s (s.sf f v l) := by
  refine ⟨State.sf_fr .., State.rf_sf_other _ _ _ _ _ _ ?_⟩
  have hc : FR_CYCLE_CYCLE.reg.addr p = 0x7F1000500010 + 32768 * p := ringReg_addr rfl p
  rw [hf, laneStat_addr, hc]
  omega

theorem State.SameRing.laneQ (s : State) (l : Nat) (q : List Upd) : State.SameRing p s (s.setLaneQ l q) := by
  unfold State.setLaneQ
  dsimp only
  refine .trans (.trans ?_ (.lane hp _ _ _ _ rfl)) (.lane hp _ _ _ _ rfl)
  exact ⟨rfl, rfl⟩

omit hp in
theorem State.SameRing.laneHeld (s : State) (l : Nat) (q : List Upd) : State.SameRing p s (s.setLaneHeld l q) := ⟨rfl, rfl⟩

theorem State.SameRing.moveLanes (s : State) (a b : Nat) (q : Nat → Bool) : State.SameRing p s (s.moveLanes a b q) := by
  unfold State.moveLanes
  dsimp only
  refine .trans (.trans (.trans (.trans ?_ (.laneQ hp _ _ _)) (.laneHeld _ _ _)) (.laneQ hp _ _ _)) (.laneHeld _ _ _)
  exact foldl_keeps (State.SameRing p s) _ _ _ (.refl p s) (fun x l hx _ => hx.trans (.lane hp _ _ _ _ rfl))

/-- The lanes that have returned take back their signals; the rings are as they were. -/
theorem State.SameRing.lanesBack (s : State) : State.SameRing p s s.lanesBack :=
  foldl_keeps (State.SameRing p s) _ _ _ (.refl p s) (fun _ _ hx _ => hx.trans (.moveLanes hp _ _ _ _))

end

/-! ### The cycle (R493) -/

/-- A cycle of port p has begun: its number, the loop's length, and no slot yet. -/
structure State.CycleBegun (p n loop : Nat) (u : State) : Prop where
  cycle : u.rf FR_CYCLE_CYCLE p = n
  loopNs : u.rf FR_LOOP_LOOP_NS p = loop
  used : (u.port p).used = []
  heard : (u.port p).heard = []
  closed : (u.port p).closed = []

section
variable {n loop : Nat} (h : State.CycleBegun p n loop s)
include h

theorem State.CycleBegun.emit (o : Output) : State.CycleBegun p n loop (s.emit o) := by
  obtain ⟨h1, h2, h3, h4, h5⟩ := h
  exact ⟨h1, h2, h3, h4, h5⟩

theorem State.CycleBegun.setPort {f : FrPort → FrPort} (hf : ∀ q, (f q).used = q.used ∧ (f q).heard = q.heard ∧ (f q).closed = q.closed) :
    State.CycleBegun p n loop (s.setPort p f) := by
  obtain ⟨h1, h2, h3, h4, h5⟩ := h
  obtain ⟨hu, hh, hc⟩ := hf (s.port p)
  refine ⟨h1, h2, ?_, ?_, ?_⟩ <;> rw [State.port_setPort_same]
  · rw [hu, h3]
  · rw [hh, h4]
  · rw [hc, h5]

/-- A field of another register of the port. -/
theorem State.CycleBegun.sf (f : RF) (v i : Nat) (hc : FR_CYCLE_CYCLE.reg.addr p ≠ f.reg.addr i) (hl : FR_LOOP_LOOP_NS.reg.addr p ≠ f.reg.addr i) :
    State.CycleBegun p n loop (s.sf f v i) := by
  obtain ⟨h1, h2, h3, h4, h5⟩ := h
  have hp := State.port_of_fr (State.sf_fr f v i (s := s)) p
  exact ⟨(State.rf_sf_other _ _ _ _ _ _ hc).trans h1, (State.rf_sf_other _ _ _ _ _ _ hl).trans h2, hp ▸ h3, hp ▸ h4, hp ▸ h5⟩

theorem State.CycleBegun.when {c : Bool} {f : State → State} (hf : State.CycleBegun p n loop (f s)) : State.CycleBegun p n loop (s.when c f) := by
  cases c
  · exact h
  · exact hf

theorem State.CycleBegun.setWrap : State.CycleBegun p n loop (s.setWrap p) := by
  unfold State.setWrap State.sb
  have hc : FR_CYCLE_CYCLE.reg.addr p ≠ rFR_WRAP.addr p := by rw [ringReg_addr rfl, ringReg_addr rfl]; simp [rFR_WRAP, rFR_CYCLE, FR_CYCLE_CYCLE]
  have hl : FR_LOOP_LOOP_NS.reg.addr p ≠ rFR_WRAP.addr p := by rw [ringReg_addr rfl, ringReg_addr rfl]; simp [rFR_WRAP, rFR_LOOP, FR_LOOP_LOOP_NS]
  exact (((h.sf _ _ _ hc hl).sf _ _ _ hc hl).sf _ _ _ hc hl).sf _ _ _ hc hl

theorem State.CycleBegun.pmEvent (hp : p < 32) (ev unit : Nat) (inst : Option Nat) (k : Nat) : State.CycleBegun p n loop (s.pmEvent ev unit inst k) := by
  obtain ⟨h1, h2, h3, h4, h5⟩ := h
  have hport : (s.pmEvent ev unit inst k).port p = s.port p := State.port_of_fr (congrArg State.fr (State.pmEvent_only s ev unit inst k).rest) p
  have hreg (r : Reg) (hd : r.dims = [(32768, 32)]) (hb : r.base < 0x7F1000500020) : (s.pmEvent ev unit inst k).reg r p = s.reg r p := by
    refine State.reg_pmEvent _ _ _ _ _ _ _ (.inl ?_)
    have h0 : rPM_CNT.addr 0 = 0x7F1000F00300 := by decide
    rw [ringReg_addr hd, h0]
    omega
  refine ⟨?_, ?_, hport ▸ h3, hport ▸ h4, hport ▸ h5⟩
  · rw [← h1]; exact congrArg (fun v => bits v 63 0) (hreg rFR_CYCLE rfl (by decide))
  · rw [← h2]; exact congrArg (fun v => bits v 31 0) (hreg rFR_LOOP rfl (by decide))

end

/-- The number is written, and the slots of the cycle before are gone. -/
theorem State.CycleBegun.opened {c n : Nat} {loop : Nat} {f : FrPort → FrPort} (hn : c = n % 2 ^ 64) (hl : loop < 2 ^ 32) (hu : ∀ q, (f q).used = [])
    (hh : ∀ q, (f q).heard = []) (hc : ∀ q, (f q).closed = []) :
    State.CycleBegun p (n % 2 ^ 64) loop ((((s.sf FR_CYCLE_CYCLE c p).sf FR_LOOP_LOOP_NS loop p).setPort p f).incSat FR_WRAP_CYCLES p) := by
  have hloop : FR_CYCLE_CYCLE.reg.addr p ≠ FR_LOOP_LOOP_NS.reg.addr p := by rw [ringReg_addr rfl, ringReg_addr rfl]; simp [FR_LOOP_LOOP_NS, rFR_LOOP, rFR_CYCLE, FR_CYCLE_CYCLE]
  have hwrap : FR_CYCLE_CYCLE.reg.addr p ≠ FR_WRAP_CYCLES.reg.addr p := by rw [ringReg_addr rfl, ringReg_addr rfl]; simp [FR_WRAP_CYCLES, rFR_WRAP, rFR_CYCLE, FR_CYCLE_CYCLE]
  have hwrap' : FR_LOOP_LOOP_NS.reg.addr p ≠ FR_WRAP_CYCLES.reg.addr p := by rw [ringReg_addr rfl, ringReg_addr rfl]; simp [FR_WRAP_CYCLES, rFR_WRAP, rFR_LOOP, FR_LOOP_LOOP_NS]
  have hopen : State.CycleBegun p (n % 2 ^ 64) loop (((s.sf FR_CYCLE_CYCLE c p).sf FR_LOOP_LOOP_NS loop p).setPort p f) := by
    refine ⟨?_, ?_, ?_, ?_, ?_⟩
    · rw [State.rf_setPort, State.rf_sf_other _ _ _ _ _ _ hloop, State.rf_sf_same _ _ _ _ rfl (by decide) (by decide), hn]
      exact Nat.mod_mod _ _
    · rw [State.rf_setPort, State.rf_sf_same _ _ _ _ rfl (by decide) (by decide)]
      exact Nat.mod_eq_of_lt hl
    · rw [State.port_setPort_same, hu]
    · rw [State.port_setPort_same, hh]
    · rw [State.port_setPort_same, hc]
  exact hopen.sf _ _ _ hwrap hwrap'

/-- A cycle of a Master port with no switch and no heal due: the number after the last, and the reception's loop length. -/
theorem State.cycleStart_begins {v : RingSeen} (hp : p < 32) (hd : s.drives = true) (hr : s.rf FR_STAT_ROLE p = 2) (hs : (s.port p).switchAt = none) :
    State.CycleBegun p ((s.rf FR_CYCLE_CYCLE p + 1) % 2 ^ 64) v.loopNs.toNat (s.cycleStart p v) := by
  unfold State.cycleStart
  extract_lets +onlyGivenNames role
  rw [if_neg (by simp [role, hd, hr])]
  extract_lets +onlyGivenNames s1 q prev good s2 n sw heal lost s3 s4 s5 n' s6 s7 q'
  have hring : State.SameRing p s s1 := (State.SameRing.lanesBack hp s).trans (.when _ (.reported _ _ _ _))
  have hn : n = (s.rf FR_CYCLE_CYCLE p + 1) % 2 ^ 64 := congrArg (fun c => (c + 1) % 2 ^ 64) hring.cycle
  have hsw : sw = false := by
    have hq : q = s.port p := State.port_of_fr hring.fr p
    simp [sw, hq, hs]
  have hn' : n' = (s.rf FR_CYCLE_CYCLE p + 1) % 2 ^ 64 := by simp only [n', hsw, Bool.false_eq_true, if_false, hn]
  have h7 : State.CycleBegun p ((s.rf FR_CYCLE_CYCLE p + 1) % 2 ^ 64) v.loopNs.toNat s7 := State.CycleBegun.opened hn' v.loopNs.isLt (fun _ => rfl) (fun _ => rfl) (fun _ => rfl)
  clear_value s7 q' n' heal role
  extract_lets +onlyGivenNames nextSw tx s8 shadow s9
  have h9 : State.CycleBegun p ((s.rf FR_CYCLE_CYCLE p + 1) % 2 ^ 64) v.loopNs.toNat s9 := (h7.emit _).when ((h7.emit _).emit _)
  clear_value s9 nextSw
  extract_lets +onlyGivenNames b nodes outs s11 q12 room picked left mgmt s12 body s13 s10
  have h11 : State.CycleBegun p ((s.rf FR_CYCLE_CYCLE p + 1) % 2 ^ 64) v.loopNs.toNat s11 :=
    h9.when (h9.setPort (fun q => by split <;> exact ⟨rfl, rfl, rfl⟩))
  clear_value s11 outs
  have h12 : State.CycleBegun p ((s.rf FR_CYCLE_CYCLE p + 1) % 2 ^ 64) v.loopNs.toNat s12 := (h11.setPort (fun _ => by exact ⟨rfl, rfl, rfl⟩)).pmEvent hp _ _ _ _
  clear_value s12 body
  have h10 : State.CycleBegun p ((s.rf FR_CYCLE_CYCLE p + 1) % 2 ^ 64) v.loopNs.toNat s10 := by
    unfold s10
    split
    · exact h9.emit _
    · exact (h12.emit _).when ((h12.emit _).emit _)
  exact (h10.when (h10.setPort (fun _ => by exact ⟨rfl, rfl, rfl⟩))).setWrap

/-! ### Slots (R509, R511) -/

section
variable {a viol : Nat} {sideN : Bool} {edge : Int} {bs : List Nat} {n : NodeCfg} (hn : (s.port p).cfg a = some n) (hr : s.rf FR_STAT_ROLE p = 2)
  (hc : (s.port p).closed.contains a = false)
include hn hr hc

/-- A side with code violations voids the slot. -/
theorem State.slotReceive_violated (hv : viol ≠ 0) :
    s.slotReceive p a sideN viol edge bs = (s.bump (if sideN then rFR_CODE_ERR_N else rFR_CODE_ERR_P) p viol).frElog p 4 a 0 := by
  unfold State.slotReceive
  rw [hn]
  dsimp only
  rw [if_neg (fun h => h.elim (· hr) (ne_true_of_eq_false hc)), if_pos hv]

theorem State.slotReceive_broken (hcrc : (parseSlot bs).crcOk = false) : s.slotReceive p a sideN 0 edge bs = (s.bump rFR_CRC_ERR p).frElog p 0 a 0 := by
  unfold State.slotReceive
  rw [hn]
  dsimp only
  rw [if_neg (fun h => h.elim (· hr) (ne_true_of_eq_false hc)), if_neg (not_not.2 rfl), if_pos (by simp [hcrc])]

/-- A slot of a Present node that arrives at its time, once, and fits, is used. -/
theorem State.slotReceive_used {h : SlotHdr} {x y : State} (hh : (s.port p).heard.contains a = false) (hb : parseSlot bs = h)
    (hx : s.setPort p (fun q => { q with heard := q.heard ++ [a] }) = x)
    (hy : (x.sf FR_NODE_EDGE_NS 0 (nodeIdx p a)).sf FR_NODE_EDGE_MAX_NS (max (x.rf FR_NODE_EDGE_MAX_NS (nodeIdx p a)) 0) (nodeIdx p a) = y)
    (hcrc : h.crcOk = true) (h5 : h.flag 5 = false) (h1 : h.flag 1 = false) (hst : y.rf FR_NODE_STATE (nodeIdx p a) = 2) (hfit : y.slotFits p a n h = true)
    (hst' : (y.useSlot p a n h).rf FR_NODE_STATE (nodeIdx p a) = 2) : s.slotReceive p a sideN 0 0 bs = y.useSlot p a n h := by
  have he : wrapInt 16 0 = 0 := by decide
  have ha : edgeAbs 0 = 0 := rfl
  have hsat : satN 16 0 = 0 := by decide
  unfold State.slotReceive
  rw [hn]
  dsimp only
  rw [if_neg (fun h => h.elim (· hr) (ne_true_of_eq_false hc)), if_neg (not_not.2 rfl), hb, if_neg (by simp [hcrc]), hx, he, ha, hsat]
  rw [hy, h5, h1, State.when_false, State.when_false, if_neg (by rw [hst]; decide), if_neg (by decide), if_neg (ne_true_of_eq_false hh),
    decide_eq_false (by decide), State.when_false, if_pos hfit, hst']
  rfl

end

/-- A window's close after a used slot ends what the node did not answer in time. -/
theorem State.windowClose_used {a : Nat} {n : NodeCfg} {x : State} (hn : (s.port p).cfg a = some n) (hr : s.rf FR_STAT_ROLE p = 2)
    (hc : (s.port p).closed.contains a = false) (hu : (s.port p).used.contains a = true)
    (hx : s.setPort p (fun q => { q with closed := q.closed ++ [a] }) = x) (hl : (x.frDeadline p a).isLastSlot p a = false) :
    s.windowClose p a = x.frDeadline p a := by
  have hxu : (x.port p).used.contains a = true := by rw [← hx, State.port_setPort_same]; exact hu
  unfold State.windowClose
  rw [hn]
  dsimp only
  rw [if_neg (by rw [hr, hc]; decide), hx, if_pos hxu, if_pos hr, if_neg (ne_true_of_eq_false hl)]

/-- A port that runs on a cut ring heals four cycles on once all its looped nodes are restored. -/
theorem State.heal_sets (hr : s.rf FR_STAT_ROLE p = 2) (h2 : 2 ≤ s.rf FR_STAT_PATH p) (h5 : s.rf FR_STAT_PATH p ≤ 5) (hms : s.rf FR_CFG_HEAL_MS p ≠ 0)
    (hh : (s.port p).healAt = none) (hs : (s.port p).switchAt = none) (hall : (s.loopedNodes p).all (fun a => (s.port p).restored.contains a) = true) :
    s.heal p true true = s.setPort p (fun q => { q with healAt := some ((s.rf FR_CYCLE_CYCLE p + 4) % 2 ^ 32) }) :=
  if_pos ⟨hr, h2, h5, hms, hh, hs, rfl, rfl, hall⟩

/-- A Listener takes a slot of the cycle that its sync frame names (R520). -/
theorem State.listenerSlot_used {a : Nat} {n : NodeCfg} {sync bs : List Nat} {h : SlotHdr} {x : State} (hn : (s.port p).cfg a = some n)
    (hr : s.rf FR_STAT_ROLE p = 3) (hlen : sync.length = 68) (hcrc : crc32c (sync.take 64) = ofBytes (sync.drop 64)) (h0 : bit (sync.getD 1 0) 0 = false)
    (h1 : bit (sync.getD 1 0) 1 = false) (hcyc : ofBytes ((sync.drop 8).take 8) = s.rf FR_CYCLE_CYCLE p) (hh : (s.port p).heard.contains a = false)
    (hc : (s.port p).closed.contains a = false) (hb : parseSlot bs = h) (hx : s.setPort p (fun q => { q with heard := q.heard ++ [a] }) = x)
    (hok : h.crcOk = true) (hfit : x.slotFits p a n h = true) :
    s.listenerSlot p a sync bs = ((((x.bump rFR_SLOT_OK p).pmEvent 0x0901 p).setPort p (fun q => { q with used := q.used ++ [a] })).slotWords
      p a (duePts n.pts (s.rf FR_CYCLE_CYCLE p)) h.words).slotFlags (nodeIdx p a) p h := by
  unfold State.listenerSlot
  dsimp only
  rw [h0, h1, if_neg (by simp), hn]
  dsimp only
  rw [if_neg (by simp [hr, hlen, hcrc]), if_pos hcyc, hb, if_neg (by simp [hok]), if_neg (fun h => h.elim (ne_true_of_eq_false hh) (ne_true_of_eq_false hc)), hx,
    if_pos hfit, hcyc]

end

section
variable {s u : State} (hp : s.powered = true) {p : Fin 32}
include hp

theorem does_slotFrameReceive {a : Fin 256} {sideN : Bool} {viol edge : BitVec 16} {frame : List Byte}
    (h : s.slotReceive p.val a.val sideN viol.toNat edge.toInt (byteNats frame) = u) : Does (.slotFrameReceive p a sideN viol edge frame) s u.chSync :=
  does_of_runCh_eq (f := fun s => s.slotReceive p.val a.val sideN viol.toNat edge.toInt (byteNats frame)) hp rfl h

theorem does_listenerSlotReceive {a : Fin 256} {sync frame : List Byte} (h : s.listenerSlot p.val a.val (byteNats sync) (byteNats frame) = u) :
    Does (.listenerSlotReceive p a sync frame) s u :=
  does_of_run_eq (f := fun s => s.listenerSlot p.val a.val (byteNats sync) (byteNats frame)) hp rfl h

end

/-- Settles O38: the cycle's start by what each of its parts leaves of the port, the other rows in the branch that the clause names. -/
theorem ringPortsRunTheirCycles : Obligations.RingPortsRunTheirCycles := by
  intro s p a n hp hn
  refine ⟨fun v hd hr hs hh => ?_, fun sideN viol edge frame hr hc => ⟨fun hv => ?_, fun hv hcrc => ?_, fun hv he hh => ?_⟩, fun hr hc hu => ?_, fun sideN => ?_,
    fun hr h2 h5 hms hh hs hall => ?_, fun sync frame hr hlen hcrc h0 h1 hcyc hh hc => ?_⟩
  · obtain ⟨h1, h2, h3, h4, h5⟩ := State.cycleStart_begins (v := v) p.isLt hd hr hs
    exact ⟨s.cycleStart p.val v, does_of_runCh_eq (f := fun s => s.cycleStart p.val v) hp rfl rfl, h1, h2, h3, h4, h5⟩
  · exact does_slotFrameReceive hp (State.slotReceive_violated hn hr hc (fun h => hv (BitVec.eq_of_toNat_eq h)))
  · subst hv
    exact does_slotFrameReceive hp (State.slotReceive_broken hn hr hc hcrc)
  · intro h i x y hcrc h5 h1 hst hfit hst'
    subst hv he
    exact does_slotFrameReceive hp (State.slotReceive_used hn hr hc hh rfl rfl rfl hcrc h5 h1 hst hfit hst')
  · intro x hl
    exact does_of_runCh_eq (f := fun s => s.windowClose p.val a.val) hp rfl (State.windowClose_used hn hr hc hu rfl hl)
  · exact does_of_run_eq (f := fun s => s.portLoss p.val sideN) hp rfl rfl
  · exact does_of_run_eq (f := fun s => s.heal p.val true true) hp rfl (State.heal_sets hr h2 h5 hms hh hs hall)
  · intro h x hok hfit
    exact does_listenerSlotReceive hp (State.listenerSlot_used hn hr (byteNats_length.trans hlen) hcrc h0 h1 hcyc hh hc rfl rfl hok hfit)

end Sys2Proof.Machine
end

section
/-! PROOFS. Ring nodes (12 R492, R500, R502-R504, R507, R516) and the steps of commissioning (12 R525). -/

namespace Sys2Proof.Machine

/-- Whether the node sends a slot in a cycle of a schedule version (R503). -/
def NodeSt.slotDue (n : NodeSt) (ver : Nat) : Bool := match n.sched with | some x => x.ver == ver | none => false

/-- The node after a sync frame of cycle c that it takes as its reference (R502). -/
def NodeSt.synced (n : NodeSt) (c master : Nat) (due muted : Bool) : NodeSt :=
  { n with ref := some (c, master), skip := false, sendDue := due, muted := muted, missed := n.missed + 1 }

/-- The slot frame of a node that is not muted, without its CRC (R500). -/
def NodeSt.slotBody (n : NodeSt) (x : NodeSched) (a c : Nat) (samples : List Nat) : List Nat :=
  let due := duePts x.pts c
  let rb := (fitFirst n.replies (4 * x.rb4)).1.flatten
  let flags := b2n (n.looped != 0) + 2 * b2n (n.restarted != 0) + 4 * b2n n.maint + 8 * b2n (n.outs.any (fun k => (Map.find n.words k).isNone)) + 16 * b2n n.muted +
    32 * b2n n.conflict + 64 * b2n n.restored
  [a, flags] ++ toBytes due.length 2 ++ toBytes (rb.length / 4 + x.ver * 256) 4 ++
    (List.range due.length).flatMap (fun k => toBytes (samples.getD k 0x03000000) 4) ++ rb

/-- The last four bytes of a frame that ends with its CRC are the CRC of the rest. -/
theorem crc_at_end (b : List Nat) :
    (b ++ toBytes (crc32c b) 4).drop ((b ++ toBytes (crc32c b) 4).length - 4) =
      toBytes (crc32c ((b ++ toBytes (crc32c b) 4).take ((b ++ toBytes (crc32c b) 4).length - 4))) 4 := by
  have hlen : (b ++ toBytes (crc32c b) 4).length - 4 = b.length := by rw [List.length_append, length_toBytes]; rfl
  rw [hlen, List.drop_left, List.take_left]

section
variable {s : State} {p a : Nat} {n : NodeSt} (hn : s.node (p * 256 + a) = some n)
include hn

/-- The first sync frame that a node takes. -/
theorem State.nodeSync_first {sync outb roll : List Nat} {m : NodeMaker} {c : Nat} (hlen : sync.length = 68) (hcrc : crc32c (sync.take 64) = ofBytes (sync.drop 64))
    (hv : sync.getD 0 0 = 1) (hf : sync.getD 1 0 = 0) (href : n.ref = none) (haft : n.afterSwitch = none) (hc : ofBytes ((sync.drop 8).take 8) = c) :
    s.nodeSync p a sync outb roll m = s.putNode (p * 256 + a) ((n.synced c (ofBytes ((sync.drop 6).take 2) % 2) (n.slotDue (ofBytes ((sync.drop 4).take 2)))
      (bit (ofBytes ((sync.drop 32).take 32)) a)).messages a m s.now outb) := by
  have hb (k : Nat) : bit 0 k = false := Nat.zero_testBit k
  have hvalid : (decide (sync.length = 68) && decide (crc32c (sync.take 64) = ofBytes (sync.drop 64)) && sync.getD 0 0 == 1) = true := by
    rw [hv, decide_eq_true hlen, decide_eq_true hcrc]; rfl
  unfold State.nodeSync
  rw [hn]
  dsimp only
  rw [hvalid, hf, href, haft, if_neg (by simp [hb])]
  simp only [hb, hc, Bool.not_true, Bool.false_eq_true, if_false, ite_self, Bool.false_and, State.when_false]
  simp only [NodeSt.synced, haft]
  rfl

/-- The node's slot, with what it still holds of its replies. -/
theorem State.nodeSlot_sends {samples : List Nat} {x : NodeSched} {c r : Nat} (hs : n.sched = some x) (href : n.ref = some (c, r)) (hdue : n.sendDue = true)
    (hskip : n.skip = false) (hm : n.muted = false) :
    s.nodeSlot p a samples =
      (s.putNode (p * 256 + a) { n with sendDue := false, conflict := false, restarted := n.restarted - 1, replies := (fitFirst n.replies (4 * x.rb4)).2 }).emit
        (.node p a 3 c (n.slotBody x a c samples ++ toBytes (crc32c (n.slotBody x a c samples)) 4)) := by
  unfold State.nodeSlot
  rw [hn]
  dsimp only
  rw [hs, href]
  dsimp only
  rw [if_neg (by simp [hdue, hskip]), hm, if_neg Bool.false_ne_true, if_neg Bool.false_ne_true]
  unfold NodeSt.slotBody
  rw [hm]

theorem State.nodeTimeout_counts : s.nodeTimeout p a = s.putNode (p * 256 + a) { n with sendDue := false, missed := n.missed + 1 } := by
  unfold State.nodeTimeout
  rw [hn]

theorem State.nodeLoss_loops (sideN : Bool) :
    s.nodeLoss p a sideN = s.putNode (p * 256 + a)
      { n with lost := n.lost ||| (if sideN then 1 else 2), looped := n.looped ||| (if sideN then 1 else 2), silentUntil := s.now + 100000, restored := false } := by
  unfold State.nodeLoss
  rw [hn]

theorem State.nodeRestored_reports (h : n.looped ≠ 0) : s.nodeRestored p a = s.putNode (p * 256 + a) { n with lost := 0, restored := true } := by
  unfold State.nodeRestored
  rw [hn]
  exact if_neg h

/-- A node without prepared values comes up with its schedule and windows, its outputs in the safe action. -/
theorem State.nodePower_unprepared (h : n.preps = []) :
    s.nodePower p a = s.putNode (p * 256 + a)
      { n.safe with ref := none, afterSwitch := none, sendDue := false, muted := false, conflict := false, skip := false, missed := 0, lost := 0, looped := 0,
                    restored := false, maint := false, restarted := 16, replies := [] } := by
  unfold State.nodePower
  rw [hn, Option.getD_some]
  dsimp only
  rw [h]
  rfl

theorem State.nodeHold_expires {x : NodeSched} (hs : n.sched = some x) (h : x.hold ≤ n.missed) : s.nodeHold p a = s.putNode (p * 256 + a) n.safe := by
  unfold State.nodeHold
  rw [hn]
  dsimp only
  rw [hs]
  dsimp only
  exact if_pos h

theorem State.prepExpire_expires {source seq : Nat} (h : n.preps.any (fun e => e.source == source && e.seq == seq && e.phase == 1) = true) :
    s.prepExpire p a source seq = s.putNode (p * 256 + a) (n.prepPhase source seq 4) := by
  unfold State.prepExpire
  rw [hn]
  exact if_pos h

end

/-! ### Commissioning (R525) -/

section
variable {s : State} {c : Cmd}

/-- A Listener port is not commissioned. -/
theorem State.commStart_listener {table : List Nat} (hs : c.src < 1000) (hr : s.rf FR_STAT_ROLE (c.p 0 % 32) = 3) :
    s.commStart c table = ((s.sf FR_COMM_RESULT 7 (c.p 0 % 32)).sf FR_COMM_NODE 0 (c.p 0 % 32)).finish c stDENIED [7, 0] := by
  unfold State.commStart
  dsimp only
  rw [if_neg (Nat.not_le.2 hs), if_pos hr]

section
variable {m : Comm} {roll : List Nat} (hm : (s.port (c.p 0 % 32)).comm = some m)
include hm

theorem State.commNext_one (hst : s.rf FR_COMM_STEP (c.p 0 % 32) = 1) :
    s.commNext c roll = (s.setPort (c.p 0 % 32) (fun q => { q with discover := true })).commStep (c.p 0 % 32) c 2 1 := by
  unfold State.commNext
  dsimp only
  rw [hm]
  dsimp only
  rw [hst]
  rfl

theorem State.commNext_two (hst : s.rf FR_COMM_STEP (c.p 0 % 32) = 2) :
    s.commNext c roll = (s.commStep (c.p 0 % 32) c 3 2).commCheck (c.p 0 % 32) c m (parseRolls roll) := by
  unfold State.commNext
  dsimp only
  rw [hm]
  dsimp only
  rw [hst]
  rfl

theorem State.commNext_six (hst : s.rf FR_COMM_STEP (c.p 0 % 32) = 6) (hg : 16 ≤ m.good) : s.commNext c roll = s.commEnd (c.p 0 % 32) c stOK 1 0 := by
  unfold State.commNext
  dsimp only
  rw [hm]
  dsimp only
  rw [hst]
  exact if_pos hg

end
end

section
variable {s u : State} (hp : s.powered = true)
include hp

theorem does_ringCommission {table roll : List Byte}
    (h : s.onLong 0x0310 (fun s c => s.commStart c (byteNats table)) (fun s c => s.commNext c (byteNats roll)) = u) : Does (.ringCommission table roll) s u.chSync :=
  does_of_runCh_eq (f := fun s => s.onLong 0x0310 (fun s c => s.commStart c (byteNats table)) (fun s c => s.commNext c (byteNats roll))) hp rfl h

end

/-- Settles O39: each row in the branch that the clause names. -/
theorem ringNodesActOnTheirInputs : Obligations.RingNodesActOnTheirInputs := by
  intro s p a n hp hn k
  refine ⟨fun sync outb roll m hlen hcrc hv hf href haft => ?_, fun samples x c r hs href hdue hskip hm => ?_, ?_, fun sideN => ?_, fun hl => ?_, fun hpr => ?_,
    fun x hs hx => ?_, fun source seq h => ?_, fun c table roll hc hsrc hr => ?_, fun c table roll m hnone hf hcur => ?_⟩
  · intro c due t
    exact does_of_run_eq (f := fun s => s.nodeSync p.val a.val (byteNats sync) (byteNats outb) (byteNats roll) m) hp rfl
      (State.nodeSync_first hn (byteNats_length.trans hlen) hcrc hv hf href haft rfl)
  · exact ⟨_, does_of_run_eq (f := fun s => s.nodeSlot p.val a.val (wordNats samples)) hp rfl (State.nodeSlot_sends hn hs href hdue hskip hm), rfl, crc_at_end _⟩
  · exact does_of_run_eq (f := fun s => s.nodeTimeout p.val a.val) hp rfl (State.nodeTimeout_counts hn)
  · exact does_of_run_eq (f := fun s => s.nodeLoss p.val a.val sideN) hp rfl (State.nodeLoss_loops hn sideN)
  · exact does_of_run_eq (f := fun s => s.nodeRestored p.val a.val) hp rfl (State.nodeRestored_reports hn hl)
  · exact ⟨_, does_of_run_eq (f := fun s => s.nodePower p.val a.val) hp rfl (State.nodePower_unprepared hn hpr), rfl, rfl, rfl, rfl, rfl, rfl, rfl, rfl, rfl, rfl⟩
  · exact does_of_run_eq (f := fun s => s.nodeHold p.val a.val) hp rfl (State.nodeHold_expires hn hs hx)
  · exact does_of_run_eq (f := fun s => s.prepExpire p.val a.val source.toNat seq.toNat) hp rfl (State.prepExpire_expires hn h)
  · intro q
    exact does_ringCommission hp ((State.onLong_starts hc _ _).trans (State.commStart_listener hsrc hr))
  · intro q hm
    have hrun := (State.onLong_next hnone hf (fun s c => s.commStart c (byteNats table)) (fun s c => s.commNext c (byteNats roll))).trans
      (congrArg (fun c => s.commNext c (byteNats roll)) hcur)
    exact ⟨fun hst => does_ringCommission hp (hrun.trans (State.commNext_one hm hst)), fun hst => does_ringCommission hp (hrun.trans (State.commNext_two hm hst)),
      fun hst hg => does_ringCommission hp (hrun.trans (State.commNext_six hm hst hg))⟩

end Sys2Proof.Machine
end

section
/-! PROOFS. A REQUEST message received again (12 R515): its window has recorded it, whatever the node answered. -/

namespace Sys2Proof.Machine

/-! ### The fields of a REQUEST message that its window turns on (R499) -/

def reqSource (b : List Nat) : Nat := ofBytes ((b.drop 0).take 2)
def reqSeq (b : List Nat) : Nat := ofBytes ((b.drop 2).take 2)
def reqOp (b : List Nat) : Nat := ofBytes ((b.drop 4).take 1)

/-! ### Windows (R515) -/

/-- What a window's judgement turns on: its source, H, and the SEQs that it has recorded. -/
def Window.shape (w : Window) : Nat × Option Nat × List Nat := (w.source, w.h, w.ents.map (·.seq))

theorem Window.judge_congr {w x : Window} (h : w.shape = x.shape) (seq : Nat) : w.judge seq = x.judge seq := by
  obtain ⟨-, hh, hs⟩ : w.source = x.source ∧ w.h = x.h ∧ w.ents.map (·.seq) = x.ents.map (·.seq) := by simpa [Window.shape] using h
  have hany : w.ents.any (fun e => e.seq == seq) = x.ents.any (fun e => e.seq == seq) := by
    have := congrArg (fun l => l.any (· == seq)) hs
    simpa [List.any_map, Function.comp_def] using this
  unfold Window.judge
  rw [hh, hany]

/-- A SEQ that was new or late is one received before once it is recorded. -/
theorem Window.judge_record {w : Window} {e : WinEnt} (h : w.judge e.seq = 0) : (w.record e).judge e.seq = 1 := by
  have hany : (w.record e).ents.any (fun x => x.seq == e.seq) = true := by simp [Window.record]
  have hnew (x : Window) (hx : x.h = some e.seq) (ha : x.ents.any (fun y => y.seq == e.seq) = true) : x.judge e.seq = 1 := by
    unfold Window.judge
    rw [hx, ha]
    simp
  cases hw : w.h with
  | none => exact hnew _ (by simp [Window.record, hw]) hany
  | some k =>
    by_cases hd : 1 ≤ (e.seq + 65536 - k) % 65536 ∧ (e.seq + 65536 - k) % 65536 ≤ 32767
    · exact hnew _ (by simp [Window.record, hw, hd]) hany
    · have hk : (w.record e).h = some k := by simp only [Window.record, hw, if_neg hd]
      unfold Window.judge at h ⊢
      rw [hw] at h
      rw [hk, hany]
      dsimp only at h ⊢
      rw [if_neg hd] at h ⊢
      split at h
      · next hin => rw [if_pos hin]; rfl
      · exact absurd h (by decide)

/-- How a SEQ of a source stands to the node's window for it, if there is one. -/
def NodeSt.judged (n : NodeSt) (source seq : Nat) : Option Nat := (n.win source).map (fun w => w.judge seq)

theorem NodeSt.judged_congr {n x : NodeSt} (h : n.wins.map Window.shape = x.wins.map Window.shape) (source seq : Nat) : n.judged source seq = x.judged source seq := by
  have hfind (l : List Window) : (l.find? (fun w => w.source == source)).map Window.shape = (l.map Window.shape).find? (fun y => y.1 == source) := by
    rw [List.find?_map]; rfl
  have hw : (n.win source).map Window.shape = (x.win source).map Window.shape := by unfold NodeSt.win; rw [hfind, hfind, h]
  unfold NodeSt.judged
  cases hn : n.win source with
  | none =>
    rw [hn] at hw
    rw [Option.map_eq_none_iff.1 hw.symm]
  | some w =>
    rw [hn] at hw
    obtain ⟨y, hx, hy⟩ := Option.map_eq_some_iff.1 hw.symm
    rw [hx]
    exact congrArg some (Window.judge_congr hy.symm seq)

theorem NodeSt.judged_putWin (n : NodeSt) (w : Window) (seq : Nat) : (n.putWin w).judged w.source seq = some (w.judge seq) := by
  have h : (n.putWin w).win w.source = some w := by simp [NodeSt.putWin, NodeSt.win]
  rw [NodeSt.judged, h]
  rfl

theorem NodeSt.win_source {n : NodeSt} {w : Window} {source : Nat} (h : n.win source = some w) : w.source = source := by
  have := List.find?_some h
  simpa using this

/-! ### Prepared values that have run out (R516) -/

/-- The node as a REQUEST message finds it: without the prepared values whose hold has run out. -/
def NodeSt.tidy (n : NodeSt) (now : Nat) : NodeSt :=
  let x := n.preps.foldl (fun n e => if e.phase = 1 ∧ e.endAt ≤ now then n.prepPhase e.source e.seq 4 else n) n
  { x with preps := x.preps.filter (fun (e : PrepEnt) => decide (now < e.endAt)) }

/-- A change of phase leaves outputs and window shapes. -/
theorem NodeSt.prepPhase_keeps (n : NodeSt) (source seq phase : Nat) :
    (n.prepPhase source seq phase).words = n.words ∧ (n.prepPhase source seq phase).maint = n.maint ∧
      (n.prepPhase source seq phase).wins.map Window.shape = n.wins.map Window.shape := by
  refine ⟨rfl, rfl, ?_⟩
  unfold NodeSt.prepPhase NodeSt.winPhase
  dsimp only
  rw [List.map_map]
  refine List.map_congr_left (fun w _ => ?_)
  dsimp only [Function.comp]
  split
  · simp only [Window.shape, List.map_map, Prod.mk.injEq, true_and]
    refine List.map_congr_left (fun e _ => ?_)
    dsimp only [Function.comp]
    split <;> rfl
  · rfl

theorem NodeSt.tidy_keeps (n : NodeSt) (now : Nat) :
    (n.tidy now).words = n.words ∧ (n.tidy now).maint = n.maint ∧ (n.tidy now).wins.map Window.shape = n.wins.map Window.shape := by
  have h := foldl_keeps (fun (x : NodeSt) => x.words = n.words ∧ x.maint = n.maint ∧ x.wins.map Window.shape = n.wins.map Window.shape)
    (fun n e => if e.phase = 1 ∧ e.endAt ≤ now then n.prepPhase e.source e.seq 4 else n) n.preps n ⟨rfl, rfl, rfl⟩ (fun x e hx _ => by
      split
      · obtain ⟨h1, h2, h3⟩ := x.prepPhase_keeps e.source e.seq 4
        exact ⟨h1.trans hx.1, h2.trans hx.2.1, h3.trans hx.2.2⟩
      · exact hx)
  exact h

theorem NodeSt.judged_tidy (n : NodeSt) (now source seq : Nat) : (n.tidy now).judged source seq = n.judged source seq :=
  NodeSt.judged_congr (n.tidy_keeps now).2.2 source seq

/-! ### The request (R510, R515) -/

theorem Window.judge_cases (w : Window) (seq : Nat) : w.judge seq = 0 ∨ w.judge seq = 1 ∨ w.judge seq = 2 := by
  unfold Window.judge
  split
  · exact .inl rfl
  · dsimp only
    split
    · exact .inl rfl
    · split
      · split
        · exact .inr (.inl rfl)
        · exact .inl rfl
      · exact .inr (.inr rfl)

section
variable {n : NodeSt} {m : NodeMaker} {now : Nat} {b : List Nat} (h5 : reqOp b ≠ 5) (h6 : reqOp b ≠ 6)
include h5 h6

theorem NodeSt.request_unknown (h : (n.tidy now).win (reqSource b) = none) :
    n.request m now b = (n.tidy now).answer (reqSeq b) (reqSource b) (reqOp b) 0x14 false [] := by
  refine (if_neg (not_or.2 ⟨h5, h6⟩)).trans ?_
  change (match (n.tidy now).win (reqSource b) with | none => _ | some w => _) = _
  rw [h]
  rfl

section
variable {w : Window} (h : (n.tidy now).win (reqSource b) = some w)
include h

/-- A request received before, or stale: its window becomes the most recent, and nothing else changes. -/
theorem NodeSt.request_old (hj : w.judge (reqSeq b) ≠ 0) :
    ∃ r d l, n.request m now b = ((n.tidy now).putWin w).answer (reqSeq b) (reqSource b) (reqOp b) r d l := by
  have hrun : n.request m now b = _ := if_neg (not_or.2 ⟨h5, h6⟩)
  change n.request m now b = (match (n.tidy now).win (reqSource b) with | none => _ | some w => _) at hrun
  rw [h] at hrun
  dsimp only at hrun
  change n.request m now b = (match w.judge (reqSeq b) with | 1 => _ | 2 => _ | _ => _) at hrun
  rcases w.judge_cases (reqSeq b) with h0 | h1 | h2
  · exact absurd h0 hj
  · rw [h1] at hrun
    exact ⟨_, _, _, hrun⟩
  · rw [h2] at hrun
    exact ⟨_, _, _, hrun⟩

/-- A request that is new or late is performed and recorded, or, a PREPARE beyond the store, only answered. -/
theorem NodeSt.request_new (hj : w.judge (reqSeq b) = 0) :
    (reqOp b = 4 ∧ ∃ r d l, n.request m now b = (n.tidy now).answer (reqSeq b) (reqSource b) (reqOp b) r d l) ∨
      ∃ cmd arg count pts e r d l, e.seq = reqSeq b ∧
        n.request m now b =
          (((n.tidy now).perform m now (reqSource b) (reqSeq b) (reqOp b) cmd arg count pts).1.putWin (w.record e)).answer (reqSeq b) (reqSource b) (reqOp b) r d l := by
  have hrun : n.request m now b = _ := if_neg (not_or.2 ⟨h5, h6⟩)
  change n.request m now b = (match (n.tidy now).win (reqSource b) with | none => _ | some w => _) at hrun
  rw [h] at hrun
  dsimp only at hrun
  change n.request m now b = (match w.judge (reqSeq b) with | 1 => _ | 2 => _ | _ => _) at hrun
  rw [hj] at hrun
  change n.request m now b = (if reqOp b = 4 ∧ _ then _ else _) at hrun
  by_cases hfull : reqOp b = 4 ∧ 8 ≤ ((n.tidy now).preps.filter (fun (e : PrepEnt) => e.source == reqSource b)).length
  · exact .inl ⟨hfull.1, _, _, _, hrun.trans (if_pos hfull)⟩
  · exact .inr ⟨_, _, _, _, _, _, _, _, rfl, hrun.trans (if_neg hfull)⟩

end

/-- A SEQ that the window does not take as new or late, or that has no window, changes no output. -/
theorem NodeSt.request_refused (h : n.judged (reqSource b) (reqSeq b) ≠ some 0) : (n.request m now b).words = n.words ∧ (n.request m now b).maint = n.maint := by
  obtain ⟨hw, hm, -⟩ := n.tidy_keeps now
  rw [← NodeSt.judged_tidy n now] at h
  cases hwin : (n.tidy now).win (reqSource b) with
  | none =>
    rw [NodeSt.request_unknown h5 h6 hwin]
    exact ⟨hw, hm⟩
  | some w =>
    obtain ⟨r, d, l, hr⟩ := NodeSt.request_old (m := m) h5 h6 hwin (fun h0 => h (by unfold NodeSt.judged; rw [hwin, Option.map_some, h0]))
    rw [hr]
    exact ⟨hw, hm⟩

/-- A PREPARE changes no output. -/
theorem NodeSt.request_prepare (h4 : reqOp b = 4) : (n.request m now b).words = n.words ∧ (n.request m now b).maint = n.maint := by
  obtain ⟨hw, hm, -⟩ := n.tidy_keeps now
  by_cases hj : n.judged (reqSource b) (reqSeq b) = some 0
  · rw [← NodeSt.judged_tidy n now] at hj
    obtain ⟨w, hwin, hjw⟩ := Option.map_eq_some_iff.1 hj
    rcases NodeSt.request_new (m := m) h5 h6 hwin hjw with ⟨-, r, d, l, hr⟩ | ⟨cmd, arg, count, pts, e, r, d, l, -, hr⟩ <;> rw [hr]
    · exact ⟨hw, hm⟩
    · have hperf (x : NodeSt) (source seq : Nat) : (x.perform m now source seq 4 cmd arg count pts).1.words = x.words ∧
          (x.perform m now source seq 4 cmd arg count pts).1.maint = x.maint := by
        simp only [NodeSt.perform]
        split_ifs <;> exact ⟨rfl, rfl⟩
      obtain ⟨h1, h2⟩ := hperf (n.tidy now) (reqSource b) (reqSeq b)
      rw [h4]
      exact ⟨h1.trans hw, h2.trans hm⟩
  · exact NodeSt.request_refused h5 h6 hj

/-- A request other than a PREPARE is afterwards one that its window has received, or that it never takes. -/
theorem NodeSt.judged_request (h4 : reqOp b ≠ 4) : (n.request m now b).judged (reqSource b) (reqSeq b) ≠ some 0 := by
  cases hwin : (n.tidy now).win (reqSource b) with
  | none =>
    rw [NodeSt.request_unknown h5 h6 hwin]
    have hj : (n.tidy now).judged (reqSource b) (reqSeq b) = none := by unfold NodeSt.judged; rw [hwin]; rfl
    exact fun h => absurd (hj.symm.trans h) (by simp)
  | some w =>
    have hs : w.source = reqSource b := NodeSt.win_source hwin
    by_cases hj : w.judge (reqSeq b) = 0
    · rcases NodeSt.request_new (m := m) h5 h6 hwin hj with ⟨ho, -⟩ | ⟨cmd, arg, count, pts, e, r, d, l, he, hr⟩
      · exact absurd ho h4
      · have hput := NodeSt.judged_putWin ((n.tidy now).perform m now (reqSource b) (reqSeq b) (reqOp b) cmd arg count pts).1 (w.record e) (reqSeq b)
        rw [← he, Window.judge_record (he ▸ hj), he, show (w.record e).source = reqSource b from hs] at hput
        rw [hr]
        exact fun h => absurd (hput.symm.trans h) (by simp)
    · obtain ⟨r, d, l, hr⟩ := NodeSt.request_old (m := m) h5 h6 hwin hj
      have hput := NodeSt.judged_putWin (n.tidy now) w (reqSeq b)
      rw [hs] at hput
      rw [hr]
      exact fun h => hj (Option.some.inj (hput.symm.trans h))

end

/-- Settles O40: a PREPARE changes no output at all; any other request is in its window the second time, or is taken at no time. -/
theorem repeatedRequestsActOnce : Obligations.RepeatedRequestsActOnce := by
  intro n m m' now now' b h5 h6
  by_cases h4 : reqOp b = 4
  · exact NodeSt.request_prepare h5 h6 h4
  · exact NodeSt.request_refused h5 h6 (NodeSt.judged_request h5 h6 h4)

end Sys2Proof.Machine
end

section
/-! PROOFS. The first start of a tenant (13 R545, R572): INSTANCE_START keeps its ENTRY and ARG, which the statement's last start clause leaves out. -/

namespace Sys2Proof.Machine

/-- Two effects of one command end alike. -/
theorem Does.settle_eq {c : Instr} {s u v : State} (h : Does c s u) (k : Does c s v) : u.settle s.pending = v.settle s.pending := by
  have huv := h.symm.trans k
  injection huv

/-- The first start of a Created tenant records the ENTRY and ARG that a later reset starts it from, and runs its cores. -/
theorem State.doStart_created {s : State} {c : Cmd} (hw : s.wrongWorld c = false) (hi : s.ist c.inst = 1) (he : c.p64 0 % 4 = 0) :
    s.doStart c =
      ((((s.setInst c.inst (fun r => { r with entry := c.p64 0, arg := c.p64 2, boots := true })).startCores c.inst (c.p64 0) (c.p64 2)).mirrorCmd c).finish c stOK) := by
  unfold State.doStart
  dsimp only
  rw [if_neg (by simp [hw]), if_neg (by omega), if_neg (by omega), if_neg (by omega)]

/-- INSTANCE_START of tenant 511 at ENTRY 4 by the Operator Host. -/
def startCmd511 : Cmd := ⟨0, 0, 0x0102, 0, 511, 0, false, [4, 0, 0, 0], [], 0, 0, 0, false, 0, 2, true, true, ⟨0, 0, 0, 0, 0, false, []⟩⟩

/-- A module with that command started and tenant 511 Created. -/
def created511 : State := { State.reset.sf TN_INST_STATE 1 511 with mp := { State.reset.mp with cmds := [startCmd511] } }

/-- Refutes O41: the start of a Created tenant also keeps ENTRY and ARG and marks that they were given (13 R545, R565); with tenant 511 Created and ENTRY 4 the effect that the
clause states has no such mark. -/
theorem not_instancesFollowTheirLifecycle : ¬ Obligations.InstancesFollowTheirLifecycle := by
  intro h
  obtain ⟨-, hstart, -⟩ := h created511 rfl
  have hvia : created511.startsVia .packet 0x0102 (fun _ => true) created511 startCmd511 :=
    ⟨⟨_, rfl, by decide +kernel⟩, rfl, by decide +kernel⟩
  have hworld : created511.wrongWorld startCmd511 = false := by decide +kernel
  have hist : created511.ist startCmd511.inst = 1 := by decide +kernel
  have hentry : startCmd511.p64 0 % 4 = 0 := by decide
  obtain ⟨-, -, -, hstated⟩ := hstart .packet created511 startCmd511 hvia hworld
  have hreal : Does (.instanceStart .packet) created511 _ := does_of_via (f := State.doStart) rfl hvia rfl (State.doStart_created hworld hist hentry)
  have hboots := congrArg (fun x => (State.inst x 511).boots) (Does.settle_eq (hstated hist hentry) hreal)
  exact absurd hboots (by decide +kernel)

end Sys2Proof.Machine
end

section
/-! PROOFS. Save images and mappings (13 R539, R542, R543, R569, R570), each row in the branch that its hypotheses name. -/

namespace Sys2Proof.Machine

section
variable {s : State} {c : Cmd}

/-! ### INSTANCE_SAVE (R569) -/

section
variable (hw : s.wrongWorld c = false) (hsec : s.rb TN_INST_SECURE c.inst = false) (hi : s.ist c.inst = 5)
include hw hsec hi

theorem State.saveBegin_busy (hb : s.rb TN_OP_BUSY = true) : s.saveBegin c = s.finish c stDENIED [s.rf TN_OP_INSTANCE] := by
  unfold State.saveBegin
  dsimp only
  rw [if_neg (by simp [hw, hsec, hi]), if_pos hb]

section
variable (hb : s.rb TN_OP_BUSY = false) (hs : sinkOk c = true)
include hb hs

theorem State.saveBegin_short (hl : c.p64 3 < s.imgLen c.inst) : s.saveBegin c = s.finish c stBAD_PARAM [s.imgLen c.inst % 2 ^ 32, s.imgLen c.inst / 2 ^ 32] := by
  unfold State.saveBegin
  dsimp only
  rw [if_neg (by simp [hw, hsec, hi]), if_neg (ne_true_of_eq_false hb), if_neg (by simp [hs]), if_pos hl]

theorem State.saveBegin_starts (hl : s.imgLen c.inst ≤ c.p64 3) (hu : s.sinkUp c = true) :
    s.saveBegin c =
      ((((s.sf TN_INST_STATE 6 c.inst).opShow 0 c.inst (s.imgBlocks c.inst)).sinkWrite c 0 (s.imgHeader c.inst)).mirrorCmd c).longPhase c 2 (s.imgBlocks c.inst) [] := by
  unfold State.saveBegin
  dsimp only
  rw [if_neg (by simp [hw, hsec, hi]), if_neg (ne_true_of_eq_false hb), if_neg (by simp [hs]), if_neg (Nat.not_lt.2 hl), if_neg (by simp [hu])]

end
end

section
variable {k : Nat} (hi : s.ist c.inst = 6) (hcan : c.lop.cancel = false) (hu : s.sinkUp c = true) (hk : c.lop.items.length / 2 = k)
include hi hcan hu hk

theorem State.saveNext_block (hmore : k < s.imgBlocks c.inst) :
    s.saveNext c = ((s.sinkWrite c (64 + 65536 * k) (s.imgBlock c.inst k)).sf TN_OP_POS_POS (k + 1)).longPos
      { c with lop := { c.lop with items := c.lop.items ++ [crc32c (s.imgBlock c.inst k), s.blockPoison c.inst k] } } (k + 1) := by
  unfold State.saveNext
  dsimp only
  rw [if_neg (not_not.2 hi), if_neg (ne_true_of_eq_false hcan), if_neg (by simp [hu]), hk, if_pos hmore]

/-- After the last block comes the trailer: each block's CRC and map of poisoned lines. -/
theorem State.saveNext_trailer (hdone : s.imgBlocks c.inst ≤ k) :
    s.saveNext c = (((s.sinkWrite c (64 + s.imgBody c.inst)
      ((List.range k).flatMap (fun j => toBytes (c.lop.items.getD (2 * j) 0) 4 ++ toBytes (c.lop.items.getD (2 * j + 1) 0) 128))).sf
        TN_INST_STATE 5 c.inst).opIdle).finish c stOK [s.imgLen c.inst % 2 ^ 32, s.imgLen c.inst / 2 ^ 32] := by
  unfold State.saveNext
  dsimp only
  rw [if_neg (not_not.2 hi), if_neg (ne_true_of_eq_false hcan), if_neg (by simp [hu]), hk, if_neg (Nat.not_lt.2 hdone)]

end

/-! ### INSTANCE_RESTORE (R570) -/

section
variable {img : List Nat}

section
variable (hw : s.wrongWorld c = false) (hi : s.ist c.inst = 1) (hst : (s.inst c.inst).started = false) (hb : s.rb TN_OP_BUSY = false)
include hw hi hst hb

theorem State.restoreBegin_unmatched (hm : s.imgMatch c.inst img (c.p64 3) = none) : s.restoreBegin c img = s.finish c stBAD_PARAM := by
  unfold State.restoreBegin
  dsimp only
  rw [if_neg (by simp [hw, hi, hst]), if_neg (ne_true_of_eq_false hb), if_pos (by simp [hm])]

theorem State.restoreBegin_starts {l : List Mapping} (hs : sinkOk c = true) (hm : s.imgMatch c.inst img (c.p64 3) = some l) :
    s.restoreBegin c img = (((s.sf TN_INST_STATE 7 c.inst).opShow 1 c.inst (s.imgBlocks c.inst)).mirrorCmd c).longPhase c 2 (s.imgBlocks c.inst) [] := by
  unfold State.restoreBegin
  dsimp only
  rw [if_neg (by simp [hw, hi, hst]), if_neg (ne_true_of_eq_false hb), if_neg (by simp [hs, hm])]

end

section
variable {k : Nat} (hi : s.ist c.inst = 7) (hcan : c.lop.cancel = false) (hk : c.lop.pos = k)
include hi hcan hk

section
variable {b t : List Nat} {ms : List Mapping} (hmore : k < c.lop.total) (hm : s.imgMatch c.inst img (c.p64 3) = some ms)
  (hb : (img.drop (64 + 65536 * k)).take (min 65536 (s.imgBody c.inst - 65536 * k)) = b) (ht : (img.drop (64 + s.imgBody c.inst + 132 * k)).take 132 = t)
include hmore hm hb ht

/-- A block whose CRC does not agree ends the restore; what it has written is unpredictable. -/
theorem State.restoreNext_damaged (hcrc : crc32c b ≠ ofBytes (t.take 4)) :
    s.restoreNext c img = (((s.scramble c.inst).sf TN_INST_STATE 1 c.inst).opIdle).finish c stFAULTED [k % 2 ^ 32, k / 2 ^ 32] := by
  unfold State.restoreNext
  dsimp only
  rw [if_neg (not_not.2 hi), if_neg (ne_true_of_eq_false hcan), hk, if_pos hmore, hm]
  dsimp only
  rw [hb, ht, if_pos (Or.inl hcrc)]

theorem State.restoreNext_block (hcrc : crc32c b = ofBytes (t.take 4)) (hu : s.sinkUp c = true) :
    s.restoreNext c img = ((s.loadBlock (ms.filter (fun (m : Mapping) => !bit m.perm 5)) (s.imgStates c.inst) k b (ofBytes (t.drop 4))).sf TN_OP_POS_POS (k + 1)).longPos
      { c with lop := { c.lop with items := (c.lop.items ++ b).take (s.imgStates c.inst) } } (k + 1) := by
  unfold State.restoreNext
  dsimp only
  rw [if_neg (not_not.2 hi), if_neg (ne_true_of_eq_false hcan), hk, if_pos hmore, hm]
  dsimp only
  rw [hb, ht, if_neg (by simp [hcrc, hu])]

end

theorem State.restoreNext_last (hdone : c.lop.total ≤ k) : s.restoreNext c img = ((s.restoreEnd c.inst c.lop.items).opIdle).finish c stOK := by
  unfold State.restoreNext
  dsimp only
  rw [if_neg (not_not.2 hi), if_neg (ne_true_of_eq_false hcan), hk, if_neg (Nat.not_lt.2 hdone)]

end
end

/-! ### Mappings (R542, R543) -/

theorem State.mapState_iff {i : Nat} : s.mapState i = true ↔ s.ist i = 1 ∨ s.ist i = 2 ∨ s.ist i = 5 := by
  simp [State.mapState]

theorem State.doMap_denied (h1 : s.ist c.inst ≠ 1) (h2 : s.ist c.inst ≠ 2) (h5 : s.ist c.inst ≠ 5) : s.doMap c = s.finish c stDENIED := by
  have hm : s.mapState c.inst = false := Bool.eq_false_iff.2 (fun h => (State.mapState_iff.1 h).elim h1 (·.elim h2 h5))
  exact if_pos (by simp [hm])

section
variable (hw : s.wrongWorld c = false)
include hw

/-- What INSTANCE_MAP asks of its parameters: aligned, not empty, inside the tenant's space, on pages that it may map, with permissions that belong together. -/
structure State.MapParamsOk (s : State) (c : Cmd) : Prop where
  tenantAligned : c.p64 0 % 4096 = 0
  deviceAligned : c.p64 2 % 4096 = 0
  sizeAligned : c.p64 4 % 4096 = 0
  nonempty : 0 < c.p64 4
  inside : c.p64 0 + c.p64 4 ≤ 2 ^ 46
  free : s.tenantBusy c.inst (c.p64 0 / 4096) (c.p64 4 / 4096) = false
  plain : s.plainPages (c.p64 2 / 4096) (c.p64 4 / 4096) = true
  readable : bit (c.p 6) 1 = true → bit (c.p 6) 0 = true
  protectedShared : s.rb TN_INST_PROTECTED c.inst = true → bit (c.p 6) 1 = true → bit (c.p 6) 4 = true

theorem State.doMap_maps {y : State} (hst : s.mapState c.inst = true) (hok : s.MapParamsOk c)
    (hclash : bit (c.p 6) 1 = true → s.writeClash c.inst (c.p64 2 / 4096) (c.p64 4 / 4096) (bit (c.p 6) 5) = false)
    (hsec : s.fromSecure c = true ∨ s.touchesSecure (c.p64 2 / 4096) (c.p64 4 / 4096) = false)
    (hy : s.s2Map c.inst (c.p64 0 / 4096) (c.p64 2 / 4096) (c.p64 4 / 4096) (c.p 6 % 32) (mapLevel (c.p64 0 / 4096) (c.p64 2 / 4096) (c.p64 4 / 4096)) false = some y) :
    s.doMap c = ((y.setInst c.inst (fun r => { r with maps := r.maps ++ [⟨c.p64 0 / 4096, c.p64 2 / 4096, c.p64 4 / 4096, c.p 6 % 64⟩] })).mirrorCmd c).finish c stOK := by
  obtain ⟨h1, h2, h3, h4, h5, h6, h7, h8, h9⟩ := hok
  have hread : (bit (c.p 6) 1 && !bit (c.p 6) 0) = false := by
    cases h : bit (c.p 6) 1
    · rfl
    · rw [h8 h]; rfl
  have hprot : (s.rb TN_INST_PROTECTED c.inst && bit (c.p 6) 1 && !bit (c.p 6) 4) = false := by
    cases h : s.rb TN_INST_PROTECTED c.inst && bit (c.p 6) 1
    · rfl
    · rw [Bool.and_eq_true] at h
      rw [h9 h.1 h.2]; rfl
  have hwrite : (bit (c.p 6) 1 && s.writeClash c.inst (c.p64 2 / 4096) (c.p64 4 / 4096) (bit (c.p 6) 5)) = false := by
    cases h : bit (c.p 6) 1
    · rfl
    · rw [hclash h]; rfl
  have hworld : (!s.fromSecure c && s.touchesSecure (c.p64 2 / 4096) (c.p64 4 / 4096)) = false := by
    rcases hsec with h | h <;> simp [h]
  have hbad : (c.p64 0 % 4096 != 0 || c.p64 2 % 4096 != 0 || c.p64 4 % 4096 != 0 || c.p64 4 == 0 || decide (2 ^ 46 < c.p64 0 + c.p64 4) ||
      s.tenantBusy c.inst (c.p64 0 / 4096) (c.p64 4 / 4096) || !s.plainPages (c.p64 2 / 4096) (c.p64 4 / 4096) || (bit (c.p 6) 1 && !bit (c.p 6) 0) ||
      (s.rb TN_INST_PROTECTED c.inst && bit (c.p 6) 1 && !bit (c.p 6) 4)) = false := by
    rw [hread, hprot, h1, h2, h3, h6, h7, decide_eq_false (Nat.not_lt.2 h5), beq_eq_false_iff_ne.2 (Nat.pos_iff_ne_zero.1 h4)]
    rfl
  refine (if_neg (by simp [hw, hst])).trans ((if_neg (ne_true_of_eq_false hbad)).trans ((if_neg (by rw [hwrite, hworld]; decide)).trans ?_))
  rw [hy]

theorem State.doUnmap_unknown (hst : s.mapState c.inst = true) (h : ∀ m ∈ (s.inst c.inst).maps, m.tpage * 4096 ≠ c.p64 0 ∨ m.pages * 4096 ≠ c.p64 2) :
    s.doUnmap c = s.finish c stBAD_PARAM := by
  have hnone : (s.inst c.inst).maps.find? (fun (m : Mapping) => m.tpage * 4096 == c.p64 0 && m.pages * 4096 == c.p64 2) = none := by
    rw [List.find?_eq_none]
    intro m hm hc
    rw [Bool.and_eq_true, beq_iff_eq, beq_iff_eq] at hc
    exact (h m hm).elim (· hc.1) (· hc.2)
  unfold State.doUnmap
  dsimp only
  rw [if_neg (by simp [hw, hst]), hnone]

theorem State.doUnmap_unmaps {m : Mapping} (hst : s.mapState c.inst = true)
    (h : (s.inst c.inst).maps.find? (fun (m : Mapping) => m.tpage * 4096 == c.p64 0 && m.pages * 4096 == c.p64 2) = some m) :
    s.doUnmap c = (((s.s2Unmap c.inst m.tpage m.pages (mapLevel m.tpage m.dpage m.pages)).setInst c.inst
      (fun r => { r with maps := r.maps.filter (fun (x : Mapping) => !(x == m)) })).mirrorCmd c).finish c stOK := by
  unfold State.doUnmap
  dsimp only
  rw [if_neg (by simp [hw, hst]), h]

theorem State.doInstQuery_answers {y : State} {ms : List Mapping} {k : Nat} (hms : (s.inst c.inst).maps = ms) (hk : min ms.length (c.p 2 / 16) = k)
    (hy : s.bufWrite c (c.p64 0) ((ms.take k).flatMap Mapping.record) = (y, true)) :
    s.doInstQuery c = y.finish c stOK [y.reg rTN_INST c.inst % 2 ^ 32, y.reg rTN_INST c.inst / 2 ^ 32, ms.length, k] := by
  unfold State.doInstQuery
  dsimp only
  rw [if_neg (ne_true_of_eq_false hw), hms, hk, hy]

end
end

section
variable {s u : State} (hp : s.powered = true)
include hp

theorem does_instanceSave (h : s.onLong 0x0105 State.saveBegin State.saveNext = u) : Does .instanceSave s u :=
  does_of_run_eq (f := fun s => s.onLong 0x0105 State.saveBegin State.saveNext) hp rfl h

theorem does_instanceRestore {img : List Byte}
    (h : s.onLong 0x0106 (fun s c => s.restoreBegin c (byteNats img)) (fun s c => s.restoreNext c (byteNats img)) = u) : Does (.instanceRestore img) s u :=
  does_of_run_eq (f := fun s => s.onLong 0x0106 (fun s c => s.restoreBegin c (byteNats img)) (fun s c => s.restoreNext c (byteNats img))) hp rfl h

end

/-- Settles O42: each row in the branch that the clause names. -/
theorem imagesAndMappingsFollowTheirCommands : Obligations.ImagesAndMappingsFollowTheirCommands := by
  intro s hp
  refine ⟨fun c hc hw hsec hi => ?_, fun e hn hf => ?_, fun c img hc hw hi hst hb => ?_, fun e img hn hf => ?_, fun v t c hv hw => ?_, fun v t c hv hw hst => ?_,
    fun v t y c hv hw => ?_⟩
  · exact ⟨fun hb => does_instanceSave hp ((State.onLong_starts hc _ _).trans (State.saveBegin_busy hw hsec hi hb)),
      fun hb hs hl => does_instanceSave hp ((State.onLong_starts hc _ _).trans (State.saveBegin_short hw hsec hi hb hs hl)),
      fun hb hs hl hu => does_instanceSave hp ((State.onLong_starts hc _ _).trans (State.saveBegin_starts hw hsec hi hb hs hl hu))⟩
  · intro c k hi hcan hu
    have hrun := State.onLong_next hn hf State.saveBegin State.saveNext
    refine ⟨fun hmore => ?_, fun hdone => ?_⟩
    · intro b
      exact does_instanceSave hp (hrun.trans (State.saveNext_block hi hcan hu rfl hmore))
    · intro t
      exact does_instanceSave hp (hrun.trans (State.saveNext_trailer hi hcan hu rfl hdone))
  · exact ⟨fun hm => does_instanceRestore hp ((State.onLong_starts hc _ _).trans (State.restoreBegin_unmatched hw hi hst hb hm)),
      fun l hs hm => does_instanceRestore hp ((State.onLong_starts hc _ _).trans (State.restoreBegin_starts hw hi hst hb hs hm))⟩
  · intro c k raw b t hi hcan
    have hrun := State.onLong_next hn hf (fun s c => s.restoreBegin c (byteNats img)) (fun s c => s.restoreNext c (byteNats img))
    refine ⟨fun ms hmore hm hcrc => ?_, fun ms hmore hm hcrc hu => ?_, fun hdone => ?_⟩
    · exact does_instanceRestore hp (hrun.trans (State.restoreNext_damaged hi hcan rfl hmore hm rfl rfl hcrc))
    · intro y
      exact does_instanceRestore hp (hrun.trans (State.restoreNext_block hi hcan rfl hmore hm rfl rfl hcrc hu))
    · exact does_instanceRestore hp (hrun.trans (State.restoreNext_last hi hcan rfl hdone))
  · intro i tp d n f
    exact ⟨fun h1 h2 h5 => does_of_via (f := State.doMap) hp hv rfl (State.doMap_denied h1 h2 h5),
      fun y hst h1 h2 h3 h4 h5 h6 h7 h8 h9 hclash hsec hy =>
        does_of_via (f := State.doMap) hp hv rfl (State.doMap_maps hw (State.mapState_iff.2 hst) ⟨h1, h2, h3, h4, h5, h6, h7, h8, h9⟩ hclash hsec hy)⟩
  · refine ⟨fun h => ?_, fun m h => ?_⟩
    · exact does_of_via (f := State.doUnmap) hp hv rfl (State.doUnmap_unknown hw (State.mapState_iff.2 hst) h)
    · intro y
      exact does_of_via (f := State.doUnmap) hp hv rfl (State.doUnmap_unmaps hw (State.mapState_iff.2 hst) h)
  · intro ms k hy
    exact does_of_via (f := State.doInstQuery) hp hv rfl (State.doInstQuery_answers hw rfl rfl hy)

end Sys2Proof.Machine
end

section
/-! PROOFS. Mailboxes, queue pointers and token buckets (13 R555, R556, R558, R559, R561, R576, 17 R707), each write in the branch that its hypotheses name. -/

namespace Sys2Proof.Machine

section
variable {s : State} {i : Nat}

/-! ### Mailboxes (R558, R576) -/

theorem State.mbxInBusy_eq_false (h : s.rf IP_MBX_IN_ACK i = s.rf IP_MBX_IN_SEQ i) : s.mbxInBusy i = false := by simp [State.mbxInBusy, h]

section
variable {len n : Nat} (hn : s.rf TN_MBX_SEL_INSTANCE = n)
include hn

theorem State.postIn_posts (hr : s.mbxReach n = true) (ha : s.rf IP_MBX_IN_ACK n = s.rf IP_MBX_IN_SEQ n) (hl : len ≤ 4096) : s.postIn len = s.mbxPost n len := by
  unfold State.postIn
  dsimp only
  rw [hn, if_neg (by simp [hr, State.mbxInBusy_eq_false ha, hl])]

theorem State.postIn_refuses (h : s.mbxReach n = false ∨ s.rf IP_MBX_IN_ACK n ≠ s.rf IP_MBX_IN_SEQ n ∨ 4096 < len) : s.postIn len = s.mbxRefused := by
  unfold State.postIn
  dsimp only
  rw [hn, if_pos]
  rcases h with h | h | h <;> simp [State.mbxInBusy, h]

theorem State.ackOut_normal : s.ackOut none = if s.mbxReach n then s.mbxAck n else s.mbxRefused := by rw [← hn]; rfl

end

/-- The Vault firmware's message to a secure tenant. -/
theorem State.vaultPost_posts {msg : List Nat} (hi : s.ist i ≠ 0) (hs : s.rb TN_INST_SECURE i = true) (ha : s.rf IP_MBX_IN_ACK i = s.rf IP_MBX_IN_SEQ i)
    (hl : msg.length ≤ 4096) :
    (s.vaultPost i msg).1 =
      (s.setInst i (fun r => { r with mbxIn := msg.zipIdx.foldl (fun (m : Bytes) (x : Nat × Nat) => Bytes.wr m x.2 (BitVec.ofNat 8 x.1)) r.mbxIn })).mbxPost i msg.length := by
  have hbusy := State.mbxInBusy_eq_false ha
  unfold State.vaultPost
  rw [if_neg]
  rintro (h | h | h | h)
  · exact hi h
  · exact absurd (hs.symm.trans h) (by decide)
  · exact absurd (hbusy.symm.trans h) (by decide)
  · exact Nat.not_lt.2 hl h

theorem State.mbxOutWrite_waits {v : Nat} (h : (s.inst i).outPosted = true) : s.mbxOutWrite i v = s := if_pos (Or.inr h)

theorem State.mbxOutWrite_free {v : Nat} {x y : State} (hi : s.ist i ≠ 0) (h : (s.inst i).outPosted = false) (hl : bits v 44 32 ≤ 4096)
    (hx : s.sf IP_MBX_OUT_LEN (bits v 44 32) i = x) (hy : x.setInst i (fun r => { r with outSeq := (r.outSeq + 1) % 65536, outPosted := true }) = y) :
    s.mbxOutWrite i v = if bit v 0 then (if y.rb TN_INST_SECURE i then y else y.raise 0x3C3) else x := by
  unfold State.mbxOutWrite
  rw [if_neg (by simp [hi, h]), if_pos hl, hx]
  dsimp only
  rw [hy]

/-! ### Queues (R555, R556) -/

theorem State.pageLive_of (h : s.ist i ≠ 0) : s.pageLive i = true := by simp [State.pageLive, h]

section
variable {cls d v q : Nat} (hi : s.ist i ≠ 0)
include hi

section
variable (hq : qIdx i cls 0 d = q)
include hq

theorem State.queueCfg_enables (hw : s.rb IP_Q_CFG_EN q = false) (hv : bit v 63 = true) (hmin : 4 ≤ bits v 4 0) (hmax : bits v 4 0 ≤ 16) :
    s.queueCfg i cls 0 d v =
      ((((s.sf IP_Q_CFG_BASE (bits v 45 12) q).sf IP_Q_CFG_LOG2 (bits v 4 0) q).wreg rIP_Q_TAIL q 0).wreg rIP_Q_HEAD q 0).sf IP_Q_CFG_EN 1 q := by
  unfold State.queueCfg
  dsimp only
  rw [hq, if_neg (by simp [State.pageLive_of hi]), hw, hv]
  simp only [hmin, hmax, and_self, zero_ne_one, Bool.false_eq_true, Bool.not_false, Bool.and_true, if_true, if_false]

theorem State.queueCfg_enabled (hw : s.rb IP_Q_CFG_EN q = true) (hv : bit v 63 = true) : s.queueCfg i cls 0 d v = s := by
  unfold State.queueCfg
  dsimp only
  rw [hq, if_neg (by simp [State.pageLive_of hi]), hw, hv]
  simp only [zero_ne_one, Bool.false_eq_true, Bool.not_true, Bool.and_false, Bool.and_true, if_true, if_false]

theorem State.queueCfg_disables (hw : s.rb IP_Q_CFG_EN q = true) (hv : bit v 63 = false) : s.queueCfg i cls 0 d v = s.sf IP_Q_CFG_EN 0 q := by
  unfold State.queueCfg
  dsimp only
  rw [hq, if_neg (by simp [State.pageLive_of hi]), hw, hv]
  simp only [zero_ne_one, false_and, Bool.false_eq_true, Bool.not_false, Bool.not_true, Bool.and_false, Bool.and_true, if_true, if_false]

section
variable {lg : Nat} (hc : cls ≠ 0) (hlg : s.rf IP_Q_CFG_LOG2 q = lg)
include hc hlg

theorem State.subTail_takes (h1 : bits v 15 0 < 2 ^ lg) (h2 : ptrDist (s.qHead q) (ptrPos v lg) lg ≤ 2 ^ lg) : s.subTail i cls d v = s.wreg rIP_Q_TAIL q (v % 2 ^ 17) := by
  unfold State.subTail
  dsimp only
  rw [hq, hlg, if_neg (by simp [State.pageLive_of hi, hc]), if_pos ⟨h1, h2⟩]

theorem State.subTail_ignores (h : 2 ^ lg ≤ bits v 15 0 ∨ 2 ^ lg < ptrDist (s.qHead q) (ptrPos v lg) lg) : s.subTail i cls d v = s.sf IP_Q_STAT_ERROR 1 q := by
  unfold State.subTail
  dsimp only
  rw [hq, hlg, if_neg (by simp [State.pageLive_of hi, hc]), if_neg (fun k => h.elim (Nat.not_le.2 k.1) (Nat.not_lt.2 k.2))]
  rfl

end
end

section
variable {lg : Nat} (hq : qIdx i cls 1 d = q) (hlg : s.rf IP_Q_CFG_LOG2 q = lg)
include hq hlg

theorem State.cplHead_takes (h1 : bits v 15 0 < 2 ^ lg) (h2 : ptrDist (s.qHead q) (ptrPos v lg) lg ≤ s.qFill q) :
    s.cplHead i cls d v = (s.wreg rIP_Q_HEAD q (v % 2 ^ 17)).cplFlush i cls d := by
  unfold State.cplHead
  dsimp only
  rw [hq, hlg, if_neg (by simp [State.pageLive_of hi]), if_pos ⟨h1, h2⟩]
  rfl

theorem State.cplHead_ignores (h : 2 ^ lg ≤ bits v 15 0 ∨ s.qFill q < ptrDist (s.qHead q) (ptrPos v lg) lg) : s.cplHead i cls d v = s.sf IP_Q_STAT_ERROR 1 q := by
  unfold State.cplHead
  dsimp only
  rw [hq, hlg, if_neg (by simp [State.pageLive_of hi]), if_neg (fun k => h.elim (Nat.not_le.2 k.1) (Nat.not_lt.2 k.2))]
  rfl

end

section
variable {lg head fill : Nat} (hlg : s.rf IP_EQ_CFG_LOG2 i = lg) (hh : ptrPos (s.reg rIP_EQ_HEAD i) lg = head)
  (hf : ptrDist head (ptrPos (s.reg rIP_EQ_TAIL i) lg) lg = fill)
include hlg hh hf

theorem State.eqHeadWrite_takes (h1 : bits v 15 0 < 2 ^ lg) (h2 : ptrDist head (ptrPos v lg) lg ≤ fill) :
    s.eqHeadWrite i v = s.wreg rIP_EQ_HEAD i (v % 2 ^ 17) := by
  unfold State.eqHeadWrite
  dsimp only
  rw [hlg, hh, hf, if_neg (by simp [State.pageLive_of hi]), if_pos ⟨h1, h2⟩]

theorem State.eqHeadWrite_ignores (h : 2 ^ lg ≤ bits v 15 0 ∨ fill < ptrDist head (ptrPos v lg) lg) : s.eqHeadWrite i v = s.sf IP_EQ_STAT_ERROR 1 i := by
  unfold State.eqHeadWrite
  dsimp only
  rw [hlg, hh, hf, if_neg (by simp [State.pageLive_of hi]), if_neg (fun k => h.elim (Nat.not_le.2 k.1) (Nat.not_lt.2 k.2))]

end
end

/-- With no empty bucket of a limited tenant no wait is counted. -/
theorem State.tokenRefill_refills
    (h : ∀ i ∈ Map.keys s.tn.insts, ∀ k, k < 5 → s.rf TN_BUCKET_RATE (bucketIdx i k) ≠ 0 → s.rf TN_BUCKET_LEVEL (bucketIdx i k) ≠ 0) : s.tokenRefill = s.refill := by
  unfold State.tokenRefill
  dsimp only
  refine congrArg State.refill (State.each_same _ (fun i hi => State.each_same _ (fun k hk => if_neg ?_)))
  rintro ⟨hr, hl, -⟩
  have hk5 : k < 5 := by
    simp only [List.mem_cons, List.not_mem_nil, or_false] at hk
    omega
  exact h i hi k hk5 hr hl

end

section
variable {s u : State} (hp : s.powered = true)
include hp

theorem does_postIn {a : Agent} {i : BitVec 9} {len : BitVec 13} {msg : List Byte} (ha : a ≠ .secure) (h : s.postIn len.toNat = u) : Does (.postIn a i len msg) s u := by
  refine does_of_run_eq (f := fun s => s.postIn len.toNat) hp ?_ h
  cases a with
  | secure => exact absurd rfl ha
  | _ => rfl

theorem does_ackOut {a : Agent} {i : BitVec 9} (ha : a ≠ .secure) (h : s.ackOut none = u) : Does (.ackOut a i) s u := by
  refine does_of_run_eq (f := fun s => s.ackOut none) hp ?_ h
  cases a with
  | secure => exact absurd rfl ha
  | _ => rfl

theorem does_post {i : BitVec 9} {v : Word} (h : s.mbxOutWrite i.toNat v.toNat = u) : Does (.post i v) s u :=
  does_of_run_eq (f := fun s => s.mbxOutWrite i.toNat v.toNat) hp rfl h

theorem does_queueEnable {i : BitVec 9} {cls : Fin 3} {d : Fin 16} {v : Word} (h : s.queueCfg i.toNat cls.val 0 d.val v.toNat = u) :
    Does (.queueEnable i cls false d v) s u :=
  does_of_run_eq (f := fun s => s.queueCfg i.toNat cls.val 0 d.val v.toNat) hp rfl h

theorem does_submissionTailWrite {i : BitVec 9} {cy : Bool} {d : Fin 16} {v : Word} (h : s.subTail i.toNat (1 + b2n cy) d.val v.toNat = u) :
    Does (.submissionTailWrite i cy d v) s u :=
  does_of_run_eq (f := fun s => s.subTail i.toNat (1 + b2n cy) d.val v.toNat) hp rfl h

theorem does_completionHeadWrite {i : BitVec 9} {cls : Fin 3} {d : Fin 16} {v : Word} (h : s.cplHead i.toNat cls.val d.val v.toNat = u) :
    Does (.consumerHeadWrite i (some cls) d v) s u :=
  does_of_run_eq (f := fun s => s.cplHead i.toNat cls.val d.val v.toNat) hp rfl h

theorem does_eventHeadWrite {i : BitVec 9} {d : Fin 16} {v : Word} (h : s.eqHeadWrite i.toNat v.toNat = u) : Does (.consumerHeadWrite i none d v) s u :=
  does_of_run_eq (f := fun s => s.eqHeadWrite i.toNat v.toNat) hp rfl h

end

/-- Settles O43: each write in the branch that the clause names; the refill's own count by the fold over the tenants. -/
theorem mailboxesAndQueuesTakeTheirWrites : Obligations.MailboxesAndQueuesTakeTheirWrites := by
  intro s hp
  refine ⟨fun a i len msg ha => ?_, fun i len msg hi hs hack hl => ?_, fun a i ha => ?_, fun i v hi h => ?_, fun i v hi h hl => ?_, fun i cls d v hi => ?_,
    fun i cy d v hi => ?_, fun i cls d v hi => ?_, fun i d v hi => ?_, fun h => ?_⟩
  · intro n
    exact ⟨fun hr hack hl => does_postIn hp ha (State.postIn_posts rfl hr hack hl), fun h => does_postIn hp ha (State.postIn_refuses rfl h)⟩
  · intro bs
    exact does_of_run_eq (f := fun s => (s.vaultPost i.toNat (byteNats msg)).1) hp rfl (State.vaultPost_posts hi hs hack (byteNats_length.trans_le hl))
  · intro n
    exact ⟨fun hr => does_ackOut hp ha ((State.ackOut_normal rfl).trans (if_pos hr)),
      fun hr => does_ackOut hp ha ((State.ackOut_normal rfl).trans (if_neg (ne_true_of_eq_false hr)))⟩
  · exact does_post hp (State.mbxOutWrite_waits h)
  · intro x y
    have hw := State.mbxOutWrite_free (x := x) (y := y) hi h hl rfl rfl
    exact ⟨fun hb => does_post hp (hw.trans (if_neg (ne_true_of_eq_false hb))),
      fun hb hs => does_post hp (hw.trans ((if_pos hb).trans (if_neg (ne_true_of_eq_false hs)))), fun hb hs => does_post hp (hw.trans ((if_pos hb).trans (if_pos hs)))⟩
  · intro q
    refine ⟨fun hw hv hmin hmax => ?_, fun hw hv => does_queueEnable hp (State.queueCfg_enabled hi rfl hw hv),
      fun hw hv => does_queueEnable hp (State.queueCfg_disables hi rfl hw hv)⟩
    intro x
    exact does_queueEnable hp (State.queueCfg_enables hi rfl hw hv hmin hmax)
  · intro q lg
    have hc : 1 + b2n cy ≠ 0 := by omega
    exact ⟨fun h1 h2 => does_submissionTailWrite hp (State.subTail_takes hi rfl hc rfl h1 h2),
      fun h => does_submissionTailWrite hp (State.subTail_ignores hi rfl hc rfl h)⟩
  · intro q lg
    exact ⟨fun h1 h2 => does_completionHeadWrite hp (State.cplHead_takes hi rfl rfl h1 h2), fun h => does_completionHeadWrite hp (State.cplHead_ignores hi rfl rfl h)⟩
  · intro lg head fill
    exact ⟨fun h1 h2 => does_eventHeadWrite hp (State.eqHeadWrite_takes hi rfl rfl rfl h1 h2),
      fun h => does_eventHeadWrite hp (State.eqHeadWrite_ignores hi rfl rfl rfl h)⟩
  · exact does_of_run_eq (f := State.tokenRefill) hp rfl (State.tokenRefill_refills h)

end Sys2Proof.Machine
end

section
/-! PROOFS. Packets and the queue (14 R581, R583, R586, R589, R594, R596): submission, admission, start, promotion, progress, timeouts. -/

namespace Sys2Proof.Machine

/-- A field of another register than the clock's leaves device time. -/
theorem State.now_sf (s : State) (f : RF) (v i : Nat) (h : rTM_TIME.addr 0 ≠ f.reg.addr i) : (s.sf f v i).now = s.now := State.reg_wreg_other _ _ _ _ _ _ h

/-! ### Submission (R581, R583, R586) -/

theorem packetCheck_crc {hdr : Nat} (h : crc32c (toBytes hdr 60) ≠ bits hdr 511 480) : packetCheck hdr = 1 := if_pos h

theorem packetCheck_reply {hdr : Nat} (h : crc32c (toBytes hdr 60) = bits hdr 511 480) (h2 : bits hdr 447 384 % 64 ≠ 0) : packetCheck hdr = 2 :=
  (if_neg (not_not.2 h)).trans (if_pos h2)

theorem packetCheck_sound {hdr : Nat} (h : crc32c (toBytes hdr 60) = bits hdr 511 480) (h2 : bits hdr 447 384 % 64 = 0) : packetCheck hdr = 0 :=
  (if_neg (not_not.2 h)).trans (if_neg (not_not.2 h2))

/-- MP_HQ_ERR names a slot, a code and a TAG. -/
def State.hqErr (s : State) (k code tag : Nat) : State := (((s.sf MP_HQ_ERR_VALID 1).sf MP_HQ_ERR_SLOT k).sf MP_HQ_ERR_CODE code).sf MP_HQ_ERR_TAG tag

section
variable {s : State} {k : Nat} (ht : s.takesPackets = true)
include ht

theorem State.hqSubmit_held (hf : bit (s.rf MP_HQ_FREE_FREE) k = false) : s.hqSubmit k = s.hqErr k 3 0 := by
  unfold State.hqSubmit
  dsimp only
  rw [if_neg (by simp [ht]), if_pos (by simp [hf])]
  rfl

section
variable {hdr : Nat} (hf : bit (s.rf MP_HQ_FREE_FREE) k = true) (hh : Bytes.rdN s.mp.bar2 (0x1000 * k) 64 = hdr)
include hf hh

theorem State.hqSubmit_bad {code : Nat} (hc : packetCheck hdr = code + 1) :
    s.hqSubmit k = ((s.hqErr k (code + 1) (bits hdr 63 32)).bump rMP_DISCARD_CNT).raiseMs 0x3C4 := by
  unfold State.hqSubmit
  dsimp only
  rw [if_neg (by simp [ht]), if_neg (by simp [hf]), hh, hc]
  rfl

theorem State.hqSubmit_sound {y : State} (hc : packetCheck hdr = 0) (hy : s.sf MP_HQ_FREE_FREE (setBit (s.rf MP_HQ_FREE_FREE) k false) = y) :
    s.hqSubmit k = y.admitCmd 0 hdr (parseCmd 0 k hdr (toBytes (Bytes.rdN s.mp.bar2 (0x1000 * k + 64) 4032) 4032) s.mp.seq s.now) := by
  have hmp : y.mp = s.mp := hy ▸ State.sf_mp ..
  have hnow : y.now = s.now := hy ▸ State.now_sf _ _ _ _ (by decide)
  have hrun : s.hqSubmit k = y.admitCmd 0 hdr (parseCmd 0 k hdr (toBytes (Bytes.rdN y.mp.bar2 (0x1000 * k + 64) 4032) 4032) y.mp.seq y.now) := by
    subst hy
    unfold State.hqSubmit
    dsimp only
    rw [if_neg (by simp [ht]), if_neg (by simp [hf]), hh, hc]
    rfl
  rw [hrun, hmp, hnow]

end
end

/-- IP_CMD_STAT of a tenant names a slot and a code. -/
def State.ipErr (s : State) (i k code : Nat) : State := ((s.sf IP_CMD_STAT_VALID 1 i).sf IP_CMD_STAT_CODE code i).sf IP_CMD_STAT_ERR_SLOT k i

section
variable {s : State} {i k : Nat}

theorem State.ipSubmit_disabled (he : s.rb IP_CMD_CFG_EN i = false) : s.ipSubmit i k = s.ipErr i k 4 := if_pos (by simp [he])

theorem State.ipSubmit_held (he : s.rb IP_CMD_CFG_EN i = true) (hf : bit (s.rf IP_CMD_STAT_FREE i) k = false) : s.ipSubmit i k = s.ipErr i k 3 :=
  (if_neg (by simp [he])).trans (if_pos (by simp [hf]))

theorem ipCmdStat_addr_ne_now (i : Nat) : rTM_TIME.addr 0 ≠ IP_CMD_STAT_FREE.reg.addr i := by
  simp [Reg.addr, rTM_TIME, IP_CMD_STAT_FREE, rIP_CMD_STAT, dimOffs, dimProd]
  omega

theorem State.ipSubmit_sound {y z : State} {v : Nat} (he : s.rb IP_CMD_CFG_EN i = true) (hf : bit (s.rf IP_CMD_STAT_FREE i) k = true)
    (hr : s.ioRead (org 0x13 0) i (s.gen i) (s.rf IP_CMD_CFG_BASE i * 2 ^ 14 + 0x1000 * k) 4096 = (y, .ok v)) (hc : packetCheck (v % 2 ^ 512) = 0)
    (hz : y.sf IP_CMD_STAT_FREE (setBit (y.rf IP_CMD_STAT_FREE i) k false) i = z) :
    s.ipSubmit i k = z.admitCmd (i + 1) (v % 2 ^ 512) (parseCmd (i + 1) k (v % 2 ^ 512) (toBytes (v / 2 ^ 512) 4032) y.mp.seq y.now) := by
  have hmp : z.mp = y.mp := hz ▸ State.sf_mp ..
  have hnow : z.now = y.now := hz ▸ State.now_sf _ _ _ _ (ipCmdStat_addr_ne_now i)
  have hrun : s.ipSubmit i k = z.admitCmd (i + 1) (v % 2 ^ 512) (parseCmd (i + 1) k (v % 2 ^ 512) (toBytes (v / 2 ^ 512) 4032) z.mp.seq z.now) := by
    subst hz
    refine (if_neg (by simp [he])).trans ((if_neg (by simp [hf])).trans ?_)
    rw [hr]
    dsimp only
    rw [hc]
    rfl
  rw [hrun, hmp, hnow]

end

/-! ### The queue (R589, R594, R596) -/

section
variable {s : State} {c : Cmd}

theorem State.urgentAdmit_admits (hn : (s.mp.cmds.filter (fun c => c.entry)).length < 2048) (hf : s.mp.cmds.find? (fun c => c.phase == 0) = some c) :
    s.urgentAdmit = (s.putCmd { c with phase := 1, entry := true }).bump rMP_CMD_CNT := by
  unfold State.urgentAdmit
  rw [if_pos hn, hf]

section
variable {y : State} (hst : s.rf MP_STAT_STATE = 0) (hn : s.nextCmd = some c) (hy : s.urgentAdmit = y)
include hst hn hy

theorem State.startCmd_stale (hg : y.genOk c.src c = false) : s.startCmd = y.finish c stSTALE := by
  unfold State.startCmd
  rw [if_neg (not_not.2 hst), hn]
  dsimp only
  rw [hy, if_pos (by simp [hg])]

section
variable {o : OpInfo} (hg : y.genOk c.src c = true) (ho : opInfo c.op = some o)
include hg ho

theorem State.startCmd_starts (hl : o.long = false ∨ (y.mp.cmds.filter (fun x => decide (2 ≤ x.phase) && (opInfo x.op).any (·.long))).length < 32) :
    s.startCmd = y.putCmd { c with phase := 2 } := by
  unfold State.startCmd
  rw [if_neg (not_not.2 hst), hn]
  dsimp only
  rw [hy, if_neg (by simp [hg]), ho]
  exact if_neg (by rcases hl with h | h <;> simp [h])

theorem State.startCmd_full (hl : o.long = true) (hf : 32 ≤ (y.mp.cmds.filter (fun x => decide (2 ≤ x.phase) && (opInfo x.op).any (·.long))).length) :
    s.startCmd = y.finish c stNO_RESOURCE [0xFFFFFFFF] := by
  unfold State.startCmd
  rw [if_neg (not_not.2 hst), hn]
  dsimp only
  rw [hy, if_neg (by simp [hg]), ho]
  exact if_pos (by simp [hl, hf])

end
end

theorem State.promoteBulk_promotes (h : s.mp.cmds.find? (fun c => c.phase == 1 && c.effClass == 2) = some c) : s.promoteBulk = s.putCmd { c with promoted := true } := by
  unfold State.promoteBulk
  rw [h]

theorem State.progressReply_single (h : s.mp.cmds.filter (fun (c : Cmd) => c.phase == 3 && c.lop.pos != c.lop.repPos) = [c]) :
    s.progressReply = s.reply c stIN_PROGRESS false [] := by
  unfold State.progressReply
  rw [h]
  rfl

theorem State.segmentTimeout_single {a : Asm} (h : s.mp.asms = [a]) :
    s.segmentTimeout = if (s.dropAsm a.cmd).genOk a.cmd.src a.cmd then (s.dropAsm a.cmd).refuseCmd a.cmd stABORTED [a.packets]
      else (s.dropAsm a.cmd).refuseCmd a.cmd stSTALE [] := by
  unfold State.segmentTimeout
  rw [h]
  rfl

end

section
variable {s u : State} (hp : s.powered = true)
include hp

theorem does_mpHqSubmit {k : Fin 64} (h : s.hqSubmit k.val = u) : Does (.mpHqSubmit k) s u := does_of_run_eq (f := fun s => s.hqSubmit k.val) hp rfl h

theorem does_ipCmdSubmit {i : BitVec 9} {k : Fin 4} (h : s.ipSubmit i.toNat k.val = u) : Does (.ipCmdSubmit i k) s u :=
  does_of_run_eq (f := fun s => s.ipSubmit i.toNat k.val) hp rfl h

theorem does_commandStart (h : s.startCmd = u) : Does .commandStart s u := does_of_run_eq (f := State.startCmd) hp rfl h

theorem does_segmentTimeout (h : s.segmentTimeout = u) : Does .segmentTimeout s u := does_of_run_eq (f := State.segmentTimeout) hp rfl h

end

/-- Settles O44: each row in the branch that the clause names. -/
theorem packetsAreAdmittedAndStarted : Obligations.PacketsAreAdmittedAndStarted := by
  intro s hp
  refine ⟨fun k ht => ?_, fun i k => ?_, fun c hn hf => ?_, fun c o hst hn => ?_, fun c h => ?_, fun c h => ?_, fun a h => ?_⟩
  · intro hdr err
    exact ⟨fun hf => does_mpHqSubmit hp (State.hqSubmit_held ht hf), fun hf hc => does_mpHqSubmit hp (State.hqSubmit_bad ht hf rfl (packetCheck_crc hc)),
      fun hf hc hr => does_mpHqSubmit hp (State.hqSubmit_bad ht hf rfl (packetCheck_reply hc hr)),
      fun hf hc hr => does_mpHqSubmit hp (State.hqSubmit_sound ht hf rfl (packetCheck_sound hc hr) rfl)⟩
  · intro n err
    exact ⟨fun he => does_ipCmdSubmit hp (State.ipSubmit_disabled he), fun he hf => does_ipCmdSubmit hp (State.ipSubmit_held he hf),
      fun y v he hf hr hc => does_ipCmdSubmit hp (State.ipSubmit_sound he hf hr hc rfl)⟩
  · exact does_of_run_eq (f := State.urgentAdmit) hp rfl (State.urgentAdmit_admits hn hf)
  · intro y
    exact ⟨fun hg => does_commandStart hp (State.startCmd_stale hst hn rfl hg), fun hg ho hl => does_commandStart hp (State.startCmd_starts hst hn rfl hg ho (.inl hl)),
      fun hg ho hl => ⟨fun hr => does_commandStart hp (State.startCmd_starts hst hn rfl hg ho (.inr hr)),
        fun hf => does_commandStart hp (State.startCmd_full hst hn rfl hg ho hl hf)⟩⟩
  · exact does_of_run_eq (f := State.promoteBulk) hp rfl (State.promoteBulk_promotes h)
  · exact does_of_run_eq (f := State.progressReply) hp rfl (State.progressReply_single h)
  · intro y
    exact ⟨fun hg => does_segmentTimeout hp ((State.segmentTimeout_single h).trans (if_pos hg)),
      fun hg => does_segmentTimeout hp ((State.segmentTimeout_single h).trans (if_neg (ne_true_of_eq_false hg)))⟩

end Sys2Proof.Machine
end

section
/-! PROOFS. Sheepdog (14 R597, R599, R600, R603): load levels, restarts, NOP, OP_STATUS, OP_CANCEL. -/

namespace Sys2Proof.Machine

section
variable {s : State}

/-! ### Load (R597) -/

section
variable {u : Nat} {x : State} (hx : (s.sf MP_LOAD_UTIL u).sf MP_LOAD_UTIL_MAX (max u (s.rf MP_LOAD_UTIL_MAX)) = x)
include hx

/-- One measurement above SHED_PCT raises the level from 0. -/
theorem State.loadMeasure_sheds (hst : x.rf MP_STAT_STATE = 0) (hl : x.rf MP_LOAD_LEVEL = 0) (hu : x.rf MP_CMD_CFG_SHED_PCT < u) :
    s.loadMeasure u = ({ x with mp := { x.mp with high := 0, low := 0 } }.sf MP_LOAD_LEVEL 1).raise 0x3C2 := by
  unfold State.loadMeasure
  extract_lets +onlyGivenNames y hi lo
  have hy : y = x := hx
  clear_value y
  subst hy
  have hhi : (1 ≤ hi) = True := by
    unfold hi
    rw [if_pos hu]
    exact eq_true (Nat.le_add_left 1 _)
  rw [if_neg (not_not.2 hst), hl]
  simp only [hhi, if_true]

/-- While Sheepdog does not run the level holds. -/
theorem State.loadMeasure_held (hst : x.rf MP_STAT_STATE ≠ 0) : s.loadMeasure u = x := by
  subst hx
  exact if_pos hst

end

/-! ### Restarts (R599-R601) -/

/-- The restart of a Sheepdog that has failed less often than the limit; x is the module with the unit out of service. -/
theorem State.sheepRestart_below {n : Nat} {x y z w v : State} {recent : List Nat} (hst : s.rf MP_STAT_STATE ≠ 2)
    (hrec : s.recoveries (org 0x13 0) < s.rf FC_CFG_RECOV_LIMIT) (hx : s.setUnit (org 0x13 0) (fun u => { u with st := 1 }) = x)
    (hr : x.mp.restarts.filter (fun t => decide (x.now < t + 86400000000000)) ++ [x.now] = recent)
    (hy : { x with mp := { x.mp with restarts := recent, high := 0, low := 0 } } = y)
    (hz : (((((y.sf MP_STAT_CAUSE n).sf MP_STAT_RESTARTS (satN 8 recent.length)).bump rMP_RESTART_CNT).sf MP_STAT_STATE 1).raise 0x3C0).report
      { org := org 0x13 0, cause := 0x1301, cls := ochre, d0 := n, react := 7 } = z) (hw : z.restartCmds = w)
    (hv : { w with mp := { w.mp with asms := w.mp.asms.map (fun (a : Asm) => { a with last := w.now }) } } = v) :
    s.sheepRestart n = ((v.sf MP_STAT_STATE 0).raise 0x3C0).returned (org 0x13 0) := by
  unfold State.sheepRestart
  rw [if_neg hst, State.outOfService_below s _ hrec, ← hv, ← hw, ← hz, ← hy, ← hr, ← hx]
  rfl

theorem State.sheepRestart_down {n : Nat} (h : s.rf MP_STAT_STATE = 2) : s.sheepRestart n = s := if_pos h

/-! ### NOP, OP_STATUS and OP_CANCEL (R603) -/

section
variable {c : Cmd}

/-- Another open command of the source under the TAG that a command names. -/
def State.tagged (s : State) (c : Cmd) : Option Cmd := s.mp.cmds.find? (fun d => d.src == c.src && d.tag == c.p 0 && !d.same c)

theorem State.tagged_none (h : ∀ d ∈ s.mp.cmds, d.src ≠ c.src ∨ d.tag ≠ c.p 0 ∨ d.seq = c.seq) : s.tagged c = none := by
  refine List.find?_eq_none.2 (fun d hd hf => ?_)
  simp only [Cmd.same, Bool.and_eq_true, beq_iff_eq, Bool.not_eq_true', beq_eq_false_iff_ne] at hf
  obtain ⟨⟨hsrc, htag⟩, hseq⟩ := hf
  exact (h d hd).elim (· hsrc) (·.elim (· htag) hseq)

section
variable (hc : s.starts 0x0001 c) (hb : bit (c.p 1) 0 = false)
include hc hb

theorem State.doOpStatus_queued {d : Cmd} (ht : s.tagged c = some d) : s.doOpStatus = s.finish { c with lop := d.lop } stIN_PROGRESS [d.op] := by
  refine (State.onCmd_starts hc _).trans ((if_neg (ne_true_of_eq_false hb)).trans ?_)
  unfold State.tagged at ht
  rw [ht]

theorem State.doOpStatus_gathering {a : Asm} (ht : s.tagged c = none) (ha : s.assembling c = some a) : s.doOpStatus = s.finish c stIN_PROGRESS [a.cmd.op] := by
  refine (State.onCmd_starts hc _).trans ((if_neg (ne_true_of_eq_false hb)).trans ?_)
  unfold State.tagged at ht
  rw [ht]
  dsimp only
  rw [ha]

theorem State.doOpStatus_unknown (ht : s.tagged c = none) (ha : s.assembling c = none) : s.doOpStatus = s.finish c stBAD_PARAM := by
  refine (State.onCmd_starts hc _).trans ((if_neg (ne_true_of_eq_false hb)).trans ?_)
  unfold State.tagged at ht
  rw [ht]
  dsimp only
  rw [ha]

end

theorem State.doOpStatus_rebuild (hc : s.starts 0x0001 c) (hb : bit (c.p 1) 0 = true) (hk : bits (c.p 1) 15 8 = 1) :
    s.doOpStatus = s.finish { c with lop := { c.lop with pfmt := 2, pos := s.rf MA_REBUILD_POS, total := s.rf MA_CAP_STRIPES } } stOK [s.rf MA_REBUILD_BUSY] := by
  refine (State.onCmd_starts hc _).trans ((if_pos hb).trans ?_)
  rw [hk]
  rfl

/-- A command whose segments still arrive is dropped. -/
theorem State.doOpCancel_gathering {a : Asm} (ht : s.tagged c = none) (ha : s.assembling c = some a) :
    s.doOpCancel c = ((s.dropAsm a.cmd).refuseCmd a.cmd stCANCELLED []).finish c stOK [0] := by
  unfold State.tagged at ht
  unfold State.doOpCancel
  rw [ht]
  dsimp only
  rw [ha]

theorem State.doOpCancel_unknown (ht : s.tagged c = none) (ha : s.assembling c = none) : s.doOpCancel c = s.finish c stOK [2] := by
  unfold State.tagged at ht
  unfold State.doOpCancel
  rw [ht]
  dsimp only
  rw [ha]

theorem State.doOpCancel_waiting {d : Cmd} (ht : s.tagged c = some d) (hd : d.phase < 2) : s.doOpCancel c = (s.finish d stCANCELLED).finish c stOK [0] := by
  unfold State.tagged at ht
  unfold State.doOpCancel
  rw [ht]
  exact if_pos hd

theorem State.doOpCancel_firm {d : Cmd} (ht : s.tagged c = some d) (hd : 2 ≤ d.phase) (hk : canCancel d.op = false) : s.doOpCancel c = s.finish c stOK [1] := by
  unfold State.tagged at ht
  unfold State.doOpCancel
  rw [ht]
  dsimp only
  rw [if_neg (Nat.not_lt.2 hd), if_pos (by simp [hk])]

end
end

section
variable {s u : State} (hp : s.powered = true)
include hp

theorem does_loadMeasurement {n : Fin 101} (h : s.loadMeasure n.val = u) : Does (.loadMeasurement n) s u := does_of_run_eq (f := fun s => s.loadMeasure n.val) hp rfl h

theorem does_watchdogExpiry (h : s.sheepRestart 2 = u) : Does .watchdogExpiry s u := does_of_run_eq (f := fun s => s.sheepRestart 2) hp rfl h

/-- The number under which MP_STAT names a restart's cause (R612). -/
def restartCode (c : RestartCause) : Nat := match c with | .lockstep => 1 | .sram => 3 | .firmware => 4

theorem does_sheepdogRestart {c : RestartCause} (h : s.sheepRestart (restartCode c) = u) : Does (.sheepdogRestart c) s u :=
  does_of_run_eq (f := fun s => s.sheepRestart (restartCode c)) hp rfl h

theorem does_opStatus (h : s.doOpStatus = u) : Does .opStatus s u := does_of_run_eq (f := State.doOpStatus) hp rfl h

theorem does_opCancel {c : Cmd} (hc : s.starts 0x0002 c) (h : s.doOpCancel c = u) : Does .opCancel s u :=
  does_of_run_eq (f := fun s => s.onCmd 0x0002 (fun _ => true) State.doOpCancel) hp rfl ((State.onCmd_starts hc _).trans h)

end

/-- Settles O45: each row in the branch that the clause names. -/
theorem sheepdogShedsRestartsAndAnswers : Obligations.SheepdogShedsRestartsAndAnswers := by
  intro s hp
  refine ⟨fun u => ?_, fun u => ?_, fun hst hrec => ?_, fun cause h => ?_, fun c hc => ?_, fun c hc hb => ?_, fun c hc hb hk => ?_, fun c hc => ?_⟩
  · intro x hst hl hu
    exact does_loadMeasurement hp (State.loadMeasure_sheds rfl hst hl hu)
  · intro x hst
    exact does_loadMeasurement hp (State.loadMeasure_held rfl hst)
  · intro x recent y done
    have hrun (n : Nat) : s.sheepRestart n = done n := State.sheepRestart_below hst hrec rfl rfl rfl rfl rfl rfl
    exact ⟨does_sheepdogRestart hp (hrun 1), does_watchdogExpiry hp (hrun 2), does_sheepdogRestart hp (hrun 3), does_sheepdogRestart hp (hrun 4)⟩
  · exact ⟨does_sheepdogRestart hp (State.sheepRestart_down h), does_watchdogExpiry hp (State.sheepRestart_down h)⟩
  · exact does_of_run_eq (f := State.doNop) hp rfl (State.onCmd_starts hc _)
  · exact ⟨fun d hd => does_opStatus hp (State.doOpStatus_queued hc hb hd),
      fun h => ⟨fun ha => does_opStatus hp (State.doOpStatus_unknown hc hb (State.tagged_none h) ha),
        fun a ha => does_opStatus hp (State.doOpStatus_gathering hc hb (State.tagged_none h) ha)⟩⟩
  · exact does_opStatus hp (State.doOpStatus_rebuild hc hb hk)
  · exact ⟨fun h => ⟨fun ha => does_opCancel hp hc (State.doOpCancel_unknown (State.tagged_none h) ha),
      fun a ha => does_opCancel hp hc (State.doOpCancel_gathering (State.tagged_none h) ha)⟩,
      fun d hd hph => does_opCancel hp hc (State.doOpCancel_waiting hd hph), fun d hd hph hk => does_opCancel hp hc (State.doOpCancel_firm hd hph hk)⟩

end Sys2Proof.Machine
end

section
/-! PROOFS. The collector (15 R616, R618, R619, R625, R626, R629-R632, R640, R643): reports, paths, windows, the pair, queries and clears. -/

namespace Sys2Proof.Machine

section
variable {s : State}

/-! ### Reports (R616, R629, R632) -/

section
variable {r : Report} {pt : Option Nat}

/-- Slate and Ochre are only recorded. -/
theorem State.classify_minor (h : r.cls < 2) : s.classify r pt = (s.recordReport r pt).fcSync := by
  unfold State.classify
  rw [if_neg (by omega), if_neg (by omega)]

theorem State.classify_sable (h : r.cls = 3) : s.classify r pt = (s.sableHalt.recordReport { r with react := 0xA } pt).fcSync := by
  unfold State.classify
  rw [if_neg (by omega), if_pos h]

theorem State.classify_russet {i g code : Nat} {y : State} (h : r.cls = 2) (hs : r.subj = some (i, g)) (hy : s.russetReaction i g = (y, code)) :
    s.classify r pt = (y.recordReport { r with react := code } pt).fcSync := by
  unfold State.classify
  rw [if_pos h, hs]
  dsimp only
  rw [hy]

section
variable {i g : Nat}

/-- A subject of an older generation, or one that does not run, is left (R636). -/
theorem State.russetReaction_gone (h : s.gen i ≠ g ∨ s.ist i = 0 ∨ s.ist i = 3 ∨ s.ist i = 8) : s.russetReaction i g = (s, 0xB) := if_pos h

variable (hg : s.gen i = g) (h0 : s.ist i ≠ 0) (h3 : s.ist i ≠ 3) (h8 : s.ist i ≠ 8)
include hg h0 h3 h8

theorem State.russetReaction_yields (h : (s.rb TN_INST_PROTECTED i && s.canYield) = true) : s.russetReaction i g = (s.askTakeoverFor (some (i, g)), 9) :=
  (if_neg (by simp [hg, h0, h3, h8])).trans (if_pos h)

theorem State.russetReaction_resets (h : (s.rb TN_INST_PROTECTED i && s.canYield) = false) : s.russetReaction i g = ((s.russetReset i).1, 8) :=
  (if_neg (by simp [hg, h0, h3, h8])).trans (if_neg (ne_true_of_eq_false h))

end
end

/-- A report of an origin and subject with an open window folds into it (R629). -/
theorem State.recordReport_folds {r : Report} {pt : Option Nat} {w : FoldWin}
    (h : s.closeDue.fc.wins.find? (fun (w : FoldWin) => !w.kindWin && w.org == r.org && w.subj == r.subj) = some w) :
    s.recordReport r pt = s.closeDue.foldRec r w := by
  unfold State.recordReport
  dsimp only
  rw [h]

section
variable {n : Nat} {r : Report} {q : List Report} (hq : Map.getD s.fc.held n [] = r :: q) (h0 : s.rf FC_PT_STATE n = 0)
include hq h0

theorem State.takeReport_sound :
    s.takeReport n false = ((({ s with fc := { s.fc with held := if q.isEmpty then Map.del s.fc.held n else Map.put s.fc.held n q } } : State).bump
      rFC_REPORT_CNT 0 r.cnt).classify r (some n)) := by
  unfold State.takeReport
  rw [hq]
  exact (if_neg (not_not.2 h0)).trans (if_neg Bool.false_ne_true)

theorem State.takeReport_broken : s.takeReport n true = s.pathLost n 1 := by
  unfold State.takeReport
  rw [hq]
  exact (if_neg (not_not.2 h0)).trans (if_pos rfl)

end

/-! ### Reporting paths (R618, R619) -/

section
variable {n : Nat} (hu : s.ptUnit n ≠ 0)
include hu

/-- A good path that fails: x is the module with the path out of service, z the one with the fault recorded. -/
theorem State.pathLost_good {st : Nat} {x z : State} (h0 : s.rf FC_PT_STATE n = 0) (hrec : s.recoveries (org 0x16 n) < s.rf FC_CFG_RECOV_LIMIT)
    (hx : s.setUnit (org 0x16 n) (fun u => { u with st := 1 }) = x)
    (hz : ((((x.sf FC_PT_STATE st n).incSat FC_PT_BREAKS n).bump rFC_PATH_CNT).raise 0x387).classify
      { org := org 0x16 n, cause := 0x1600 + st, cls := ochre, react := 5 } (some n) = z) :
    s.pathLost n st = (z.removeUnit (z.ptUnit n)).blindSync := by
  unfold State.pathLost
  rw [if_neg (by simp [hu, h0]), if_neg (by simp [h0]), State.outOfService_below s _ hrec, ← hz, ← hx]
  rfl

theorem State.pathTest_answered {good : Bool} (h0 : s.rf FC_PT_STATE n = 0) : s.pathTest n good true = s := (if_neg hu).trans ((if_pos h0).trans (if_pos rfl))

theorem State.pathTest_fails {good : Bool} (h0 : s.rf FC_PT_STATE n = 0) : s.pathTest n good false = s.pathLost n 2 :=
  (if_neg hu).trans ((if_pos h0).trans (if_neg Bool.false_ne_true))

section
variable (h0 : s.rf FC_PT_STATE n ≠ 0)
include h0

theorem State.pathTest_back : s.pathTest n true true = s.pathBack n := (if_neg hu).trans ((if_neg h0).trans (if_pos rfl))

/-- An answer while the pair is not good leaves the path lost. -/
theorem State.pathTest_pairBad : s.pathTest n false true = s :=
  (if_neg hu).trans ((if_neg h0).trans ((if_neg Bool.false_ne_true).trans (if_neg Bool.false_ne_true)))

theorem State.pathTest_counts {good : Bool} (h : (good || s.rf FC_PT_STATE n == 2) = true) : s.pathTest n good false = s.bump rFC_PATH_CNT :=
  (if_neg hu).trans ((if_neg h0).trans ((if_neg (by simp)).trans (if_pos (by simpa using h))))

/-- A Broken path whose pair is not good is not tested (R655). -/
theorem State.pathTest_broken (h : s.rf FC_PT_STATE n = 1) : s.pathTest n false false = s :=
  (if_neg hu).trans ((if_neg h0).trans ((if_neg Bool.false_ne_true).trans (if_neg (by simp [h]))))

end
end

theorem State.pathBack_live {n : Nat} (h : (s.unit (org 0x16 n)).st ≠ 3) :
    s.pathBack n = ((((s.sf FC_PT_STATE 0 n).raise 0x387).returned (org 0x16 n)).classify
      { org := org 0x16 n, cause := 0x1603, cls := slate, react := 7 } (some n)).blindSync := if_neg h

/-! ### Windows and the pair (R629, R643) -/

theorem State.foldExpiry_last {w : FoldWin} (h : s.fc.wins = [w]) : s.foldExpiry = (s.closeWin w).fcSync := by
  unfold State.foldExpiry
  rw [h]
  rfl

theorem State.pairEdge_turns (hm : s.rb FC_STAT_FLT_MODE = true) (ha : s.rb FC_STAT_FLT_ASSERT = false) (hc : s.fc.selfCheck = false) :
    s.pairEdge = s.setFlt (!s.fc.fltA) s.fc.fltA := if_pos (by simp [hm, ha, hc])

theorem State.pairEdge_holds (h : s.rb FC_STAT_FLT_MODE = false ∨ s.rb FC_STAT_FLT_ASSERT = true ∨ s.fc.selfCheck = true) : s.pairEdge = s := by
  refine if_neg ?_
  simp only [Bool.and_eq_true, Bool.not_eq_true', not_and]
  rintro ⟨hm, ha⟩ hc
  rcases h with h | h | h
  · simp [h] at hm
  · simp [h] at ha
  · simp [h] at hc

/-! ### Queries and clears (R625, R626) -/

/-- A query of the log that its buffer holds. -/
theorem State.doFaultQuery_log {c : Cmd} {y : State} {l : List (Nat × FRec)} (hb : bit (c.p 0) 16 = false) (hr : c.p 0 % 2 ^ 13 + c.p 1 ≤ 8192)
    (hl : s.fc.log.filter (fun (e : Nat × FRec) => decide (c.p 0 % 2 ^ 13 ≤ e.1) && decide (e.1 < c.p 0 % 2 ^ 13 + c.p 1)) = l)
    (hy : s.bufWrite c (c.p64 2) (l.flatMap (fun (e : Nat × FRec) => e.2.bytes)) = (y, true)) :
    s.doFaultQuery c = y.finish c stOK [l.length, y.rf FC_STAT_LOG_USED] := by
  subst hl
  unfold State.doFaultQuery
  rw [hb]
  dsimp only
  rw [if_neg (by simpa using hr)]
  simp only [Bool.false_eq_true, if_false]
  rw [hy]

end

section
variable {s u : State} (hp : s.powered = true)
include hp

theorem does_faultReport {p : Fin 2048} {bad : Bool} (h : s.takeReport p.val bad = u) : Does (.faultReport p bad none) s u :=
  does_of_run_eq (f := fun s => s.takeReport p.val bad) hp rfl h

theorem does_pathTest {p : Fin 2048} {good answers : Bool} (h : s.pathTest p.val good answers = u) : Does (.pathTest p good answers) s u :=
  does_of_run_eq (f := fun s => s.pathTest p.val good answers) hp rfl h

theorem does_faultQuery {c : Cmd} (hc : s.starts 0x0701 c) (h : s.doFaultQuery c = u) : Does .faultQuery s u :=
  does_of_run_eq (f := fun s => s.onCmd 0x0701 (fun _ => true) State.doFaultQuery) hp rfl ((State.onCmd_starts hc _).trans h)

theorem does_faultClear {c : Cmd} (hc : s.starts 0x0702 c) (h : s.doFaultClear c = u) : Does .faultClear s u :=
  does_of_run_eq (f := fun s => s.onCmd 0x0702 (fun _ => true) State.doFaultClear) hp rfl ((State.onCmd_starts hc _).trans h)

end

/-- Settles O46: each row in the branch that the clause names. -/
theorem theCollectorRecordsAndClears : Obligations.TheCollectorRecordsAndClears := by
  intro s hp
  refine ⟨fun p r q hq h0 => ?_, fun r pt w => State.recordReport_folds, fun p r q hq h0 => does_faultReport hp (State.takeReport_broken hq h0),
    fun p h0 hu hrec => ?_, fun p h0 hu h3 => ?_, fun w hw => does_of_run_eq (f := State.foldExpiry) hp rfl (State.foldExpiry_last hw),
    does_of_run_eq (f := State.selfCheckFail) hp rfl rfl, ⟨fun hm ha hc => ?_, fun h => ?_⟩, fun y c hc hb hr => ?_, fun c hc hr => ?_⟩
  · intro x y
    have take {u : State} (h : y.classify r (some p.val) = u) : Does (.faultReport p false none) s u :=
      does_faultReport hp ((State.takeReport_sound hq h0).trans h)
    exact ⟨fun h => take (State.classify_minor h), fun h => take (State.classify_sable h),
      fun i g h hs hg => take (State.classify_russet h hs (State.russetReaction_gone hg)),
      fun i g h hs hg h0 h3 h8 => ⟨fun hy => take (State.classify_russet h hs (State.russetReaction_yields hg h0 h3 h8 hy)),
        fun hy => take (State.classify_russet h hs (State.russetReaction_resets hg h0 h3 h8 hy))⟩⟩
  · intro x lost
    have hlost (n : Nat) : s.pathLost p.val n = lost n := State.pathLost_good hu h0 hrec rfl rfl
    exact ⟨does_of_run_eq (f := fun s => s.pathLost p.val 1) hp rfl (hlost 1), fun good =>
      ⟨does_pathTest hp ((State.pathTest_fails hu h0).trans (hlost 2)), does_pathTest hp (State.pathTest_answered hu h0)⟩⟩
  · intro y
    exact ⟨does_pathTest hp ((State.pathTest_back hu h0).trans (State.pathBack_live h3)), does_pathTest hp (State.pathTest_counts hu h0 rfl),
      does_pathTest hp (State.pathTest_pairBad hu h0), fun h2 => does_pathTest hp (State.pathTest_counts hu h0 (by simp [h2])),
      fun h1 => does_pathTest hp (State.pathTest_broken hu h0 h1)⟩
  · exact does_of_run_eq (f := State.pairEdge) hp rfl (State.pairEdge_turns hm ha hc)
  · exact does_of_run_eq (f := State.pairEdge) hp rfl (State.pairEdge_holds h)
  · intro l hy
    exact does_faultQuery hp hc (State.doFaultQuery_log hb hr rfl hy)
  · intro hit y
    exact does_faultClear hp hc (if_neg (Nat.not_lt.2 hr))

end Sys2Proof.Machine
end

section
/-! PROOFS. Return to service (15 R633-R635, R644): the ends of tests and Quiet periods, ageing, SELF_TEST. -/

namespace Sys2Proof.Machine

section
variable {s : State}

/-! ### Automatic tests and Quiet periods (R633-R635) -/

section
variable {o : Nat}

theorem State.joinTest_other {pass : Bool} (h : s.testUnit ≠ some o) : s.joinTest o pass = s := if_neg h

section
variable (hq : quickUnit o = true) (hst : (s.unit o).st = 1)
include hq hst

theorem State.unitTestEnd_passes {y : State} (hy : (s.toQuiet o).unitReg o 2 = y) (ht : y.testUnit ≠ some o) : s.unitTestEnd o true = y := by
  subst hy
  exact (if_neg (by simp [hq, hst])).trans (State.joinTest_other ht)

theorem State.unitTestEnd_fails {z : State} (hz : ((s.testFailed o 6).retireUnit o).unitReg o 3 = z) (ht : z.testUnit ≠ some o) :
    s.unitTestEnd o false = z := by
  subst hz
  exact (if_neg (by simp [hq, hst])).trans (State.joinTest_other ht)

end

section
variable (hst : (s.unit o).st = 2)
include hst

/-- The end of a Quiet period, by the unit's type. -/
theorem State.quietEnd_lane (ho : o / 65536 = 6) : s.quietEnd o = (s.returned o).laneReturn (o % 65536) := by
  unfold State.quietEnd
  rw [if_neg (not_not.2 hst), ho]
  simp only []

theorem State.quietEnd_proc (ho : o / 65536 = 8) : s.quietEnd o = (s.returned o).procReturn (o % 65536) := by
  unfold State.quietEnd
  rw [if_neg (not_not.2 hst), ho]
  simp only []

theorem State.quietEnd_czPipe (ho : o / 65536 = 0xA) : s.quietEnd o = (s.returned o).unitReg o 0 := by
  unfold State.quietEnd
  rw [if_neg (not_not.2 hst), ho]
  simp only []

theorem State.quietEnd_cyPipe (ho : o / 65536 = 0xB) : s.quietEnd o = ((s.returned o).sf CY_PIPE_STAT_LEASED 0 (o % 65536)).unitReg o 0 := by
  unfold State.quietEnd
  rw [if_neg (not_not.2 hst), ho]
  simp only []

/-- A core whose quad is not Quiet itself comes back as a Spare. -/
theorem State.quietEnd_core (ho : o / 65536 = 1) (hquad : (s.unit (org 2 (o % 65536 / 4))).st ≠ 2) :
    s.quietEnd o = (s.returned o).setCoreRole (o % 65536) 1 := by
  unfold State.quietEnd
  rw [if_neg (not_not.2 hst), ho]
  exact if_neg hquad

end

section
variable {x : UnitSt} {y : State} (hx : Map.find s.fc.units o = some x)
  (hy : s.setUnit o (fun u => { u with returns := u.returns.filter (fun t => decide (s.now < t)) }) = y)
include hx hy

theorem State.ageReturns_other (h : o / 65536 ≠ 4) : s.ageReturns o = y := by
  unfold State.ageReturns
  rw [hx, hy]
  have hk : (o / 65536 == 4) = false := by simpa using h
  refine (if_neg Bool.false_ne_true).trans ?_
  dsimp only
  rw [hk, State.when_false]

/-- A DRAM channel shows its returns in a register. -/
theorem State.ageReturns_channel (h : o / 65536 = 4) : s.ageReturns o = y.sf MA_CH_STAT_RECOVERIES (satN 4 (y.recoveries o)) (o % 65536) := by
  unfold State.ageReturns
  rw [hx, hy]
  refine (if_neg Bool.false_ne_true).trans ?_
  dsimp only
  rw [h]
  rfl

end
end

/-! ### SELF_TEST (R644) -/

section
variable {c : Cmd}

theorem State.selfTestBegin_noUnit (hr : testRange (c.p 0) (c.p 1) = false) : s.selfTestBegin c = s.finish c stBAD_PARAM := if_pos (by simp [hr])

section
variable (hr : testRange (c.p 0) (c.p 1) = true)
include hr

theorem State.selfTestBegin_inService (ht : s.testable (c.p 0) (c.p 1) = false) : s.selfTestBegin c = s.finish c stDENIED :=
  (if_neg (by simp [hr])).trans (if_pos (by simp [ht]))

theorem State.selfTestBegin_starts (ht : s.testable (c.p 0) (c.p 1) = true) (hb : s.rb FC_TEST_BUSY = false) :
    s.selfTestBegin c = (((((s.sf FC_TEST_BUSY 1).sf FC_TEST_RESULT 0).sf FC_TEST_KIND (c.p 0)).sf FC_TEST_INDEX (c.p 1)).sf FC_TEST_PROGRESS 0).longPhase c 1 0 [] :=
  (if_neg (by simp [hr])).trans ((if_neg (by simp [ht])).trans (if_neg (ne_true_of_eq_false hb)))

end

theorem State.selfTestNext_cancelled {p : Nat} {r : Option Bool} (hc : c.lop.cancel = true) : s.selfTestNext c p r = s.testEnd 3 := if_pos hc

section
variable (hc : c.lop.cancel = false)
include hc

theorem State.selfTestNext_progress {p : Nat} : s.selfTestNext c p none = (s.sf FC_TEST_PROGRESS (max p (s.rf FC_TEST_PROGRESS))).longPos c p :=
  if_neg (ne_true_of_eq_false hc)

theorem State.selfTestNext_ends {p : Nat} {b : Bool} (hu : (s.unit (testOrg (c.p 0) (c.p 1))).st ≠ 1) :
    s.selfTestNext c p (some b) = (s.ownTestEnd (c.p 0) (c.p 1) b).testEnd (if b then 1 else 2) :=
  (if_neg (ne_true_of_eq_false hc)).trans (if_neg hu)

end

theorem State.doSelfTest_begins {p : Nat} {r : Option Bool} (hl : s.longCmd 0x0711 = none) (hc : s.starts 0x0711 c) :
    s.doSelfTest p r = s.selfTestBegin c := by
  unfold State.doSelfTest
  rw [hl]
  exact State.onCmd_starts hc _

theorem State.doSelfTest_goesOn {p : Nat} {r : Option Bool} (hl : s.longCmd 0x0711 = some c) : s.doSelfTest p r = s.selfTestNext c p r := by
  unfold State.doSelfTest
  rw [hl]

end
end

section
variable {s v : State} (hp : s.powered = true)
include hp

theorem does_unitTestEnd {u : BitVec 24} {pass : Bool} (h : s.unitTestEnd u.toNat pass = v) : Does (.unitTestEnd u pass) s v :=
  does_of_run_eq (f := fun s => s.unitTestEnd u.toNat pass) hp rfl h

theorem does_quietPeriodExpiry {u : BitVec 24} (h : s.quietEnd u.toNat = v) : Does (.quietPeriodExpiry u) s v :=
  does_of_run_eq (f := fun s => s.quietEnd u.toNat) hp rfl h

theorem does_recoveryCounterAge {u : BitVec 24} (h : s.ageReturns u.toNat = v) : Does (.recoveryCounterAge u) s v :=
  does_of_run_eq (f := fun s => s.ageReturns u.toNat) hp rfl h

theorem does_selfTest {p : Fin 10001} {r : Option Bool} (h : s.doSelfTest p.val r = v) : Does (.selfTest p r) s v :=
  does_of_run_eq (f := fun s => s.doSelfTest p.val r) hp rfl h

end

/-- Settles O47: each row in the branch that the clause names. -/
theorem unitsReturnOrRetire : Obligations.UnitsReturnOrRetire := by
  intro s hp
  refine ⟨fun u hq hst _ => ?_, fun u hst => ?_, fun u x hx => ?_, fun c p r hl hc => ?_, fun c p hl => ?_⟩
  · exact ⟨fun ht => does_unitTestEnd hp (State.unitTestEnd_passes hq hst rfl ht), fun ht => does_unitTestEnd hp (State.unitTestEnd_fails hq hst rfl ht)⟩
  · exact ⟨fun ho => does_quietPeriodExpiry hp (State.quietEnd_lane hst ho), fun ho => does_quietPeriodExpiry hp (State.quietEnd_proc hst ho),
      fun ho => does_quietPeriodExpiry hp (State.quietEnd_czPipe hst ho), fun ho => does_quietPeriodExpiry hp (State.quietEnd_cyPipe hst ho),
      fun ho hquad => does_quietPeriodExpiry hp (State.quietEnd_core hst ho hquad)⟩
  · exact ⟨fun h => does_recoveryCounterAge hp (State.ageReturns_other hx rfl h), fun h => does_recoveryCounterAge hp (State.ageReturns_channel hx rfl h)⟩
  · have hrun := State.doSelfTest_begins (p := p.val) (r := r) hl hc
    exact ⟨fun hr => does_selfTest hp (hrun.trans (State.selfTestBegin_noUnit hr)), fun hr ht => does_selfTest hp (hrun.trans (State.selfTestBegin_inService hr ht)),
      fun hr ht hb => does_selfTest hp (hrun.trans (State.selfTestBegin_starts hr ht hb))⟩
  · have hrun (r : Option Bool) := State.doSelfTest_goesOn (p := p.val) (r := r) hl
    exact ⟨fun hc r => does_selfTest hp ((hrun r).trans (State.selfTestNext_cancelled hc)), fun hc => does_selfTest hp ((hrun none).trans (State.selfTestNext_progress hc)),
      fun hc b hu => does_selfTest hp ((hrun (some b)).trans (State.selfTestNext_ends hc hu))⟩

end Sys2Proof.Machine
end

section
/-! PROOFS. Goose frames, the claim interlock and the link (16 R666, R668-R674). -/

namespace Sys2Proof.Machine

section
variable {s : State}

/-! ### Goose (R669, R670) -/

theorem State.gooseSend_solo (h : s.rf TW_STAT_STATE = 0) : s.gooseSend = s := if_pos h

section
variable {x y : State} {b : List Nat} (h : s.rf TW_STAT_STATE ≠ 0) (hx : s.fitCheck = x)
  (hy : { x with tw := { x.tw with seqOut := (x.tw.seqOut + 1) % 2 ^ 32 } } = y) (hb : y.gooseBytes ((x.tw.seqOut + 1) % 2 ^ 32) = b)
include h hx hy hb

theorem State.gooseSend_sideband (hl : y.rf TW_STAT_LANES = 0) : s.gooseSend = y.emit (.goose false b) := by
  have hw : (y.rf TW_STAT_LANES != 0) = false := by simp [hl]
  unfold State.gooseSend
  rw [if_neg h, hx]
  dsimp only
  rw [hy, hb, hw]
  rfl

theorem State.gooseSend_both (hl : y.rf TW_STAT_LANES ≠ 0) : s.gooseSend = (y.emit (.goose true b)).emit (.goose false b) := by
  have hw : (y.rf TW_STAT_LANES != 0) = true := by simp [hl]
  unfold State.gooseSend
  rw [if_neg h, hx]
  dsimp only
  rw [hy, hb, hw]
  rfl

end

/-- Word o of a frame. -/
def gooseWord (b : List Nat) (o : Nat) : Nat := ofBytes ((b.drop o).take 4)

section
variable {inBand : Bool} {b : List Nat}

theorem State.gooseReceive_crc (h : crc32c (b.take 28) ≠ gooseWord b 0x1C) : s.gooseReceive inBand b = s := if_pos (.inr (.inr (.inl h)))

section
variable {q : Nat} (hq : Map.find s.tw.seqIn (b2n inBand) = some q)
include hq

/-- A frame whose SEQ lies behind the last one is discarded. -/
theorem State.gooseReceive_behind (h : 2 ^ 31 ≤ (gooseWord b 4 + 2 ^ 32 - q) % 2 ^ 32) : s.gooseReceive inBand b = s := by
  unfold State.gooseReceive
  dsimp only
  rw [hq]
  exact if_pos (.inr (.inr (.inr (.inr h))))

/-- The next frame of a path that is up. -/
theorem State.gooseReceive_next {y : State} (hst : s.rf TW_STAT_STATE ≠ 0) (hlen : b.length = 32) (hcrc : crc32c (b.take 28) = gooseWord b 0x1C)
    (hgap : (gooseWord b 4 + 2 ^ 32 - q) % 2 ^ 32 = 1) (hy : { s with tw := { s.tw with seqIn := Map.put s.tw.seqIn (b2n inBand) (gooseWord b 4) } } = y)
    (hup : y.rb (if inBand then TW_STAT_GOOSE_LINK else TW_STAT_GOOSE_SB) = true) :
    s.gooseReceive inBand b = (y.setPeer (gooseWord b 0) (gooseWord b 0x10) (gooseWord b 0x14)).peerSays (bit (gooseWord b 0) 14) (bit (gooseWord b 0) 15) := by
  unfold gooseWord at hgap hcrc hy ⊢
  unfold State.gooseReceive
  dsimp only
  rw [hq]
  dsimp only
  rw [if_neg (by rintro (h | h | h | h | h); exacts [hst h, h hlen, h hcrc, by omega, by omega]), hy]
  simp only [hgap, Nat.lt_irrefl, decide_false, State.when_false, hup, Bool.not_true]

end

/-! ### Lost paths (R670) -/

theorem State.goosePathDown_again (h : s.rb (if inBand then TW_STAT_GOOSE_LINK else TW_STAT_GOOSE_SB) = false) : s.goosePathDown inBand = s := if_pos (.inr h)

/-- One path of two goes down. -/
theorem State.goosePathDown_one {f : RF} {x y : State} (hf : (if inBand then TW_STAT_GOOSE_LINK else TW_STAT_GOOSE_SB) = f) (hst : s.rf TW_STAT_STATE ≠ 0)
    (hup : s.rb f = true) (hx : (((s.sf f 0).raise 0x341).bump rTW_GOOSE_MISS 0 2).twRec 0x1103 ochre (b2n inBand) = x)
    (hy : { x with tw := { x.tw with seqIn := Map.del x.tw.seqIn (b2n inBand) } } = y) (h : (y.rb TW_STAT_GOOSE_LINK || y.rb TW_STAT_GOOSE_SB) = true) :
    s.goosePathDown inBand = y := by
  unfold State.goosePathDown
  dsimp only
  rw [hf, if_neg (by simp [hst, hup]), hx, hy, if_pos h]

end

/-! ### The claim interlock (R671-R674) -/

theorem State.peerEdge_unstrapped (h : s.tw.strap = false) : s.peerEdge = s := if_pos (by simp [h])

section
variable {x y : State} (hs : s.tw.strap = true) (hx : (s.sf TW_STAT_GATE 0).sf TW_STAT_PEER_EDGE 1 = x)
  (hy : { x with tw := { x.tw with edgeAt := s.now } } = y)
include hs hx hy

/-- An edge closes the gate; two claims at once are a Sable fault. -/
theorem State.peerEdge_edge : s.peerEdge = if s.rb TW_STAT_CLAIM then (y.raise 0x345).twRec 0x1109 sable 0
    else y.when y.tw.train (fun z => { z with tw := { z.tw with train := false, want := z.tw.want || z.tw.taking || z.rf TW_STAT_ROLE == 1 } }) := by
  have htw : x.tw = s.tw := by rw [← hx, State.sf_tw, State.sf_tw]
  rw [htw] at hy
  have ht : y.tw.train = s.tw.train := by rw [← hy]
  unfold State.peerEdge
  dsimp only
  rw [hx, hy, if_neg (by simp [hs]), ht]

end

theorem State.gateOpen_opens {y : State} (hs : s.tw.strap = true) (ht : s.tw.train = true) (hb : s.isStandby = false) (hf : s.isSable = false)
    (hy : ((s.sf TW_STAT_PEER_EDGE 0).sf TW_STAT_CLAIM 1).sf TW_STAT_GATE 1 = y) : s.gateOpen = y.when y.tw.taking State.takeOutputs := by
  unfold State.gateOpen
  dsimp only
  rw [hy]
  exact if_pos (by simp [hs, ht, hb, hf])

theorem State.gateOpen_shut (h : s.tw.strap = false ∨ s.tw.train = false ∨ s.isStandby = true ∨ s.isSable = true) : s.gateOpen = s := by
  refine if_neg ?_
  simp only [Bool.and_eq_true, Bool.not_eq_true', not_and, Bool.not_eq_false]
  rintro ⟨⟨hs, ht⟩, hb⟩
  rcases h with h | h | h | h
  · simp [h] at hs
  · simp [h] at ht
  · simp [h] at hb
  · exact h

theorem State.claimRetry_solo (hs : s.tw.strap = true) (ht : s.tw.train = false) (hf : s.isSable = false) (h0 : s.rf TW_STAT_STATE = 0)
    (hp : s.takesPackets = true) :
    s.claimRetry = ({ s with tw := { s.tw with train := true, want := false } } : State).sf TW_STAT_PEER_EDGE 0 := if_pos (by simp [hs, ht, hf, h0, hp])

theorem State.claimRetry_unwanted (hw : s.tw.want = false) (h0 : s.rf TW_STAT_STATE ≠ 0) : s.claimRetry = s := if_neg (by simp [hw, h0])

/-! ### The link (R666, R668) -/

section
variable {l : Nat} {up : Bool} {y : State}

theorem State.laneChange_same (h : bit s.tw.lanes l = up) : s.laneChange l up = s := if_pos h

theorem State.laneChange_down (h : bit s.tw.lanes l = true) (hy : (s.setLanes (setBit s.tw.lanes l false)).twRec 0x1101 ochre l = y) :
    s.laneChange l false = if y.tw.lanes = 0 then y.linkGone else if s.tw.lanes = 0 then y.linkBack else y := by
  subst hy
  exact if_neg (by simp [h])

theorem State.laneChange_up (h : bit s.tw.lanes l = false) (hy : s.setLanes (setBit s.tw.lanes l true) = y) :
    s.laneChange l true = if y.tw.lanes = 0 then y.linkGone else if s.tw.lanes = 0 then y.linkBack else y := by
  subst hy
  exact if_neg (by simp [h])

end

section
variable {y : State} (h : s.tw.lanes ≠ 0) (hy : (s.setLanes 0).twRec 0x1102 ochre 0 = y)
include h hy

/-- The loss of the link: a pairing fails, a running pair is Suspended. -/
theorem State.linkLoss_lost : s.linkLoss = if y.rf TW_STAT_STATE = 1 then y.syncFail
    else if y.isRunning then ({ y with tw := { y.tw with byLoss := true } } : State).twTo 3 (y.rf TW_STAT_ROLE) else y := by
  subst hy
  exact if_neg h

end

theorem State.linkReturn_up {n : Nat} {y : State} (h : s.tw.lanes = 0) (hn : n ≠ 0) (hy : s.setLanes (2 ^ n - 1) = y) : s.linkReturn n = y.linkBack := by
  subst hy
  exact if_neg (by simp [h, hn])

theorem State.linkBack_resumes (h3 : s.rf TW_STAT_STATE = 3) (hl : s.tw.byLoss = true) (ha : s.rb TW_CFG_AUTO_RESUME = true) : s.linkBack = s.resumeSync :=
  if_pos ⟨h3, hl, ha⟩

theorem State.linkBack_stays (h : s.rf TW_STAT_STATE ≠ 3 ∨ s.tw.byLoss = false ∨ s.rb TW_CFG_AUTO_RESUME = false) : s.linkBack = s := by
  refine if_neg ?_
  rintro ⟨h3, hl, ha⟩
  rcases h with h | h | h
  · exact h h3
  · simp [h] at hl
  · simp [h] at ha

end

section
variable {s u : State} (hp : s.powered = true)
include hp

theorem does_gooseSend (h : s.gooseSend = u) : Does .gooseSend s u := does_of_run_eq (f := State.gooseSend) hp rfl h

theorem does_gooseReceive {p : Bool} {f : List Byte} (h : s.gooseReceive p (byteNats f) = u) : Does (.gooseReceive p f) s u :=
  does_of_run_eq (f := fun s => s.gooseReceive p (byteNats f)) hp rfl h

theorem does_goosePathDown {p : Bool} (h : s.goosePathDown p = u) : Does (.goosePathDown p) s u := does_of_run_eq (f := fun s => s.goosePathDown p) hp rfl h

theorem does_peerClaimEdge (h : s.peerEdge = u) : Does .peerClaimEdge s u := does_of_run_eq (f := State.peerEdge) hp rfl h

theorem does_gateOpen (h : s.gateOpen = u) : Does .gateOpen s u := does_of_run_eq (f := State.gateOpen) hp rfl h

theorem does_claimRetry (h : s.claimRetry = u) : Does .claimRetry s u := does_of_run_eq (f := State.claimRetry) hp rfl h

theorem does_laneDown {l : Fin 4} {up : Bool} (h : s.laneChange l.val up = u) : Does (.laneDown l up) s u :=
  does_of_run_eq (f := fun s => s.laneChange l.val up) hp rfl h

theorem does_twinLinkLoss (h : s.linkLoss = u) : Does .twinLinkLoss s u := does_of_run_eq (f := State.linkLoss) hp rfl h

theorem does_twinLinkReturn {n : Fin 5} (h : s.linkReturn n.val = u) : Does (.twinLinkReturn n) s u := does_of_run_eq (f := fun s => s.linkReturn n.val) hp rfl h

end

/-- Settles O48: each row in the branch that the clause names. -/
theorem gooseClaimsAndLinkFollowTheirInputs : Obligations.GooseClaimsAndLinkFollowTheirInputs := by
  intro s hp
  refine ⟨fun h => ?_, fun h => does_gooseSend hp (State.gooseSend_solo h), fun p f => ?_, fun p => ?_, fun h => does_peerClaimEdge hp (State.peerEdge_unstrapped h),
    fun hs => ?_, fun hs ht hb hf => ?_, fun h => does_gateOpen hp (State.gateOpen_shut h),
    fun hs ht hf h0 hk => does_claimRetry hp (State.claimRetry_solo hs ht hf h0 hk), fun _ hw h0 => does_claimRetry hp (State.claimRetry_unwanted hw h0),
    fun l up => ?_, fun h => ?_, fun n h hn => ?_⟩
  · intro x y b
    exact ⟨fun hl => does_gooseSend hp (State.gooseSend_sideband h rfl rfl rfl hl), fun hl => does_gooseSend hp (State.gooseSend_both h rfl rfl rfl hl)⟩
  · intro b w
    exact ⟨fun h => does_gooseReceive hp (State.gooseReceive_crc h), fun q hq h => does_gooseReceive hp (State.gooseReceive_behind hq h),
      fun q hq hst hlen hcrc hgap _ hup => does_gooseReceive hp (State.gooseReceive_next hq hst hlen hcrc hgap rfl hup)⟩
  · intro f
    refine ⟨fun h => does_goosePathDown hp (State.goosePathDown_again h), fun hst hup => ?_⟩
    intro x y h
    exact does_goosePathDown hp (State.goosePathDown_one rfl hst hup rfl rfl h)
  · intro x y
    have hrun := State.peerEdge_edge (y := y) hs rfl rfl
    refine ⟨fun hc => does_peerClaimEdge hp (hrun.trans (if_pos hc)), fun hc ht => does_peerClaimEdge hp (hrun.trans ((if_neg (ne_true_of_eq_false hc)).trans ?_)),
      fun hc ht => does_peerClaimEdge hp (hrun.trans ((if_neg (ne_true_of_eq_false hc)).trans ?_))⟩
    · rw [ht, State.when_false]
    · rw [ht, State.when_true]
  · intro y
    have hrun := State.gateOpen_opens (y := y) hs ht hb hf rfl
    refine ⟨fun hk => does_gateOpen hp (hrun.trans ?_), fun hk => does_gateOpen hp (hrun.trans ?_)⟩
    · rw [hk, State.when_false]
    · rw [hk, State.when_true]
  · refine ⟨fun h => does_laneDown hp (State.laneChange_same h), fun h hup => ?_, fun h hup => ?_⟩
    · subst hup
      intro y
      have hrun := State.laneChange_down (y := y) h rfl
      exact ⟨fun h0 hl => does_laneDown hp (hrun.trans ((if_neg h0).trans (if_neg hl))), fun h0 => does_laneDown hp (hrun.trans (if_pos h0))⟩
    · subst hup
      intro y h0
      have hrun := (State.laneChange_up (y := y) h rfl).trans (if_neg h0)
      exact ⟨fun hl => does_laneDown hp (hrun.trans (if_neg hl)), fun hl => does_laneDown hp (hrun.trans (if_pos hl))⟩
  · intro y
    have hrun := State.linkLoss_lost (y := y) h rfl
    exact ⟨fun h1 => does_twinLinkLoss hp (hrun.trans (if_pos h1)),
      fun h2 => does_twinLinkLoss hp (hrun.trans ((if_neg (by simp [h2])).trans (if_pos (by simp [State.isRunning, h2])))),
      fun h1 h2 => does_twinLinkLoss hp (hrun.trans ((if_neg h1).trans (if_neg (by simp [State.isRunning, h2]))))⟩
  · intro y
    have hrun := State.linkReturn_up (y := y) h hn rfl
    exact ⟨fun h3 hl ha => does_twinLinkReturn hp (hrun.trans (State.linkBack_resumes h3 hl ha)), fun hs => does_twinLinkReturn hp (hrun.trans (State.linkBack_stays hs))⟩

end Sys2Proof.Machine
end

section
/-! PROOFS. Epochs, the mirror and the digests (16 R675-R682). -/

namespace Sys2Proof.Machine

theorem OnlyRegs.tw {s t : State} (h : OnlyRegs s t) : t.tw = s.tw := by rw [← h.rest]
theorem OnlyRegs.cy {s t : State} (h : OnlyRegs s t) : t.cy = s.cy := by rw [← h.rest]

section
variable {s : State}

/-! ### The barrier (R675, R676, R681) -/

/-- What sending a cut leaves as it was: the twin logic, the key slots, and every register but the monitors' counters. -/
structure State.CutSent (s t : State) : Prop where
  tw : t.tw = s.tw
  cy : t.cy = s.cy
  reg : ∀ (r : Reg) (i : Nat), (r.addr i < rPM_CNT.addr 0 ∨ rPM_CNT.addr 63 < r.addr i) → t.reg r i = s.reg r i

theorem State.CutSent.trans {t u : State} (h : s.CutSent t) (k : t.CutSent u) : s.CutSent u :=
  ⟨k.tw.trans h.tw, k.cy.trans h.cy, fun r i hr => (k.reg r i hr).trans (h.reg r i hr)⟩

theorem State.cutSent_emit (o : Output) : s.CutSent (s.emit o) := ⟨rfl, rfl, fun _ _ _ => rfl⟩

theorem State.cutSent_emits {α : Type} (l : List α) (f : α → Output) : s.CutSent (s.each l (fun s x => s.emit (f x))) :=
  foldl_keeps (fun (x : State) => s.CutSent x) _ l s ⟨rfl, rfl, fun _ _ _ => rfl⟩ (fun _ _ hx _ => hx.trans (State.cutSent_emit _))

theorem State.cutSent_pmEvent (ev unit : Nat) (inst : Option Nat) (n : Nat) : s.CutSent (s.pmEvent ev unit inst n) := by
  have h := State.pmEvent_only s ev unit inst n
  exact ⟨h.tw, h.cy, fun r i => State.reg_pmEvent s ev unit inst n r i⟩

theorem State.cutSent_bwBytes (point n : Nat) (inst : Option Nat) : s.CutSent (s.bwBytes point n inst) := by
  unfold State.bwBytes
  split
  · exact ⟨rfl, rfl, fun _ _ _ => rfl⟩
  · exact ⟨rfl, rfl, fun _ _ _ => rfl⟩

/-- The cut's data on the link, counted. -/
def State.cutData (s : State) : State :=
  ((s.each s.cutBytes.zipIdx (fun s x => s.emit (.twin 1 (x.2 :: x.1)))).pmEvent 0x0A01 0 none ((s.cutBytes.flatten.length + 63) / 64)).bwBytes 0x30
    s.cutBytes.flatten.length

theorem State.cutSent_cutData : s.CutSent s.cutData :=
  ((State.cutSent_emits _ _).trans (State.cutSent_pmEvent _ _ _ _)).trans (State.cutSent_bwBytes _ _ _)

/-- A module with no Master port sends no digest. -/
theorem State.sendDigests_noMaster (h : ∀ p, p < 32 → s.rf FR_STAT_ROLE p ≠ 2) : s.sendDigests = s := by
  have hl : (List.range 32).filter (fun p => s.rf FR_STAT_ROLE p == 2) = [] :=
    List.filter_eq_nil_iff.2 (fun p hp => by simpa using h p (List.mem_range.1 hp))
  unfold State.sendDigests
  rw [hl]
  rfl

theorem frStat_below_pmCnt (p : Nat) (h : p < 32) : rFR_STAT.addr p < rPM_CNT.addr 0 := by
  have h0 : rPM_CNT.addr 0 = 0x7f1000f00300 := by decide
  rw [ringReg_addr rfl, h0, show rFR_STAT.base = 0x7f1000500008 from rfl]
  omega

theorem State.CutSent.noMaster {t : State} (h : s.CutSent t) (hs : ∀ p, p < 32 → s.rf FR_STAT_ROLE p ≠ 2) : ∀ p, p < 32 → t.rf FR_STAT_ROLE p ≠ 2 := by
  intro p hp ht
  refine hs p hp ?_
  rw [← ht]
  unfold State.rf
  rw [show FR_STAT_ROLE.reg = rFR_STAT from rfl, h.reg _ _ (.inl (frStat_below_pmCnt p hp))]

/-- The cut of an active with no Master port: x is the module when the cut is sent, y with the next epoch's number. -/
theorem State.epochBarrier_cuts (hr : s.rf TW_STAT_ROLE = 1) (ho : s.epochsOn = true) (hf : s.isSable = false) (hm : ∀ p, p < 32 → s.rf FR_STAT_ROLE p ≠ 2) :
    ∃ x y : State, s.CutSent x ∧ (x.sf TW_STREAM_LAST_KIB (x.recorded.length / 16)).sf TW_EPOCH_NUMBER ((s.rf TW_EPOCH_NUMBER + 1) % 2 ^ 48) = y ∧
      s.epochBarrier = { y with
        recorded := []
        tw := { y.tw with stretch := false, cuts := y.tw.cuts ++ [(s.rf TW_EPOCH_NUMBER, y.now, y.cy.slots.map (fun (x : Nat × Slot) => (x.1, x.2.ctr)))] } } := by
  have hsent := (State.cutSent_cutData (s := s))
  have hd := State.sendDigests_noMaster (hsent.noMaster hm)
  refine ⟨s.cutData.emit (.twin 1 ([0xFF] ++ toBytes (s.rf TW_EPOCH_NUMBER) 8 ++ toBytes s.cutBytes.flatten.length 8 ++ toBytes (crc32c s.cutBytes.flatten) 4)), _,
    hsent.trans (State.cutSent_emit _), rfl, ?_⟩
  unfold State.epochBarrier
  rw [if_pos ⟨hr, ho, hf⟩]
  dsimp only
  rw [← State.cutData, hd]

theorem State.epochBarrier_solo (h : s.rf TW_STAT_ROLE ≠ 1 ∨ s.epochsOn = false ∨ s.isSable = true) : s.epochBarrier = s := by
  refine if_neg ?_
  rintro ⟨hr, ho, hf⟩
  rcases h with h | h | h
  · exact h hr
  · simp [h] at ho
  · simp [h] at hf

/-- What the barrier leaves, where no key slot is held. -/
theorem State.epochBarrier_ends (hr : s.rf TW_STAT_ROLE = 1) (ho : s.epochsOn = true) (hf : s.isSable = false) (hm : ∀ p, p < 32 → s.rf FR_STAT_ROLE p ≠ 2)
    (hc : s.cy.slots = []) : ∃ u, s.epochBarrier = u ∧ u.recorded = [] ∧ u.tw.stretch = false ∧ u.rf TW_EPOCH_NUMBER = (s.rf TW_EPOCH_NUMBER + 1) % 2 ^ 48 ∧
      u.tw.cuts = s.tw.cuts ++ [(s.rf TW_EPOCH_NUMBER, s.now, [])] := by
  obtain ⟨x, y, hx, hy, hrun⟩ := State.epochBarrier_cuts hr ho hf hm
  have htw : y.tw = s.tw := by rw [← hy, State.sf_tw, State.sf_tw, hx.tw]
  have hcy : y.cy = s.cy := by rw [← hy, State.sf_cy, State.sf_cy, hx.cy]
  have hnow : y.now = s.now := by
    rw [← hy, State.now_sf _ _ _ _ (by decide), State.now_sf _ _ _ _ (by decide)]
    exact hx.reg rTM_TIME 0 (.inr (by decide))
  have hnum : y.rf TW_EPOCH_NUMBER = (s.rf TW_EPOCH_NUMBER + 1) % 2 ^ 48 := by
    rw [← hy, State.rf_sf_same _ _ _ _ (by decide) (by decide) (by decide)]
    exact Nat.mod_mod _ _
  refine ⟨_, hrun, rfl, rfl, (State.rf_of_regs rfl _ _).trans hnum, ?_⟩
  dsimp only
  rw [htw, hcy, hnow, hc]
  rfl

/-! ### The stretch (R677) -/

theorem State.epochStretch_owed {y : State} (ha : s.isActiveRunning = true) (hs : s.tw.stretch = false) (hl : s.rf TW_STAT_LANES * 3750 < s.recorded.length)
    (hy : { s with tw := { s.tw with stretch := true } } = y) :
    s.epochStretch = ((y.raiseMs 0x342).twRec 0x1105 slate (64 * y.recorded.length)).bump rTW_STRETCH_CNT := by
  have hlines : s.linkLines < s.recorded.length := hl
  subst hy
  unfold State.epochStretch
  rw [if_pos (by simp [ha, hs, hlines])]

theorem State.epochStretch_carried (h : s.recorded.length ≤ s.rf TW_STAT_LANES * 3750) : s.epochStretch = s := by
  have hlines : s.recorded.length ≤ s.linkLines := h
  exact if_neg (by simp [hlines])

/-! ### Acknowledgements (R676, R678) -/

section
variable {e : Epoch} {w : Bool}

theorem State.epochAck_other (h : s.isStandby = false ∨ s.epochsOn = false ∨ e.number ≠ s.rf TW_ACKED_EPOCH + 1) : s.epochAck e w = s := if_pos h

section
variable (hb : s.isStandby = true) (ho : s.epochsOn = true) (hn : e.number = s.rf TW_ACKED_EPOCH + 1)
include hb ho hn

/-- The next epoch, with a failed CRC or length: asked for again, once. -/
theorem State.epochAck_broken {x : State} (hx : s.twRec 0x110A slate e.number = x) :
    s.epochAck e false = if x.tw.asked then x else ({ x with tw := { x.tw with asked := true } } : State).emit (.twin 8 (toBytes e.number 8)) := by
  subst hx
  exact (if_neg (by simp [hb, ho, hn])).trans (if_pos rfl)

/-- The next epoch, whole: y is the module with its lines and counters, w with the acknowledgement. -/
theorem State.epochAck_whole {y z w : State}
    (hy : ((s.standbyLines e.lines).bwBytes 0x31 (73 * e.lines.length)).each e.ctrs (fun s x => s.setSlot x.1.toNat (fun k => { k with ctr := x.2, acked := x.2 })) = y)
    (hz : { y with tw := { y.tw with hold := some { e with lines := [] }, asked := false } } = z)
    (hw : ((z.sf TW_ACKED_EPOCH e.number).sf TW_EPOCH_NUMBER (e.number + 1)).emit (.twin 4 (toBytes e.number 8)) = w) :
    s.epochAck e true = (if w.isRunning then w else w.syncDone).fitCheck := by
  unfold State.epochAck
  rw [if_neg (by simp [hb, ho, hn])]
  dsimp only
  rw [hy, hz, hw]
  exact if_neg (by simp)

end
end

theorem State.epochAcked_old {n : Nat} (h : n ≤ s.rf TW_ACKED_EPOCH) : s.epochAcked n = s := if_pos (.inr (.inr h))

/-- An acknowledgement of a cut releases what the cut staged: x is the module with the epoch acknowledged, z with the older cuts gone. -/
theorem State.epochAcked_releases {n t : Nat} {ctrs : List (Nat × Nat)} {x y z w : State} (hr : s.rf TW_STAT_ROLE = 1) (ho : s.epochsOn = true)
    (hn : s.rf TW_ACKED_EPOCH < n) (hc : s.tw.cuts.find? (fun (x : Nat × Nat × List (Nat × Nat)) => x.1 == n) = some (n, t, ctrs))
    (hx : (s.sf TW_ACKED_EPOCH n).sf TW_ACKED_ACK_US (satN 16 ((s.now - t) / 1000)) = x) (hy : x.each ctrs (fun s x => s.setSlot x.1 (fun k => { k with acked := x.2 })) = y)
    (hz : { y with tw := { y.tw with cuts := y.tw.cuts.filter (fun (x : Nat × Nat × List (Nat × Nat)) => decide (n < x.1)) } } = z)
    (hw : z.when (!z.isSable) (fun s => s.releaseStaged (fun x => decide ((n % 65536 + 65536 - x) % 65536 < 32768))) = w) :
    s.epochAcked n = if w.isRunning then w else w.syncDone := by
  unfold State.epochAcked
  rw [if_neg (by simp [hr, ho, hn]), hc]
  dsimp only
  rw [hx, hy, hz, hw]

/-! ### The mirror (R679, R680) -/

theorem State.mirrorCommit_active {m : Mirror} {b : Nat} (h : s.isStandby = false) : s.mirrorCommit m b = s := if_pos (by simp [h])

section
variable {b : Nat} (h : s.isStandby = true)
include h

theorem State.mirrorCommit_area {key top : Nat} (hk : key < 1024) :
    s.mirrorCommit (.area key top) b = { s with ch := { s.ch with tops := Map.put s.ch.tops key (max top (Map.getD s.ch.tops key 0)) } } := by
  unfold State.mirrorCommit
  rw [if_neg (by simp [h])]
  dsimp only
  rw [if_neg (Nat.not_le.2 hk)]

theorem State.mirrorCommit_session {c : BitVec 10} {ids : List Nat} :
    s.mirrorCommit (.session c ids) b = { s with ch := { s.ch with sess := Map.put s.ch.sess c.toNat ids } } := if_neg (by simp [h])

/-- An entry of a transaction that the standby holds. -/
theorem State.mirrorCommit_entry {e : JEnt} {t : Txn} {y : State} (ht : e.txn = some t) (hk : e.kind ≠ 7)
    (hh : s.ch.txns.any (fun (x : Txn) => x.tid == e.tid) = true)
    (hy : { s with ch := { s.ch with txns := s.ch.txns.map (fun (x : Txn) => if x.tid == e.tid then t else x), jsn := e.jsn % 2 ^ 48 } } = y) :
    s.mirrorCommit (.entry e) 0 = (y.jrnPush e.kind e.tid e.txn).emit (.twin 10 (toBytes e.jsn 6)) := by
  unfold State.mirrorCommit
  rw [if_neg (by simp [h])]
  dsimp only
  rw [ht, List.range_zero, State.each_nil]
  dsimp only
  rw [if_neg hk, if_pos hh, hy]

theorem State.mirrorCommit_key {k : BitVec 12} {reg : Word} {kb prev : List Byte} :
    s.mirrorCommit (.key k reg kb prev) b = s.carryKey k.toNat reg.toNat (kb.map (·.toNat)) (prev.map (·.toNat)) := if_neg (by simp [h])

end

/-! ### Digests (R681, R682) -/

/-- A port's streak and mismatch bit after a comparison. -/
def State.digestPut (s : State) (p n : Nat) (bad : Bool) : State :=
  let x : State := { s with tw := { s.tw with streak := Map.set s.tw.streak 0 p n } }
  let y := x.sf TW_DIGEST_MISMATCH (setBit (s.rf TW_DIGEST_MISMATCH) p bad)
  y.sf TW_DIGEST_STREAK (satN 8 (y.tw.streak.foldl (fun m (e : Nat × Nat) => max m e.2) 0))

theorem State.digestCompare_known {p c k delta a d : Nat} (hb : s.isStandby = true) (hr : s.isRunning = true)
    (ha : (Map.getD s.sg.pairs p []).find? (fun (y : Nat × Nat) => y.1 == c) = some (c, a))
    (hd : (Map.getD s.sg.pairs p []).find? (fun (y : Nat × Nat) => y.1 == c - k) = some (c - k, d)) :
    s.digestCompare p c k delta = if (a + 2 ^ 64 - d) % 2 ^ 64 = delta then s.digestPut p 0 false
      else ((((s.digestPut p (Map.getD s.tw.streak p 0 + 1) true).twRec 0x1106 slate p).bump rTW_MISMATCH_CNT).when (Map.getD s.tw.streak p 0 == 0)
        (fun s => s.raise 0x343)).fitCheck := by
  unfold State.digestCompare
  dsimp only
  rw [if_neg (by simp [hb, hr]), ha, hd]
  rfl

end

section
variable {s u : State} (hp : s.powered = true)
include hp

theorem does_epochBarrier (h : s.epochBarrier = u) : Does .epochBarrier s u := does_of_run_eq (f := State.epochBarrier) hp rfl h

theorem does_epochStretch (h : s.epochStretch = u) : Does .epochStretch s u := does_of_run_eq (f := State.epochStretch) hp rfl h

theorem does_epochAcknowledge {e : Epoch} {w : Bool} (h : s.epochAck e w = u) : Does (.epochAcknowledge e w) s u :=
  does_of_run_eq (f := fun s => s.epochAck e w) hp rfl h

theorem does_epochAckReceive {n : BitVec 48} {r : BitVec 8} (h : (s.linkFrames r.toNat).epochAcked n.toNat = u) : Does (.epochAckReceive n r) s u :=
  does_of_run_eq (f := fun s => (s.linkFrames r.toNat).epochAcked n.toNat) hp rfl h

theorem does_mirrorCommit {m : Mirror} {b : Fin 4} (h : s.mirrorCommit m b.val = u) : Does (.mirrorCommit m b) s u :=
  does_of_run_eq (f := fun s => s.mirrorCommit m b.val) hp rfl h

theorem does_digestCompare {p : Fin 32} {c : Word} {k : BitVec 16} {d : Word} (h : s.digestCompare p.val c.toNat k.toNat d.toNat = u) :
    Does (.digestCompare p c k d) s u := does_of_run_eq (f := fun s => s.digestCompare p.val c.toNat k.toNat d.toNat) hp rfl h

end

/-- Settles O49: each row in the branch that the clause names. -/
theorem epochsAreSentWrittenAndReleased : Obligations.EpochsAreSentWrittenAndReleased := by
  intro s hp
  refine ⟨fun hr ho hf _ hm _ _ hc => ?_, fun h => does_epochBarrier hp (State.epochBarrier_solo h), fun ha hs hl => does_epochStretch hp (State.epochStretch_owed ha hs hl rfl),
    fun h => does_epochStretch hp (State.epochStretch_carried h), fun e => ⟨fun h w => does_epochAcknowledge hp (State.epochAck_other h), fun hb ho hn => ?_⟩,
    fun n r t ctrs => ?_, fun n r => ?_, fun h m b => does_mirrorCommit hp (State.mirrorCommit_active h), fun h => ?_, fun p c k delta a b hb hr ha hd => ?_⟩
  · obtain ⟨u, hu, hends⟩ := State.epochBarrier_ends hr ho hf hm hc
    exact ⟨u, does_epochBarrier hp hu, hends⟩
  · intro x
    have hbad := State.epochAck_broken (x := x) hb ho hn rfl
    refine ⟨fun h => does_epochAcknowledge hp (hbad.trans (if_pos h)), fun h => does_epochAcknowledge hp (hbad.trans (if_neg (ne_true_of_eq_false h))), ?_⟩
    intro y z w
    have hrun := State.epochAck_whole (y := y) (z := z) (w := w) hb ho hn rfl rfl rfl
    refine ⟨fun h => does_epochAcknowledge hp (hrun.trans ?_), fun h => does_epochAcknowledge hp (hrun.trans ?_)⟩
    · rw [if_pos h]
    · rw [if_neg (ne_true_of_eq_false h)]
  · intro v hr ho hn hc x y z w
    have hrun := State.epochAcked_releases (x := x) (y := y) (z := z) (w := w) hr ho hn hc rfl rfl rfl rfl
    exact ⟨fun h => does_epochAckReceive hp (hrun.trans (if_pos h)), fun h => does_epochAckReceive hp (hrun.trans (if_neg (ne_true_of_eq_false h)))⟩
  · intro v h
    exact does_epochAckReceive hp (State.epochAcked_old h)
  · refine ⟨fun b key top hk => does_mirrorCommit hp (State.mirrorCommit_area h hk), fun b c ids => does_mirrorCommit hp (State.mirrorCommit_session h), ?_, ?_,
      fun b k reg kb prev => does_mirrorCommit hp (State.mirrorCommit_key h)⟩
    · intro e t ht hk hh y
      exact does_mirrorCommit hp (State.mirrorCommit_entry h ht hk hh rfl)
    · intro b src op inst ps pay hv c
      exact does_mirrorCommit hp ((if_neg (by simp [h])).trans (if_neg (ne_true_of_eq_false hv)))
  · intro put
    have hrun := State.digestCompare_known (delta := delta.toNat) hb hr ha hd
    refine ⟨fun h => does_digestCompare hp (hrun.trans (if_pos h)), fun h => ?_⟩
    intro z
    refine ⟨fun h0 => does_digestCompare hp (hrun.trans ((if_neg h).trans ?_)), fun h0 => does_digestCompare hp (hrun.trans ((if_neg h).trans ?_))⟩
    · rw [beq_eq_false_iff_ne.2 h0, State.when_false]
      rfl
    · rw [beq_iff_eq.2 h0, State.when_true]
      rfl

end Sys2Proof.Machine
end

section
/-! PROOFS. The takeover of a module whose channel table names a channel beyond 1,023 (16 R685): its channel register is TW_TAKE, so that the channel registers' update overwrites
TW_TAKE.KIND. -/

namespace Sys2Proof.Machine

/-! ### What a delivery leaves in the registers (01 R35-R38, 13 R557) -/

section
variable {s : State}

theorem tnEqDrop_addr (i : Nat) : rTN_EQ_DROP.addr i = 0x7f1000303000 + 8 * i := by
  simp [Reg.addr, rTN_EQ_DROP, dimOffs, dimProd]
  omega

theorem tnEqDrop_reset (i : Nat) : rTN_EQ_DROP.resetVal i = 0 := by simp [Reg.resetVal, rTN_EQ_DROP, Rst.eval, setBits]

theorem ipEqTail_addr (i : Nat) : rIP_EQ_TAIL.addr i = 0x7f0000003d08 + 65536 * i := by
  simp [Reg.addr, rIP_EQ_TAIL, dimOffs, dimProd]
  omega

theorem ipEqStat_addr (i : Nat) : rIP_EQ_STAT.addr i = 0x7f0000003d18 + 65536 * i := by
  simp [Reg.addr, rIP_EQ_STAT, dimOffs, dimProd]
  omega

/-- A tenant's event queue has been posted to: it counts a dropped entry, or its tail is a ring position. -/
def State.queueTouched (s : State) : Prop :=
  ∃ i, i < 512 ∧ (s.reg rIP_EQ_TAIL i < 2 ^ 32 ∨ bits (s.reg rTN_EQ_DROP i) 47 0 ≠ 0 ∨ bits (s.reg rTN_EQ_DROP i) 48 48 ≠ 0)

/-- t has the registers of s but MP_EVT_DROP. -/
def State.QuietRegs (s t : State) : Prop := ∀ (r : Reg) (i : Nat), r.addr i ≠ rMP_EVT_DROP.addr 0 → t.reg r i = s.reg r i

theorem State.quietRegs_of_regs {t : State} (h : t.regs = s.regs) : s.QuietRegs t := fun r i _ => by
  unfold State.reg
  rw [h]

theorem State.queueTouched_of_regs {t : State} (h : t.regs = s.regs) (hs : s.queueTouched) : t.queueTouched := by
  obtain ⟨i, hi, hm⟩ := hs
  refine ⟨i, hi, ?_⟩
  unfold State.reg at hm ⊢
  rw [h]
  exact hm

theorem State.QuietRegs.trans {t u : State} (h : s.QuietRegs t) (k : t.QuietRegs u) : s.QuietRegs u := fun r i hr => (k r i hr).trans (h r i hr)

theorem State.QuietRegs.touched {t : State} (h : s.QuietRegs t) (hs : s.queueTouched) : t.queueTouched := by
  obtain ⟨i, hi, hm⟩ := hs
  have hdrop : rMP_EVT_DROP.addr 0 = 0x7f1000107f00 := by decide
  have e1 := h rIP_EQ_TAIL i (by rw [ipEqTail_addr, hdrop]; omega)
  have e2 := h rTN_EQ_DROP i (by rw [tnEqDrop_addr, hdrop]; omega)
  refine ⟨i, hi, ?_⟩
  rw [e1, e2]
  exact hm

/-- A counter that has just counted is not 0. -/
theorem State.bump_counts (r : Reg) (i : Nat) (hf : r.fits = true) :
    bits ((s.bump r i).reg r i) 47 0 ≠ 0 ∨ bits ((s.bump r i).reg r i) 48 48 ≠ 0 := by
  unfold State.bump
  dsimp only
  rw [State.reg_wreg_same _ _ _ _ hf, bits_mod _ _ _ _ (by decide), bits_mod _ _ _ _ (by decide)]
  by_cases hc : bits (s.reg r i) 47 0 + 1 < 2 ^ 48
  · left
    rw [bits_setBits_other _ _ _ _ _ _ (by decide) (by decide), bits_setBits_same _ _ _ _ (by decide)]
    omega
  · right
    rw [bits_setBits_same _ _ _ _ (by decide), if_neg hc]
    decide

theorem State.bump_touches {i : Nat} (hi : i < 512) : (s.bump rTN_EQ_DROP i).queueTouched := ⟨i, hi, .inr (State.bump_counts _ _ (by decide))⟩

theorem State.eqDrop_touches {i : Nat} (hi : i < 512) : (s.eqDrop i).queueTouched := State.bump_touches hi

theorem State.queueTouched_sf {f : RF} {v i : Nat} (h : s.queueTouched) (h1 : ∀ j, j < 512 → rIP_EQ_TAIL.addr j ≠ f.reg.addr i)
    (h2 : ∀ j, j < 512 → rTN_EQ_DROP.addr j ≠ f.reg.addr i) : (s.sf f v i).queueTouched := by
  obtain ⟨j, hj, hm⟩ := h
  refine ⟨j, hj, ?_⟩
  unfold State.sf
  rw [State.reg_wreg_other _ _ _ _ _ _ (h1 j hj), State.reg_wreg_other _ _ _ _ _ _ (h2 j hj)]
  exact hm

theorem ptrVal_lt (pos lg : Nat) (h : lg ≤ 31) : ptrVal pos lg < 2 ^ 32 := by
  have hlg : 2 ^ lg ≤ 2 ^ 31 := Nat.pow_le_pow_right (by decide) h
  have hq : pos % 2 ^ (lg + 1) / 2 ^ lg < 2 := Nat.div_lt_of_lt_mul (by rw [← Nat.pow_succ]; exact Nat.mod_lt _ (Nat.two_pow_pos _))
  have hr : pos % 2 ^ (lg + 1) % 2 ^ lg < 2 ^ lg := Nat.mod_lt _ (Nat.two_pow_pos _)
  unfold ptrVal
  dsimp only
  omega

/-- A post to an event queue either changes nothing or shows in the queue's registers. -/
theorem State.eqPost_shows {i entry : Nat} (hi : i < 512) : s.eqPost i (s.gen i) entry = s ∨ (s.eqPost i (s.gen i) entry).queueTouched := by
  unfold State.eqPost
  extract_lets lg tail head n a
  split
  · exact .inl rfl
  refine .inr ?_
  split
  · contradiction
  split
  · exact State.queueTouched_of_regs (State.setInst_regs ..) (State.bump_touches hi)
  split
  · exact State.eqDrop_touches hi
  split
  · refine State.queueTouched_sf (State.eqDrop_touches hi) (fun j hj => ?_) (fun j hj => ?_)
    · rw [ipEqTail_addr, show IP_EQ_STAT_ERROR.reg = rIP_EQ_STAT from rfl, ipEqStat_addr]
      omega
    · rw [tnEqDrop_addr, show IP_EQ_STAT_ERROR.reg = rIP_EQ_STAT from rfl, ipEqStat_addr]
      omega
  · next x _ _ =>
    have hx : (x.wreg rIP_EQ_TAIL i (ptrVal (tail + 1) lg)).queueTouched := by
      refine ⟨i, hi, .inl ?_⟩
      rw [State.reg_wreg_same _ _ _ _ (by decide)]
      exact (Nat.mod_le _ _).trans_lt (ptrVal_lt _ _ (Nat.le_of_lt_succ (bits_lt _ 4 0)))
    dsimp only
    split
    · exact State.queueTouched_of_regs (State.setVc_regs ..) hx
    · exact hx

theorem State.msixSend_regs (v : Nat) : (s.msixSend v).regs = s.regs := by
  unfold State.msixSend
  split
  · rfl
  · split <;> rfl

theorem State.incSat_quiet : s.QuietRegs (s.incSat MP_EVT_DROP_COUNT) := fun _ _ h => State.reg_wreg_other _ _ _ _ _ _ h

/-- A delivery either shows in a tenant's event queue or leaves all registers but MP_EVT_DROP. -/
theorem State.deliverOne_shows (n : Nat) : s.QuietRegs (s.deliverOne n) ∨ (s.deliverOne n).queueTouched := by
  unfold State.deliverOne
  extract_lets vec eq i okq t
  have ht : s.QuietRegs t := State.quietRegs_of_regs (by unfold t; split; exacts [State.msixSend_regs _, rfl])
  have hi : i < 512 := bits_lt _ 40 32
  clear_value t
  split
  · split
    · rcases State.eqPost_shows (s := t) (entry := t.eqEntry i 0x10 n 0) hi with h | h
      · exact .inl (by rw [State.eqNotice, h]; exact ht)
      · exact .inr h
    · exact .inl (ht.trans State.incSat_quiet)
  · split
    · exact .inl ht
    · exact .inl (ht.trans State.incSat_quiet)

theorem State.deliverRound_shows : s.QuietRegs s.deliverRound ∨ s.deliverRound.queueTouched := by
  refine foldl_keeps (fun (x : State) => s.QuietRegs x ∨ x.queueTouched) _ s.raised _ (.inl (State.quietRegs_of_regs rfl)) (fun x n hx _ => ?_)
  rcases State.deliverOne_shows (s := x) n with h | h
  · exact hx.imp (fun k => k.trans h) (fun k => h.touched k)
  · exact .inr h

/-- Where a settled state shows no post to an event queue, the settled effect had its registers. -/
theorem State.settle_quiet {q : List Instr} (h : ¬ (s.settle q).queueTouched) : s.QuietRegs (s.settle q) := by
  have h2 : ¬ s.deliverRound.deliverRound.queueTouched := h
  have hb := (State.deliverRound_shows (s := s.deliverRound)).resolve_right h2
  exact (((State.deliverRound_shows (s := s)).resolve_right (fun k => h2 (hb.touched k))).trans hb).trans (State.quietRegs_of_regs rfl)

end

/-! ### The takeover -/

theorem Map.find_none_of_ne {α : Type} {m : Map α} {k : Nat} (h : ∀ e ∈ m, e.1 ≠ k) : Map.find m k = none := by
  induction m with
  | nil => rfl
  | cons e r ih => exact (if_neg (h e (by simp))).trans (ih (fun x hx => h x (by simp [hx])))

/-- Tails of the event queues that are no ring positions, as register values. -/
def oddTails : Map Word := (List.range 512).map (fun i => (rIP_EQ_TAIL.addr i, (0x8000000000000000 : Word)))

/-- A standby that may take over, with channel 1175558 in its channel table and a reserved bit of TW_TAKE set. The processors' registers stand listed. -/
def takeover1175558 : State :=
  { State.reset with
    regs := (List.range 16).map (fun n => (rCH_PROC_STAT.addr n, BitVec.ofNat 64 (n + 1024))) ++ [(rTW_STAT.addr 0, (0x2800000000000000 : Word)), (rTW_TAKE.addr 0, (0x1000000000000000 : Word))] ++ oddTails
    ch := { State.reset.ch with defs := [(1175558, 0)] }
    tw := { State.reset.tw with peerYield := true } }

/-- What TAKEOVER leaves of it. -/
@[irreducible] def takenOver : State := (takeover1175558.takeover false 0).chSync.settle takeover1175558.pending

/-- Whether an address lies in no tenant's page and is no TN_EQ_DROP. -/
def offQueues (a : Nat) : Bool := decide (0x7f1000000000 ≤ a) && (decide (a < 0x7f1000303000) || decide (0x7f1000304000 ≤ a))

theorem takenOver_regs : takenOver.rf TW_TAKE_KIND = 0 ∧ takenOver.regs.filter (fun e => !offQueues e.1) = oddTails := by decide +kernel

theorem oddTails_find : ((List.range 512).all fun i => Map.find oddTails (rIP_EQ_TAIL.addr i) == some 0x8000000000000000) = true := by decide +kernel

theorem takenOver_find {a : Nat} (h : offQueues a = false) : Map.find takenOver.regs a = Map.find oddTails a := by
  have hf := Map.find_filter_key (fun a => !offQueues a) takenOver.regs a
  rw [takenOver_regs.2, h] at hf
  exact hf.symm

theorem State.reg_of_find {s : State} {r : Reg} {i : Nat} {v : Word} (h : Map.find s.regs (r.addr i) = some v) : s.reg r i = v.toNat := by
  unfold State.reg
  rw [h]

theorem State.reg_of_unlisted {s : State} {r : Reg} {i : Nat} (h : Map.find s.regs (r.addr i) = none) : s.reg r i = r.resetVal i := by
  unfold State.reg
  rw [h]

theorem oddTails_tail {i : Nat} (hi : i < 512) : Map.find oddTails (rIP_EQ_TAIL.addr i) = some 0x8000000000000000 :=
  beq_iff_eq.1 (List.all_eq_true.1 oddTails_find i (List.mem_range.2 hi))

theorem oddTails_drop (i : Nat) : Map.find oddTails (rTN_EQ_DROP.addr i) = none := by
  refine Map.find_none_of_ne (fun e he => ?_)
  obtain ⟨j, hj, rfl⟩ := List.mem_map.1 he
  have := List.mem_range.1 hj
  rw [tnEqDrop_addr, ipEqTail_addr]
  omega

theorem takenOver_tail {i : Nat} (hi : i < 512) : takenOver.reg rIP_EQ_TAIL i = 0x8000000000000000 := by
  have hoff : offQueues (rIP_EQ_TAIL.addr i) = false := by
    rw [ipEqTail_addr]
    simp only [offQueues, Bool.and_eq_false_iff, decide_eq_false_iff_not]
    omega
  exact State.reg_of_find ((takenOver_find hoff).trans (oddTails_tail hi))

theorem takenOver_drop {i : Nat} (hi : i < 512) : takenOver.reg rTN_EQ_DROP i = 0 := by
  have hoff : offQueues (rTN_EQ_DROP.addr i) = false := by
    rw [tnEqDrop_addr]
    simp only [offQueues, Bool.and_eq_false_iff, Bool.or_eq_false_iff, decide_eq_false_iff_not]
    omega
  exact (State.reg_of_unlisted ((takenOver_find hoff).trans (oddTails_drop i))).trans (tnEqDrop_reset i)

theorem takenOver_quiet : ¬ takenOver.queueTouched := by
  rintro ⟨i, hi, hm⟩
  rw [takenOver_tail hi, takenOver_drop hi] at hm
  exact absurd hm (by decide)

/-- Every effect that settles to that state has TW_TAKE.KIND = 0. -/
theorem takeKind_of_settle {u : State} {q : List Instr} (h : u.settle q = takenOver) : u.rf TW_TAKE_KIND = 0 := by
  have hquiet := State.settle_quiet (s := u) (q := q) (fun k => takenOver_quiet (h ▸ k)) rTW_TAKE 0 (by decide)
  rw [h] at hquiet
  exact (congrArg (fun v => bits v 63 61) hquiet).symm.trans takenOver_regs.1

theorem takenOver_eq : takenOver = (takeover1175558.takeover false 0).chSync.settle takeover1175558.pending := by
  unfold takenOver
  rfl

/-- Refutes O50: the statement puts no bound on the channels of a module's table (11 has 1,024), and the register of channel 1175558 is TW_TAKE; the takeover of a standby that holds
such a channel ends with TW_TAKE.KIND = 0, where the last clause says 1. -/
theorem not_pairsFormSwitchAndTakeOver : ¬ Obligations.PairsFormSwitchAndTakeOver := by
  intro h
  obtain ⟨-, -, -, -, -, -, -, -, -, -, -, -, htake⟩ := h takeover1175558 (by decide +kernel)
  obtain ⟨u, hu, -, -, -, -, hkind, -⟩ := htake 0 (by decide +kernel) (by decide +kernel) (by decide +kernel) (by decide +kernel) (by decide +kernel) (by decide +kernel)
    (by decide +kernel) (by decide +kernel)
  have hv : Does (.takeover false 0) takeover1175558 (takeover1175558.takeover false 0).chSync :=
    does_of_runCh_eq (f := fun s => s.takeover false 0) (by decide +kernel) rfl rfl
  exact absurd hkind (by rw [takeKind_of_settle ((hu.settle_eq hv).trans takenOver_eq.symm)]; decide)

end Sys2Proof.Machine
end

section
/-! PROOFS. A debug token of LEVEL 0 (17 R726, R727) while debug is off: the level does not change, so no event is raised. -/

namespace Sys2Proof.Machine

theorem does_dbgAuthToken {s u : State} {t : List Byte} (hp : s.powered = true) (h : s.dbgToken (byteNats t) = u) : Does (.dbgAuthToken t) s u :=
  does_of_run_eq (f := fun s => s.dbgToken (byteNats t)) hp rfl h

/-- A token of LEVEL 0 with no other content. -/
def offToken : List Byte := List.replicate 224 0

/-- Refutes O51: the clause for LEVEL 0 raises event 0x3E2 always, and the model only where the level changes, as 17 says of that event (a grant, a change of level, a rejected token). On the reset state, where it
is 0, the stated effect counts one undelivered event more. -/
theorem not_vaultReportsGranulesAndTokens : ¬ Obligations.VaultReportsGranulesAndTokens := by
  intro h
  obtain ⟨-, -, -, -, -, -, -, htoken⟩ := h State.reset rfl
  obtain ⟨hstated, -, -⟩ := htoken offToken (by decide +kernel) rfl
  have hreal : Does (.dbgAuthToken offToken) State.reset _ := does_dbgAuthToken rfl rfl
  have hdrop := congrArg (fun x => State.rf x MP_EVT_DROP_COUNT) ((hstated (by decide +kernel)).settle_eq hreal)
  exact absurd hdrop (by decide +kernel)

end Sys2Proof.Machine
end

section
/-! PROOFS. Boot and staging (17 R717, R720, R723). -/

namespace Sys2Proof.Machine

/-! ### Boot (R717-R722) -/

/-- The boot slots as the flash answers. -/
def State.spiRead (s : State) (env : BootEnv) : State :=
  match env.spi with
  | some (a, b) => { s with vt := { s.vt with slotA := a, slotB := b } }
  | none => s

/-- Step 7 of a boot: the Journal, unless a Sable fault is kept. -/
def State.bootReplay (s : State) (env : BootEnv) (finds : List JrnFinding) : State :=
  if s.isSable then s else (s.sf VT_BOOT_STEP 7).bootJournal env finds

/-- Step 8 of a boot: Sable, or READY under the sections a and p. -/
def State.bootEnd (s : State) (a : Section) (p : Option Section) : State :=
  if s.isSable then s.bootTo 3 0
  else
    let r := ((s.bootTo 1 0).sf MP_STAT_STATE 0).svnCommit a p
    (r.when (r.tw.strap && !r.peerRecent) (fun s => { s with tw := { s.tw with train := true } })).fltSync.chSync

/-- Steps 5 to 8 of a boot, the DIMMs' population known. -/
def State.bootOn (s : State) (env : BootEnv) (finds : List JrnFinding) (pop : Population) (a : Section) (p : Option Section) : State :=
  let s := s.bootMemory env pop
  if 2 < s.notUp || !env.hbm then s.bootTo 2 0x0C
  else (((((s.bootCores env).bootIsles.bootLinks env).sf VT_BOOT_STEP 6).keepRetired.bootReplay env finds).sf VT_BOOT_STEP 8).bootEnd a p

/-- A boot after its flash is read. -/
def State.bootFrom (s : State) (env : BootEnv) (finds : List JrnFinding) : State :=
  if !env.vaultOk then ((s.sf VT_STAT_INTEGRITY 0).report { org := org 0x14 0, cause := 0x1401, cls := sable }).bootTo 2 0x0A
  else if s.rf VT_STAT_LIFECYCLE = 0 then s.bootTo 2 8
  else if s.rf VT_STAT_LIFECYCLE ≠ 1 then s.bootTo 2 9
  else if s.rf VT_BOOT_BOOT_SRC = 3 then (s.sf VT_BOOT_STEP 1).bootTo 4 0
  else match s.pickSlot with
    | .error (e, fb) =>
      (((s.sf VT_BOOT_STEP (if e = 7 then 3 else 1)).sb VT_BOOT_FALLBACK fb).when (e == 7) (fun s => (s.sf VT_STAT_PATCH_LOCKED 1).sf KC_UCODE_ID_LOCKED 1)).bootTo 2 e
    | .ok (slot, fb, a, p) =>
      let s := ((s.useSections slot fb a p).bootStaging env.stage).sf VT_BOOT_STEP 4
      match sharedPop env.dimms with
      | none => s.bootTo 2 0x0B
      | some pop => s.bootOn env finds pop a p

section
variable {s : State} {env : BootEnv} {finds : List JrnFinding}

theorem State.boot_booted (h : s.rf VT_BOOT_STATE ≠ 0) : s.boot env finds = s := if_pos h

/-- A boot reads its flash and goes on from there. -/
theorem State.boot_reads {y : State} (h0 : s.rf VT_BOOT_STATE = 0) (hy : (s.spiRead env).sf VT_BOOT_ELAPSED_MS env.elapsedMs.toNat = y) :
    s.boot env finds = y.bootFrom env finds := by
  unfold State.spiRead at hy
  unfold State.boot
  rw [if_neg (not_not.2 h0)]
  have hspi : env.spi = none ∨ ∃ a b, env.spi = some (a, b) := by rcases env.spi with _ | ⟨a, b⟩ <;> simp
  rcases hspi with hs | ⟨a, b, hs⟩
  · rw [hs] at hy
    simp -zeta only [hs]
    extract_lets +onlyGivenNames x y' step
    have hyy : y' = y := hy
    rw [hyy]
    rfl
  · obtain ⟨x, hx⟩ : ∃ x : State, { s with vt := { s.vt with slotA := a, slotB := b } } = x := ⟨_, rfl⟩
    rw [hs] at hy
    simp only [hx] at hy
    simp -zeta only [hs]
    rw [hx]
    extract_lets +onlyGivenNames x' y' step
    have hyy : y' = y := hy
    rw [hyy]
    rfl

theorem State.bootFrom_vaultDown (hv : env.vaultOk = false) :
    s.bootFrom env finds = ((s.sf VT_STAT_INTEGRITY 0).report { org := org 0x14 0, cause := 0x1401, cls := sable }).bootTo 2 0x0A := if_pos (by simp [hv])

section
variable (hv : env.vaultOk = true)
include hv

theorem State.bootFrom_virgin (hl : s.rf VT_STAT_LIFECYCLE = 0) : s.bootFrom env finds = s.bootTo 2 8 := (if_neg (by simp [hv])).trans (if_pos hl)

theorem State.bootFrom_retired (h0 : s.rf VT_STAT_LIFECYCLE ≠ 0) (h1 : s.rf VT_STAT_LIFECYCLE ≠ 1) : s.bootFrom env finds = s.bootTo 2 9 :=
  (if_neg (by simp [hv])).trans ((if_neg h0).trans (if_pos h1))

section
variable (hl : s.rf VT_STAT_LIFECYCLE = 1)
include hl

theorem State.bootFrom_maintenance (hb : s.rf VT_BOOT_BOOT_SRC = 3) : s.bootFrom env finds = (s.sf VT_BOOT_STEP 1).bootTo 4 0 :=
  (if_neg (by simp [hv])).trans ((if_neg (by simp [hl])).trans ((if_neg (by simp [hl])).trans (if_pos hb)))

section
variable (hb : s.rf VT_BOOT_BOOT_SRC ≠ 3)
include hb

theorem State.bootFrom_noSlot {e : Nat} {fb : Bool} (hk : s.pickSlot = .error (e, fb)) :
    s.bootFrom env finds = (((s.sf VT_BOOT_STEP (if e = 7 then 3 else 1)).sb VT_BOOT_FALLBACK fb).when (e == 7)
      (fun s => (s.sf VT_STAT_PATCH_LOCKED 1).sf KC_UCODE_ID_LOCKED 1)).bootTo 2 e := by
  unfold State.bootFrom
  rw [if_neg (by simp [hv]), if_neg (by simp [hl]), if_neg (by simp [hl]), if_neg hb, hk]

section
variable {slot : Nat} {fb : Bool} {a : Section} {p : Option Section} {z : State} (hk : s.pickSlot = .ok (slot, fb, a, p))
  (hz : ((s.useSections slot fb a p).bootStaging env.stage).sf VT_BOOT_STEP 4 = z)
include hk hz

theorem State.bootFrom_noPopulation (hp : sharedPop env.dimms = none) : s.bootFrom env finds = z.bootTo 2 0x0B := by
  unfold State.bootFrom
  rw [if_neg (by simp [hv]), if_neg (by simp [hl]), if_neg (by simp [hl]), if_neg hb, hk]
  dsimp only
  rw [hp, hz]

theorem State.bootFrom_population {pop : Population} (hp : sharedPop env.dimms = some pop) : s.bootFrom env finds = z.bootOn env finds pop a p := by
  unfold State.bootFrom
  rw [if_neg (by simp [hv]), if_neg (by simp [hl]), if_neg (by simp [hl]), if_neg hb, hk]
  dsimp only
  rw [hp, hz]

end
end
end
end

section
variable {pop : Population} {a : Section} {p : Option Section} {x : State} (hx : s.bootMemory env pop = x)
include hx

theorem State.bootOn_noMemory (h : 2 < x.notUp ∨ env.hbm = false) : s.bootOn env finds pop a p = x.bootTo 2 0x0C := by
  unfold State.bootOn
  rw [hx]
  exact if_pos (by simpa using h)

theorem State.bootOn_memory {w v : State} (hn : x.notUp ≤ 2) (hh : env.hbm = true) (hw : (((x.bootCores env).bootIsles.bootLinks env).sf VT_BOOT_STEP 6).keepRetired = w)
    (hv : (w.bootReplay env finds).sf VT_BOOT_STEP 8 = v) : s.bootOn env finds pop a p = v.bootEnd a p := by
  unfold State.bootOn
  rw [hx]
  refine (if_neg (by simp [hn, hh])).trans ?_
  rw [hw, hv]

end

theorem State.bootEnd_sable {a : Section} {p : Option Section} (h : s.isSable = true) : s.bootEnd a p = s.bootTo 3 0 := if_pos h

theorem State.bootEnd_ready {a : Section} {p : Option Section} {r : State} (h : s.isSable = false) (hr : ((s.bootTo 1 0).sf MP_STAT_STATE 0).svnCommit a p = r) :
    s.bootEnd a p = (r.when (r.tw.strap && !r.peerRecent) (fun s => { s with tw := { s.tw with train := true } })).fltSync.chSync := by
  subst hr
  exact if_neg (ne_true_of_eq_false h)

end

/-! ### Staging (R723) -/

section
variable {s : State} {c : Cmd}

theorem State.stageBegin_bad (h : (c.p 0 % 16 ≠ 1 ∧ c.p 0 % 16 ≠ 2) ∨ c.p 3 = 0 ∨ (if c.p 0 % 16 = 1 then 2 ^ 24 else 65536) < c.p 3) :
    s.stageBegin c = s.finish c stBAD_PARAM := if_pos h

section
variable (himg : c.p 0 % 16 = 1) (h0 : 0 < c.p 3) (hlen : c.p 3 ≤ 2 ^ 24)
include himg h0 hlen

theorem stage_fits : ¬ ((c.p 0 % 16 ≠ 1 ∧ c.p 0 % 16 ≠ 2) ∨ c.p 3 = 0 ∨ (if c.p 0 % 16 = 1 then 2 ^ 24 else 65536) < c.p 3) := by
  rw [if_pos himg]
  omega

theorem State.stageBegin_busy (hb : s.rb VT_STAGE_BUSY = true) : s.stageBegin c = s.finish c stDENIED := (if_neg (stage_fits himg h0 hlen)).trans (if_pos hb)

/-- The module as the staging of an image begins: the target's header erased. -/
def State.stageOpened (s : State) (t img : Nat) : State :=
  let x := (s.sf VT_STAGE_BUSY 1).sf VT_STAGE_IMAGE img
  let y := x.setFlash t (List.replicate 4096 0 ++ (x.flash t).drop 4096)
  { y with vt := { y.vt with staged := [] } }

theorem State.stageBegin_opens (hb : s.rb VT_STAGE_BUSY = false) :
    ∃ l, s.stageBegin c = (s.stageOpened (s.rf VT_STAGE_TARGET) (c.p 0 % 16)).longPhase c 2 (c.p 3) l := by
  unfold State.stageBegin
  dsimp only
  rw [if_neg (stage_fits himg h0 hlen), if_neg (ne_true_of_eq_false hb), if_pos himg]
  exact ⟨_, rfl⟩

end

theorem State.flash_of_vt {t : State} (h : t.vt = s.vt) (k : Nat) : t.flash k = s.flash k := by
  unfold State.flash
  rw [h]

theorem State.setFlash_regs (t : Nat) (l : List (BitVec 8)) : (s.setFlash t l).regs = s.regs := by
  unfold State.setFlash
  split <;> rfl

theorem State.flash_setFlash (t : Nat) (l : List (BitVec 8)) : (s.setFlash t l).flash t = l := by
  unfold State.setFlash State.flash
  by_cases h : t = 0
  · rw [if_pos h, if_pos h]
  · rw [if_neg h, if_neg h]

/-- The other slot keeps its image. -/
theorem State.flash_setFlash_other (t : Nat) (l : List (BitVec 8)) : (s.setFlash t l).flash (1 - t) = s.flash (1 - t) := by
  unfold State.setFlash State.flash
  by_cases h : t = 0
  · subst h
    rfl
  · rw [if_neg h, show 1 - t = 0 by omega]
    rfl

theorem State.stageOpened_ends (t img : Nat) :
    (s.stageOpened t img).vt.staged = [] ∧ (s.stageOpened t img).rf VT_STAGE_BUSY = 1 ∧
      (s.stageOpened t img).flash t = List.replicate 4096 0 ++ (s.flash t).drop 4096 ∧ (s.stageOpened t img).flash (1 - t) = s.flash (1 - t) := by
  have hvt : ((s.sf VT_STAGE_BUSY 1).sf VT_STAGE_IMAGE img).vt = s.vt := by rw [State.sf_vt, State.sf_vt]
  refine ⟨rfl, ?_, ?_, ?_⟩
  · refine (State.rf_of_regs (State.setFlash_regs ..) _ _).trans ?_
    rw [State.rf_sf_field _ VT_STAGE_IMAGE VT_STAGE_BUSY _ _ (by decide) rfl (by decide) (by decide) (by decide), State.rf_sf_same _ _ _ _ (by decide) (by decide) (by decide)]
    decide
  · refine (State.flash_setFlash ..).trans ?_
    rw [State.flash_of_vt hvt]
  · exact (State.flash_setFlash_other ..).trans (State.flash_of_vt hvt _)

/-! ### Blocks -/

theorem State.mpSync_vt : s.mpSync.vt = s.vt := by
  unfold State.mpSync
  simp

theorem State.longPos_vt (n : Nat) : (s.longPos c n).vt = s.vt := State.mpSync_vt

section
variable {block : Option (List (BitVec 8))} {ok : Bool}

theorem State.stageNext_cancelled (hc : c.lop.cancel = true) : s.stageNext c block ok = s.stageEnd c stCANCELLED 9 := if_pos hc

section
variable (hc : c.lop.cancel = false)
include hc

theorem State.stageNext_noBlock : s.stageNext c none ok = s.stageEnd c stFAULTED 7 := if_neg (ne_true_of_eq_false hc)

theorem State.stageNext_flashDown {b : List (BitVec 8)} : s.stageNext c (some b) false = s.stageEnd c stFAULTED 8 :=
  (if_neg (ne_true_of_eq_false hc)).trans (if_pos rfl)

/-- A whole block that is not the last. -/
theorem State.stageNext_block {b : List (BitVec 8)} {y : State} (hb : b.length = 65536) (hn : s.vt.staged.length + 65536 < c.lop.total)
    (hy : { s with vt := { s.vt with staged := s.vt.staged ++ b } } = y) : s.stageNext c (some b) true = y.longPos c y.vt.staged.length := by
  have hlen : y.vt.staged.length = s.vt.staged.length + 65536 := by rw [← hy, List.length_append, hb]
  refine (if_neg (ne_true_of_eq_false hc)).trans ((if_neg (by simp)).trans ?_)
  extract_lets +onlyGivenNames want b' src y' z
  have hwant : want = 65536 := by unfold want; omega
  have hb' : b' = b := by
    unfold b'
    rw [hwant, List.take_of_length_le (le_of_eq hb)]
  have hpad : s.vt.staged ++ b' ++ List.replicate (want - b'.length) 0 = s.vt.staged ++ b := by
    rw [hb', hwant, hb, Nat.sub_self, List.replicate_zero, List.append_nil]
  have hy' : y' = y := by
    unfold y'
    rw [hpad, ← hy]
  have hz : z = y.longPos c y.vt.staged.length := by
    unfold z
    rw [hy']
  have hmore : ¬ c.lop.total ≤ z.vt.staged.length := by
    rw [hz, State.longPos_vt, hlen]
    omega
  exact (if_neg hmore).trans hz

end
end
end

section
variable {s u : State} (hp : s.powered = true)
include hp

theorem does_boot {env : BootEnv} {finds : List JrnFinding} (h : s.boot env finds = u) : Does (.boot env finds) s u.chSync :=
  does_of_runCh_eq (f := fun s => s.boot env finds) hp rfl h

theorem does_fwStage {block : Option (List Byte)} {ok : Bool} (h : s.onLong 0x0A01 State.stageBegin (fun s c => s.stageNext c block ok) = u) :
    Does (.fwStage block ok) s u := does_of_run_eq (f := fun s => s.onLong 0x0A01 State.stageBegin (fun s c => s.stageNext c block ok)) hp rfl h

end

/-- Settles O52: each row in the branch that the clause names. -/
theorem bootStopsByCodeAndStagingTakesBlocks : Obligations.BootStopsByCodeAndStagingTakesBlocks := by
  intro s hp
  refine ⟨fun env finds h => does_boot hp (State.boot_booted h), fun env finds h0 => ?_, fun c blk ok hc => ?_, fun e b hs hf => ?_⟩
  · intro x y step
    have hx : s.spiRead env = x := by
      show s.spiRead env = match env.spi with | some (a, b) => { s with vt := { s.vt with slotA := a, slotB := b } } | none => s
      unfold State.spiRead
      cases env.spi <;> rfl
    have hrun : s.boot env finds = y.bootFrom env finds := State.boot_reads h0 (by rw [hx])
    clear_value y
    refine ⟨fun hv => does_boot hp (hrun.trans (State.bootFrom_vaultDown hv)), fun hv hl => does_boot hp (hrun.trans (State.bootFrom_virgin hv hl)),
      fun hv h0 h1 => does_boot hp (hrun.trans (State.bootFrom_retired hv h0 h1)), fun hv hl hb => does_boot hp (hrun.trans (State.bootFrom_maintenance hv hl hb)),
      fun hv hl hb => ?_⟩
    rcases hk : y.pickSlot with ⟨e, fb⟩ | ⟨slot, fb, a, p⟩
    · exact does_boot hp (hrun.trans (State.bootFrom_noSlot hv hl hb hk))
    · dsimp -zeta only
      intro z
      refine ⟨fun hn => does_boot hp (hrun.trans (State.bootFrom_noPopulation hv hl hb hk rfl hn)), fun pop hn hm => ?_, fun pop hn hm hh => ?_⟩
      · exact does_boot hp (hrun.trans ((State.bootFrom_population hv hl hb hk rfl hn).trans (State.bootOn_noMemory rfl hm)))
      · intro w v r
        have hv : s.boot env finds = v.bootEnd a p :=
          hrun.trans ((State.bootFrom_population hv hl hb hk rfl hn).trans (State.bootOn_memory (w := w) (v := v) rfl hm hh rfl rfl))
        clear_value v
        refine ⟨fun hs => does_boot hp (hv.trans (State.bootEnd_sable hs)), fun hs ht => does_boot hp (hv.trans ((State.bootEnd_ready hs rfl).trans ?_)),
          fun hs ht => does_boot hp (hv.trans ((State.bootEnd_ready hs rfl).trans ?_))⟩
        · rw [ht, State.when_false]
        · rw [ht, State.when_true]
  · intro img t
    have hbegin {u : State} (h : s.stageBegin c = u) : Does (.fwStage blk ok) s u := does_fwStage hp ((State.onLong_starts hc _ _).trans h)
    refine ⟨fun h => hbegin (State.stageBegin_bad h), fun hi h0 hl hb => hbegin (State.stageBegin_busy hi h0 hl hb), fun hi h0 hl hb => ?_⟩
    obtain ⟨l, hrun⟩ := State.stageBegin_opens hi h0 hl hb
    exact ⟨_, l, hbegin hrun, State.stageOpened_ends _ _⟩
  · intro c
    have hnext {block : Option (List Byte)} {ok : Bool} {u : State} (h : s.stageNext c block ok = u) : Does (.fwStage block ok) s u :=
      does_fwStage hp ((State.onLong_next hs hf _ _).trans h)
    exact ⟨fun hc blk ok => hnext (State.stageNext_cancelled hc), fun hc ok => hnext (State.stageNext_noBlock hc), fun hc => hnext (State.stageNext_flashDown hc),
      fun hc hb hn => hnext (State.stageNext_block hc hb hn rfl)⟩

end Sys2Proof.Machine
end

section
/-! PROOFS. Power states of cores, declarations and reports (18 R744-R747, R763, R765, 14 R605). -/

namespace Sys2Proof.Machine

section
variable {s : State}

/-! ### Sleeping and waking (R746) -/

theorem State.enterPower_enters {c p : Nat} (h : s.coreIdle c = true ∧ p ≤ s.coreLimit c ∧ s.rf KC_PCS_POWER c < p) : s.enterPower c p = s.setPower c p := by
  obtain ⟨hi, hl, hd⟩ := h
  exact if_pos (by simp [hi, hl, hd])

theorem State.enterPower_stays {c p : Nat} (h : ¬ (s.coreIdle c = true ∧ p ≤ s.coreLimit c ∧ s.rf KC_PCS_POWER c < p)) : s.enterPower c p = s :=
  if_neg (by simpa [and_assoc] using h)

theorem State.wakeCore_active {c : Nat} (hr : s.rf KC_PCS_ROLE c = 0) : s.wakeCore c = s.setPower c 0 := if_pos hr

theorem State.coreWake_wakes {c : Nat} (hr : s.rf KC_PCS_ROLE c = 0) (h : ∃ e, e < 64 ∧ s.runnable c e = true) : s.coreWake c = s.setPower c 0 := by
  obtain ⟨e, he, hrun⟩ := h
  exact (if_pos (List.any_eq_true.2 ⟨e, List.mem_range.2 he, hrun⟩)).trans (State.wakeCore_active hr)

theorem State.coreWake_sleeps {c : Nat} (h : ∀ e, e < 64 → s.runnable c e = false) : s.coreWake c = s :=
  if_neg (ne_true_of_eq_false (List.any_eq_false.2 fun e he => ne_true_of_eq_false (h e (List.mem_range.1 he))))

theorem State.timerWake_due {c e i v : Nat} (hr : s.rf KC_PCS_ROLE c = 0) (he : e < 64) (hd : s.disp c e = some (i, v)) (hv : s.vcRuns i v = true)
    (hw : (s.vc (vkey i v)).wfi = true) (ht : bit ((s.vc (vkey i v)).getCr 0x10) 0 = true)
    (hn : (s.vc (vkey i v)).getCr 0x12 ≤ s.now + wakeLat (s.rf KC_PCS_POWER c)) : s.timerWake c = s.setPower c 0 := by
  refine (if_pos (List.any_eq_true.2 ⟨e, List.mem_range.2 he, ?_⟩)).trans (State.wakeCore_active hr)
  rw [hd]
  simp [hv, hw, ht, hn]

theorem State.timerWake_empty {c : Nat} (h : ∀ e, e < 64 → s.disp c e = none) : s.timerWake c = s := by
  refine if_neg (ne_true_of_eq_false (List.any_eq_false.2 fun e he => ?_))
  rw [h e (List.mem_range.1 he)]
  exact Bool.false_ne_true

/-! ### Declarations and queries (R747, R605) -/

variable {c : Cmd}

section
variable (hw : s.wrongWorld c = false) (h0 : s.ist c.inst ≠ 0) (h8 : s.ist c.inst ≠ 8)
include hw h0 h8

theorem State.latencySet_admitted : ¬ (s.wrongWorld c || s.ist c.inst == 0 || s.ist c.inst == 8) = true := by simp [hw, h0, h8]

theorem State.doLatencySet_scope (hs : c.p 0 ≠ 0x80) (hn : s.rf TN_INST_VCORES c.inst < c.p 0) : s.doLatencySet c = s.finish c stBAD_PARAM :=
  (if_neg (State.latencySet_admitted hw h0 h8)).trans (if_pos ⟨hs, hn⟩)

theorem State.doLatencySet_memory {y : State} (hs : c.p 0 = 0x80)
    (hy : (s.mirrorCmd c).setInst c.inst (fun x => { x with decl := Map.put x.decl 0x80 (c.p 1) }) = y) :
    s.doLatencySet c = y.finish c stOK [if 3000 ≤ c.p 1 then 1 else 0] := by
  unfold State.doLatencySet
  dsimp only
  rw [if_neg (State.latencySet_admitted hw h0 h8), if_neg fun h => h.1 hs, if_pos hs, hs, if_neg (by decide), ← hy]
  rfl

end

theorem State.doPowerQuery_power (h0 : c.p 0 = 0) (hs : c.sender = 0) : s.doPowerQuery c = s.finish c stOK [s.rf IS_STAT_POWER_MW] := by
  refine (if_neg fun h => h.2 hs).trans ?_
  simp only [h0]

theorem State.doPowerQuery_core (h2 : c.p 0 = 2) (hs : c.sender = 0) : s.doPowerQuery c = s.finish c stOK [s.rf KC_PCS_POWER (c.p 1)] := by
  refine (if_neg fun h => h.2 hs).trans ?_
  simp only [h2]

theorem State.doPowerQuery_reserved (h2 : 2 < c.p 0) : s.doPowerQuery c = s.finish c stBAD_PARAM := by
  obtain ⟨n, hn⟩ : ∃ n, c.p 0 = n + 3 := ⟨c.p 0 - 3, by omega⟩
  refine (if_neg (by omega)).trans ?_
  simp only [hn]

/-! ### Health reports and snapshots (R763, R765) -/

theorem State.length_isleRecord (i : Nat) : (s.isleRecord i).length = 16 := by simp [State.isleRecord]

theorem State.length_isleRecords : ((List.range 167).flatMap (fun i => s.isleRecord i)).length = 2672 := by
  rw [List.length_flatMap, List.map_congr_left fun i _ => State.length_isleRecord i, List.map_const', List.sum_replicate, List.length_range]
  decide

theorem State.doHealthQuery_islands {y : State} (h1 : c.p 0 = 1) (hl : 2672 ≤ c.p 3)
    (hy : s.bufWrite c (c.p64 1) ((List.range 167).flatMap (fun i => s.isleRecord i)) = (y, true)) : s.doHealthQuery c = y.finish c stOK [2672] := by
  have hr : s.healthReport 1 = (s, some ((List.range 167).flatMap (fun i => s.isleRecord i))) := rfl
  unfold State.doHealthQuery
  rw [h1, hr]
  dsimp only
  rw [State.length_isleRecords, if_neg (by omega), hy]

theorem State.doHealthQuery_reserved (h0 : c.p 0 = 0) : s.doHealthQuery c = s.finish c stBAD_PARAM [0] := by
  unfold State.doHealthQuery
  rw [h0]
  rfl

end

section
variable {s u : State} (hp : s.powered = true)
include hp

section
variable {k : Fin 64}

theorem does_coreWake (h : s.coreWake k.val = u) : Does (.coreWake k) s u := does_of_run_eq (f := fun s => s.coreWake k.val) hp rfl h
theorem does_timerWake (h : s.timerWake k.val = u) : Does (.timerWake k) s u := does_of_run_eq (f := fun s => s.timerWake k.val) hp rfl h
theorem does_idleGate (h : s.enterPower k.val 1 = u) : Does (.idleGate k) s u := does_of_run_eq (f := fun s => s.enterPower k.val 1) hp rfl h
theorem does_napEntry (h : s.enterPower k.val 2 = u) : Does (.napEntry k) s u := does_of_run_eq (f := fun s => s.enterPower k.val 2) hp rfl h
theorem does_darkEntry (h : s.enterPower k.val 3 = u) : Does (.darkEntry k) s u := does_of_run_eq (f := fun s => s.enterPower k.val 3) hp rfl h

end

variable {c : Cmd}

theorem does_latencySet (hc : s.starts 0x0201 c) (h : s.doLatencySet c = u) : Does .latencySet s u :=
  does_of_run_eq (f := fun s => s.onCmd 0x0201 (fun _ => true) State.doLatencySet) hp rfl ((State.onCmd_starts hc _).trans h)

theorem does_powerQuery (hc : s.starts 0x0202 c) (h : s.doPowerQuery c = u) : Does .powerQuery s u :=
  does_of_run_eq (f := fun s => s.onCmd 0x0202 (fun _ => true) State.doPowerQuery) hp rfl ((State.onCmd_starts hc _).trans h)

theorem does_healthQuery (hc : s.starts 0x0710 c) (h : s.doHealthQuery c = u) : Does .healthQuery s u :=
  does_of_run_eq (f := fun s => s.onCmd 0x0710 (fun _ => true) State.doHealthQuery) hp rfl ((State.onCmd_starts hc _).trans h)

theorem does_counterSnapshot (hc : s.starts 0x0801 c) (h : s.doSnapshot c = u) : Does .counterSnapshot s u :=
  does_of_run_eq (f := fun s => s.onCmd 0x0801 (fun _ => true) State.doSnapshot) hp rfl ((State.onCmd_starts hc _).trans h)

end

/-- Settles O54: each row in the branch that the clause names. -/
theorem coresSleepWithinTheirLimits : Obligations.CoresSleepWithinTheirLimits := by
  intro s hp
  refine ⟨fun k => ?_, fun k hr => ⟨fun h => does_coreWake hp (State.coreWake_wakes hr h), fun h => does_coreWake hp (State.coreWake_sleeps h),
      fun e i v he hd hv hw ht hn => does_timerWake hp (State.timerWake_due hr he hd hv hw ht hn), fun h => does_timerWake hp (State.timerWake_empty h)⟩,
    fun c hc hw h0 h8 => ⟨fun hs hn => does_latencySet hp hc (State.doLatencySet_scope hw h0 h8 hs hn), fun hs => ?_⟩,
    fun c hc => ⟨fun h0 hs => does_powerQuery hp hc (if_pos ⟨.inl h0, hs⟩), fun h0 hs => does_powerQuery hp hc (State.doPowerQuery_power h0 hs),
      fun h2 hs => does_powerQuery hp hc (State.doPowerQuery_core h2 hs), fun h2 => does_powerQuery hp hc (State.doPowerQuery_reserved h2)⟩,
    fun c y hc h1 hl hy => does_healthQuery hp hc (State.doHealthQuery_islands h1 hl hy), fun c hc h0 => does_healthQuery hp hc (State.doHealthQuery_reserved h0),
    fun c hc => does_counterSnapshot hp hc rfl⟩
  · intro enters
    exact ⟨fun h => does_idleGate hp (State.enterPower_enters h), fun h => does_idleGate hp (State.enterPower_stays h),
      fun h => does_napEntry hp (State.enterPower_enters h), fun h => does_napEntry hp (State.enterPower_stays h),
      fun h => does_darkEntry hp (State.enterPower_enters h), fun h => does_darkEntry hp (State.enterPower_stays h)⟩
  · intro y
    exact does_latencySet hp hc (State.doLatencySet_memory hw h0 h8 hs rfl)

end Sys2Proof.Machine
end

section
/-! PROOFS. Self-refresh, throttling, ageing, parking and handshakes of the islands (18 R742, R748-R752). -/

namespace Sys2Proof.Machine

section
variable {s : State}

/-! ### Self-refresh (R748) -/

theorem State.srEnter_enters {r : Nat} (h : s.srPermit r = true) (ha : bit (s.rf IS_MEM_SR_ACTIVE) r = false) :
    s.srEnter r = (s.sf IS_MEM_SR_ACTIVE (setBit (s.rf IS_MEM_SR_ACTIVE) r true)).raiseMs 0x375 := if_pos (by simp [h, ha])

theorem State.srEnter_stays {r : Nat} (h : s.srPermit r = false ∨ bit (s.rf IS_MEM_SR_ACTIVE) r = true) : s.srEnter r = s :=
  if_neg (by rcases h with h | h <;> simp [h])

/-! ### Throttling (R749) -/

/-- An estimate is shown, and its calm is counted. -/
def State.estimated (s : State) (mw : Nat) (temps rails : List Nat) : State :=
  let t := fun (k : Nat) => temps.getD k 0
  let x := (((((s.sf IS_STAT_POWER_MW mw).sf IS_THERM_CT0 (t 0)).sf IS_THERM_CT1 (t 1)).sf IS_THERM_CT2 (t 2)).sf IS_THERM_CT3 (t 3)).sf IS_THERM_HUB (t 4)
  let calm := decide (mw * 100 ≤ x.rf IS_CFG_PWR_LIMIT_W * 95000) && (List.range 5).all (fun k => decide (t k < 100 * 16))
  { x with pw := { x.pw with rails := rails, cool := if calm then x.pw.cool + 1 else 0 } }

section
variable {mw : Nat} {temps rails : List Nat} {y : State} (hy : s.estimated mw temps rails = y)
include hy

theorem State.powerEstimate_hot (h : y.hotLevel ≠ 0) : s.powerEstimate mw temps rails = y.setLevel y.hotLevel := by
  subst hy
  exact if_pos h

theorem State.powerEstimate_unstepped (h : y.hotLevel = 0) (hs : y.pw.steps = []) : s.powerEstimate mw temps rails = y.setLevel 0 := by
  subst hy
  exact (if_neg (not_not.2 h)).trans (if_pos (List.isEmpty_iff.2 hs))

theorem State.powerEstimate_stepped (h : y.hotLevel = 0) (hs : y.pw.steps ≠ []) : s.powerEstimate mw temps rails = y := by
  subst hy
  exact (if_neg (not_not.2 h)).trans (if_neg (mt List.isEmpty_iff.1 hs))

end

theorem State.throttleStep_warm (h : s.hotLevel = 0) (hc : s.pw.cool < 100) : s.throttleStep = s := (if_neg (not_not.2 h)).trans (if_neg (by omega))

/-- The cores of a class whose clocks can go lower. -/
def State.lowers (s : State) (k : Nat) : List Nat := (List.range 64).filter (fun c => s.coreClass c == some k && decide (s.isleSteps c < 26))

/-- The clocks of cores go down by one step. -/
def State.stepDown (s : State) (l : List Nat) : State :=
  ({ s with pw := { s.pw with steps := l.foldl (fun m c => Map.set m 0 c (Map.getD m c 0 + 1)) s.pw.steps } } : State).stepSync

theorem State.throttleStep_lowers {l : List Nat} (h : s.hotLevel ≠ 0) (hl : [s.lowers 2, s.lowers 1, s.lowers 0].find? (fun l => !l.isEmpty) = some l) :
    s.throttleStep = s.stepDown l := by
  refine (if_pos h).trans ?_
  unfold State.lowers at hl
  simp only [hl]
  rfl

/-! ### Parking (R750) -/

section
variable {i : Nat}

theorem isleUnits_compression (hk : isleKind i = 0xB) : isleUnits i = [org 0xA (i - 125)] := by
  unfold isleUnits
  simp only [hk]

theorem State.park_underWay (h : s.rf IS_ISL_CTL_RESULT i = 1) : s.park i = s := if_pos h

theorem State.unpark_underWay {b : Bool} (h : s.rf IS_ISL_CTL_RESULT i = 1) : s.unpark i b = s := if_pos h

section
variable {x : State} (hr : s.rf IS_ISL_CTL_RESULT i ≠ 1) (hx : s.report { org := org 0x18 i, cause := 0x1806, cls := slate } = x)
include hr hx

theorem State.park_unparkable (h1 : isleKind i ≠ 1) (hB : isleKind i ≠ 0xB) (hC : isleKind i ≠ 0xC) (hl : x.isleLeased i = false) : s.park i = x.parkEnds i 4 := by
  unfold State.park
  dsimp only
  rw [if_neg hr, hx, if_neg (ne_true_of_eq_false hl)]
  split
  case h_1 h => exact absurd h h1
  case h_2 h => exact absurd h hB
  case h_3 h => exact absurd h hC
  case h_4 => rfl

theorem State.unpark_unparkable {b : Bool} (h1 : isleKind i ≠ 1) (hB : isleKind i ≠ 0xB) (hC : isleKind i ≠ 0xC) : s.unpark i b = x.parkEnds i 4 := by
  subst hx
  exact (if_neg hr).trans (if_pos ⟨h1, hB, hC⟩)

section
variable (hB : isleKind i = 0xB)
include hB

section
variable (hl : x.isleLeased i = false) (hp : x.rb IS_ISL_STAT_PARKED i = false) (hu : (x.unit (org 0xA (i - 125))).st = 0)
include hl hp hu

theorem State.park_compression :
    s.park i = if x.czUps.length < 3 then x.parkEnds i 5 else (x.pipeOff (org 0xA (i - 125))).parkDone i (org 0xA (i - 125)) := by
  unfold State.park
  dsimp only
  rw [if_neg hr, hx, if_neg (ne_true_of_eq_false hl), isleUnits_compression hB]
  simp only [hB, List.headD_cons]
  exact if_neg (by simp [hp, hu])

end

section
variable (hp : x.rb IS_ISL_STAT_PARKED i = true) {y : State} (hy : x.sf IS_ISL_STAT_PARKED 0 i = y)
include hp hy

theorem State.unpark_compression_passed :
    s.unpark i true = ((y.setUnit (org 0xA (i - 125)) (fun u => { u with st := 0 })).czReturn (i - 125)).parkEnds i 2 := by
  unfold State.unpark
  dsimp only
  rw [if_neg hr, hx, if_neg (fun h => h.2.1 hB), if_neg (by simp [hp]), isleUnits_compression hB, if_pos rfl, if_neg (by omega : ¬ isleKind i = 1),
    if_neg (by omega : ¬ isleKind i = 1), if_pos hB, hy]
  rfl

theorem State.unpark_compression_failed :
    s.unpark i false = (((y.testFailed (org 0xA (i - 125)) 6).retireUnit (org 0xA (i - 125))).unitReg (org 0xA (i - 125)) 3).parkEnds i 2 := by
  unfold State.unpark
  dsimp only
  rw [if_neg hr, hx, if_neg (fun h => h.2.1 hB), if_neg (by simp [hp]), isleUnits_compression hB, if_neg Bool.false_ne_true, if_neg (by omega : ¬ isleKind i = 1),
    if_neg (by omega : ¬ isleKind i = 1), hy]
  rfl

end
end
end

/-! ### Handshakes and clocks (R742) -/

section
variable {k : Nat} {x : State} (hx : ((s.bump rIS_HS_ERR_CNT).report { org := org 0x18 i, cause := 0x1801, cls := slate }).raiseMs 0x373 = x)
include hx

theorem State.handshake_core (h : isleKind i = 1) : s.handshake i k = x.countRetry i := by
  unfold State.handshake
  simp only [h, hx]

theorem State.handshake_lanes (h : isleKind i = 7) : s.handshake i k = x.laneRepeats (8 * (i - 111) + k % 8) 1 := by
  unfold State.handshake
  simp only [h, hx]

theorem State.handshake_slices (h : isleKind i = 4) : s.handshake i k = x := by
  unfold State.handshake
  simp only [h, hx]

end

section
variable {x : State} (hx : s.each (isleUnits i) (fun s o => s.report { org := o, cause := 0x0007, cls := ochre }) = x)
include hx

theorem State.clockLost_core (h : isleKind i = 1) : s.clockLost i = x.checkStop i := by
  unfold State.clockLost
  simp only [h, hx]

theorem State.clockLost_compression (h : isleKind i = 0xB) : s.clockLost i = x.czRetire (i - 125) := by
  unfold State.clockLost
  simp only [h, hx]

theorem State.clockLost_store (h : isleKind i = 8) : s.clockLost i = x.storeLoss := by
  unfold State.clockLost
  simp only [h, hx]

theorem State.clockLost_sheepdog (h : isleKind i = 0x14) : s.clockLost i = x := by
  unfold State.clockLost
  simp only [h, hx]

end
end
end

section
variable {s u : State} (hp : s.powered = true)
include hp

theorem does_selfRefreshEntry {r : Fin 8} (h : s.srEnter r.val = u) : Does (.selfRefreshEntry r) s u := does_of_run_eq (f := fun s => s.srEnter r.val) hp rfl h

theorem does_powerEstimate {mw : BitVec 32} {ts : List (BitVec 12)} {rs : List (BitVec 32)}
    (h : s.powerEstimate mw.toNat (ts.map (·.toNat)) (rs.map (·.toNat)) = u) : Does (.powerEstimate mw ts rs) s u := by
  have he : exec (.powerEstimate mw ts rs) s = run (fun s => s.powerEstimate mw.toNat (ts.map (·.toNat)) (rs.map (·.toNat))) s := rfl
  exact does_of_run_eq hp he h

theorem does_throttleStep (h : s.throttleStep = u) : Does .throttleStep s u := does_of_run_eq (f := State.throttleStep) hp rfl h

theorem does_ageingSample {l : List (BitVec 16)} (h : s.ageSample (l.map (·.toNat)) = u) : Does (.ageingSample l) s u :=
  does_of_run_eq (f := fun s => s.ageSample (l.map (·.toNat))) hp rfl h

section
variable {i : Fin 167}

theorem does_park (h : s.park i.val = u) : Does (.park i) s u := does_of_run_eq (f := fun s => s.park i.val) hp rfl h

theorem does_unpark {b : Bool} (h : s.unpark i.val b = u) : Does (.unpark i b) s u := does_of_run_eq (f := fun s => s.unpark i.val b) hp rfl h

theorem does_handshakeError {k : Fin 8} (h : s.handshake i.val k.val = u) : Does (.handshakeError i k) s u :=
  does_of_run_eq (f := fun s => s.handshake i.val k.val) hp rfl h

theorem does_islandClockLoss (h : s.clockLost i.val = u) : Does (.islandClockLoss i) s u.chSync :=
  does_of_run_eq (f := fun s => (s.clockLost i.val).chSync) hp rfl (congrArg State.chSync h)

end
end

/-- Settles O55: each row in the branch that the clause names. -/
theorem islandsThrottleAgeAndPark : Obligations.IslandsThrottleAgeAndPark := by
  intro s hp
  refine ⟨fun r => ⟨fun h ha => does_selfRefreshEntry hp (State.srEnter_enters h ha), fun h => does_selfRefreshEntry hp (State.srEnter_stays h)⟩,
    fun mw ts rs => ?_, fun h hc => does_throttleStep hp (State.throttleStep_warm h hc), fun h => ?_, fun m => does_ageingSample hp rfl,
    fun l => does_ageingSample hp rfl, fun i h => ⟨does_park hp (State.park_underWay h), fun b => does_unpark hp (State.unpark_underWay h)⟩,
    fun i hr => ?_, fun i u => ?_, fun i => ?_⟩
  · intro t x calm y
    have hy : s.estimated mw.toNat (ts.map (·.toNat)) (rs.map (·.toNat)) = y := rfl
    clear_value y
    exact ⟨fun h => does_powerEstimate hp (State.powerEstimate_hot hy h), fun h hs => does_powerEstimate hp (State.powerEstimate_unstepped hy h hs),
      fun h hs => does_powerEstimate hp (State.powerEstimate_stepped hy h hs)⟩
  · intro lowers down
    have hrun {l : List Nat} (hl : [s.lowers 2, s.lowers 1, s.lowers 0].find? (fun l => !l.isEmpty) = some l) : Does .throttleStep s (down l) :=
      does_throttleStep hp (State.throttleStep_lowers h hl)
    have htake {k : Nat} {ls : List (List Nat)} (hk : lowers k ≠ []) : (s.lowers k :: ls).find? (fun l => !l.isEmpty) = some (lowers k) := by
      refine List.find?_cons_of_pos ?_
      rw [Bool.not_eq_true', List.isEmpty_eq_false_iff]
      exact hk
    have hskip {k : Nat} {l : List Nat} {ls : List (List Nat)} (hk : lowers k = []) (hl : ls.find? (fun l => !l.isEmpty) = some l) :
        (s.lowers k :: ls).find? (fun l => !l.isEmpty) = some l := by
      have he : s.lowers k = [] := hk
      rw [List.find?_cons_of_neg (by simp [he])]
      exact hl
    exact ⟨fun h2 => hrun (htake h2), fun h2 h1 => hrun (hskip h2 (htake h1)), fun h2 h1 h0 => hrun (hskip h2 (hskip h1 (htake h0)))⟩
  · intro x k
    refine ⟨fun h1 hB hC hl => ⟨does_park hp (State.park_unparkable hr rfl h1 hB hC hl), fun b => does_unpark hp (State.unpark_unparkable hr rfl h1 hB hC)⟩,
      fun hB hl hd hu => ⟨fun hn => does_park hp ((State.park_compression hr rfl hB hl hd hu).trans (if_pos hn)),
        fun hn => does_park hp ((State.park_compression hr rfl hB hl hd hu).trans (if_neg (Nat.not_lt.2 hn)))⟩, fun hB hd => ?_⟩
    intro y
    exact ⟨does_unpark hp (State.unpark_compression_passed hr rfl hB hd rfl), does_unpark hp (State.unpark_compression_failed hr rfl hB hd rfl)⟩
  · intro x
    refine ⟨fun h => does_handshakeError hp (State.handshake_core rfl h), fun h => does_handshakeError hp ((State.handshake_lanes rfl h).trans ?_),
      fun h => does_handshakeError hp (State.handshake_slices rfl h)⟩
    rw [Nat.mod_eq_of_lt u.isLt]
  · intro x
    exact ⟨fun h => does_islandClockLoss hp (State.clockLost_core rfl h), fun h => does_islandClockLoss hp (State.clockLost_compression rfl h),
      fun h => does_islandClockLoss hp (State.clockLost_store rfl h), fun h => does_islandClockLoss hp (State.clockLost_sheepdog rfl h)⟩

end Sys2Proof.Machine
end

section
/-! PROOFS. Device time, its sources, and the monitors' snapshots and windows (18 R753-R758, R762-R764). -/

namespace Sys2Proof.Machine

section
variable {s : State}

/-! ### Device time and its sources (R753-R758) -/

section
variable {v : Nat} {ref : Bool} {x : State} (hx : s.refSeen ref = x)
include hx

theorem State.tmAdj_wholeSeconds (hu : x.usesPps = true) (hc : sextInt 64 v % 1000000000 ≠ 0) : s.tmAdj v ref = x := by
  subst hx
  exact if_pos (by simp [hu, hc])

theorem State.tmAdj_corrects (h : x.usesPps = false ∨ sextInt 64 v % 1000000000 = 0) :
    s.tmAdj v ref = ((x.srcFlag TM_STAT_PTP_OK true).tmMeasure (sextInt 64 v) x.usesPtp).correct (sextInt 64 v) := by
  subst hx
  exact if_neg (by rcases h with h | h <;> simp [h])

theorem State.tmSource_reserved (h : 4 < v) : s.tmSource v ref = x := by
  subst hx
  exact if_pos h

theorem State.tmSource_free (h : v = 0) : s.tmSource v ref = (x.sf TM_CFG_SOURCE 0).tmTo 0 := by
  subst h
  unfold State.tmSource
  dsimp only
  rw [hx, if_neg (by decide), if_neg (by decide), if_pos rfl]

theorem State.tmSource_ptp (h : v = 1) : s.tmSource v ref = (x.sf TM_CFG_SOURCE 1).tmTo 1 := by
  subst h
  unfold State.tmSource
  dsimp only
  rw [hx, if_neg (by decide), if_neg (by decide), if_neg (by decide)]

theorem State.tmSource_servo (h2 : 2 ≤ v) (h4 : v ≤ 4) : s.tmSource v ref = ((x.sf TM_CFG_SOURCE v).servoRate).tmTo 1 := by
  unfold State.tmSource
  dsimp only
  rw [hx, if_neg (by omega), if_pos h2, if_neg (by omega : ¬ v = 0)]

section
variable {fall : Bool}

theorem State.ppsEdge_other {soon : Bool} (h : fall ≠ x.rb TM_CFG_PPS_IN_FALL) : s.ppsEdge fall soon ref = x := by
  subst hx
  exact if_pos (bne_iff_ne.2 h)

section
variable (h : fall = x.rb TM_CFG_PPS_IN_FALL) {y : State} (hy : x.wreg rTM_PPS_IN 0 x.now = y)
include h hy

theorem State.ppsEdge_first (hu : y.usesPps = false) : s.ppsEdge fall false ref = y := by
  subst hx hy
  exact (if_neg (by simp [h])).trans (if_neg (ne_true_of_eq_false hu))

theorem State.ppsEdge_soon (hu : (y.srcFlag TM_STAT_PPS_OK true).usesPps = false) : s.ppsEdge fall true ref = y.srcFlag TM_STAT_PPS_OK true := by
  unfold State.ppsEdge
  dsimp only
  rw [hx, if_neg (by simp [h]), hy, if_pos rfl, if_neg (ne_true_of_eq_false hu)]

end
end
end

theorem State.correct_steps {c : Int} (h : 0 < c) (hs : (s.rf TM_CFG_STEP_MS : Int) * 1000000 < c) : (s.correct c).pw.slew = 0 := by
  unfold State.correct
  rw [if_pos ⟨h, hs⟩]
  simp [State.setNow, State.bump]

theorem State.correct_slews {c : Int} (h : c ≤ 0 ∨ c ≤ (s.rf TM_CFG_STEP_MS : Int) * 1000000) : s.correct c = { s with pw := { s.pw with slew := c } } := by
  unfold State.correct
  rw [if_neg (by omega)]

/-- A source that has been missing for its timeout: its flag, and whether the selected source needs it. -/
def State.missed (s : State) (f : RF) (uses : Bool) : State :=
  if uses && ((s.srcFlag f false).rf TM_STAT_STATE == 1 || (s.srcFlag f false).rf TM_STAT_STATE == 2) then (s.srcFlag f false).tmTo 3 else s.srcFlag f false

section
variable {f : RF} {uses : Bool} {y : State} (hy : s.srcFlag f false = y)
include hy

theorem State.missed_selected (hu : uses = true) (h : y.rf TM_STAT_STATE = 1 ∨ y.rf TM_STAT_STATE = 2) : s.missed f uses = y.tmTo 3 := by
  subst hy
  exact if_pos (by simp [hu, h])

theorem State.missed_other (hu : uses = false) : s.missed f uses = y := by
  subst hy
  exact if_neg (by simp [hu])

end

theorem State.ppsOut_marks (he : s.rb TM_PPS_OUT_EN = true) (h : 2 ≤ s.rf TM_STAT_STATE) : s.ppsOut = s.emit (.pps s.now (s.rf TM_PPS_OUT_WIDTH_US)) :=
  if_pos (by simp [he, h])

theorem State.ppsOut_disabled (he : s.rb TM_PPS_OUT_EN = false) : s.ppsOut = s := if_neg (by simp [he])

/-! ### Snapshots (R763, R764) -/

theorem State.snap_early {src : Nat} (hc : s.rf PM_SNAP_STAT_COUNT ≠ 0) (ht : s.now < s.reg rPM_SNAP_TIME 0 + 1000) :
    s.snap src = s.incSat PM_SNAP_STAT_MISSED := if_pos ⟨hc, ht⟩

/-- The statistics of a snapshot that is taken. -/
def State.snapStat (s : State) (src count : Nat) : State := (s.sf PM_SNAP_STAT_SRC src).sf PM_SNAP_STAT_COUNT count

theorem State.snap_takes {src : Nat} (h : s.rf PM_SNAP_STAT_COUNT = 0 ∨ s.reg rPM_SNAP_TIME 0 + 1000 ≤ s.now) :
    s.snap src = ((s.shadow.snapStat src (s.rf PM_SNAP_STAT_COUNT + 1)).wreg rPM_SNAP_TIME 0 s.now).raise 0x374 := if_neg (by omega)

theorem State.reg_raise (n : Nat) (r : Reg) (i : Nat) : (s.raise n).reg r i = s.reg r i := rfl

theorem State.reg_snapStat {r : Reg} {i src n : Nat} (h : r.addr i ≠ rPM_SNAP_STAT.addr 0) : (s.snapStat src n).reg r i = s.reg r i :=
  (State.reg_wreg_other _ _ _ _ _ _ h).trans (State.reg_wreg_other _ _ _ _ _ _ h)

/-- Each entry of a register array copied from another register. -/
def State.copyReg (s : State) (dst src : Reg) (l : List Nat) : State := s.each l (fun s k => s.wreg dst k (s.reg src k))

theorem State.reg_copyReg_other {dst src r : Reg} {l : List Nat} {i : Nat} (h : ∀ k ∈ l, r.addr i ≠ dst.addr k) : (s.copyReg dst src l).reg r i = s.reg r i :=
  foldl_keeps (fun (x : State) => x.reg r i = s.reg r i) _ _ _ rfl (fun _ k hx hk => (State.reg_wreg_other _ _ _ _ _ _ (h k hk)).trans hx)

theorem State.reg_copyReg {dst src : Reg} {n i : Nat} (hf : dst.fits = true) (hsrc : src.fits = true) (hi : i < n)
    (hd : ∀ k < n, k ≠ i → dst.addr i ≠ dst.addr k) (ho : ∀ k < n, src.addr i ≠ dst.addr k) :
    (s.copyReg dst src (List.range n)).reg dst i = s.reg src i := by
  induction n with
  | zero => omega
  | succ n ih =>
    have hlast : s.copyReg dst src (List.range (n + 1)) =
        (s.copyReg dst src (List.range n)).wreg dst n ((s.copyReg dst src (List.range n)).reg src n) := by
      unfold State.copyReg State.each
      rw [List.range_succ, List.foldl_append]
      rfl
    rw [hlast]
    by_cases hn : i = n
    · subst hn
      rw [State.reg_wreg_same _ _ _ _ hf, State.reg_copyReg_other fun k hk => ho k (by have := List.mem_range.1 hk; omega), Nat.mod_eq_of_lt (s.reg_lt i hsrc)]
    · rw [State.reg_wreg_other _ _ _ _ _ _ (hd n (by omega) (Ne.symm hn))]
      exact ih (by omega) (fun k hk => hd k (by omega)) (fun k hk => ho k (by omega))

/-- The address of an entry of a register with one dimension. -/
theorem Reg.addr_row {r : Reg} {n : Nat} (h : r.dims = [(8, n)]) (i : Nat) : r.addr i = r.base + i * 8 := by
  unfold Reg.addr
  rw [h]
  simp [dimOffs, dimProd]

/-- The address of a register without dimensions. -/
theorem Reg.addr_single {r : Reg} (h : r.dims = []) (i : Nat) : r.addr i = r.base := by
  unfold Reg.addr
  rw [h]
  rfl

theorem pmCntRow_addr (k : Nat) : rPM_CNT.addr k = 0x7f1000f00300 + k * 8 := Reg.addr_row rfl k
theorem pmBwRow_addr (k : Nat) : rPM_BW.addr k = 0x7f1000f00580 + k * 8 := Reg.addr_row rfl k
theorem pmShdCntRow_addr (k : Nat) : rPM_SHD_CNT.addr k = 0x7f1000f01300 + k * 8 := Reg.addr_row rfl k
theorem pmShdBwRow_addr (k : Nat) : rPM_SHD_BW.addr k = 0x7f1000f01580 + k * 8 := Reg.addr_row rfl k
theorem pmShdCycle_base : rPM_SHD_CYCLE.addr 0 = 0x7f1000f01018 := Reg.addr_single rfl 0
theorem pmSnapStat_base : rPM_SNAP_STAT.addr 0 = 0x7f1000f00008 := Reg.addr_single rfl 0
theorem pmSnapTime_base : rPM_SNAP_TIME.addr 0 = 0x7f1000f00010 := Reg.addr_single rfl 0

theorem State.shadow_eq : s.shadow = ((s.wreg rPM_SHD_CYCLE 0 (s.reg rPM_CYCLE 0)).copyReg rPM_SHD_CNT rPM_CNT (List.range 64)).copyReg rPM_SHD_BW rPM_BW (List.range 16) := rfl

theorem State.shadow_counts {n : Nat} (hn : n < 64) : s.shadow.reg rPM_SHD_CNT n = s.reg rPM_CNT n := by
  rw [State.shadow_eq, State.reg_copyReg_other fun k hk => by have := List.mem_range.1 hk; rw [pmShdCntRow_addr, pmShdBwRow_addr]; omega,
    State.reg_copyReg (by decide) (by decide) hn (fun k hk hne => by rw [pmShdCntRow_addr, pmShdCntRow_addr]; omega) (fun k hk => by rw [pmCntRow_addr, pmShdCntRow_addr]; omega),
    State.reg_wreg_other _ _ _ _ _ _ (by rw [pmCntRow_addr, pmShdCycle_base]; omega)]

theorem State.shadow_bandwidths {n : Nat} (hn : n < 16) : s.shadow.reg rPM_SHD_BW n = s.reg rPM_BW n := by
  rw [State.shadow_eq,
    State.reg_copyReg (by decide) (by decide) hn (fun k hk hne => by rw [pmShdBwRow_addr, pmShdBwRow_addr]; omega) (fun k hk => by rw [pmBwRow_addr, pmShdBwRow_addr]; omega),
    State.reg_copyReg_other fun k hk => by have := List.mem_range.1 hk; rw [pmBwRow_addr, pmShdCntRow_addr]; omega,
    State.reg_wreg_other _ _ _ _ _ _ (by rw [pmBwRow_addr, pmShdCycle_base]; omega)]

theorem State.shadow_cycle : s.shadow.reg rPM_SHD_CYCLE 0 = s.reg rPM_CYCLE 0 := by
  rw [State.shadow_eq, State.reg_copyReg_other fun k hk => by have := List.mem_range.1 hk; rw [pmShdCycle_base, pmShdBwRow_addr]; omega,
    State.reg_copyReg_other fun k hk => by have := List.mem_range.1 hk; rw [pmShdCycle_base, pmShdCntRow_addr]; omega,
    State.reg_wreg_same _ _ _ _ (by decide), Nat.mod_eq_of_lt (s.reg_lt 0 (by decide))]

/-- A taken snapshot leaves every register but its own as the copying does. -/
theorem State.reg_snap {src : Nat} (h : s.rf PM_SNAP_STAT_COUNT = 0 ∨ s.reg rPM_SNAP_TIME 0 + 1000 ≤ s.now) {r : Reg} {i : Nat}
    (h1 : r.addr i ≠ rPM_SNAP_STAT.addr 0) (h2 : r.addr i ≠ rPM_SNAP_TIME.addr 0) : (s.snap src).reg r i = s.shadow.reg r i := by
  rw [State.snap_takes h, State.reg_raise, State.reg_wreg_other _ _ _ _ _ _ h2, State.reg_snapStat h1]

theorem State.snap_time {src : Nat} (h : s.rf PM_SNAP_STAT_COUNT = 0 ∨ s.reg rPM_SNAP_TIME 0 + 1000 ≤ s.now) : (s.snap src).reg rPM_SNAP_TIME 0 = s.now := by
  rw [State.snap_takes h, State.reg_raise, State.reg_wreg_same _ _ _ _ (by decide)]
  exact Nat.mod_eq_of_lt (s.reg_lt 0 (by decide))

/-! ### Bandwidth windows (R762) -/

theorem State.bwWindow_frozen {k : Nat} (h : s.rb PM_CTL_FROZEN = true) : s.bwWindow k = s := if_pos h

/-- The register of a monitor after a window of l units. -/
def State.windowShown (s : State) (k l : Nat) : State := (s.sf PM_BW_LAST l k).sf PM_BW_MAX (max l ((s.sf PM_BW_LAST l k).rf PM_BW_MAX k)) k

theorem State.bwWindow_ends {k n : Nat} {y : State} (h : s.rb PM_CTL_FROZEN = false) (he : s.rb PM_BW_CFG_EN k = true) (hn : Map.find s.pw.bw k = some n)
    (hy : s.windowShown k (satN 32 (n / 64)) = y) : s.bwWindow k = { y with pw := { y.pw with bw := Map.put y.pw.bw k 0 } } := by
  have hmax : (s.sf PM_BW_LAST (satN 32 (n / 64)) k).rf PM_BW_MAX k = s.rf PM_BW_MAX k :=
    State.rf_sf_field _ _ _ _ _ (by decide) rfl (by decide) (by decide) (by decide)
  subst hy
  unfold State.windowShown State.bwWindow
  dsimp only
  rw [if_neg (ne_true_of_eq_false h), if_neg (by simp [he]), hmax, hn]

end

section
variable {s u : State} (hp : s.powered = true)
include hp

theorem does_tmAdj {v : Word} {ref : Bool} (h : s.tmAdj v.toNat ref = u) : Does (.tmAdj v ref) s u :=
  does_of_run_eq (f := fun s => s.tmAdj v.toNat ref) hp rfl h

theorem does_tmSourceWrite {v : BitVec 4} {ref : Bool} (h : s.tmSource v.toNat ref = u) : Does (.tmSourceWrite v ref) s u :=
  does_of_run_eq (f := fun s => s.tmSource v.toNat ref) hp rfl h

theorem does_ppsInEdge {fall soon ref : Bool} (h : s.ppsEdge fall soon ref = u) : Does (.ppsInEdge fall soon ref) s u :=
  does_of_run_eq (f := fun s => s.ppsEdge fall soon ref) hp rfl h

theorem does_holdover {k : Fin 3} (h : s.holdover k.val = u) : Does (.holdover k) s u := does_of_run_eq (f := fun s => s.holdover k.val) hp rfl h
theorem does_oscFault (h : s.oscFault = u) : Does .oscFault s u := does_of_run_eq (f := State.oscFault) hp rfl h
theorem does_ppsOut (h : s.ppsOut = u) : Does .ppsOut s u := does_of_run_eq (f := State.ppsOut) hp rfl h
theorem does_snap (h : s.snap 1 = u) : Does .snap s u := does_of_run_eq (f := fun s => s.snap 1) hp rfl h

theorem does_pmuSnapEdge (h : (if s.rb PM_CTL_PIN_EN then s.snap 2 else s) = u) : Does .pmuSnapEdge s u :=
  does_of_run_eq (f := fun s => if s.rb PM_CTL_PIN_EN then s.snap 2 else s) hp rfl h

theorem does_freeze {b : Bool} (h : s.freezeCtl b = u) : Does (.freeze b) s u := does_of_run_eq (f := fun s => s.freezeCtl b) hp rfl h

theorem does_bandwidthWindowEnd {k : Fin 16} (h : s.bwWindow k.val = u) : Does (.bandwidthWindowEnd k) s u :=
  does_of_run_eq (f := fun s => s.bwWindow k.val) hp rfl h

end

/-- Settles O56: each row in the branch that the clause names; a snapshot's copies stand at addresses of their own. -/
theorem deviceTimeAndMonitorsFollowTheirInputs : Obligations.DeviceTimeAndMonitorsFollowTheirInputs := by
  intro s hp
  refine ⟨fun v ref => ?_, fun c => ⟨State.correct_steps, State.correct_slews⟩,
    fun v ref => ⟨fun h => does_tmSourceWrite hp (State.tmSource_reserved rfl h), fun h => does_tmSourceWrite hp (State.tmSource_free rfl h),
      fun h => does_tmSourceWrite hp (State.tmSource_ptp rfl h), fun h2 h4 => does_tmSourceWrite hp (State.tmSource_servo rfl h2 h4)⟩,
    fun fall soon ref => ?_, fun k => ?_, does_oscFault hp rfl, fun he h => does_ppsOut hp (State.ppsOut_marks he h),
    fun he => does_ppsOut hp (State.ppsOut_disabled he), fun hc ht => does_snap hp (State.snap_early hc ht),
    fun h => ⟨⟨_, does_snap hp rfl, fun n hn => ?_, ?_, fun k hk => ?_, State.snap_time h⟩, fun he => does_pmuSnapEdge hp (if_pos he)⟩,
    fun he => does_pmuSnapEdge hp (if_neg (ne_true_of_eq_false he)), fun b => does_freeze hp rfl,
    fun k => ⟨fun h => does_bandwidthWindowEnd hp (State.bwWindow_frozen h), fun n h he hn => ?_⟩⟩
  · intro x c
    exact ⟨fun hu hc => does_tmAdj hp (State.tmAdj_wholeSeconds rfl hu hc), fun h => does_tmAdj hp (State.tmAdj_corrects rfl h)⟩
  · intro x y
    refine ⟨fun h => does_ppsInEdge hp (State.ppsEdge_other rfl h), fun h hs hu => ?_, fun h hs hu => ?_⟩
    · rw [hs]
      exact does_ppsInEdge hp (State.ppsEdge_first rfl h rfl hu)
    · rw [hs]
      exact does_ppsInEdge hp (State.ppsEdge_soon rfl h rfl hu)
  · intro f uses y
    have hrun : s.holdover k.val = s.missed f uses := by
      have hk : k = 0 ∨ k = 1 ∨ k = 2 := by omega
      rcases hk with rfl | rfl | rfl <;> rfl
    exact ⟨fun hu h => does_holdover hp (hrun.trans (State.missed_selected rfl hu h)), fun hu => does_holdover hp (hrun.trans (State.missed_other rfl hu))⟩
  · exact (State.reg_snap h (by rw [pmShdCntRow_addr, pmSnapStat_base]; omega) (by rw [pmShdCntRow_addr, pmSnapTime_base]; omega)).trans (State.shadow_counts hn)
  · exact (State.reg_snap h (by decide) (by decide)).trans State.shadow_cycle
  · exact (State.reg_snap h (by rw [pmShdBwRow_addr, pmSnapStat_base]; omega) (by rw [pmShdBwRow_addr, pmSnapTime_base]; omega)).trans (State.shadow_bandwidths hk)
  · intro y
    exact does_bandwidthWindowEnd hp (State.bwWindow_ends h he hn rfl)

end Sys2Proof.Machine
end

section
/-! PROOFS. What each reset and a loss of power keeps and discards, and the supply's warnings (19 R790-R796). -/

namespace Sys2Proof.Machine

/-! ### Changes of registers alone -/

theorem OnlyRegs.each {α : Type} {s : State} {l : List α} {f : State → α → State} (h : ∀ x a, OnlyRegs x (f x a)) : OnlyRegs s (s.each l f) :=
  foldl_keeps (fun (x : State) => OnlyRegs s x) f l s (OnlyRegs.refl s) (fun x a hx _ => hx.trans (h x a))

theorem OnlyRegs.when {s : State} {b : Bool} {f : State → State} (h : OnlyRegs s (f s)) : OnlyRegs s (s.when b f) := by
  cases b
  · exact OnlyRegs.refl s
  · exact h

theorem OnlyRegs.leases {s t : State} (h : OnlyRegs s t) : t.leases = s.leases := by rw [← h.rest]
theorem OnlyRegs.tn {s t : State} (h : OnlyRegs s t) : t.tn = s.tn := by rw [← h.rest]
theorem OnlyRegs.ch {s t : State} (h : OnlyRegs s t) : t.ch = s.ch := by rw [← h.rest]
theorem OnlyRegs.vt {s t : State} (h : OnlyRegs s t) : t.vt = s.vt := by rw [← h.rest]
theorem OnlyRegs.powered {s t : State} (h : OnlyRegs s t) : t.powered = s.powered := by rw [← h.rest]

section
variable {s : State} {x : Straps} {on : Bool}

/-! ### What a reboot leaves (R796) -/

/-- A unit's entry as a module reset at `now` leaves it: a retired unit stays retired, but for Sheepdog's. -/
def UnitSt.rebooted (now o : Nat) (u : UnitSt) : UnitSt :=
  { u with st := if u.st = 3 ∧ o ≠ org 0x13 0 then 3 else 0, quietEnd := 0, returns := (u.returns.filter (fun t => now < t)).map (fun t => t - now) }

/-- The state outside registers that a reboot leaves. -/
def State.rebootBase (s : State) (on : Bool) (x : Straps) : State :=
  let z := State.reset
  { z with
    ch := { z.ch with txns := s.ch.txns, ring := s.ch.ring, tail := s.ch.tail, jsn := s.ch.jsn, supA := s.ch.supA, supB := s.ch.supB, tops := s.ch.tops },
    fc := { z.fc with fj := s.fc.fj, units := if on then [] else s.fc.units.map (fun (u : Nat × UnitSt) => (u.1, u.2.rebooted s.now u.1)) },
    fr := { z.fr with nodes := s.fr.nodes },
    tw := { z.tw with strap := x.twinEn, jrnPaired := s.tw.jrnPaired, lanes := 0 },
    vt := { z.vt with slotA := s.vt.slotA, slotB := s.vt.slotB, pwrFail := s.vt.pwrFail },
    pw := { z.pw with samples := if on then [] else s.pw.samples },
    leaseSerial := if on then 0 else s.leaseSerial, outs := s.outs, freeCtr := s.freeCtr, pending := s.pending }

/-- z with the registers of the old state s that every reboot keeps. -/
def State.keepFuses (z s : State) : State :=
  ((z.wreg rFC_FJ 0 (s.reg rFC_FJ 0)).sf VT_SVN_STAGE1_FUSE (s.rf VT_SVN_STAGE1_FUSE)).sf VT_SVN_PATCH_FUSE (s.rf VT_SVN_PATCH_FUSE)

/-- z with what a power-on counts. -/
def State.countPowerOn (z s : State) : State := z.sf FC_FJ_POWER_ON ((s.rf FC_FJ_POWER_ON + 1) % 65536)

/-- z with the registers of s that a module reset alone keeps. -/
def State.keepStanding (z s : State) : State :=
  ((((z.sf FC_STAT_SABLE (s.rf FC_STAT_SABLE)).sf VT_STAT_TAINTED (s.rf VT_STAT_TAINTED)).sf VT_DEBUG_FAILS (s.rf VT_DEBUG_FAILS)).sf
    VT_DEBUG_LOCKED (s.rf VT_DEBUG_LOCKED)).sf VT_DEBUG_GRANTS (s.rf VT_DEBUG_GRANTS)

/-- z with the ageing records of s. -/
def State.keepAges (z s : State) (on : Bool) : State :=
  z.each (List.range 167) (fun z i => (z.sf IS_AGE_HOURS (s.rf IS_AGE_HOURS i) i).sf IS_AGE_STATE (if on then 0 else s.rf IS_AGE_STATE i) i)

/-- z under the board's straps. -/
def State.strapped (z : State) (x : Straps) : State :=
  ((z.sf VT_BOOT_BOOT_SRC x.bootSrc.val).sb FC_STAT_FLT_MODE x.fltMode).sf KC_SPARE_CFG_POOL_MIN (2 ^ (x.spareMin.val + 1))

/-- z with its Journal to be replayed, the processors' stage kept on a module reset, and the gate as the straps have it. -/
def State.replayDue (z s : State) (on : Bool) (x : Straps) : State :=
  (((z.when (!on) (fun z => z.sf CH_CFG_STAGE (s.rf CH_CFG_STAGE))).sf CH_STAT_JOURNAL 1).sf CH_REPLAY_TRIGGER (if on then 0 else 1)).when x.twinEn
    (fun z => z.sf TW_STAT_GATE 0)

theorem State.rebooted_powerOn : s.rebooted true x = ((((((s.rebootBase true x).keepFuses s).countPowerOn s).keepAges s true).strapped x).replayDue s true x) := rfl

theorem State.rebooted_reset : s.rebooted false x = ((((((s.rebootBase false x).keepFuses s).keepStanding s).keepAges s false).strapped x).replayDue s false x) := rfl

end

/-! ### The registers that a reboot writes -/

section
variable {z s : State} {x : Straps} {on : Bool}

theorem State.keepFuses_only : OnlyRegs z (z.keepFuses s) := ((OnlyRegs.wreg ..).trans (OnlyRegs.sf ..)).trans (OnlyRegs.sf ..)

theorem State.keepStanding_only : OnlyRegs z (z.keepStanding s) :=
  ((((OnlyRegs.sf ..).trans (OnlyRegs.sf ..)).trans (OnlyRegs.sf ..)).trans (OnlyRegs.sf ..)).trans (OnlyRegs.sf ..)

theorem State.keepAges_only : OnlyRegs z (z.keepAges s on) := OnlyRegs.each fun _ _ => (OnlyRegs.sf ..).trans (OnlyRegs.sf ..)

theorem State.strapped_only : OnlyRegs z (z.strapped x) := ((OnlyRegs.sf ..).trans (OnlyRegs.sf ..)).trans (OnlyRegs.sf ..)

theorem State.replayDue_only : OnlyRegs z (z.replayDue s on x) :=
  (((OnlyRegs.when (OnlyRegs.sf ..)).trans (OnlyRegs.sf ..)).trans (OnlyRegs.sf ..)).trans (OnlyRegs.when (OnlyRegs.sf ..))

/-- Outside its registers, a rebooted module is the base of the reboot. -/
theorem State.rebooted_only : OnlyRegs (s.rebootBase on x) (s.rebooted on x) := by
  cases on
  · rw [State.rebooted_reset]
    exact (((State.keepFuses_only.trans State.keepStanding_only).trans State.keepAges_only).trans State.strapped_only).trans State.replayDue_only
  · rw [State.rebooted_powerOn]
    exact (((State.keepFuses_only.trans (OnlyRegs.sf ..)).trans State.keepAges_only).trans State.strapped_only).trans State.replayDue_only

theorem age_addr (i : Nat) : rIS_AGE.addr i = 0x7f1000e03000 + i * 8 := Reg.addr_row rfl i

/-- A field below the islands' ageing records keeps its value. -/
theorem State.rf_keepAges {f : RF} (h : f.reg.addr 0 < 0x7f1000e03000) : (z.keepAges s on).rf f 0 = z.rf f 0 := by
  have hne (i : Nat) : f.reg.addr 0 ≠ rIS_AGE.addr i := by
    rw [age_addr]
    omega
  exact foldl_keeps (fun (y : State) => y.rf f 0 = z.rf f 0) _ _ _ rfl fun y i hy _ =>
    ((State.rf_sf_other _ _ _ _ _ _ (hne i)).trans (State.rf_sf_other _ _ _ _ _ _ (hne i))).trans hy

theorem State.rf_replayDue {f : RF} (h1 : f.reg.addr 0 ≠ rCH_CFG.addr 0) (h2 : f.reg.addr 0 ≠ rCH_STAT.addr 0) (h3 : f.reg.addr 0 ≠ rCH_REPLAY.addr 0)
    (h4 : f.reg.addr 0 ≠ rTW_STAT.addr 0) : (z.replayDue s on x).rf f 0 = z.rf f 0 := by
  have hwhen {b : Bool} {g : RF} {v : Nat} (y : State) (hg : f.reg.addr 0 ≠ g.reg.addr 0) : (y.when b (fun z => z.sf g v)).rf f 0 = y.rf f 0 := by
    cases b
    · rfl
    · exact State.rf_sf_other _ _ _ _ _ _ hg
  unfold State.replayDue
  rw [hwhen _ h4, State.rf_sf_other _ _ _ _ _ _ h3, State.rf_sf_other _ _ _ _ _ _ h2, hwhen _ h1]

theorem State.rf_strapped {f : RF} (h1 : f.reg.addr 0 ≠ rVT_BOOT.addr 0) (h2 : f.reg.addr 0 ≠ rFC_STAT.addr 0) (h3 : f.reg.addr 0 ≠ rKC_SPARE_CFG.addr 0) :
    (z.strapped x).rf f 0 = z.rf f 0 :=
  (State.rf_sf_other _ _ _ _ _ _ h3).trans ((State.rf_sf_other _ _ _ _ _ _ h2).trans (State.rf_sf_other _ _ _ _ _ _ h1))

theorem State.rf_strapped_sable : (z.strapped x).rf FC_STAT_SABLE = z.rf FC_STAT_SABLE := by
  unfold State.strapped State.sb
  rw [State.rf_sf_other _ _ _ _ _ _ (by decide), State.rf_sf_field _ FC_STAT_FLT_MODE FC_STAT_SABLE _ _ (by decide) rfl (by decide) (by decide) (by decide),
    State.rf_sf_other _ _ _ _ _ _ (by decide)]

theorem State.rf_strapped_bootState : (z.strapped x).rf VT_BOOT_STATE = z.rf VT_BOOT_STATE :=
  (State.rf_sf_other _ _ _ _ _ _ (by decide)).trans ((State.rf_sf_other _ _ _ _ _ _ (by decide)).trans
    (State.rf_sf_field _ _ _ _ _ (by decide) rfl (by decide) (by decide) (by decide)))

theorem State.rf_strapped_bootSrc : (z.strapped x).rf VT_BOOT_BOOT_SRC = x.bootSrc.val := by
  refine (State.rf_sf_other _ _ _ _ _ _ (by decide)).trans ((State.rf_sf_other _ _ _ _ _ _ (by decide)).trans
    ((State.rf_sf_same _ _ _ _ (by decide) (by decide) (by decide)).trans (Nat.mod_eq_of_lt ?_)))
  exact x.bootSrc.isLt

theorem State.rf_keepFuses {f : RF} (h1 : f.reg.addr 0 ≠ rFC_FJ.addr 0) (h2 : f.reg.addr 0 ≠ rVT_SVN.addr 0) : (z.keepFuses s).rf f 0 = z.rf f 0 := by
  unfold State.keepFuses
  rw [State.rf_sf_other _ _ _ _ _ _ h2, State.rf_sf_other _ _ _ _ _ _ h2]
  exact congrArg (fun v => bits v f.hi f.lo) (State.reg_wreg_other _ _ _ _ _ _ h1)

theorem State.rf_keepFuses_powerOns : (z.keepFuses s).rf FC_FJ_POWER_ON = s.rf FC_FJ_POWER_ON := by
  unfold State.keepFuses
  rw [State.rf_sf_other _ _ _ _ _ _ (by decide), State.rf_sf_other _ _ _ _ _ _ (by decide)]
  refine congrArg (fun v => bits v 63 48) ((State.reg_wreg_same _ _ _ _ (by decide)).trans (Nat.mod_eq_of_lt (s.reg_lt 0 (by decide))))

theorem State.rf_keepStanding {f : RF} (h1 : f.reg.addr 0 ≠ rFC_STAT.addr 0) (h2 : f.reg.addr 0 ≠ rVT_STAT.addr 0) (h3 : f.reg.addr 0 ≠ rVT_DEBUG.addr 0) :
    (z.keepStanding s).rf f 0 = z.rf f 0 := by
  unfold State.keepStanding
  rw [State.rf_sf_other _ _ _ _ _ _ h3, State.rf_sf_other _ _ _ _ _ _ h3, State.rf_sf_other _ _ _ _ _ _ h3, State.rf_sf_other _ _ _ _ _ _ h2,
    State.rf_sf_other _ _ _ _ _ _ h1]

theorem State.rf_keepStanding_sable : (z.keepStanding s).rf FC_STAT_SABLE = s.rf FC_STAT_SABLE := by
  unfold State.keepStanding
  rw [State.rf_sf_other _ _ _ _ _ _ (by decide), State.rf_sf_other _ _ _ _ _ _ (by decide), State.rf_sf_other _ _ _ _ _ _ (by decide),
    State.rf_sf_other _ _ _ _ _ _ (by decide), State.rf_sf_same _ _ _ _ (by decide) (by decide) (by decide)]
  exact Nat.mod_eq_of_lt (bits_lt ..)

theorem State.rf_keepStanding_tainted : (z.keepStanding s).rf VT_STAT_TAINTED = s.rf VT_STAT_TAINTED := by
  unfold State.keepStanding
  rw [State.rf_sf_other _ _ _ _ _ _ (by decide), State.rf_sf_other _ _ _ _ _ _ (by decide), State.rf_sf_other _ _ _ _ _ _ (by decide),
    State.rf_sf_same _ _ _ _ (by decide) (by decide) (by decide)]
  exact Nat.mod_eq_of_lt (bits_lt ..)

theorem State.rf_countPowerOn : (z.countPowerOn s).rf FC_FJ_POWER_ON = (s.rf FC_FJ_POWER_ON + 1) % 65536 :=
  (State.rf_sf_same _ _ _ _ (by decide) (by decide) (by decide)).trans (Nat.mod_mod _ _)

theorem State.rf_rebootBase (f : RF) : (s.rebootBase on x).rf f 0 = State.reset.rf f 0 := State.rf_of_regs rfl f 0

/-- A reboot's last steps leave the fields of the Vault's state, the collector and the fault journal as they were. -/
theorem State.rf_rebootEnd {f : RF} (h : f.reg = rVT_STAT ∨ f.reg = rVT_BOOT ∨ f.reg = rFC_STAT ∨ f.reg = rFC_FJ) {y : State} :
    (y.replayDue s on x).rf f 0 = y.rf f 0 ∧ (z.keepAges s on).rf f 0 = z.rf f 0 := by
  refine ⟨State.rf_replayDue ?_ ?_ ?_ ?_, State.rf_keepAges ?_⟩ <;> rcases h with h | h | h | h <;> rw [h] <;> decide

end

/-! ### Power-on and module reset, field by field -/

section
variable {s : State} {x : Straps}

theorem State.powerOn_powerOns : (s.rebooted true x).rf FC_FJ_POWER_ON = (s.rf FC_FJ_POWER_ON + 1) % 65536 := by
  have h {z y : State} := State.rf_rebootEnd (f := FC_FJ_POWER_ON) (z := z) (y := y) (s := s) (x := x) (on := true) (by simp [FC_FJ_POWER_ON])
  rw [State.rebooted_powerOn, (h (z := s)).1, State.rf_strapped (by decide) (by decide) (by decide), (h (y := s)).2, State.rf_countPowerOn]

theorem State.powerOn_sable : (s.rebooted true x).rf FC_STAT_SABLE = 0 := by
  have h {z y : State} := State.rf_rebootEnd (f := FC_STAT_SABLE) (z := z) (y := y) (s := s) (x := x) (on := true) (by simp [FC_STAT_SABLE])
  rw [State.rebooted_powerOn, (h (z := s)).1, State.rf_strapped_sable, (h (y := s)).2, State.countPowerOn, State.rf_sf_other _ _ _ _ _ _ (by decide),
    State.rf_keepFuses (by decide) (by decide), State.rf_rebootBase]
  decide

theorem State.powerOn_bootState : (s.rebooted true x).rf VT_BOOT_STATE = 0 := by
  have h {z y : State} := State.rf_rebootEnd (f := VT_BOOT_STATE) (z := z) (y := y) (s := s) (x := x) (on := true) (by simp [VT_BOOT_STATE])
  rw [State.rebooted_powerOn, (h (z := s)).1, State.rf_strapped_bootState, (h (y := s)).2, State.countPowerOn, State.rf_sf_other _ _ _ _ _ _ (by decide),
    State.rf_keepFuses (by decide) (by decide), State.rf_rebootBase]
  decide

theorem State.powerOn_bootSrc : (s.rebooted true x).rf VT_BOOT_BOOT_SRC = x.bootSrc.val := by
  have h {z y : State} := State.rf_rebootEnd (f := VT_BOOT_BOOT_SRC) (z := z) (y := y) (s := s) (x := x) (on := true) (by simp [VT_BOOT_BOOT_SRC])
  rw [State.rebooted_powerOn, (h (z := s)).1, State.rf_strapped_bootSrc]

theorem State.moduleReset_sable : (s.rebooted false x).rf FC_STAT_SABLE = s.rf FC_STAT_SABLE := by
  have h {z y : State} := State.rf_rebootEnd (f := FC_STAT_SABLE) (z := z) (y := y) (s := s) (x := x) (on := false) (by simp [FC_STAT_SABLE])
  rw [State.rebooted_reset, (h (z := s)).1, State.rf_strapped_sable, (h (y := s)).2, State.rf_keepStanding_sable]

theorem State.moduleReset_powerOns : (s.rebooted false x).rf FC_FJ_POWER_ON = s.rf FC_FJ_POWER_ON := by
  have h {z y : State} := State.rf_rebootEnd (f := FC_FJ_POWER_ON) (z := z) (y := y) (s := s) (x := x) (on := false) (by simp [FC_FJ_POWER_ON])
  rw [State.rebooted_reset, (h (z := s)).1, State.rf_strapped (by decide) (by decide) (by decide), (h (y := s)).2,
    State.rf_keepStanding (by decide) (by decide) (by decide), State.rf_keepFuses_powerOns]

theorem State.moduleReset_tainted : (s.rebooted false x).rf VT_STAT_TAINTED = s.rf VT_STAT_TAINTED := by
  have h {z y : State} := State.rf_rebootEnd (f := VT_STAT_TAINTED) (z := z) (y := y) (s := s) (x := x) (on := false) (by simp [VT_STAT_TAINTED])
  rw [State.rebooted_reset, (h (z := s)).1, State.rf_strapped (by decide) (by decide) (by decide), (h (y := s)).2, State.rf_keepStanding_tainted]

theorem State.moduleReset_bootState : (s.rebooted false x).rf VT_BOOT_STATE = 0 := by
  have h {z y : State} := State.rf_rebootEnd (f := VT_BOOT_STATE) (z := z) (y := y) (s := s) (x := x) (on := false) (by simp [VT_BOOT_STATE])
  rw [State.rebooted_reset, (h (z := s)).1, State.rf_strapped_bootState, (h (y := s)).2, State.rf_keepStanding (by decide) (by decide) (by decide),
    State.rf_keepFuses (by decide) (by decide), State.rf_rebootBase]
  decide

theorem Map.find_map {β : Type} (f : Nat → β → β) (m : Map β) (k : Nat) :
    Map.find (m.map (fun (e : Nat × β) => (e.1, f e.1 e.2))) k = (Map.find m k).map (f k) := by
  induction m with
  | nil => rfl
  | cons e m ih =>
    simp only [List.map_cons, Map.find]
    by_cases h : e.1 = k
    · simp [h]
    · simpa [h] using ih

/-- A module reset keeps a retired unit retired, but for Sheepdog's. -/
theorem State.moduleReset_retired {o : Nat} {n : UnitSt} (ho : o ≠ org 0x13 0) (hn : Map.find s.fc.units o = some n) (h3 : n.st = 3) :
    ((s.rebooted false x).unit o).st = 3 := by
  have hfc : (s.rebooted false x).fc = (s.rebootBase false x).fc := State.rebooted_only.fc
  have hunits : (s.rebootBase false x).fc.units = s.fc.units.map (fun (u : Nat × UnitSt) => (u.1, u.2.rebooted s.now u.1)) := rfl
  unfold State.unit Map.getD
  rw [hfc, hunits, Map.find_map (UnitSt.rebooted s.now), hn]
  exact if_pos ⟨h3, ho⟩

/-! ### Loss of power, warm resets and warnings (R790-R795) -/

theorem State.powerLoss_torn (h : s.ch.ring.length < ringSize) :
    (s.powerLoss true).powered = false ∧ (s.powerLoss true).ch.ring = s.ch.ring ++ [⟨s.ch.jsn, 0, 0, none, false⟩] := by
  unfold State.powerLoss
  rw [decide_eq_true h]
  exact ⟨rfl, rfl⟩

theorem State.warmReset_stays (h1 : s.rf VT_BOOT_STATE ≠ 1) (h3 : s.rf VT_BOOT_STATE ≠ 3) : s.warmReset = s := if_pos ⟨h1, h3⟩

/-- s with the Operator Host's ring at its reset values. -/
def State.hostRingReset (s : State) : State :=
  ((s.wreg rCH_HOST_CQ_CFG 0 (rCH_HOST_CQ_CFG.resetVal 0)).wreg rCH_HOST_CQ_TAIL 0 0).wreg rCH_HOST_CQ_HEAD 0 0

theorem State.warmReset_ready {y z : State} (h : s.rf VT_BOOT_STATE = 1)
    (hy : (s.report { org := org 0x10 0, cause := 0x1004, cls := slate }).dropHostCmds.hostRingReset = y)
    (hz : ((y.sf CH_STAT_JOURNAL 1).sf CH_REPLAY_TRIGGER 2).replay [] = z) (hs : y.isSable = false) (h2 : z.rf MP_STAT_STATE ≠ 2) :
    s.warmReset = (((z.sf MP_STAT_STATE 1).raise 0x3C0).restartCmds.sf MP_STAT_STATE 0).raise 0x3C0 := by
  unfold State.hostRingReset at hy
  unfold State.warmReset
  dsimp only
  rw [if_neg (by simp [h]), hy, if_neg (ne_true_of_eq_false hs), hz, if_neg h2]

theorem State.pwrFailPin_same {b : Bool} (h : s.vt.pwrFail = b) : s.pwrFailPin b = s := if_pos h

theorem State.pwrFailPin_high (h : s.vt.pwrFail = true) : s.pwrFailPin false = { s with vt := { s.vt with pwrFail := false } } := by
  unfold State.pwrFailPin
  dsimp only
  rw [if_neg (by simp [h]), if_neg Bool.false_ne_true]

theorem State.pwrFailPin_low {y : State} (h : s.vt.pwrFail = false) (hy : { s with vt := { s.vt with pwrFail := true } } = y) :
    s.pwrFailPin true = ((y.report { org := org 0x18 164, cause := 0x0008, cls := slate }).raise 0x3C6).askTakeover := by
  unfold State.pwrFailPin
  dsimp only
  rw [if_neg (by simp [h]), if_pos rfl, hy]

end

section
variable {s u : State} (hp : s.powered = true)
include hp

theorem does_powerLoss {torn : Bool} (h : s.powerLoss torn = u) : Does (.powerLoss torn) s u := does_of_run_eq (f := fun s => s.powerLoss torn) hp rfl h
theorem does_pwrFailN {b : Bool} (h : s.pwrFailPin b = u) : Does (.pwrFailN b) s u := does_of_run_eq (f := fun s => s.pwrFailPin b) hp rfl h
theorem does_supplyFault {r : Fin 11} (h : s.supplyFault r.val = u) : Does (.supplyFault r) s u := does_of_run_eq (f := fun s => s.supplyFault r.val) hp rfl h
theorem does_warmDeviceReset (h : s.warmReset = u) : Does .warmDeviceReset s u.chSync := does_of_runCh_eq (f := fun s => s.warmReset) hp rfl h
theorem does_moduleReset {x : Straps} (h : s.rebooted false x = u) : Does (.moduleReset x) s u := does_of_run_eq (f := fun s => s.rebooted false x) hp rfl h

end

/-- Settles O53: outside its registers a rebooted module is the base of its reboot, and each register that the statement names is followed through the reboot's steps. -/
theorem resetsKeepAndDiscardState : Obligations.ResetsKeepAndDiscardState := by
  intro s
  have hbase (on : Bool) (x : Straps) : OnlyRegs (s.rebootBase on x) (s.rebooted on x) := State.rebooted_only
  refine ⟨fun x => ⟨s.rebooted true x, exec_powerOn x s, congrArg (·.ring) (hbase true x).ch, congrArg (·.jsn) (hbase true x).ch, congrArg (·.fj) (hbase true x).fc,
      congrArg (·.slotA) (hbase true x).vt, congrArg (·.slotB) (hbase true x).vt, congrArg (·.units) (hbase true x).fc, congrArg (·.log) (hbase true x).fc,
      (hbase true x).tn, (hbase true x).leases, (hbase true x).ma, congrArg (·.strap) (hbase true x).tw, (hbase true x).powered, State.powerOn_powerOns,
      State.powerOn_sable, State.powerOn_bootState, State.powerOn_bootSrc⟩,
    fun x hp => ⟨_, does_moduleReset hp rfl, congrArg (·.ring) (hbase false x).ch, congrArg (·.jsn) (hbase false x).ch, congrArg (·.fj) (hbase false x).fc,
      congrArg (·.slotA) (hbase false x).vt, congrArg (·.slotB) (hbase false x).vt, congrArg (·.log) (hbase false x).fc, (hbase false x).tn, (hbase false x).leases,
      (hbase false x).ma, congrArg (·.strap) (hbase false x).tw, State.moduleReset_sable, State.moduleReset_powerOns, State.moduleReset_tainted,
      State.moduleReset_bootState, fun o n ho hn h3 => State.moduleReset_retired ho hn h3⟩,
    fun hp => ⟨_, does_powerLoss hp rfl, rfl, rfl, rfl, rfl⟩,
    fun hp h => ⟨_, does_powerLoss hp rfl, State.powerLoss_torn h⟩,
    fun hp h1 h3 => does_warmDeviceReset hp (State.warmReset_stays h1 h3), fun hp h => ?_, fun hp => ⟨fun b h => does_pwrFailN hp (State.pwrFailPin_same h),
      fun h => does_pwrFailN hp (State.pwrFailPin_high h), fun h => ?_⟩, fun r hp => ?_⟩
  · intro x y z hs h2
    exact does_warmDeviceReset hp (State.warmReset_ready h rfl rfl hs h2)
  · intro y
    exact does_pwrFailN hp (State.pwrFailPin_low h rfl)
  · intro y
    exact ⟨fun h => does_supplyFault hp (if_neg (Nat.not_lt.2 h)), fun h => does_supplyFault hp (if_pos h)⟩

end Sys2Proof.Machine
end

section
/-! PROOFS. The ports under frames, links, ranges and inbound requests (19 R805-R822, 06 R254). -/

namespace Sys2Proof.Machine

section
variable {s : State}

/-! ### Ethernet frames (R811) -/

/-- A frame that is no address exchange goes to the channel of the datagram `u` that it carries. -/
def State.ntDeliver (s : State) (e : Nat) (t : Option (Nat × Nat)) (u : Option (Bool × List Nat × List Nat × Nat × Nat × List Nat)) : State :=
  match u with
  | none => s.ntDiscard e
  | some (v6, sa, da, sp, dp, data) =>
    match (s.netChans e).find? (fun c =>
      let d := s.cdef c
      tagFits d t && dfld d 4 2 2 == b2n v6 && chanAddr d 0x10 == da && chanAddr d 0x20 == sa && dfld d 8 15 0 == dp && dfld d 8 31 16 == sp) with
    | none => s.ntDiscard e
    | some c => { s with ch := { s.ch with inbox := s.ch.inbox ++ [⟨c, data⟩] } }

theorem State.ntDeliver_channel {x : State} {e : Nat} {t : Option (Nat × Nat)} {u : Option (Bool × List Nat × List Nat × Nat × Nat × List Nat)} {v6 : Bool}
    {sa da data : List Nat} {sp dp ch : Nat} (hu : u = some (v6, sa, da, sp, dp, data))
    (hc : (x.netChans e).find? (fun c =>
      let d := x.cdef c
      tagFits d t && dfld d 4 2 2 == b2n v6 && chanAddr d 0x10 == da && chanAddr d 0x20 == sa && dfld d 8 15 0 == dp && dfld d 8 31 16 == sp) = some ch) :
    x.ntDeliver e t u = { x with ch := { x.ch with inbox := x.ch.inbox ++ [⟨ch, data⟩] } } := by
  subst hu
  unfold State.ntDeliver
  dsimp only
  rw [hc]

section
variable {e : Nat} {b : List Nat}

theorem State.ethReceive_closed {ok : Bool} (h : s.rb NT_CFG_EN e = false ∨ s.rb NT_STAT_LINK e = false) : s.ethReceive e b ok = s :=
  if_pos (by rcases h with h | h <;> simp [h])

section
variable (he : s.rb NT_CFG_EN e = true) (hl : s.rb NT_STAT_LINK e = true)
include he hl

theorem ntPort_open : ¬ (!s.rb NT_CFG_EN e || !s.rb NT_STAT_LINK e) = true := by simp [he, hl]

theorem State.ethReceive_brokenCheck {ok : Bool} (hok : ok = false) :
    s.ethReceive e b ok = ((s.bump rNT_FCS_ERR e).report { org := org 0xE e, cause := 0x0E02, cls := slate }).raiseMs (ntSrc e 2) :=
  (if_neg (ntPort_open he hl)).trans (if_pos (by simp [hok]))

section
variable {ok : Bool} (hok : ok = true) {x : State} (hx : (s.bump rNT_RX_CNT e).bwBytes (0x24 + e) b.length = x)
include hok hx

theorem State.ethReceive_length (h : 9022 < b.length ∨ b.length < 14) : s.ethReceive e b ok = x.ntDiscard e := by
  subst hx
  exact (if_neg (ntPort_open he hl)).trans ((if_neg (by simp [hok])).trans (if_pos h))

section
variable (h14 : 14 ≤ b.length) (h9022 : b.length ≤ 9022)
include h14 h9022

theorem State.ethReceive_ptp (h : isPtp (parseEth b) = true) : s.ethReceive e b ok = x := by
  subst hx
  exact (if_neg (ntPort_open he hl)).trans ((if_neg (by simp [hok])).trans ((if_neg (by omega)).trans (if_pos h)))

theorem State.ethReceive_datagram {f : EthFrame} {v6 : Bool} {sa da data : List Nat} {sp dp ch : Nat} (hf : parseEth b = f) (hp : isPtp f = false)
    (ht : f.tag = none) (ha : parseArp f = none) (hu : parseUdp f = some (v6, sa, da, sp, dp, data))
    (hc : (x.netChans e).find? (fun c =>
      let d := x.cdef c
      tagFits d none && dfld d 4 2 2 == b2n v6 && chanAddr d 0x10 == da && chanAddr d 0x20 == sa && dfld d 8 15 0 == dp && dfld d 8 31 16 == sp) = some ch) :
    s.ethReceive e b ok = { x with ch := { x.ch with inbox := x.ch.inbox ++ [⟨ch, data⟩] } } := by
  refine (if_neg (ntPort_open he hl)).trans ((if_neg (by simp [hok])).trans ?_)
  extract_lets +onlyGivenNames y g cs
  have hy : y = x := hx
  have hg : g = f := hf
  have hcs : cs = x.netChans e := by
    unfold cs
    rw [hy]
  clear_value cs g y
  subst hy hg hcs
  rw [if_neg (by omega), if_neg (ne_true_of_eq_false hp), if_neg (by simp [ht]), ht]
  split
  case h_1 h => exact absurd (ha.symm.trans h) (by simp)
  case h_2 => exact State.ntDeliver_channel hu hc

end
end
end
end

/-! ### Addresses, links and gates (R812-R814) -/

section
variable {c : Nat}

section
variable {d : Nat} (hk : s.chanKind c = 2) (ho : s.rf CH_CHAN_STATE c = 1) (hd : Map.find s.ch.defs c = some d)
include hk ho hd

theorem arpChannel_open : ¬ (s.chanKind c ≠ 2 ∨ s.rf CH_CHAN_STATE c ≠ 1 ∨ (Map.find s.ch.defs c).isNone = true) := by simp [hk, ho, hd]

theorem State.arpRefresh_asks (hn : (Map.getD s.ch.peers c (0, 0, 0)).2.2 < 3) : s.arpRefresh c = s.arpAsk c :=
  (if_neg (arpChannel_open hk ho hd)).trans (if_neg (by omega))

theorem State.arpRefresh_unresolved (hn : 3 ≤ (Map.getD s.ch.peers c (0, 0, 0)).2.2) :
    s.arpRefresh c = (({ s with ch := { s.ch with peers := Map.put s.ch.peers c ((Map.getD s.ch.peers c (0, 0, 0)).1, 0, 0) } } : State).report
      { org := org 0xE (dfld (s.cdef c) 4 1 0), cause := 0x0E03, cls := slate }).raise (ntSrc (dfld (s.cdef c) 4 1 0) 3) :=
  (if_neg (arpChannel_open hk ho hd)).trans (if_pos hn)

end
end

theorem State.ntLink_up {e m : Nat} {fec : Bool} (he : s.rb NT_CFG_EN e = true) (hl : s.rb NT_STAT_LINK e = false) :
    s.ntLink e (some (m, fec)) = (((s.sf NT_STAT_LINK 1 e).sf NT_STAT_MODE m e).sb NT_STAT_FEC fec e).raise (ntSrc e 0) := if_pos (by simp [he, hl])

theorem State.ntLink_down {e : Nat} (hl : s.rb NT_STAT_LINK e = true) :
    s.ntLink e none = ((((s.sf NT_STAT_LINK 0 e).sf NT_STAT_MODE 0 e).sf NT_STAT_FEC 0 e).report { org := org 0xE e, cause := 0x0E01, cls := slate }).raise
      (ntSrc e 0) := if_pos hl

theorem State.gclChange_pending {e : Nat} (h : s.rb NT_GCL_CFG_PENDING e = true) :
    s.gclChange e = ((s.sf NT_GCL_CFG_ACTIVE (1 - s.rf NT_GCL_CFG_ACTIVE e) e).sf NT_GCL_CFG_PENDING 0 e).raise (ntSrc e 1) := if_pos h

theorem State.gclChange_none {e : Nat} (h : s.rb NT_GCL_CFG_PENDING e = false) : s.gclChange e = s := if_neg (ne_true_of_eq_false h)

/-! ### PCIe links and their ranges (R807, R822) -/

section
variable {l : Nat}

theorem State.pxEvent_absent {ev : PxEvent} (h : s.rf PX_LINK_STAT_STATE l = 0) : s.pxEvent l ev = s := if_pos h

section
variable (h : s.rf PX_LINK_STAT_STATE l ≠ 0)
include h

theorem State.pxEvent_down (he : s.rb PX_LINK_CFG_EN l = true) : s.pxEvent l .down = s.pxDown l 2 := by
  refine (if_neg h).trans ?_
  rw [if_pos he]

theorem State.pxEvent_training (he : s.rb PX_LINK_CFG_EN l = true) (h4 : s.rf PX_LINK_STAT_STATE l ≠ 4) : s.pxEvent l .training = s.pxState l 3 :=
  (if_neg h).trans (if_pos (by simp [he, h4]))

theorem State.pxEvent_correctable : s.pxEvent l .correctable = s.pxReport (l / 4) (some l) 0x0F02 0 := if_neg h

end

theorem State.rangeWrite_enabled {a : Agent} {limit : Bool} {v : Nat} (h : s.rb PX_LINK_CFG_EN l = true) : s.rangeWrite a l limit v = s := if_pos (.inl h)

section
variable {a : Agent} {v : Nat} (he : s.rb PX_LINK_CFG_EN l = false) (h : s.rf PX_LINK_STAT_STATE l ≠ 0)
include he h

theorem State.rangeWrite_base_above (hu : s.rf PX_LINK_LIMIT_ADDR l < bits v 44 20) :
    s.rangeWrite a l false v = s.regAccess (agentOrg a) (rPX_LINK_BASE.addr l) 8 true := by
  unfold State.rangeWrite
  dsimp only
  rw [if_neg (by simp [he, h])]
  exact if_pos (.inl hu)

theorem State.rangeWrite_base (hu : bits v 44 20 ≤ s.rf PX_LINK_LIMIT_ADDR l) (ht : s.rf PX_LINK_LIMIT_ADDR l < 0x1FFFF00)
    (ho : ∀ k, k < 4 → l / 4 * 4 + k ≠ l → s.rf PX_LINK_STAT_STATE (l / 4 * 4 + k) = 0) :
    s.rangeWrite a l false v = s.sf PX_LINK_BASE_ADDR (bits v 44 20) l := by
  have hclash : (List.range 4).any (fun k => l / 4 * 4 + k != l && s.rf PX_LINK_STAT_STATE (l / 4 * 4 + k) != 0 &&
      decide (s.rf PX_LINK_BASE_ADDR (l / 4 * 4 + k) ≤ s.rf PX_LINK_LIMIT_ADDR l) &&
      decide (bits v 44 20 ≤ s.rf PX_LINK_LIMIT_ADDR (l / 4 * 4 + k))) = false := by
    refine List.any_eq_false.2 fun k hk => ?_
    by_cases hkl : l / 4 * 4 + k = l
    · simp [hkl]
    · simp [ho k (List.mem_range.1 hk) hkl]
  unfold State.rangeWrite
  dsimp only
  rw [if_neg (by simp [he, h])]
  refine (if_neg ?_).trans rfl
  rintro (hlt | hge | hc)
  · exact absurd hu (Nat.not_le.2 hlt)
  · exact absurd ht (Nat.not_lt.2 hge)
  · exact absurd hc (ne_true_of_eq_false hclash)

end
end

/-! ### Inbound requests (06 R254, R805) -/

/-- A request inside one page is one piece. -/
theorem pageSpans_inside {a n : Nat} (hn : 0 < n) (h : a % 4096 + n ≤ 4096) : pageSpans a n = [(a, n)] := by
  have hpieces : (if n = 0 then 0 else (a + n - 1) / 4096 + 1 - a / 4096) = 1 := by
    rw [if_neg (by omega)]
    omega
  have hlo : max a ((a / 4096 + 0) * 4096) = a := by omega
  have hhi : min (a + n) ((a / 4096 + 0 + 1) * 4096) - a = n := by omega
  unfold pageSpans
  rw [hpieces]
  show [(max a ((a / 4096 + 0) * 4096), min (a + n) ((a / 4096 + 0 + 1) * 4096) - max a ((a / 4096 + 0) * 4096))] = [(a, n)]
  rw [hlo, hhi]

section
variable {l rid addr : Nat} {ide sp : Bool} {n : Nat} {far : FarEnd} {x : State}

theorem State.pxInbound_read_untied (hx : s.bwBytes (0x10 + l / 4) n = x) (h4 : x.rf PX_LINK_STAT_STATE l = 4) (hs : x.stream (l / 4) rid = none) :
    s.pxInbound l rid addr ide sp none n far = x.emit (.pcieCpl (l / 4) 1 false []) := by
  unfold State.pxInbound
  dsimp only
  rw [hx, if_neg (not_not.2 h4), hs]
  rfl

section
variable {b : List Nat} (hx : s.bwBytes (0x10 + l / 4) b.length = x) (h4 : x.rf PX_LINK_STAT_STATE l = 4)
include hx h4

theorem State.pxInbound_write_untied (hs : x.stream (l / 4) rid = none) : s.pxInbound l rid addr ide sp (some b) n far = x := by
  unfold State.pxInbound
  dsimp only
  rw [hx, if_neg (not_not.2 h4), hs]
  rfl

theorem State.pxInbound_write_lands {k pa : Nat} {pr : Bool} {y : State} (hb : 0 < b.length) (hpage : addr % 4096 + b.length ≤ 4096)
    (hs : x.stream (l / 4) rid = some k) (hsp : sp = false) (hend : addr + b.length ≤ 2 ^ 46) (hide : x.rb PX_STREAM_IDE k = false) (hsab : x.isSable = false)
    (hy : x.ioXlat (64 + l / 4) (org 0xF (l / 4)) (x.rf PX_STREAM_INSTANCE k) (x.gen (x.rf PX_STREAM_INSTANCE k)) addr true = (y, .ok pa pr)) :
    s.pxInbound l rid addr ide sp (some b) n far = y.pxWriteAt pa pr b := by
  have hin : ¬ 2 ^ 46 ≤ addr + b.length - 1 := by omega
  have hguard : ¬ (sp || decide (2 ^ 46 ≤ addr + b.length - 1) || (x.rb PX_STREAM_IDE k && !ide) || x.isSable) = true := by
    rw [hsp, decide_eq_false hin, hide, hsab]
    exact Bool.false_ne_true
  unfold State.pxInbound
  dsimp only
  rw [hx, if_neg (not_not.2 h4), hs]
  dsimp only
  rw [if_neg hguard, pageSpans_inside hb hpage, List.foldl_cons, List.foldl_nil]
  simp only [ne_eq, not_true_eq_false, if_false, if_true, Option.isSome_some, hy, Nat.sub_self, List.drop_zero, List.take_length]

end
end
end

theorem State.configWrite_idle {s : State} {bm en mask : Bool} (h : s.mp.msixPend = []) :
    s.configWrite bm en mask = { s with mp := { s.mp with busMaster := bm, msixEn := en, msixMask := mask } } := by
  unfold State.configWrite State.msixFlush
  dsimp only
  rw [h]
  rfl

section
variable {s u : State} (hp : s.powered = true)
include hp

theorem does_arpRefresh {c : BitVec 10} (h : s.arpRefresh c.toNat = u) : Does (.arpRefresh c) s u := does_of_run_eq (f := fun s => s.arpRefresh c.toNat) hp rfl h
theorem does_mpPerstN (h : s.mpPerst = u) : Does .mpPerstN s u := does_of_run_eq (f := State.mpPerst) hp rfl h

theorem does_registerWrite_config {bm en mask : Bool} (h : s.configWrite bm en mask = u) : Does (.registerWrite (.config bm en mask)) s u :=
  does_of_run_eq (f := fun s => s.targetWrite (.config bm en mask)) hp rfl h

section
variable {p : Fin 4}

theorem does_ethernetFrameReceive {b : List Byte} {ok : Bool} (h : s.ethReceive p.val (byteNats b) ok = u) : Does (.ethernetFrameReceive p b ok) s u.chSync :=
  does_of_runCh_eq (f := fun s => s.ethReceive p.val (byteNats b) ok) hp rfl h

theorem does_ethernetLinkChange_up {m : Fin 6} {fec : Bool} (h : s.ntLink p.val (some (m.val, fec)) = u) : Does (.ethernetLinkChange p (some (m, fec))) s u.chSync :=
  does_of_runCh_eq (f := fun s => s.ntLink p.val (some (m.val, fec))) hp rfl h

theorem does_ethernetLinkChange_down (h : s.ntLink p.val none = u) : Does (.ethernetLinkChange p none) s u.chSync :=
  does_of_runCh_eq (f := fun s => s.ntLink p.val none) hp rfl h

theorem does_switch (h : s.gclSwitch p.val = u) : Does (.switch p) s u := does_of_run_eq (f := fun s => s.gclSwitch p.val) hp rfl h
theorem does_gateBankChange (h : s.gclChange p.val = u) : Does (.gateBankChange p) s u := does_of_run_eq (f := fun s => s.gclChange p.val) hp rfl h

end

section
variable {l : Fin 16}

theorem does_pcieLinkChange {ev : PxEvent} (h : s.pxEvent l.val ev = u) : Does (.pcieLinkChange l ev) s u.chSync :=
  does_of_runCh_eq (f := fun s => s.pxEvent l.val ev) hp rfl h

theorem does_linkRangeWrite {a : Agent} {limit : Bool} {v : Word} (h : s.rangeWrite a l.val limit v.toNat = u) : Does (.linkRangeWrite a l limit v) s u :=
  does_of_run_eq (f := fun s => s.rangeWrite a l.val limit v.toNat) hp rfl h

section
variable {rid : BitVec 16} {addr : Word} {ide sp : Bool} {n : Fin 4097} {far : FarEnd}

theorem does_pcieInbound_read (h : s.pxInbound l.val rid.toNat addr.toNat ide sp none n.val far = u) :
    Does (.pcieInboundRequest l rid addr ide sp none n far) s u :=
  does_of_run_eq (f := fun s => s.pxInbound l.val rid.toNat addr.toNat ide sp none n.val far) hp rfl h

theorem does_pcieInbound_write {b : List Byte} (h : s.pxInbound l.val rid.toNat addr.toNat ide sp (some (byteNats b)) n.val far = u) :
    Does (.pcieInboundRequest l rid addr ide sp (some b) n far) s u :=
  does_of_run_eq (f := fun s => s.pxInbound l.val rid.toNat addr.toNat ide sp (some (byteNats b)) n.val far) hp rfl h

end
end
end

/-- Settles O57: each row in the branch that the clause names. -/
theorem portsFollowTheirLinksAndFrames : Obligations.PortsFollowTheirLinksAndFrames := by
  intro s hp
  refine ⟨fun p b ok => ⟨fun h => does_ethernetFrameReceive hp (State.ethReceive_closed h), fun he hl => ?_⟩, fun c d hk ho hd => ?_, fun p => ?_,
    does_mpPerstN hp rfl, fun addr bs => rfl, fun bm en mask h => does_registerWrite_config hp (State.configWrite_idle h), fun l => ?_, fun a l v he h => ?_,
    fun a l v b he => does_linkRangeWrite hp (State.rangeWrite_enabled he), fun l rid addr ide sp far => ?_⟩
  · intro x
    have hx : (s.bump rNT_RX_CNT p.val).bwBytes (0x24 + p.val) (byteNats b).length = x := by rw [byteNats_length]
    refine ⟨?_, fun h => does_ethernetFrameReceive hp (State.ethReceive_length he hl rfl hx ?_),
      fun h14 h9022 h => does_ethernetFrameReceive hp (State.ethReceive_ptp he hl rfl hx (by rwa [byteNats_length]) (by rwa [byteNats_length]) h),
      fun v6 sa da sp dp data ch h14 h9022 hptp ht ha hu hc =>
        does_ethernetFrameReceive hp (State.ethReceive_datagram he hl rfl hx (by rwa [byteNats_length]) (by rwa [byteNats_length]) rfl hptp ht ha hu hc)⟩
    · rw [show 0x322 + 4 * p.val = ntSrc p.val 2 by unfold ntSrc; omega]
      exact does_ethernetFrameReceive hp (State.ethReceive_brokenCheck he hl rfl)
    · rw [byteNats_length]
      exact h.symm
  · intro p
    exact ⟨fun hn => does_arpRefresh hp (State.arpRefresh_asks hk ho hd hn), fun hn => does_arpRefresh hp (State.arpRefresh_unresolved hk ho hd hn)⟩
  · exact ⟨fun m fec he hl => does_ethernetLinkChange_up hp (State.ntLink_up he hl), fun hl => does_ethernetLinkChange_down hp (State.ntLink_down hl),
      does_switch hp rfl, fun h => does_gateBankChange hp (State.gclChange_pending h), fun h => does_gateBankChange hp (State.gclChange_none h)⟩
  · exact ⟨fun h ev => does_pcieLinkChange hp (State.pxEvent_absent h), fun h he => ⟨does_pcieLinkChange hp (State.pxEvent_down h he),
      fun h4 => does_pcieLinkChange hp (State.pxEvent_training h he h4), does_pcieLinkChange hp (State.pxEvent_correctable h)⟩⟩
  · intro u
    exact ⟨fun hu => does_linkRangeWrite hp (State.rangeWrite_base_above he h hu),
      fun hu ht ho => does_linkRangeWrite hp (State.rangeWrite_base he h hu ht ho)⟩
  · intro x
    have hx (b : List Byte) : s.bwBytes (0x10 + l.val / 4) (byteNats b).length = x b.length := by rw [byteNats_length]
    refine ⟨fun n h4 hs => does_pcieInbound_read hp (State.pxInbound_read_untied rfl h4 hs),
      fun b n h4 hs => does_pcieInbound_write hp (State.pxInbound_write_untied (hx b) h4 hs), fun b n k pa pr y hb hpage h4 hs hsp hend hide hsab => ?_⟩
    intro i hy
    exact does_pcieInbound_write hp (State.pxInbound_write_lands (hx b) h4 (by rwa [byteNats_length]) (by rwa [byteNats_length]) hs hsp
      (by rwa [byteNats_length]) hide hsab hy)

end Sys2Proof.Machine
end

section
/-! PROOFS. The idle module: one ns of device time passes (18 R754). -/

namespace Sys2Proof.Machine

section
variable {s : State} {t : Nat} {frac slew : Int} {n : Nat}

/-- The module at device time t, with what its oscillator gathers and the correction that is left. -/
def State.passed (s : State) (t : Nat) (frac slew : Int) : State := ({ s with pw := { s.pw with frac := frac, slew := slew } } : State).setNow t

/-- The mesh cycles are n unless the counters are frozen. -/
def State.cycled (s : State) (n : Nat) : State := if s.rb PM_CTL_FROZEN then s else s.wreg rPM_CYCLE 0 n

/-- The fraction of a ns that the oscillator has gathered one ns later, before a whole one is taken. -/
def State.drift (s : State) : Int :=
  let lim : Int := (s.rf TM_CFG_SLEW_PPM : Int) * 256000
  let dir : Int := if s.pw.slew = 0 then 0 else if 0 < s.pw.slew then lim else -lim
  s.pw.frac + max (sextInt 32 (s.rf TM_RATE_RATE) + dir) (-256000000)

/-- The whole ns that is taken from what is gathered. -/
def State.driftStep (s : State) : Int := if 256000000000 ≤ s.drift then 1 else if s.drift ≤ -256000000000 then -1 else 0

/-- One ns of the oscillator: device time goes on, and then the cycle counter. -/
theorem State.tick_passes : ∃ (slew : Int) (n : Nat),
    s.tick = (s.passed (((s.now : Int) + 1 + s.driftStep).toNat % 2 ^ 64) (s.drift - s.driftStep * 256000000000) slew).cycled n ∧
      (s.pw.slew = 0 → slew = 0) := by
  refine ⟨_, _, rfl, fun h => ?_⟩
  rw [if_pos h, h]
  rfl

/-! ### What passes and what stays -/

theorem State.passed_cycled_rest :
    (s.passed t frac slew).cycled n = { s with regs := ((s.passed t frac slew).cycled n).regs, pw := { s.pw with frac := frac, slew := slew } } := by
  unfold State.cycled
  cases (s.passed t frac slew).rb PM_CTL_FROZEN <;> rfl

/-- A register at another address than the device time's keeps its value. -/
theorem State.reg_passed {r : Reg} (h : r.addr 0 ≠ rTM_TIME.addr 0) : (s.passed t frac slew).reg r 0 = s.reg r 0 := State.reg_wreg_other _ _ _ _ _ _ h

theorem State.now_passed_cycled : ((s.passed t frac slew).cycled n).now = t % 2 ^ 64 := by
  have hpassed : (s.passed t frac slew).now = t % 2 ^ 64 := (State.reg_wreg_same _ _ _ _ (by decide)).trans (Nat.mod_mod _ _)
  have hcycle : ((s.passed t frac slew).wreg rPM_CYCLE 0 n).now = (s.passed t frac slew).now := State.reg_wreg_other _ _ _ _ _ _ (by decide)
  unfold State.cycled
  split
  · exact hpassed
  · exact hcycle.trans hpassed

theorem State.cycled_frozen (h : s.rb PM_CTL_FROZEN = true) : s.cycled n = s := if_pos h

theorem State.frozen_passed : (s.passed t frac slew).rb PM_CTL_FROZEN = s.rb PM_CTL_FROZEN :=
  congrArg (fun v => bits v 63 63 != 0) (State.reg_passed (r := rPM_CTL) (by decide))

/-! ### The nominal rate -/

section
variable (hr : s.rf TM_RATE_RATE = 0) (hs : s.pw.slew = 0)
include hr hs

theorem State.drift_nominal : s.drift = s.pw.frac := by
  unfold State.drift
  rw [hr, hs]
  simp [sextInt]

theorem State.driftStep_nominal (hlo : -256000000000 < s.pw.frac) (hhi : s.pw.frac < 256000000000) : s.driftStep = 0 := by
  unfold State.driftStep
  rw [State.drift_nominal hr hs, if_neg (by omega), if_neg (by omega)]

end

theorem State.idle_powered (h : s.powered = true) : s.idle = s.tick := if_pos h
theorem State.idle_unpowered (h : s.powered = false) : s.idle = s := if_neg (ne_true_of_eq_false h)

theorem step_idles (h : s.pending = []) : step s = .next s.idle := by
  unfold step
  rw [h]

end

/-- Settles O2: a ns of the oscillator changes registers and what it gathers alone; at the nominal rate it gathers nothing. -/
theorem idleModuleLetsTimePass : Obligations.IdleModuleLetsTimePass := by
  intro s hq
  refine ⟨fun hp => (step_idles hq).trans (congrArg _ (State.idle_unpowered hp)), fun hp => ?_⟩
  obtain ⟨slew, n, htick, hslew⟩ := s.tick_passes
  refine ⟨s.tick, (step_idles hq).trans (congrArg _ (State.idle_powered hp)), ?_⟩
  rw [htick]
  refine ⟨?_, fun hr hs hlo hhi => ⟨?_, ?_⟩, fun hf => ?_⟩
  · rw [congrArg State.pw State.passed_cycled_rest]
    exact State.passed_cycled_rest
  · rw [State.now_passed_cycled, State.driftStep_nominal hr hs hlo hhi, Nat.mod_mod]
    rfl
  · rw [congrArg State.pw State.passed_cycled_rest, State.driftStep_nominal hr hs hlo hhi, State.drift_nominal hr hs, hslew hs, zero_mul, sub_zero, ← hs]
  · rw [State.cycled_frozen (State.frozen_passed.trans hf)]
    exact State.reg_passed (by decide)

end Sys2Proof.Machine
end
